-- ==== Sys2Proof/Word.lean ====
section
/-! DEFINITION. The word types of the BP64: bytes, 32-bit and 64-bit words, a 64-byte descriptor and a
512-bit vector register (spec/00_scope.md R7, spec/08_spindles.md R177). -/

namespace Sys2Proof

/-- One byte; every multi-byte value of the manual is little-endian (R7). -/
abbrev Byte := BitVec 8

/-- A u32 of the manual. -/
abbrev Word32 := BitVec 32

/-- A u64 of the manual; also one Ply instruction word (R216). -/
abbrev Word := BitVec 64

/-- 512 bits: a 64-byte submission descriptor (R242) or a vector register (R177). -/
abbrev Wide := BitVec 512

end Sys2Proof
end

