-- ==== Sys2Proof/Syntax.lean ====
section
/-! DEFINITION. The commands of the BP64: one constructor of Instr per row of spec/opcode_table.json, with the
operands the row takes. A ring command carries its 64-byte descriptor as software wrote it (Table 10.2 and the
body tables); a received frame carries the fields of Table 12.8; a module-protocol command carries its payload
bytes (R380); a Ply instruction carries the context that issues it and its 64-bit word (R216); an event of the
module's own carries what it happens to (a die, a port, a page) and what the module reads from outside. -/

namespace Sys2Proof

/-- A submission: where the descriptor stands and its 64 bytes (R240 to R242). -/
structure Sub where
  ring  : Nat
  index : Word32
  desc  : Wide
  deriving DecidableEq, Repr, Inhabited

/-- A host store into the device-memory window (R341, R342). -/
structure Store where
  offset : Nat
  bytes  : List Byte
  deriving DecidableEq, Repr, Inhabited

/-- The two transports of the SPDM responder (R378). -/
inductive Transport where
  | doe
  | mctp
  deriving DecidableEq, Repr, Inhabited

/-- A hardware context: compute die 0 to 39, spindle 0 to 63, context 0 to 3 (R177). -/
structure CtxId where
  die     : Nat
  spindle : Nat
  ctx     : Nat
  deriving DecidableEq, Repr, Inhabited

/-- The array queue or the move queue of a spindle (Table 10.14 QUEUE). -/
inductive QueueKind where
  | array
  | move
  deriving DecidableEq, Repr, Inhabited

/-- One queue of the module (R201). -/
structure QueueId where
  die     : Nat
  spindle : Nat
  kind    : QueueKind
  deriving DecidableEq, Repr, Inhabited

/-- An instance of a lattice: the step instance of a step, or the evaluation instance of a boundary under a
lattice handle (R259). -/
inductive InstRef where
  | step (n : Nat)
  | eval (boundary handle : Nat)
  deriving DecidableEq, Repr, Inhabited

/-- What every received frame carries beside its payload: the arrival port and the header's SOURCE, HOPS,
ROUTE_EPOCH, LENGTH, FLOW, SEQUENCE and KEY_EPOCH (Table 12.3). -/
structure Rx where
  port   : Nat
  source : Nat
  hops   : Nat
  epoch  : Bool
  length : Nat
  flow   : Word32
  seq    : Word32
  keyEpoch : Bool := false
  deriving DecidableEq, Repr, Inhabited

/-- One bag group of a pool-at-owner row request: the bag and, for each of the owner's rows in it, the position,
the U ordinal and the effective weight as binary32 bits (Table 12.8, 0x01). -/
structure BagGroup where
  bag     : Nat
  entries : List (Nat × Nat × Word32)
  deriving DecidableEq, Repr, Inhabited

/-- ROW_REQUEST payload (Table 12.8, 0x01): rows are (row number, U ordinal). `noGradient` says that no gradients will follow:
an evaluation's request, or a step's for a table it reads without training (R87, R94). -/
structure RowRequestF where
  step       : Nat
  table      : Nat
  pass       : Nat
  pool       : Bool
  last       : Bool
  noGradient : Bool
  rows       : List (Nat × Nat)
  groups     : List BagGroup
  deriving DecidableEq, Repr, Inhabited

/-- ROW_DATA payload (Table 12.8, 0x02): rows with their element and scale bytes. -/
structure RowDataF where
  step  : Nat
  table : Nat
  pass  : Nat
  last  : Bool
  rows  : List (Nat × List Byte)
  deriving DecidableEq, Repr, Inhabited

/-- One fragment of binary32 values: a bag or a row, its first element and its values (Table 12.8). -/
structure Fragment where
  item   : Nat
  first  : Nat
  values : List Word32
  deriving DecidableEq, Repr, Inhabited

/-- PARTIAL_SUM payload (Table 12.8, 0x03); an item is a bag. -/
structure PartialSumF where
  step  : Nat
  table : Nat
  pass  : Nat
  last  : Bool
  frags : List Fragment
  deriving DecidableEq, Repr, Inhabited

/-- STREAM_DATA payload (Table 12.8, 0x04); an item is a row. -/
structure StreamDataF where
  step  : Nat
  table : Nat
  pass  : Nat
  frags : List Fragment
  deriving DecidableEq, Repr, Inhabited

/-- STREAM_END payload (Table 12.8, 0x05). -/
structure StreamEndF where
  step     : Nat
  table    : Nat
  pass     : Nat
  rowCount : Nat
  deriving DecidableEq, Repr, Inhabited

/-- SKEIN_TRANSFER payload (Table 12.8, 0x06). `rowList` frames list (row, poison mark); the others carry bytes. -/
structure SkeinTransferF where
  boundary : Nat
  table    : Nat
  version  : Nat
  skein    : Nat
  page     : Nat
  offset   : Nat
  rowList  : Bool
  lastPage : Bool
  last     : Bool
  rows     : List (Nat × Bool)
  bytes    : List Byte
  deriving DecidableEq, Repr, Inhabited

/-- TREE_BLOCK payload (Table 12.8, 0x10). -/
structure TreeBlockF where
  step   : Nat
  treeId : Nat
  block  : Nat
  first  : Nat
  values : List Word32
  deriving DecidableEq, Repr, Inhabited

/-- SLICE_DATA payload (Table 12.8, 0x20); values are BF16 bits. -/
structure SliceDataF where
  step   : Nat
  treeId : Nat
  first  : Nat
  values : List (BitVec 16)
  deriving DecidableEq, Repr, Inhabited

/-- What a DIGEST frame is (Table 12.8, 0x21 KIND). -/
inductive DigestKind where
  | published
  | recomputeRequest
  | recomputed
  deriving DecidableEq, Repr, Inhabited

/-- DIGEST payload (Table 12.8, 0x21). -/
structure DigestF where
  step   : Nat
  treeId : Nat
  kind   : DigestKind
  digest : Word
  deriving DecidableEq, Repr, Inhabited

/-- HANK_DATA payload (Table 12.8, 0x30). `part` 0 page lines, 1 dense-state lines, 2 header and names, 3 seal;
`lines` are the stored lines with their tags. -/
structure HankDataF where
  boundary   : Nat
  origin     : Nat
  part       : Nat
  position   : Nat
  firstLine  : Nat
  sealedLoss : Word32
  lines      : List (List Byte × Word)
  deriving DecidableEq, Repr, Inhabited

/-- Commit report (Table 12.8, 0x41 KIND 0; R31). -/
structure CommitReportF where
  step     : Nat
  overflow : Bool
  loss     : Word32
  expected : Nat
  applied  : Nat
  evals    : List Nat
  deriving DecidableEq, Repr, Inhabited

/-- Commit decision (Table 12.8, COMMIT KIND 1; R31). -/
structure CommitDecisionF where
  step      : Nat
  overflow  : Bool
  committed : Bool
  loss      : Word32
  evals     : List Nat
  deriving DecidableEq, Repr, Inhabited

/-- Securing report (Table 12.8, COMMIT KIND 2; R319). -/
structure SecuringReportF where
  hank    : Nat
  eSecure : Nat
  eStep   : Nat
  r       : Nat
  o       : Nat
  deriving DecidableEq, Repr, Inhabited

/-- Securing decision (Table 12.8, COMMIT KIND 3; R319). -/
structure SecuringDecisionF where
  hank : Nat
  next : Nat
  deriving DecidableEq, Repr, Inhabited

/-- Halt (Table 12.8, COMMIT KIND 4; R298): reason as in MEMBER_LOST and the member named, if any. -/
structure HaltF where
  step   : Nat
  reason : Nat
  named  : Option Nat
  deriving DecidableEq, Repr, Inhabited

/-- One entry of a GRANT frame (Table 12.8, 0x41). -/
structure GrantF where
  cls   : Nat
  pool  : Nat
  flow  : Word32
  units : Nat
  deriving DecidableEq, Repr, Inhabited

/-- Names one table page: table, version, skein, ordinal in the skein (R98). -/
structure PageRef where
  table   : Nat
  version : Nat
  skein   : Nat
  page    : Nat
  deriving DecidableEq, Repr, Inhabited

/-- How a move or a re-read of a page ended: the page, and the rows whose lines its old copy did not give (R117). -/
structure PageEnd where
  page : PageRef
  lost : List Nat
  deriving DecidableEq, Repr, Inhabited

/-- An uncorrectable line: the rows that share a byte with it (R119), and the ring and tag of the command whose read found it,
none where the scrub did (R117, R248). -/
structure BadLine where
  rows   : List Nat
  reader : Option (Nat × BitVec 32)
  deriving DecidableEq, Repr, Inhabited

/-- The class, stream bit and kind of a frame's header (R293, R294). -/
structure FrameKind where
  cls    : Nat
  stream : Bool
  kind   : Nat
  deriving DecidableEq, Repr, Inhabited

/-- The four tiers (R96); CXL memory is a memory port or the fabric window (Table 5.7). -/
inductive Tier where
  | sram
  | gddr
  | cxlPort
  | fabric
  | flash
  deriving DecidableEq, Repr, Inhabited

/-- A hank as it is read from its source (R316): everything a restore puts back. Rows are
(table, version, row, record bytes, poisoned); dense entries are (tensor id, BF16 whole-tensor index, bits);
states are (tensor id, slot, byte offset, byte). -/
structure HankImage where
  boundary   : Nat
  member     : Nat
  seed       : Word
  members    : List Nat
  sealedLoss : Word32
  lastSched  : Nat
  nextSched  : Option Nat
  buddies    : List Nat
  rows       : List (Nat × Nat × Nat × List Byte × Bool)
  dense      : List (Nat × Nat × BitVec 16)
  slots      : List (Nat × Nat × Nat × Byte)
  digests    : List (Nat × Word)
  exponent   : Nat
  clean      : Nat
  config     : List (Nat × List Byte)
  bindings   : List (Nat × Nat)
  versions   : List (Nat × Nat × List Nat)
  /-- The page map: each owned page, its home and the log version it stands at. -/
  pages      : List (PageRef × Tier × Nat)
  deriving DecidableEq, Repr, Inhabited

/-- What the module finds of hank N when it reads its source (R332, R334). RESTORE_FROM_HANK carries beside it the newest
usable boundary for this member at a source outside the module. -/
inductive HankRead where
  | absent
  | macFailure
  | found (h : HankImage)
  deriving DecidableEq, Repr, Inhabited

/-- What the reset sequence's own tests find (Table 14.25): whether firmware verified, the working modules of the
112 chords after repair, and of the arrays (R172) the cells that fail, as (die, physical column, row), and the slivers with
a fault in their operand buffer (0), accumulators (1), feed (2) or drain stage (3), as (die, sliver, part). -/
structure SelfTest where
  firmwareOk : Bool
  chords     : List Nat
  cells      : List (Nat × Nat × Nat)
  parts      : List (Nat × Nat × Nat)
  deriving DecidableEq, Repr, Inhabited

/-- What a memory port finds when it has trained (R343): capacity [GB], lanes and rate code. -/
structure Expander where
  capacityGB : Nat
  lanes      : Nat
  rate       : Nat
  deriving DecidableEq, Repr, Inhabited

/-- What one grant round reads (R271, R281): input power [mW], the 64 junction readings in degrees C, in the order
of event DIE codes (R249), and the energy metered since the last round [µJ] for each running or idle compute die. -/
structure RoundReadings where
  powerMilliwatt : Nat
  junctions      : List Int
  metered        : List Nat
  idleDrawn      : List Nat
  moduleDrawn    : Nat
  deriving DecidableEq, Repr, Inhabited

/-- The commands: one constructor per row of spec/opcode_table.json. -/
inductive Instr where
  -- rings (R237 to R248)
  | doorbell (ring : Nat) (producer : Word32) (descs : List Wide) (stores : List Store)
  | commandAcceptanceResume (consumer : Word32)
  | unknownOpcodeDescriptor (d : Sub)
  -- lattices and programs
  | submitLattice (d : Sub)
  | submitLatticeRemove (d : Sub)
  | loadProgram (d : Sub)
  | loadProgramSlotTaken (slot : Nat)
  | translationEnd (handle : Nat)
  | unloadProgram (d : Sub)
  -- steps and evaluations
  | stepInput (d : Sub)
  | stepInputBlocksRead (step : Nat) (units : List Nat)
  | evalRequest (d : Sub)
  | evalBlocksRead (boundary handle : Nat) (units : List Nat)
  | evalComplete (boundary handle : Nat)
  -- table versions
  | loadTableVersionBegin (d : Sub)
  | loadTableVersionData (d : Sub)
  | loadTableVersionEnd (d : Sub)
  | retireTableVersion (d : Sub)
  -- configuration
  | stageConfig (d : Sub)
  | commitConfig (d : Sub)
  | discardConfig (d : Sub)
  -- securing
  | secureNow (d : Sub)
  | restoreFromHank (d : Sub) (read : HankRead) (newest : Option Nat)
  | restoreEnd
  | reportFailure (d : Sub)
  -- export, delta, telemetry, debug
  | exportSkein (d : Sub)
  | exportChunk (ring : Nat) (index : Word32) (rows : Nat)
  | deltaControlStart (d : Sub)
  | deltaControlStop (d : Sub)
  | telemetrySnapshot (d : Sub)
  | debugBreakArm (d : Sub)
  | debugBreakClear (d : Sub)
  | debugResume (d : Sub)
  -- registers
  | registerReset (value : Word32)
  | jobCommit (list : List Nat)
  | unitEnable (unit : Nat)
  | unitDisable (unit : Nat)
  | ringEnable (ring : Nat) (value : Word) (producer consumer : Word32) (descs : List Wide)
  | ringDisable (ring : Nat)
  | ringRearm (ring : Nat) (producer : Word32) (descs : List Wide)
  | energyCountLowRead
  | registerWrite (offset : Nat) (wide : Bool) (value : Word)
  -- module protocol
  | installJobKey (t : Transport) (inSession : Bool) (payload : List Byte)
  | queryState (t : Transport) (payload : List Byte)
  | firmwareBegin (t : Transport) (payload : List Byte)
  | firmwareData (t : Transport) (payload : List Byte)
  | firmwareEnd (t : Transport) (payload : List Byte)
  | firmwareAbort (t : Transport) (payload : List Byte)
  | debugChallenge (t : Transport) (payload : List Byte)
  | debugUnlock (t : Transport) (payload : List Byte)
  -- SPDM
  | getVersion (t : Transport)
  | getCapabilities (t : Transport)
  | negotiateAlgorithms (t : Transport) (acceptsBrainpool : Bool)
  | getDigests (t : Transport)
  | getCertificate (t : Transport) (slot offset length : Nat)
  | challenge (t : Transport) (slot : Nat) (nonce : List Byte)
  | getMeasurements (t : Transport) (index : Nat) (signed : Bool) (nonce : List Byte)
  | keyExchange (t : Transport) (exchangeData : List Byte)
  | finish (t : Transport) (verifyData : List Byte)
  | heartbeat (t : Transport)
  | keyUpdate (t : Transport) (operation : Nat)
  | endSession (t : Transport)
  -- supply, resets, pins
  | inputSwitchClose
  | powerOnReset
  | perstNAsserted (nanoseconds : Nat)
  | perstNDeasserted
  | linkReset
  | functionLevelReset
  | resetSequenceEnd (found : SelfTest)
  | inputOvervoltage
  | inputOvercurrent
  | overcurrentRetry
  | mateSenseReleased
  | lossOfInput
  | brakeEntered (nanoseconds : Nat)
  | pwrBrakeNDeasserted
  | brakeEnd
  | grantRound (readings : RoundReadings)
  | thermTripClear
  | wearBudgetAccrual
  | diePark (die : Nat)
  | nandChannelIdle (channel : Nat)
  | unitDrainEnd (unit : Nat)
  | unitWakeEnd (unit : Nat) (expander : Option Expander)
  -- links
  | portTrainingEnd (port : Nat) (signal : Bool) (trained locked : List Nat)
  | portRetry (port : Nat)
  | keepaliveSend (port : Nat)
  | livenessLost (port : Nat)
  | laneFailure (port lane : Nat)
  | hello (port : Nat) (jobId : List Byte) (member peerPort : Nat) (salt : List Byte)
  | confirmation (port : Nat) (senderSalt receiverSalt : List Byte) (tagValid : Bool)
  | creditAdvertisement (port : Nat) (sizes : List Nat)
  | keepalive (port : Nat)
  | replayRequest (port : Nat) (seq : Word32)
  | reStripe (port : Nat) (failedLane mask : Nat) (seq : Word32)
  | frameDiscard (port : Nat) (badTag : Bool)
  | frameForward (port dest source cls : Nat) (stream : Bool) (hops : Nat) (epoch : Bool) (kind length : Nat) (flow : Word32)
  -- exchange
  | rowRequest (rx : Rx) (f : RowRequestF)
  | rowRequestServe (source step table pass : Nat)
  | rowData (rx : Rx) (f : RowDataF)
  | partialSum (rx : Rx) (f : PartialSumF)
  | streamData (rx : Rx) (f : StreamDataF)
  | streamEnd (rx : Rx) (f : StreamEndF)
  | skeinTransfer (rx : Rx) (f : SkeinTransferF)
  | treeBlock (rx : Rx) (f : TreeBlockF)
  | sliceData (rx : Rx) (f : SliceDataF)
  | digest (rx : Rx) (f : DigestF)
  | hankData (rx : Rx) (f : HankDataF)
  | commitReport (rx : Rx) (f : CommitReportF)
  | commitDecision (rx : Rx) (f : CommitDecisionF)
  | securingReport (rx : Rx) (f : SecuringReportF)
  | securingDecision (rx : Rx) (f : SecuringDecisionF)
  | halt (rx : Rx) (f : HaltF)
  | grant (rx : Rx) (grants : List GrantF)
  | credit (rx : Rx) (ack : Word32) (units : List Nat)
  -- commit
  | commitReportSend
  | sliverColumnTest (die sliver : Nat) (pass : Bool)
  | cardingPassEnd (inst : InstRef) (table pass : Nat)
  -- rows and tiers
  | placementMove (page : PageRef) (dest : Tier)
  | pageMoveEnd (page : PageEnd)
  | flashRereadEnd (page : PageEnd)
  | backgroundScrub (corrected : Nat) (bad : Option PageRef) (badRows : BadLine)
  | flashReclaim
  | memoryPortFailure (port : Nat)
  | chordModuleFailure (chord : Nat)
  | parkedEntryApply (table row : Nat)
  | updateKernelInvocation (target : Nat) (units : List Nat) (at_ : CtxId)
  -- dense
  | treeBlockForward (treeId block : Nat)
  | denseBlockUpdate (treeId block : Nat)
  | weightGradientTileDrain (queue : QueueId) (tileRow tileCol width : Nat)
  -- dispatch and spindles
  | vertexDispatch (inst : InstRef) (vertices : List Nat) (at_ : List CtxId)
  | waitSatisfied (c : CtxId)
  | queueAccept (q : QueueId)
  | queueCommandComplete (q : QueueId)
  | loopEnd (c : CtxId)
  -- Ply (R216, R217)
  | mov (c : CtxId) (w : Word)
  | movi (c : CtxId) (w : Word)
  | movhi (c : CtxId) (w : Word)
  | alu (c : CtxId) (w : Word)
  | alui (c : CtxId) (w : Word)
  | cmp (c : CtxId) (w : Word)
  | sel (c : CtxId) (w : Word)
  | fop (c : CtxId) (w : Word)
  | widen (c : CtxId) (w : Word)
  | narrow (c : CtxId) (w : Word)
  | bcast (c : CtxId) (w : Word)
  | reduce (c : CtxId) (w : Word)
  | tload (c : CtxId) (w : Word)
  | tstore (c : CtxId) (w : Word)
  | tmove (c : CtxId) (w : Word)
  | tile (c : CtxId) (w : Word)
  | product (c : CtxId) (w : Word)
  | layer (c : CtxId) (w : Word)
  | signal (c : CtxId) (w : Word)
  | wait (c : CtxId) (w : Word)
  | readctr (c : CtxId) (w : Word)
  | br (c : CtxId) (w : Word)
  | brc (c : CtxId) (w : Word)
  | loop (c : CtxId) (w : Word)
  | call (c : CtxId) (w : Word)
  | ret (c : CtxId) (w : Word)
  | retire (c : CtxId) (w : Word)
  | query (c : CtxId) (w : Word)
  -- securing events and the rest
  | hankPageCopy (boundary : Nat) (page : PageRef)
  | securingHoldEnd (boundary : Nat)
  | hankSeal (boundary : Nat)
  | heldEventPost (consumer : Word32)
  | routeTableFree
  | reservedFrameKind (rx : Rx) (kind : FrameKind)
  | overvoltageReclose
  | recordsReachedTier (table version : Nat)
  deriving DecidableEq, Repr

end Sys2Proof
end

