-- ==== Sys2Proof/Decode.lean ====
section
/-! DEFINITION. The commands that table words spell. No row of spec/opcode_table.json gives bits: the block takes
commands, and their formats stand in the operands (descriptors, payloads, Ply words). -/

namespace Sys2Proof

/-- The command that a word spells by the table's bits: none, for the table gives no row bits. -/
def decodeTableWord (_nbits _w : Nat) : Option Instr := none

end Sys2Proof
end

