-- ==== Sys2Proof/Machine/State.lean ====
section
/-! DEFINITION. The state of one BP64 module as plain data: supply and pins, registers, rings, commands in progress,
configuration, steps, tables and pages, programs, lattices, tensors, contexts and queues, owners' entries, dense
trees, links, power, hanks, security, telemetry; the queue of waiting commands; and State.reset, the state of
Table 14.24 right after a power-on reset. -/

namespace Sys2Proof.Machine

/-- Byte memory in canonical form: addresses strictly rising, no listed byte zero; an unlisted address reads 0. -/
abbrev Mem := List (Nat × Byte)

/-- A finite map as a list of keys and values, each key once. -/
abbrev Assoc (κ α : Type) := List (κ × α)

/-- Completion statuses (Table 10.5). -/
inductive Status where
  | ok
  | acceptedDeferred
  | rejectedFootprint
  | rejectedConfig
  | rejectedLimit
  | noSpace
  | versionUnknown
  | security
  | malformed
  deriving DecidableEq, Repr, Inhabited

/-! ### Supply and pins (16_the_module.md) -/

/-- Why the input switch last opened (R403). -/
inductive OpenCause where
  | none
  | overvoltage
  | overcurrent
  | mateReleased
  | lossOfInput
  deriving DecidableEq, Repr, Inhabited

structure Supply where
  /-- The 64 V input is applied (R403). -/
  inputPresent : Bool
  /-- MATE_SENSE is joined to VIN_RETURN (R397). -/
  mateJoined   : Bool
  /-- The input switch is closed and its charge complete (R403). -/
  switchClosed : Bool
  openCause    : OpenCause
  /-- Core and memory supplies are on (R404, R408). -/
  corePower    : Bool
  /-- THERM_TRIP_N asserted and latched (R283, R408). -/
  thermTrip    : Bool
  /-- PERST_N asserted (R406). -/
  perst        : Bool
  /-- PWR_BRAKE_N asserted (R407). -/
  brakePin     : Bool
  /-- The reset sequence of Table 14.25 is running or a cause holds it off. -/
  inReset      : Bool
  /-- Reset causes (Table 14.23 codes) still present. -/
  causes       : List Nat
  /-- STATUS.LAST_RESET (Table 14.4). -/
  lastReset    : Nat
  deriving DecidableEq, Repr, Inhabited

/-! ### Registers (14_host_port_and_configuration.md) -/

/-- A memory port as MEMORY_PORT_STATUS_n reports it (Table 14.15), with R120's failure. -/
structure MemPort where
  present    : Bool
  capacityGB : Nat
  lanes      : Nat
  rate       : Nat
  failed     : Bool
  deriving DecidableEq, Repr, Inhabited

structure Regs where
  ready          : Bool
  recoveryLoader : Bool
  meshFault      : Bool
  jobSet         : Bool
  memberCount    : Nat
  memberNumber   : Nat
  jobSeed        : Word
  listAddress    : Word
  fabricBase     : Word
  fabricLength   : Word
  commitStatus   : Byte
  /-- The member list read at the job commit (R348). -/
  members        : List Nat
  /-- ENERGY_COUNT, in µJ (R275). -/
  energyCount    : Word
  /-- The high half latched by a 32-bit read of the low half (R276). -/
  energyLatch    : Option Word32
  /-- What the last low-half read returned (R276). -/
  energyRead     : Word32
  /-- UNIT_POWER_CONTROL.REQUEST_STATUS (R285). -/
  requestStatus  : Byte
  memPorts       : List MemPort
  /-- SLIVER_WIDTH_n: presented widths, 40 dies of 64 slivers (R173). -/
  widths         : List (List Nat)
  /-- Bypassed physical columns: die and column (R172). -/
  bypass         : List (Nat × Nat)
  /-- Working modules of the 112 chords (R313, R373). -/
  chords         : List Nat
  deriving DecidableEq, Repr, Inhabited

/-! ### Rings, completions and events (10_lattices.md) -/

/-- A completion record (Table 10.4). -/
structure Completion where
  opcode      : Nat
  status      : Status
  phase       : Bool
  commandId   : Word32
  submitIndex : Word32
  ring        : Nat
  errorCode   : Nat
  detail0     : Word
  detail1     : Word
  deriving DecidableEq, Repr, Inhabited

/-- Event payloads (Table 10.9). -/
inductive EventBody where
  | overflowSkip (rows blocks : Nat) (lowRow lowBlock : Option (Nat × Nat))
  | replicaMismatch (tree finder first last : Nat)
  | rowPoisoned (table version row tier : Nat)
  | laneDegraded (port lane remaining : Nat)
  | memberLost (named : Option Nat) (reason : Nat)
  | hankSealed (boundary : Nat) (loss : Word32) (targets : Nat)
  | stepCommitted (loss : Word32) (overflow : Bool) (exponent : Nat)
  | brakeEntered (energy : Word)
  | thermalThrottle (junction : Int) (level : Nat)
  | deltaGap (index : Word32) (table : Nat)
  | debugStop (slot die spindle queue : Nat) (count : Nat) (tag : Nat)
  deriving DecidableEq, Repr, Inhabited

/-- An event record (Table 10.8). `cause` names the command that caused it (R248), if any: it is the module's own
book-keeping and no field of the record. -/
structure Event where
  body     : EventBody
  phase    : Bool
  die      : Nat
  member   : Nat
  count    : Nat
  sequence : Nat
  step     : Nat
  cause    : Option (Nat × Word32)
  deriving DecidableEq, Repr, Inhabited

/-- An export record (Table 14.27). -/
structure ExportRecord where
  isEnd       : Bool
  commandId   : Word32
  boundary    : Nat
  table       : Nat
  version     : Nat
  skein       : Nat
  entries     : Nat
  chunkOffset : Nat
  chunkLength : Nat
  poisoned    : Nat
  deriving DecidableEq, Repr, Inhabited

/-- A delta record (Table 14.28): kind 1 row, 2 gap marker, 3 resume marker. -/
structure DeltaRecord where
  kind      : Nat
  entries   : Nat
  table     : Nat
  row       : Nat
  step      : Nat
  version   : Nat
  format    : Nat
  blockLog2 : Nat
  data      : List Byte
  deriving DecidableEq, Repr, Inhabited

/-- One ring's registers (Tables 14.17 to 14.19) and indices (R237). -/
structure Ring where
  base        : Word
  lineBase    : Word
  sizeLog2    : Nat
  enable      : Bool
  active      : Bool
  halted      : Bool
  setupStatus : Byte
  producer    : Word32
  consumer    : Word32
  /-- Descriptors the doorbell has read and not yet accepted (R247), in index order. -/
  unaccepted  : List (Word32 × Wide)
  deriving DecidableEq, Repr, Inhabited

/-- An accepted, uncompleted command (R241, R244). `begun` once its own step has run. -/
structure Accepted where
  sub   : Sub
  begun : Bool
  deriving DecidableEq, Repr, Inhabited

/-- The rings and what is written to the module-written ones. -/
structure Rings where
  ring        : List Ring
  accepted    : List Accepted
  /-- Ring 8, ring 9, ring 10 and ring 11 records written, oldest first, with their ring indices. -/
  completions : List (Word32 × Completion)
  events      : List (Word32 × Event)
  exports     : List (Word32 × ExportRecord)
  deltas      : List (Word32 × DeltaRecord)
  /-- Events held while ring 9 is full (R251). -/
  heldEvents  : List Event
  /-- Completions held back until the events their commands caused are written (R248). -/
  heldDone    : List Completion
  deriving DecidableEq, Repr, Inhabited

/-! ### Configuration keys in effect and held sets (14_host_port_and_configuration.md) -/

structure LossPolicy where
  fixed       : Bool
  exponent    : Nat
  minExponent : Nat
  maxExponent : Nat
  growth      : Nat
  deriving DecidableEq, Repr, Inhabited

structure SecurePolicy where
  mode            : Nat
  hanksKept       : Nat
  stagingGB       : Nat
  fabric          : Bool
  pinnedInterval  : Nat
  initialInterval : Nat
  priorSteps      : Nat
  fabricOffset    : Nat
  fabricLength    : Nat
  deriving DecidableEq, Repr, Inhabited

structure RouteEntry where
  dest     : Nat
  distance : Nat
  ports    : Nat
  deriving DecidableEq, Repr, Inhabited

/-- The seven hyperparameters of a target as BF16 bits (Table 6.3). -/
structure OptParams where
  lr    : BitVec 16
  beta1 : BitVec 16
  beta2 : BitVec 16
  eps   : BitVec 16
  wd    : BitVec 16
  c1    : BitVec 16
  c2    : BitVec 16
  deriving DecidableEq, Repr, Inhabited

/-- A staged or committed set (R354, R356): items as (key, value bytes) in list order. -/
structure CfgSet where
  id       : Nat
  items    : List (Nat × List Byte)
  boundary : Option Nat
  deriving DecidableEq, Repr, Inhabited

structure Config where
  skeinMaps    : Assoc Nat (List Nat)
  routes       : List RouteEntry
  routeSet     : Bool
  prevRoutes   : Option (List RouteEntry)
  routeEpoch   : Bool
  /-- The commit decision whose boundary waits: a route table is due at it and the previous one is still held (R307). -/
  routeDue     : Option CommitDecisionF
  lossPolicy   : LossPolicy
  capWatts     : Nat
  maxLevel     : Nat
  secure       : SecurePolicy
  pooling      : Assoc Nat Nat
  window       : List Nat
  bobbin       : List Nat
  opt          : Assoc Nat OptParams
  deltaTables  : List Nat
  evalPolicy   : Nat
  buddies      : Option (List Nat)
  /-- Sets held, in the order staged; committed ones carry their boundary. -/
  sets         : List CfgSet
  /-- SET_IDs of committed sets in the order their COMMIT_CONFIG commands were accepted (R357). -/
  commitOrder  : List Nat
  /-- For each of them, the COMMIT_CONFIG commands accepted before its own and then not yet answered (R357). -/
  commitBehind : Assoc Nat (List Sub)
  deriving DecidableEq, Repr, Inhabited

/-! ### Tables, pages and tiers (05_where_rows_live.md) -/

structure Version where
  table          : Nat
  number         : Nat
  rowCount       : Nat
  width          : Nat
  elemFormat     : Nat
  blockLog2      : Nat
  skeinLog2      : Nat
  optimiser      : Nat
  stateFormat    : Nat
  stateBlockLog2 : Nat
  stateSlots     : Nat
  hint           : Nat
  /-- Per-skein hint bytes, empty when none were sent (R104). -/
  hints          : List Nat
  /-- Rows whose record is not all zero bytes, with their records (R98, R100). -/
  rows           : Assoc Nat (List Byte)
  poisoned       : List Nat
  /-- END commands accepted and waiting for records to reach their tier (R100). -/
  ending         : List Sub
  /-- END completed (R37: loaded). -/
  loaded         : Bool
  inEffect       : Bool
  /-- Freed when its last reference retires (Table 2.6). -/
  retiring       : Bool
  deriving DecidableEq, Repr, Inhabited

structure Page where
  ref       : PageRef
  rows      : List Nat
  home      : Tier
  tier      : Tier
  pinned    : Bool
  heat      : Nat
  dirty     : Bool
  /-- The tier a move in progress goes to (R108). -/
  moving    : Option Tier
  /-- Being read again from its flash home (R118). -/
  rereading : Bool
  /-- The log sequence number of its version in flash (R110). -/
  logSeq    : Nat
  /-- The memory port that holds it while it is placed in CXL port memory, and the port a move in progress goes to
  (R105). -/
  port      : Nat
  toPort    : Nat
  /-- The memory die whose row cache holds it while it is pinned to SRAM (R104). -/
  cache     : Nat
  /-- Written by DATA and not yet in its tier (R100). -/
  unsettled : Bool
  /-- Promote again once landed in flash (R108). -/
  wanted    : Bool
  /-- CXL-homed: changed since the newest kept hank (R322). -/
  changed   : Bool
  deriving DecidableEq, Repr, Inhabited

structure Tables where
  versions : List Version
  pages    : List Page
  /-- Older page versions kept in the flash log (R110). -/
  older    : List (PageRef × Nat)
  /-- Wear budget balance [bytes] (R112). -/
  wear     : Int
  /-- Skein transfers out at boundary b: table, skein, old and new owner; kept until landed (R85). -/
  leaving  : List (Nat × Nat × Nat × Nat)
  /-- Skeins that move to this member and have not landed: boundary, table, skein, old owner (R85). -/
  arriving : List (Nat × Nat × Nat × Nat)
  /-- Skeins that have landed before this member passed their boundary: boundary, table, skein (R85). -/
  landed   : List (Nat × Nat × Nat)
  /-- Retained log versions have left less than 1 TB of free spare area, until a reclamation ends (R111). -/
  spareLow : Bool
  deriving DecidableEq, Repr, Inhabited

/-! ### Ply modules, programs and lattices (09_ply.md, 10_lattices.md) -/

structure TensorDecl where
  id             : Nat
  role           : Nat
  format         : Nat
  blockLog2      : Nat
  rank           : Nat
  dims           : List Nat
  table          : Nat
  optimiser      : Nat
  stateFormat    : Nat
  stateBlockLog2 : Nat
  stateSlots     : Nat
  associated     : Nat
  deriving DecidableEq, Repr, Inhabited

structure FuncEntry where
  kind        : Nat
  argWords    : Nat
  codeFirst   : Nat
  codeCount   : Nat
  scratch     : Nat
  counterMask : Nat
  fpFirst     : Nat
  fpCount     : Nat
  bufferCount : Nat
  target      : Nat
  deriving DecidableEq, Repr, Inhabited

structure FootEntry where
  slot       : Nat
  access     : Nat
  offsetArg  : Bool
  lengthArg  : Bool
  offsetWord : Nat
  lengthWord : Nat
  offset     : Nat
  length     : Nat
  deriving DecidableEq, Repr, Inhabited

structure ProductD where
  arrangement : Nat
  a           : Nat
  b           : Nat
  out         : Nat
  drain       : Nat
  rows        : Nat
  inn         : Nat
  outpos      : Nat
  deriving DecidableEq, Repr, Inhabited

structure DrainD where
  bias     : Nat
  mask     : Nat
  steps    : Nat
  maskKind : Nat
  purpose  : Nat
  alpha    : BitVec 16
  lo       : BitVec 16
  hi       : BitVec 16
  deriving DecidableEq, Repr, Inhabited

structure LayerD where
  kind      : Nat
  mode      : Nat
  purpose   : Nat
  rowLength : Nat
  rows      : Nat
  inSlot    : Nat
  outSlot   : Nat
  gain      : Nat
  shift     : Nat
  eps       : BitVec 16
  deriving DecidableEq, Repr, Inhabited

structure MoveD where
  src      : Nat
  dst      : Nat
  elements : Nat
  deriving DecidableEq, Repr, Inhabited

structure TileD where
  src       : Nat
  dst       : Nat
  addend    : Nat
  rows      : Nat
  view      : Nat
  op        : Nat
  broadcast : Nat
  q         : Nat
  fmt       : Nat
  deriving DecidableEq, Repr, Inhabited

/-- A Ply module's sections (Table 9.3). -/
structure PlyModule where
  tensors  : List TensorDecl
  funcs    : List FuncEntry
  foots    : List FootEntry
  code     : List Word
  products : List ProductD
  drains   : List DrainD
  layers   : List LayerD
  moves    : List MoveD
  tiles    : List TileD
  deriving DecidableEq, Repr, Inhabited

/-- Slot states (R229); a FREE slot holds no image and is not listed. -/
inductive SlotState where
  | loading
  | current
  | draining
  deriving DecidableEq, Repr, Inhabited

structure Image where
  slot     : Nat
  handle   : Nat
  state    : SlotState
  granules : Nat
  ply      : PlyModule
  /-- The LOAD_PROGRAM command while LOADING. -/
  load     : Option Sub
  deriving DecidableEq, Repr, Inhabited

/-- A load that waits for a slot and granules (R230). -/
structure Load where
  sub      : Sub
  handle   : Nat
  granules : Nat
  ply      : PlyModule
  deriving DecidableEq, Repr, Inhabited

structure Programs where
  images    : List Image
  waiting   : List Load
  /-- Unloads that wait, each with the loads of its handle that it met in progress (R234). -/
  unloads   : List (Sub × List Sub)
  deriving DecidableEq, Repr, Inhabited

structure Vertex where
  program  : Nat
  function : Nat
  backward : Bool
  pinned   : Bool
  dieHint  : Nat
  group    : Nat
  args     : List Word
  /-- The home die given at admission (R261). -/
  home     : Nat
  /-- Energy class, estimate [µJ] and rank given at admission (R262). -/
  cls      : Nat
  estimate : Nat
  rank     : Nat
  deriving DecidableEq, Repr, Inhabited

structure Kernel where
  target   : Nat
  program  : Nat
  function : Nat
  deriving DecidableEq, Repr, Inhabited

structure Lattice where
  handle   : Nat
  isEval   : Bool
  vertices : List Vertex
  edges    : List (Nat × Nat)
  kernels  : List Kernel
  params   : List Nat
  /-- Every tensor the lattice's programs declare (R210). -/
  decls    : List TensorDecl
  deriving DecidableEq, Repr, Inhabited

/-! ### Contexts, counters and queues (08_spindles.md) -/

/-- Context states (Table 8.2). -/
inductive CtxState where
  | free
  | running
  | waiting
  | stalled
  deriving DecidableEq, Repr, Inhabited

/-- An open hardware loop level (R194): the first and one-past-last instruction of the body, the latched count, the runs
of the body that remain, the index, and the call depth at which it was opened. -/
structure LoopLevel where
  first : Nat
  last  : Nat
  count : Nat
  remaining : Nat
  index : Nat
  depth : Nat
  deriving DecidableEq, Repr, Inhabited

/-- What a queued command does: a product or a move, its descriptor slot being its tag (R265). -/
inductive CmdBody where
  | product (slot : Nat)
  | move (slot : Nat)
  deriving DecidableEq, Repr, Inhabited

/-- A command of an engine queue (R201, R265). -/
structure QCmd where
  body    : CmdBody
  owner   : CtxId
  inst    : InstRef
  /-- The module whose descriptor it runs, and the footprint ranges of its vertex: (tensor slot, access, first element,
  elements). -/
  ply     : PlyModule
  ranges  : List (Nat × Nat × Nat × Nat)
  /-- The units and gradients of the kernel that queued it, as bytes; empty for a vertex (R139). -/
  units   : List Byte
  arg1    : Nat
  arg2    : Nat
  counter : Option Nat
  /-- Held unexecuted by a debug break (R266). -/
  held    : Bool
  /-- Weight-gradient tiles already drained: (tile row band, first column, width) (R164). -/
  drained : List (Nat × Nat × Nat)
  deriving DecidableEq, Repr, Inhabited

structure Context where
  state    : CtxState
  inst     : InstRef
  vertex   : Nat
  /-- The image slot whose code it fetches (R231). -/
  image    : Nat
  func     : Nat
  /-- The function that the vertex or the invocation runs, whatever subroutine it is in. -/
  entry    : Nat
  /-- CODE slot of the next instruction. -/
  pc       : Nat
  /-- Return points of CALL: (function, CODE slot). -/
  calls    : List (Nat × Nat)
  loops    : List LoopLevel
  sregs    : List Word
  vregs    : List Wide
  tags     : List Word32
  preds    : List Word
  /-- A pending wait: counter and target (R195), or a wait for the commit that decides e (R217). -/
  waitOn   : Option (Nat × Word32)
  waitE    : Bool
  /-- The command a full queue has not accepted (R200). -/
  heldCmd  : Option QCmd
  /-- Retirement held for outstanding commands (R185). -/
  retiring : Bool
  /-- Energy reserved at dispatch and metered since [µJ] (R272). -/
  reserved : Nat
  metered  : Nat
  /-- Units handed to an update kernel: rows of a table or blocks of a tensor (R139). -/
  units    : List Nat
  /-- The target of an update kernel's invocation; 0 for a vertex. -/
  target   : Nat
  /-- Values a kernel has stored to its units, not yet converted: (unit ordinal, part, first element, purpose, binary32
  values); part 0 is the elements, part k + 1 state slot k (R139). -/
  staged   : List (Nat × Nat × Nat × Nat × List Word32)
  /-- Where its scratch starts in the spindle's local SRAM (R184). -/
  scratchAt : Nat
  deriving DecidableEq, Repr, Inhabited

structure Queue where
  /-- Accepted, not yet completed, in order (R201). -/
  cmds  : List QCmd
  /-- Commands accepted since reset (Table 8.6). -/
  count : Nat
  /-- Contexts whose command it has not yet accepted, in the order of their offers (R200, R201). -/
  offers : List CtxId
  deriving DecidableEq, Repr, Inhabited

/-- An armed debug slot (Table 10.14); `none` is any. -/
structure BreakSlot where
  die     : Option Nat
  spindle : Option Nat
  queue   : QueueKind
  onTag   : Bool
  tag     : Nat
  count   : Nat
  deriving DecidableEq, Repr, Inhabited

/-- What a sliver holds (R153): two accumulator tiles of 128 x 8 binary32 values, row by row, and the two halves of its
operand buffer, each with the panel section it holds as element codes and then scale bytes. -/
structure Sliver where
  tiles  : List (List Word32)
  panels : List (List Nat)
  /-- The tile that accumulates next and the half that loads next. -/
  turn   : Nat
  deriving DecidableEq, Repr, Inhabited

structure Spindles where
  contexts : Assoc CtxId Context
  /-- What the registers of FREE contexts still hold, none of it readable (R181); zeros where unlisted. -/
  idle     : Assoc CtxId Context
  /-- The context of each spindle that issued last (R180). -/
  issued   : Assoc (Nat × Nat) Nat
  /-- Local SRAM, 768 KiB a spindle: what scratch holds, by (die, spindle) (R177, R184). -/
  sram     : Assoc (Nat × Nat) Mem
  /-- Accumulators and operand buffers, by (die, sliver); zeros where unlisted (R153). -/
  slivers  : Assoc (Nat × Nat) Sliver
  /-- Sync counters, 0 when unlisted: key (die, spindle, number). -/
  counters : Assoc (Nat × Nat × Nat) Word32
  queues   : Assoc QueueId Queue
  breaks   : List (Option BreakSlot)
  /-- Stopped by a debug break (R266). -/
  stopped  : Bool
  deriving DecidableEq, Repr, Inhabited

/-! ### Steps, evaluations and look-up (02_anatomy_of_a_step.md, 04_carding_and_lookup.md) -/

/-- Progress of one instance of a lattice (R259). -/
structure Inst where
  ref     : InstRef
  lattice : Nat
  running : List Nat
  retired : List Nat
  deriving DecidableEq, Repr, Inhabited

/-- The results of carding one pass (R76, R77): the sorted window entries, the unique-row list U, the inverse map INV over
the pass's positions, the contributor counts CNT and the owner split. -/
structure Card where
  pass    : Nat
  sorted  : List Nat
  unique  : List Nat
  inverse : List Nat
  counts  : List Nat
  split   : List (Nat × List Nat)
  deriving DecidableEq, Repr, Inhabited

/-- One table's section of a sparse block (R73, R74), with its window and pooling mode latched (R93). -/
structure Section where
  table    : Nat
  mean     : Bool
  offsets  : List Nat
  indices  : List Nat
  weights  : Option (List (BitVec 16))
  unit     : Nat
  window   : Nat
  poolAtOwner : Bool
  owners   : List Nat
  /-- Passes carded so far, with their results (R77). -/
  cards    : List Card
  /-- Rows received in rows-to-requester mode. -/
  gotRows  : Assoc Nat (List Byte)
  /-- Partial sums received: (bag, owner) to values, by element. -/
  gotSums  : Assoc (Nat × Nat) (List (Nat × Word32))
  /-- The pooled output has been written. -/
  pooled   : Bool
  /-- Rows whose contributions the member-side merge has still to emit, ascending; none before it starts (R92, R127). -/
  merging  : Option (List Nat)
  /-- The member-side merge has sent its streams (R92, R127). -/
  merged   : Bool
  deriving DecidableEq, Repr, Inhabited

/-- An admitted step, kept until it has committed and its last vertex has retired. -/
structure AdmStep where
  n         : Nat
  sub       : Sub
  /-- Blocks read and checked (Table 2.3 Reading rows passed). -/
  read      : Bool
  /-- Its STEP_INPUT completion is posted. -/
  answered  : Bool
  /-- Table versions bound at admission (R38). -/
  bindings  : List (Nat × Nat)
  sections  : List Section
  dense     : List Byte
  labels    : List Byte
  /-- The step-input and label tensors have been written (R417). -/
  delivered : Bool
  reserve   : Nat
  inst      : Inst
  /-- The loss-scale exponent that governs it, once the commit of the step before has decided it (R65). -/
  exponent  : Option Nat
  loss      : Option Word32
  /-- Rows and dense blocks skipped for overflow, with the lowest of each (R70). -/
  skipRows  : Nat
  skipBlocks : Nat
  lowRow    : Option (Nat × Nat)
  lowBlock  : Option (Nat × Nat)
  skipPosted : Bool
  /-- Slivers whose column test of this step has passed, bit 64 * die + sliver (R175). -/
  tested    : Nat
  /-- Dense tensors whose local gradient has left for the trees (R145, R161). -/
  localDone : List Nat
  reported  : Bool
  deriving DecidableEq, Repr, Inhabited

/-- An evaluation request that the module holds (R43, R44). -/
structure EvalReq where
  boundary : Nat
  handle   : Nat
  sub      : Sub
  read     : Bool
  sections : List Section
  dense    : List Byte
  delivered : Bool
  reserve  : Nat
  bindings : List (Nat × Nat)
  /-- In the agreed set of its boundary (R44). -/
  agreed   : Bool
  /-- Running: requests of one lattice at one boundary run one after the other. -/
  running  : Bool
  inst     : Inst
  deriving DecidableEq, Repr, Inhabited

structure Steps where
  /-- a, the highest step admitted, and c, the highest committed (R28). -/
  a          : Nat
  c          : Nat
  admitted   : List AdmStep
  evals      : List EvalReq
  /-- Loss-scale exponent and clean count (R65). -/
  exponent   : Nat
  clean      : Nat
  jobLoss    : Word32
  /-- The agreed set of boundary c: the lattice handles that every member runs there (R44). -/
  evalSet    : List Nat
  /-- Commit reports received: (child, report). -/
  reports    : List (Nat × CommitReportF)
  /-- At the root: the decision taken and not yet applied. -/
  decision   : Option CommitDecisionF
  /-- The member withholds its reports (R151, R152, R175, R298) and admits no further step (R120). -/
  halted     : Bool
  lost       : Bool
  deriving DecidableEq, Repr, Inhabited

/-! ### Owners: requests, entries, streams (06_bobbins_and_the_fused_update.md) -/

/-- A row request an owner has received (R86, R87). -/
structure OwnReq where
  source     : Nat
  step       : Nat
  table      : Nat
  pass       : Nat
  pool       : Bool
  noGradient : Bool
  /-- It belongs to an evaluation, as the owner told when it arrived (R87, R94). -/
  eval       : Bool
  flow       : Word32
  complete   : Bool
  rows       : List (Nat × Nat)
  groups     : List BagGroup
  deriving DecidableEq, Repr, Inhabited

inductive EntryState where
  | open_
  | complete
  | parked
  | done
  deriving DecidableEq, Repr, Inhabited

/-- An owned row's entry (R130): expected contributors with the pass of their stream, contributions held before their
turn, members folded, the accumulator. -/
structure Entry where
  step     : Nat
  table    : Nat
  row      : Nat
  expected : List (Nat × Nat)
  held     : List (Nat × List Word32)
  folded   : List Nat
  acc      : List Word32
  /-- A contribution or the accumulator held a non-finite element (R131). -/
  bad      : Bool
  state    : EntryState
  /-- The record an update kernel has computed for the row, which waits until the row is ready (R108, R140). -/
  result   : Option (List Byte)
  deriving DecidableEq, Repr, Inhabited

/-- A stream being received (R127, R132). -/
structure StreamRx where
  step    : Nat
  table   : Nat
  member  : Nat
  pass    : Nat
  /-- The FLOW its frames carry (R306). -/
  flow    : Word32
  lastRow : Option Nat
  /-- The row in progress and its values so far. -/
  part    : Option (Nat × List Word32)
  count   : Nat
  ended   : Bool
  faulty  : Bool
  deriving DecidableEq, Repr, Inhabited

structure Owners where
  requests : List OwnReq
  entries  : List Entry
  streams  : List StreamRx
  /-- Row requests that have arrived whole: (step, member) to their number, those of evaluations apart (R87, R94). -/
  arrived     : Assoc (Nat × Nat) Nat
  arrivedEval : Assoc (Nat × Nat) Nat
  /-- Restores so far: the model's own count, by which a replayed step's free values differ. -/
  era      : Nat
  /-- Contributions granted and not yet received: step, table, row, member (R129). -/
  granted  : List (Nat × Nat × Nat × Nat)
  /-- Link dies whose bobbins withhold credit (R142). -/
  withheld : List Nat
  /-- The link die that merges each table, where a boundary has changed it, and the owned rows each table's last step
  updated (R123). -/
  dieOf    : Assoc Nat Nat
  rowCounts : Assoc Nat Nat
  deriving DecidableEq, Repr, Inhabited

/-! ### Dense trees, slices and digests -/

/-- A node's inputs for one update block (R144, R146): element in block to value, from each source. -/
structure TreeNode where
  step      : Nat
  treeId    : Nat
  block     : Nat
  localVals : Assoc Nat Word32
  leftVals  : Assoc Nat Word32
  rightVals : Assoc Nat Word32
  /-- Forwarded to the parent, or applied or skipped at the root. -/
  done      : Bool
  /-- The link die that the node is assigned to (R123). -/
  die       : Nat
  /-- At the root: the combined gradient that waits for the update (R147, R165). -/
  sum       : List Word32
  deriving DecidableEq, Repr, Inhabited

/-- A replica or owned shard (R148 to R150). -/
structure Replica where
  treeId     : Nat
  /-- Digest and state number the owner published last, and the digest of the bits held. -/
  published  : Option (Nat × Word)
  held       : Option Word
  /-- Bits of state `checked` have passed their check (R149). -/
  checked    : Nat
  lastClean  : Nat
  /-- A digest of a later state that came before this member passed that state's boundary; it is acted on after the
  scrub there (R150). -/
  due        : Option (Nat × Word)
  fetching   : Option Nat
  buffer     : Assoc Nat (BitVec 16)
  mismatches : Nat
  deriving DecidableEq, Repr, Inhabited

structure Dense where
  nodes    : List TreeNode
  replicas : List Replica
  /-- Optimiser state of owned shards: (tensor, slot) to bytes in the layout of R50. -/
  slots    : Assoc (Nat × Nat) Mem
  /-- Blocks of a tree granted to a child: (step, tree id, child) to the first block not granted (R146, R302). -/
  granted  : Assoc (Nat × Nat × Nat) Nat
  deriving DecidableEq, Repr, Inhabited

/-! ### Links (12_links_and_the_mesh.md) -/

/-- LINK_STATE (Table 14.16). -/
inductive LinkState where
  | off
  | training
  | confirming
  | up
  | failed
  deriving DecidableEq, Repr, Inhabited

/-- What a frame the module sends carries. -/
inductive MsgBody where
  | rowRequest (f : RowRequestF)
  | rowData (f : RowDataF)
  | partialSum (f : PartialSumF)
  | streamData (f : StreamDataF)
  | streamEnd (f : StreamEndF)
  | skeinTransfer (f : SkeinTransferF)
  | treeBlock (f : TreeBlockF)
  | sliceData (f : SliceDataF)
  | digest (f : DigestF)
  | hankData (f : HankDataF)
  | commitReport (f : CommitReportF)
  | commitDecision (f : CommitDecisionF)
  | securingReport (f : SecuringReportF)
  | securingDecision (f : SecuringDecisionF)
  | halt (f : HaltF)
  | grant (gs : List GrantF)
  | forwarded (kind : Nat)
  deriving DecidableEq, Repr, Inhabited

/-- A LINK_CONTROL or CREDIT frame of one link (Table 12.8, 0x42 and 0x43). -/
inductive LinkMsg where
  | hello (jobId : List Byte) (member port : Nat) (salt : List Byte)
  | confirmation (own peer : List Byte)
  | keepalive
  | replayRequest (seq : Word32)
  | reStripe (lane mask : Nat) (seq : Word32)
  | creditAdvertisement (sizes : List Nat)
  | credit (ack : Word32) (units : List Nat)
  deriving DecidableEq, Repr, Inhabited

/-- A frame at its originator or at a forwarding member. -/
structure OutFrame where
  dest    : Nat
  source  : Nat
  cls     : Nat
  stream  : Bool
  hops    : Nat
  epoch   : Bool
  kind    : Nat
  length  : Nat
  flow    : Word32
  body    : MsgBody
  /-- Covered by an end-to-end grant (R302). -/
  granted : Bool
  /-- SEQUENCE and KEY_EPOCH on the link it has left by (R293, R295). -/
  seq     : Word32
  keyEpoch : Bool
  deriving DecidableEq, Repr, Inhabited

structure Port where
  link       : LinkState
  reason     : Nat
  /-- Working lanes, a list of lane numbers. -/
  lanes      : List Nat
  peer       : Option (Nat × Nat)
  salt       : List Byte
  /-- The hello received in this bring-up: member, port, salt. -/
  hello      : Option (Nat × Nat × List Byte)
  confirmed  : Bool
  /-- The 64-bit frame counter of each direction (R295). -/
  txCount    : Nat
  rxCount    : Nat
  /-- Unacknowledged frames: (SEQUENCE, frame) (R300). -/
  replay     : List (Word32 × OutFrame)
  /-- Hop credit held, 24 pools in the order of CREDIT (R300). -/
  credits    : List Nat
  badTags    : Nat
  paused     : Bool
  /-- LINK_CONTROL and CREDIT frames sent on this link, oldest first. -/
  control    : List LinkMsg
  /-- SEQUENCE and KEY_EPOCH of each of them. -/
  controlSeq : List (Word32 × Bool)
  /-- Those of this bring-up not yet acknowledged: (SEQUENCE, frame) (R300). -/
  controlOut : List (Word32 × LinkMsg)
  /-- The 10 telemetry values of Table 14.29. -/
  counters   : List Nat
  deriving DecidableEq, Repr, Inhabited

structure Links where
  ports   : List Port
  /-- Frames waiting for a grant, for credit or for a route (R302, R304, R310). -/
  waiting : List OutFrame
  /-- Frames sent, oldest first: (port, frame). -/
  sent    : List (Nat × OutFrame)
  /-- End-to-end grants held and not yet used: (class, pool, flow) to units (R302). -/
  grants  : Assoc (Nat × Nat × Nat) Nat
  /-- The next FLOW value, and the values given: (kind, destination, three words that name the item) (R306). -/
  nextFlow : Word32
  flows    : Assoc (List Nat) Word32
  deriving DecidableEq, Repr, Inhabited

/-! ### Power (11_energy_power_and_heat.md) -/

/-- Unit power states (Table 11.5, Table 14.14). -/
inductive UnitState where
  | off
  | waking
  | on
  | draining
  deriving DecidableEq, Repr, Inhabited

structure PowerUnit where
  state    : UnitState
  /-- An enable recorded in DRAINING or a disable recorded in WAKING (R284). -/
  recorded : Bool
  deriving DecidableEq, Repr, Inhabited

structure Power where
  /-- Budget balances A of C0 to C39 [µJ] (R272). -/
  balance    : List Int
  /-- Voltage levels of the 64 domains, in event DIE order (R268, R273). -/
  levels     : List Nat
  /-- Levels held when a die parked (R274). -/
  parkLevels : List Nat
  /-- Total grant G [µJ] (R271). -/
  total      : Nat
  /-- Rounds a vertex has been held for energy, per compute die (R274), and vertices that passed it (R263). -/
  heldRounds : List Nat
  passed     : List Nat
  /-- The vertex held for energy on each compute die (R263, R274). -/
  heldFor    : List (Option (InstRef × Nat))
  /-- The last junction readings, 64 dies in event DIE order (R281). -/
  junctions  : List Int
  /-- Thermal actions in force on each die: how many of the thresholds 95, 100, 105 and 110 °C (Table 11.4). -/
  thermal    : List Nat
  braked     : Bool
  hysteresis : Bool
  /-- The 110 °C action holds the module at the floor (Table 11.4). -/
  hotFloor   : Bool
  /-- The 74 units of R347. -/
  units      : List PowerUnit
  deriving DecidableEq, Repr, Inhabited

/-! ### Securing (13_securing_state_and_failing_over.md) -/

structure Hank where
  boundary   : Nat
  image      : HankImage
  /-- Protected pages not yet copied into staging, and copies in staging not yet in local flash (R322, R323). -/
  uncopied   : List PageRef
  staged     : List PageRef
  /-- Log versions the hank names (R110). -/
  names      : List (PageRef × Nat)
  denseDone  : Bool
  localDone  : Bool
  buddyDone  : Bool
  fabricDone : Bool
  /-- The job loss of step N + 1, once its commit decision is received (R329). -/
  nextLoss   : Option Word32
  sealedLoss : Option Word32
  unusable   : Bool
  /-- Pages copied for it (R322). -/
  copies     : Nat
  /-- E_step of the round for it: the energy of the 16 steps before its boundary, divided by 16 (R319). -/
  eStep      : Nat
  /-- Its mirror has been sent to the buddy. -/
  sent       : Bool
  deriving DecidableEq, Repr, Inhabited

/-- A mirror received for another member (R326). -/
structure Mirror where
  origin   : Nat
  boundary : Nat
  data     : List HankDataF
  sealedLoss : Option Word32
  deriving DecidableEq, Repr, Inhabited

/-- A restore in progress (R332 to R334). -/
structure Restore where
  sub    : Sub
  image  : HankImage
  source : Nat
  setId  : Nat
  /-- DETAIL_0 of its completion. -/
  newest : Nat
  deriving DecidableEq, Repr, Inhabited

structure Securing where
  hanks      : List Hank
  mirrors    : List Mirror
  lastSched  : Nat
  nextSched  : Option Nat
  /-- The next scheduled boundary was decided by a round (R318, R319). -/
  decided    : Bool
  requested  : List Nat
  /-- Boundary whose securing hold is running (R324). -/
  hold       : Option Nat
  reports    : List (Nat × SecuringReportF)
  /-- Own report of the round has been sent for this hank. -/
  reported   : Option Nat
  failR      : Nat
  failO      : Nat
  restoring  : Option Restore
  /-- The restored boundary and its sealed loss, until step N+1 proves it (R336). -/
  toProve    : Option (Nat × Word32)
  /-- The energy counter at the last 17 boundaries, newest first (R319). -/
  energyAt   : List Nat
  /-- The buddy and the hank mirrored to it last; none before the first full mirror (R326). -/
  mirrored   : Option (Nat × HankImage)
  deriving DecidableEq, Repr, Inhabited

/-! ### Exports and the delta stream (14_host_port_and_configuration.md) -/

structure ExportJob where
  sub       : Sub
  table     : Nat
  version   : Nat
  format    : Nat
  blockLog2 : Nat
  boundary  : Nat
  first     : Nat
  count     : Nat
  stagingOffset : Nat
  stagingLength : Nat
  /-- The boundary has been passed and the rows pinned. -/
  started   : Bool
  /-- Rows still to write: (skein, row, record, poisoned), as they stand at the boundary. -/
  todo      : List (Nat × Nat × List Byte × Bool)
  pinned    : List PageRef
  /-- Copies in hank staging whose rows are still to be written (R365). -/
  staged    : List PageRef
  /-- Log versions the export names (R110). -/
  names     : List (PageRef × Nat)
  written   : Nat
  poisoned  : Nat
  /-- Next free byte in the staging range, and chunks not yet consumed: (ring-10 index, offset, length). -/
  place     : Nat
  chunks    : List (Word32 × Nat × Nat)
  deriving DecidableEq, Repr, Inhabited

structure Outputs where
  exports      : List ExportJob
  deltaOn      : Bool
  deltaGap     : Bool
  /-- A DELTA_CONTROL waiting for the next boundary: the command and start or stop. -/
  deltaPending : List (Sub × Bool)
  deriving DecidableEq, Repr, Inhabited

/-! ### Security (15_trust_and_keys.md) -/

/-- A firmware image's header and hash as the ROM sees it (R388). -/
structure Firmware where
  version    : Nat
  secVersion : Nat
  hash       : List Byte
  /-- Signature, chain and stepping verify. -/
  valid      : Bool
  deriving DecidableEq, Repr, Inhabited

/-- An open firmware transfer (R389). -/
structure Transfer where
  transport : Transport
  length    : Nat
  hash      : List Byte
  bytes     : List Byte
  deriving DecidableEq, Repr, Inhabited

/-- SPDM connection of one transport (R378). -/
structure Spdm where
  version     : Bool
  caps        : Bool
  algs        : Bool
  brainpool   : Bool
  /-- A session: opened by KEY_EXCHANGE (`true` once FINISH has completed it), and its key-update count. -/
  session     : Option Bool
  updates     : Nat
  deriving DecidableEq, Repr, Inhabited

/-- What the responder answered (R378 to R382). -/
inductive Response where
  | module (command result : Nat) (fields : List Byte)
  | version
  | capabilities
  | algorithms (brainpool : Bool)
  | digests (slot0 : List Byte)
  | certificate (portion : List Byte) (remainder : Nat)
  | challengeAuth (certHash : List Byte) (signature : List Byte)
  | measurements (blocks : List (Nat × List Byte)) (signature : Option (List Byte))
  | keyExchangeRsp (exchange : List Byte) (signature : List Byte)
  | finishRsp
  | heartbeatAck
  | keyUpdateAck (operation : Nat)
  | endSessionAck
  | error
  deriving DecidableEq, Repr, Inhabited

structure Security where
  jobKey        : Option (List Byte)
  jobId         : List Byte
  /-- Job identifier under which the flash state was written (R362). -/
  flashOwner    : Option (List Byte)
  running       : Firmware
  boot          : Firmware
  minSecVersion : Nat
  transfer      : Option Transfer
  nonce         : Option (List Byte)
  debugUnlocked : Bool
  debugScope    : List Byte
  /-- Generation of the ephemeral GDDR7, CXL and fabric keys (R386). -/
  keyGeneration : Nat
  doe           : Spdm
  mctp          : Spdm
  /-- Responses sent, oldest first. -/
  responses     : List (Transport × Response)
  deriving DecidableEq, Repr, Inhabited

/-! ### Telemetry (Table 14.29) -/

structure Telemetry where
  metered        : List Nat
  /-- Per tier: promoted in, demoted out, bytes in, bytes out, rows served, updates applied. -/
  tiers          : List (List Nat)
  correctedLines : Nat
  rereadLines    : Nat
  rowsPoisoned   : Nat
  poisonSkips    : Nat
  outOfFootprint : Nat
  sliceMismatch  : Nat
  wearOverdraw   : Nat
  rowAreaBytes   : Nat
  securedBytes   : Nat
  hanksSealed    : Nat
  hanksAbandoned : Nat
  cleanScrubs    : Nat
  deriving DecidableEq, Repr, Inhabited

/-- The machine. -/
structure State where
  /-- Commands waiting, first in first out. -/
  pending   : List Instr
  supply    : Supply
  regs      : Regs
  rings     : Rings
  cfg       : Config
  steps     : Steps
  tables    : Tables
  programs  : Programs
  lattices  : List Lattice
  /-- The 4 GiB device-memory window (R341). -/
  window    : Mem
  /-- Tensor contents by tensor id, in the layout of R50 and R168. -/
  tensors   : Assoc Nat Mem
  spindles  : Spindles
  owners    : Owners
  dense     : Dense
  links     : Links
  power     : Power
  securing  : Securing
  outputs   : Outputs
  security  : Security
  telemetry : Telemetry
  /-- Next sequence number of each of the 64 dies, in event DIE order (R19, R249). -/
  sequences : List Nat
  /-- The model's own counter that free values are taken at; no field of the hardware. -/
  freeCount : Nat
  deriving DecidableEq, Repr, Inhabited

/-- Why a step stops with a fault. -/
inductive Fault where
  /-- Raised by DOORBELL when a host store into the device-memory window names a byte at or above 4 GiB: the spec
  gives the window 4 GiB and no such byte (R341). Safe: nothing can be proved of a run past it. -/
  | windowRange (address : Nat)
  deriving DecidableEq, Repr

/-- Why a command is refused. -/
inductive Refusal where
  /-- Raised by an arm of exec whose command has no meaning yet. Safe. -/
  | notModelled (mnemonic : String)
  deriving DecidableEq, Repr

/-! ### Updates, one per field -/

def State.setSupply (s : State) (v : Supply) : State := { s with supply := v }
def State.setRegs (s : State) (v : Regs) : State := { s with regs := v }
def State.setRings (s : State) (v : Rings) : State := { s with rings := v }
def State.setCfg (s : State) (v : Config) : State := { s with cfg := v }
def State.setSteps (s : State) (v : Steps) : State := { s with steps := v }
def State.setTables (s : State) (v : Tables) : State := { s with tables := v }
def State.setPrograms (s : State) (v : Programs) : State := { s with programs := v }
def State.setLattices (s : State) (v : List Lattice) : State := { s with lattices := v }
def State.setWindow (s : State) (v : Mem) : State := { s with window := v }
def State.setTensors (s : State) (v : Assoc Nat Mem) : State := { s with tensors := v }
def State.setSpindles (s : State) (v : Spindles) : State := { s with spindles := v }
def State.setOwners (s : State) (v : Owners) : State := { s with owners := v }
def State.setDense (s : State) (v : Dense) : State := { s with dense := v }
def State.setLinks (s : State) (v : Links) : State := { s with links := v }
def State.setPower (s : State) (v : Power) : State := { s with power := v }
def State.setSecuring (s : State) (v : Securing) : State := { s with securing := v }
def State.setOutputs (s : State) (v : Outputs) : State := { s with outputs := v }
def State.setSecurity (s : State) (v : Security) : State := { s with security := v }
def State.setTelemetry (s : State) (v : Telemetry) : State := { s with telemetry := v }
def State.setSequences (s : State) (v : List Nat) : State := { s with sequences := v }
def State.setFreeCount (s : State) (v : Nat) : State := { s with freeCount := v }

/-! ### Reset values -/

def Ring.reset : Ring :=
  { base := 0, lineBase := 0, sizeLog2 := 6, enable := false, active := false, halted := false,
    setupStatus := 0xFF, producer := 0, consumer := 0, unaccepted := [] }

def Regs.reset (energy : Word) : Regs :=
  { ready := false, recoveryLoader := false, meshFault := false, jobSet := false, memberCount := 0,
    memberNumber := 0, jobSeed := 0, listAddress := 0, fabricBase := 0, fabricLength := 0, commitStatus := 0xFF,
    members := [], energyCount := energy, energyLatch := none, energyRead := 0, requestStatus := 0xFF,
    memPorts := List.replicate 2 { present := false, capacityGB := 0, lanes := 0, rate := 0, failed := false },
    widths := List.replicate 40 (List.replicate 64 0), bypass := [], chords := List.replicate 112 0 }

def Rings.reset : Rings :=
  { ring := List.replicate 12 Ring.reset, accepted := [], completions := [], events := [], exports := [],
    deltas := [], heldEvents := [], heldDone := [] }

def SecurePolicy.default_ : SecurePolicy :=
  { mode := 0, hanksKept := 3, stagingGB := 6, fabric := false, pinnedInterval := 1000, initialInterval := 200,
    priorSteps := 100000, fabricOffset := 0, fabricLength := 0 }

def Config.reset : Config :=
  { skeinMaps := [], routes := [], routeSet := false, prevRoutes := none, routeEpoch := false, routeDue := none,
    lossPolicy := { fixed := false, exponent := 0xFF, minExponent := 0, maxExponent := 24, growth := 2000 },
    capWatts := 600, maxLevel := 7, secure := SecurePolicy.default_, pooling := [],
    window := List.replicate 8 20, bobbin := List.replicate 16 64, opt := [], deltaTables := [], evalPolicy := 4,
    buddies := none, sets := [], commitOrder := [], commitBehind := [] }

def Inst.fresh (ref : InstRef) (lattice : Nat) : Inst :=
  { ref := ref, lattice := lattice, running := [], retired := [] }

def Steps.reset : Steps :=
  { a := 0, c := 0, admitted := [], evals := [], exponent := 15, clean := 0, jobLoss := 0, evalSet := [], reports := [],
    decision := none, halted := false, lost := false }

def Owners.reset : Owners :=
  { requests := [], entries := [], streams := [], arrived := [], arrivedEval := [], era := 0, granted := [],
    withheld := [], dieOf := [], rowCounts := [] }

def Tables.reset (older : List (PageRef × Nat)) : Tables :=
  { versions := [], pages := [], older := older, wear := 12000000000000, leaving := [], arriving := [], landed := [], spareLow := false }

def Spindles.reset : Spindles :=
  { contexts := [], idle := [], issued := [], sram := [], slivers := [], counters := [], queues := [],
    breaks := [none, none, none, none], stopped := false }

def Port.reset : Port :=
  { link := .training, reason := 0, lanes := [], peer := none, salt := [], hello := none, confirmed := false,
    txCount := 0, rxCount := 0, replay := [], credits := List.replicate 24 0,
    badTags := 0, paused := false, control := [], controlSeq := [], controlOut := [], counters := List.replicate 10 0 }

def Links.reset : Links :=
  { ports := List.replicate 16 Port.reset, waiting := [], sent := [], grants := [], nextFlow := 0,
    flows := [] }

/-- Units after reset: link and memory ports WAKING with the sequence (R361); the rest ON. -/
def unitsAfterReset : List PowerUnit :=
  List.replicate 18 { state := .waking, recorded := false } ++
  List.replicate 56 { state := .on, recorded := false }

def Power.reset : Power :=
  { balance := List.replicate 40 0, levels := List.replicate 64 4, parkLevels := List.replicate 40 4, total := 0,
    heldRounds := List.replicate 40 0, passed := List.replicate 40 0, heldFor := List.replicate 40 none, junctions := List.replicate 64 0, thermal := List.replicate 64 0,
    braked := false, hysteresis := false, hotFloor := false, units := unitsAfterReset }

def Securing.reset : Securing :=
  { hanks := [], mirrors := [], lastSched := 0, nextSched := some 200, decided := false, requested := [], hold := none, reports := [],
    reported := none, failR := 0, failO := 0, restoring := none, toProve := none, energyAt := [],
    mirrored := none }

def Outputs.reset : Outputs :=
  { exports := [], deltaOn := false, deltaGap := false, deltaPending := [] }

def Spdm.reset : Spdm :=
  { version := false, caps := false, algs := false, brainpool := false, session := none, updates := 0 }

/-- The firmware the module was delivered with; the manual fixes none of its values (Table 14.3). -/
def Firmware.delivered : Firmware :=
  { version := 0, secVersion := 0, hash := List.replicate 48 0, valid := true }

def Security.reset : Security :=
  { jobKey := none, jobId := List.replicate 16 0, flashOwner := none, running := Firmware.delivered,
    boot := Firmware.delivered, minSecVersion := 0, transfer := none, nonce := none, debugUnlocked := false,
    debugScope := [], keyGeneration := 0, doe := Spdm.reset, mctp := Spdm.reset, responses := [] }

def Telemetry.reset : Telemetry :=
  { metered := List.replicate 42 0, tiers := List.replicate 4 (List.replicate 6 0), correctedLines := 0,
    rereadLines := 0, rowsPoisoned := 0, poisonSkips := 0, outOfFootprint := 0, sliceMismatch := 0,
    wearOverdraw := 0, rowAreaBytes := 0, securedBytes := 0, hanksSealed := 0, hanksAbandoned := 0,
    cleanScrubs := 0 }

def Supply.reset : Supply :=
  { inputPresent := true, mateJoined := true, switchClosed := true, openCause := .none, corePower := true,
    thermTrip := false, perst := false, brakePin := false, inReset := true, causes := [], lastReset := 1 }

/-- The module right after a power-on reset, its sequence running and READY 0 (R359 to R361). -/
def State.reset : State :=
  { pending := [], supply := Supply.reset, regs := Regs.reset 0, rings := Rings.reset, cfg := Config.reset,
    steps := Steps.reset, tables := Tables.reset [], programs := { images := [], waiting := [], unloads := [] },
    lattices := [], window := [], tensors := [], spindles := Spindles.reset,
    owners := Owners.reset,
    dense := { nodes := [], replicas := [], slots := [], granted := [] }, links := Links.reset, power := Power.reset,
    securing := Securing.reset, outputs := Outputs.reset, security := Security.reset, telemetry := Telemetry.reset,
    sequences := List.replicate 64 1, freeCount := 0 }

end Sys2Proof.Machine
end

