-- ==== Sys2Proof/Machine/Bits.lean ====
section
/-! DEFINITION. Bit fields, little-endian bytes (R7), list and map helpers, byte memory and CRC-32C. -/

namespace Sys2Proof.Machine

/-- Bits `lo .. lo + n - 1` of a number, read as a number (R7). -/
def bits (v lo n : Nat) : Nat := (v >>> lo) % 2 ^ n

/-- Whether bit `i` is 1. -/
def bitAt (v i : Nat) : Bool := v.testBit i

/-- A field of `n` bytes at byte offset `off` of a little-endian structure held as one number (R7). -/
def bytesField (v off n : Nat) : Nat := bits v (8 * off) (8 * n)

/-- The `n` little-endian bytes of a number (R7). -/
def leBytes : Nat → Nat → List Byte
  | 0, _ => []
  | n + 1, v => BitVec.ofNat 8 v :: leBytes n (v >>> 8)

/-- The number that little-endian bytes hold (R7). -/
def leNat : List Byte → Nat
  | [] => 0
  | b :: bs => b.toNat + 256 * leNat bs

/-- `n` little-endian bytes at offset `off` of a byte list; bytes beyond its end read as 0. -/
def leAt (bs : List Byte) (off n : Nat) : Nat := leNat ((bs.drop off).take n)

/-- A signed reading of an `n`-bit number. -/
def signedOf (n v : Nat) : Int := if v < 2 ^ (n - 1) then (v : Int) else (v : Int) - 2 ^ n

/-- An integer modulo 2^n. -/
def wrapInt (n : Nat) (v : Int) : Nat := (v % (2 ^ n : Nat)).toNat

def ceilDiv (a b : Nat) : Nat := (a + b - 1) / b

/-- The smallest multiple of `m` not below `a`. -/
def alignUp (a m : Nat) : Nat := ceilDiv a m * m

/-- Number of one bits. -/
def popcount : Nat → Nat → Nat
  | 0, _ => 0
  | n + 1, v => v % 2 + popcount n (v / 2)

/-- Element `i`, or a default. -/
def nth {α : Type} (l : List α) (i : Nat) (d : α) : α := (l[i]?).getD d

/-- Change element `i`. -/
def modifyAt {α : Type} (l : List α) (i : Nat) (f : α → α) : List α :=
  match l[i]? with
  | some x => l.set i (f x)
  | none => l

def sumOf (l : List Nat) : Nat := l.foldl (· + ·) 0

def maxOf (l : List Nat) : Nat := l.foldl Nat.max 0

/-- No element appears twice. -/
def allDistinct {α : Type} [DecidableEq α] : List α → Bool
  | [] => true
  | x :: xs => !(xs.contains x) && allDistinct xs

/-- Strictly ascending. -/
def ascending : List Nat → Bool
  | [] => true
  | [_] => true
  | x :: y :: r => x < y && ascending (y :: r)

/-- Insert into an ascending list, once. -/
def insertAsc (x : Nat) : List Nat → List Nat
  | [] => [x]
  | y :: r => if x < y then x :: y :: r else if x == y then y :: r else y :: insertAsc x r

/-- The ascending list of the distinct elements. -/
def sortDistinct (l : List Nat) : List Nat := l.foldl (fun acc x => insertAsc x acc) []

/-- Insert by a key, after equal keys. -/
def insertBy {α : Type} (le : α → α → Bool) (x : α) : List α → List α
  | [] => [x]
  | y :: r => if le y x then y :: insertBy le x r else x :: y :: r

/-- Stable sort by an order given as "not above". -/
def sortBy {α : Type} (le : α → α → Bool) (l : List α) : List α := l.foldl (fun acc x => insertBy le x acc) []

/-- Cut a list into pieces of `n` (the last may be shorter); `fuel` bounds the pieces. -/
def chunksOf {α : Type} (n : Nat) : Nat → List α → List (List α)
  | 0, _ => []
  | fuel + 1, l => if l.isEmpty then [] else l.take n :: chunksOf n fuel (l.drop n)

/-! ### Maps -/

/-- The value of a key. -/
def aGet {κ α : Type} [DecidableEq κ] (m : Assoc κ α) (k : κ) : Option α :=
  match m with
  | [] => none
  | (k', v) :: r => if k' = k then some v else aGet r k

/-- Set a key's value, in place where the key is listed. -/
def aPut {κ α : Type} [DecidableEq κ] (m : Assoc κ α) (k : κ) (v : α) : Assoc κ α :=
  match m with
  | [] => [(k, v)]
  | (k', v') :: r => if k' = k then (k, v) :: r else (k', v') :: aPut r k v

/-- Remove a key. -/
def aDel {κ α : Type} [DecidableEq κ] (m : Assoc κ α) (k : κ) : Assoc κ α := m.filter (fun p => p.1 ≠ k)

/-! ### Byte memory -/

/-- The byte at an address; an unlisted address reads 0. -/
def memRead (m : Mem) (a : Nat) : Byte :=
  match m with
  | [] => 0
  | (a', b) :: r => if a' = a then b else memRead r a

/-- Write one byte, keeping addresses rising and no zero listed. -/
def memWrite (m : Mem) (a : Nat) (b : Byte) : Mem :=
  match m with
  | [] => if b = 0 then [] else [(a, b)]
  | (a', b') :: r =>
    if a < a' then (if b = 0 then (a', b') :: r else (a, b) :: (a', b') :: r)
    else if a = a' then (if b = 0 then r else (a, b) :: r)
    else (a', b') :: memWrite r a b

def memReads (m : Mem) (a : Nat) : Nat → List Byte
  | 0 => []
  | n + 1 => memRead m a :: memReads m (a + 1) n

def memWrites (m : Mem) (a : Nat) : List Byte → Mem
  | [] => m
  | b :: bs => memWrites (memWrite m a b) (a + 1) bs

/-- A little-endian number of `n` bytes in memory. -/
def memNat (m : Mem) (a n : Nat) : Nat := leNat (memReads m a n)

/-- The canonical form: addresses strictly above `lo`, rising, and no zero byte listed. -/
def memWfAbove : Option Nat → Mem → Bool
  | _, [] => true
  | lo, (a, b) :: r => (match lo with | none => true | some l => decide (l < a)) && b != 0 && memWfAbove (some a) r

/-- Memory is in canonical form. -/
def memWf (m : Mem) : Bool := memWfAbove none m

/-! ### CRC-32C (Castagnoli), as R204 and R253 name it -/

def crcBit (c : Nat) : Nat := if c % 2 = 1 then (c >>> 1) ^^^ 0x82F63B78 else c >>> 1

def crcByte (c : Nat) (b : Byte) : Nat :=
  crcBit (crcBit (crcBit (crcBit (crcBit (crcBit (crcBit (crcBit (c ^^^ b.toNat))))))))

def crc32c (bs : List Byte) : Nat := (bs.foldl crcByte 0xFFFFFFFF) ^^^ 0xFFFFFFFF

end Sys2Proof.Machine
end

