-- ==== Sys2Proof/Machine/Aes.lean ====
section
/-! DEFINITION. AES-256, XTS on a 64-byte line and CMAC: the protection of a stored line (R387), and the derived keys of
Table 15.6 (R385). -/

namespace Sys2Proof.Machine

/-! ### AES-256 -/

def xtime (b : Nat) : Nat := if b < 128 then 2 * b else (2 * b) % 256 ^^^ 0x1B

def gmul : Nat → Nat → Nat → Nat
  | 0, _, _ => 0
  | n + 1, a, b => (if b % 2 = 1 then a else 0) ^^^ gmul n (xtime a) (b / 2)

def gfMul (a b : Nat) : Nat := gmul 8 a b

/-- The inverse in GF(2^8): the 254th power. -/
def gfInv (a : Nat) : Nat :=
  let a2 := gfMul a a
  let a4 := gfMul a2 a2
  let a8 := gfMul a4 a4
  let a16 := gfMul a8 a8
  let a32 := gfMul a16 a16
  let a64 := gfMul a32 a32
  let a128 := gfMul a64 a64
  gfMul a128 (gfMul a64 (gfMul a32 (gfMul a16 (gfMul a8 (gfMul a4 a2)))))

def rot8 (b k : Nat) : Nat := (b * 2 ^ k) % 256 + b / 2 ^ (8 - k)

def sbox (b : Nat) : Nat :=
  let i := gfInv b
  i ^^^ rot8 i 1 ^^^ rot8 i 2 ^^^ rot8 i 3 ^^^ rot8 i 4 ^^^ 0x63

def xorList (a b : List Nat) : List Nat := List.zipWith (· ^^^ ·) a b

/-- The key schedule: words of four bytes, most recent last; `i` counts words. -/
def expandKey : Nat → Nat → Nat → List (List Nat) → List (List Nat)
  | 0, _, _, w => w
  | n + 1, i, rcon, w =>
    let t := nth w (w.length - 1) []
    let o := nth w (w.length - 8) []
    if i % 8 = 0 then
      let r := (t.drop 1 ++ t.take 1).map sbox
      expandKey n (i + 1) (xtime rcon) (w ++ [xorList o (xorList r [rcon, 0, 0, 0])])
    else if i % 8 = 4 then expandKey n (i + 1) rcon (w ++ [xorList o (t.map sbox)])
    else expandKey n (i + 1) rcon (w ++ [xorList o t])

/-- The 15 round keys of 16 bytes. -/
def roundKeys (key : List Byte) : List (List Nat) :=
  let w := chunksOf 4 8 (key.map BitVec.toNat)
  chunksOf 16 15 (expandKey 52 8 1 w).flatten

def shiftRows (b : List Nat) : List Nat := (List.range 16).map (fun i => nth b ((i + 4 * (i % 4)) % 16) 0)

def mixColumn (c : List Nat) : List Nat :=
  (List.range 4).map (fun i =>
    gfMul 2 (nth c i 0) ^^^ gfMul 3 (nth c ((i + 1) % 4) 0) ^^^ nth c ((i + 2) % 4) 0 ^^^ nth c ((i + 3) % 4) 0)

def aesRounds : List (List Nat) → List Nat → List Nat
  | [], b => b
  | [k], b => xorList (shiftRows (b.map sbox)) k
  | k :: r, b => aesRounds r (xorList ((chunksOf 4 4 (shiftRows (b.map sbox))).flatMap mixColumn) k)

/-- AES-256 on one block. -/
def aes256 (key : List Byte) (block : List Nat) : List Nat :=
  match roundKeys key with
  | [] => block
  | k :: r => aesRounds r (xorList block k)

/-! ### XTS and CMAC -/

/-- The next tweak: multiplication by x, first byte least significant. -/
def xtsNext (t : List Nat) : List Nat :=
  let v := leNat (t.map (BitVec.ofNat 8))
  let d := (2 * v) % 2 ^ 128 ^^^ (if v < 2 ^ 127 then 0 else 0x87)
  (leBytes 16 d).map BitVec.toNat

def xtsBlocks (k1 : List Byte) : List Nat → List (List Nat) → List Nat
  | _, [] => []
  | t, p :: r => xorList (aes256 k1 (xorList p t)) t ++ xtsBlocks k1 (xtsNext t) r

/-- AES-256-XTS encryption of a line under a 64-byte key pair. -/
def xtsEncrypt (key : List Byte) (tweak line : List Byte) : List Byte :=
  let t := aes256 (key.drop 32) (tweak.map BitVec.toNat)
  (xtsBlocks (key.take 32) t (chunksOf 16 4 (line.map BitVec.toNat))).map (BitVec.ofNat 8)

/-- CMAC subkeys: multiplication by x, first byte most significant. -/
def cmacDouble (b : List Nat) : List Nat :=
  let v := leNat ((b.map (BitVec.ofNat 8)).reverse)
  let d := (2 * v) % 2 ^ 128 ^^^ (if v < 2 ^ 127 then 0 else 0x87)
  (leBytes 16 d).reverse.map BitVec.toNat

/-- AES-256-CMAC of a message whose length is no multiple of 16. -/
def cmac (key msg : List Byte) : List Byte :=
  let k2 := cmacDouble (cmacDouble (aes256 key (List.replicate 16 0)))
  let bs := chunksOf 16 msg.length (msg.map BitVec.toNat)
  let last := nth bs (bs.length - 1) []
  let pad := (last ++ [0x80] ++ List.replicate 16 0).take 16
  let c := (bs.take (bs.length - 1)).foldl (fun c b => aes256 key (xorList c b)) (List.replicate 16 0)
  (aes256 key (xorList c (xorList pad k2))).map (BitVec.ofNat 8)

/-! ### Derived keys (R385) -/

def asciiBytes (t : String) : List Byte := t.toList.map (fun c => BitVec.ofNat 8 c.toNat)

/-- HKDF_Expand of HKDF_Extract, as R385 writes it. -/
def derivedKey (jobKey : List Byte) (label : String) (context : List Byte) (len : Nat) : List Byte :=
  hkdf384 (asciiBytes "Tolelle BP64 job key") jobKey (asciiBytes label ++ [0] ++ context) len

/-- The job identifier of a job key (Table 15.6). -/
def jobIdentifier (jobKey : List Byte) : List Byte := derivedKey jobKey "job-id" [] 16

/-- The key of hank N of a member (Table 15.6). -/
def hankKey (jobKey : List Byte) (member boundary : Nat) : List Byte :=
  derivedKey jobKey "hank" (leBytes 2 member ++ leBytes 8 boundary) 96

/-- A stored line of a hank with its tag (R387, Table 15.8). -/
def hankLine (key : List Byte) (position line : Nat) (plain : List Byte) : List Byte × Word :=
  let tweak := leBytes 8 position ++ leBytes 8 line
  let c := xtsEncrypt (key.take 64) tweak plain
  (c, BitVec.ofNat 64 (leNat ((cmac (key.drop 64) (tweak ++ leBytes 8 0 ++ c)).take 8)))

end Sys2Proof.Machine
end

