-- ==== Sys2Proof/Config.lean ====
section
/-! DEFINITION. What the spec fixes as constants of the part, and the FREE VALUES: opaque constants with no body, so
that nothing can be proved of the values they stand for. Each names the point the spec leaves open. -/

namespace Sys2Proof.Constants

/-- Members of a job (R22), compute dies, spindles per die, contexts per spindle (Tables 1.2, 1.3, 8.1). -/
def maxMembers : Nat := 4096
def computeDies : Nat := 40
def spindlesPerDie : Nat := 64
def contextsPerSpindle : Nat := 4
def syncCounters : Nat := 48
def arrayQueueDepth : Nat := 16
def moveQueueDepth : Nat := 32

/-- The device-memory window: 4 GiB (R341). -/
def windowBytes : Nat := 2 ^ 32

/-- Most accepted and uncompleted commands (R247) and held events (R251). -/
def maxAccepted : Nat := 4096
def maxHeldEvents : Nat := 4096

/-- GDDR7 capacity for the uses of Table 5.9, in bytes: 96 x 10^9 x 16 / 19 - 2^32, rounded down (R114). -/
def gddrCapacity : Nat := 96 * 10 ^ 9 * 16 / 19 - 2 ^ 32

/-- The 1 GB floor of the row area (R114). -/
def rowAreaFloor : Nat := 10 ^ 9

/-- Flash row area 16 TB, secured-state area 4 TB (Table 1.4, R328). -/
def flashRowArea : Nat := 16 * 10 ^ 12
def securedArea : Nat := 4 * 10 ^ 12
def flashSpare : Nat := 4 * 10 ^ 12

/-- A table page: 64 KiB (R98). -/
def pageBytes : Nat := 65536

/-- Budget ceiling of a compute die: 4,096 µJ (R272). -/
def budgetCeiling : Nat := 4096

/-- Brake floor: 150 W (R269, R278). -/
def brakeFloorWatts : Nat := 150

/-- Image slots and granules of an instruction store (09_ply.md, before R228). -/
def imageSlots : Nat := 16
def granules : Nat := 128

end Sys2Proof.Constants

namespace Sys2Proof.Free

/-- Result of exp2 (operation 0) and log2 (operation 1) on an operand for which R189 states no value: an infinity
or, for log2, a value not above zero. Takes the operand's binary32 bits. -/
opaque transcendental : Nat → BitVec 32 → BitVec 32

/-- Which non-finite value a division by zero or the square root of a negative value gives: R137 calls it non-finite
and says no more. Read mod 3: 0 the canonical NaN, 1 +infinity, 2 -infinity. Takes the operands' encodings. -/
opaque nonFinite : Nat → Nat → Nat

/-- Sign of the square root of -0 (R189 states none). -/
opaque sqrtMinusZero : Bool

/-- The order in which the rows of one skein of a version are placed on its pages: the module's own choice (R98).
Takes table, version, row; rows are placed in ascending key, then row. -/
opaque pageOrder : Nat → Nat → Nat → Nat

/-- Cyfaben's energy figure of an instruction that is no array product, in fJ (R225: not documented). -/
opaque instructionEnergy : BitVec 64 → Nat

/-- Scale tag after a predicated 8-bit MOV or SEL: the tags of its sources or of the source and the old destination, and the
predicate (R188 speaks of lanes only). -/
opaque mixedTag : BitVec 32 → BitVec 32 → BitVec 64 → BitVec 32

/-- Whose counter a SIGNAL of a vertex of a co-dispatch group reaches, among the group's spindles that hold the counter:
format S names no spindle (R198, R217). Takes image slot, vertex, CODE slot; read modulo their number. -/
opaque signalSpindle : Nat → Nat → Nat → Nat

/-- Whether a converting TSTORE from the 16-bit view reads its lanes as binary16, by the target's format code: format T
has no field that names the lane format (R186, R218). -/
opaque storeLaneHalf : Nat → Bool

/-- The per-row values of a normalised or soft-maximum row (R169, R223 name them and state no order of operations), as
binary32 bits: its statistics (0 the mean or the inverse root mean square; 1 the inverse deviation) from
layer kind, EPS and input row; the exponentials from input row, maximum and element; their sum; and element `j` of the
output row before its conversion from kind, statistics, exponentials, input, gain and shift row. -/
opaque layerStat : Nat → BitVec 16 → List (BitVec 32) → Nat → BitVec 32
opaque layerExp : List (BitVec 32) → BitVec 32 → Nat → BitVec 32
opaque layerSum : List (BitVec 32) → BitVec 32
opaque layerValue : Nat → List (BitVec 32) → List (BitVec 32) → List (BitVec 32) → List (BitVec 32) → List (BitVec 32) → Nat →
  BitVec 32

/-- The E3M2 or E2M1 code written for a NaN lane by an unconverted TSTORE, by format code (R218 speaks of values). -/
opaque packNaN : Nat → Nat

/-- The contents of a UNIT tensor as (byte, value) pairs, zero elsewhere: the layout of units and gradients in it is not
stated (R139, Table 9.6). Takes the units' records and summed gradients as bytes. -/
opaque unitImage : List (BitVec 8) → List (Nat × BitVec 8)

/-- Which cells a store to a UNIT tensor at an element index writes: unit ordinal, part (0 elements, k + 1 state slot
k) and first element in it. Takes the target and the number of units. -/
opaque unitCell : Nat → Nat → Nat → Nat × Nat × Nat

/-- The constant count of a LOOP at an index of a function's code, where the translator can see one (R225 says that
it may; what it can see is not stated). -/
opaque loopCount : List (BitVec 64) → Nat → Option Nat

/-- How far a grant round moves the total grant (R271 gives the direction only): previous grant, limit and power in
mW. The move is one more than this. -/
opaque grantMove : Nat → Nat → Nat → Nat

/-- Random bytes of the security block (R290 salts, R393 nonces, SPDM nonces): draw number, byte place. -/
opaque randomByte : Nat → Nat → BitVec 8

/-- Whether a firmware image's signature, chain and stepping verify (R388), and what its header says: FIRMWARE_VERSION
and security version. The header's layout is not in the manual. -/
opaque imageVerifies : List (BitVec 8) → Bool
opaque imageVersion : List (BitVec 8) → Nat
opaque imageSecurityVersion : List (BitVec 8) → Nat

/-- Whether a debug token's signature and chain verify and its identity and measurement are this module's, the nonce
it names, and its scope (R393). The token's layout is not in the manual. -/
opaque tokenVerifies : List (BitVec 8) → List (BitVec 8) → Bool
opaque tokenNonce : List (BitVec 8) → List (BitVec 8)
opaque tokenScope : List (BitVec 8) → List (BitVec 8)

/-- The DER bytes of the certificate chain of slot 0 for a firmware measurement (Table 15.1), the SHA-384 of the ROM,
an alias-key signature over a transcript (R377), and an ECDHE share (R378). -/
opaque certificateChain : List (BitVec 8) → List (BitVec 8)
opaque romHash : List (BitVec 8)
opaque aliasSignature : List (BitVec 8) → List (BitVec 8)
opaque exchangeShare : Nat → List (BitVec 8)

/-- Whether a FINISH's verify data is right for the session it closes (R378: the SPDM standard's own check). -/
opaque finishVerifies : List (BitVec 8) → Bool

/-- Which link die merges a table at first, the die to which a boundary balances it by the row counts seen, and which holds
a dense node (R123: the module's assignment). The balance takes the tables' row counts and the table. -/
opaque mergeDie : Nat → Nat
opaque balancedDie : List (Nat × Nat) → Nat → Nat
opaque nodeDie : Nat → Nat

/-- Row requests that another member sends this owner in a step, and for the agreed evaluations of a boundary: how an owner
knows that all have come is not stated (R30, R32, R87). Takes the restores so far, the step or boundary, the member. -/
opaque requestsSent : Nat → Nat → Nat → Nat
opaque evalRequestsSent : Nat → Nat → Nat → Nat

/-- The FLOW that another member gives an item it sends, by member and item: how the granting member knows it before the
first frame is not stated (R302, R306). -/
opaque peerFlow : Nat → List Nat → BitVec 32

/-- Bytes of live page versions that a reclamation of the flash log moves within flash (R110, R112): the module's own
choice, taken at the free-value counter, in pages. -/
opaque reclaimedPages : Nat → Nat

/-- The memory port that holds a page placed in CXL port memory: the module's own choice (R105). Takes table, version,
skein, page. -/
opaque pagePort : Nat → Nat → Nat → Nat → Nat

/-- The NAND channels on which a table page stands (R110 writes it on four; which, the module chooses). Takes table,
version, skein, page and 0 to 3; read mod 16. -/
opaque flashChannel : Nat → Nat → Nat → Nat → Nat → Nat

/-- The energy metered for the securing work of a hank, in µJ (R319): the reading of the module's own meters, taken at the
free-value counter. -/
opaque securingEnergy : Nat → Nat

/-- Whether an assertion of PERST_N of 1 to 10 µs (Table 16.6), or of PWR_BRAKE_N of 0.5 to 2 µs (R278), is acted
on. Takes the pin (0 PERST_N, 1 PWR_BRAKE_N), the length in ns and the free-value counter. -/
opaque shortPulse : Nat → Nat → Nat → Bool


end Sys2Proof.Free
end

