-- ==== Sys2Proof/Machine/Float.lean ====
section
/-! DEFINITION. Floating values exactly, the formats of Tables 3.2 and 3.3, round to nearest even, and the lane and
array arithmetic of R47, R63, R189. -/

namespace Sys2Proof.Machine

/-- The exact value of an encoding: NaN, an infinity, or (-1)^neg x man x 2^exp. A zero keeps its sign. -/
inductive FVal where
  | nan
  | inf (neg : Bool)
  | fin (neg : Bool) (man : Nat) (exp : Int)
  deriving DecidableEq, Repr, Inhabited

/-- Exponent bits, fraction bits and bias of a format. -/
structure FFmt where
  ebits : Nat
  fbits : Nat
  bias  : Nat
  deriving DecidableEq, Repr

/-- The unblocked formats (Table 3.2). -/
def bf16F : FFmt := { ebits := 8, fbits := 7, bias := 127 }
def halfF : FFmt := { ebits := 5, fbits := 10, bias := 15 }
def singleF : FFmt := { ebits := 8, fbits := 23, bias := 127 }

/-- The floating element formats (Table 3.3). -/
def e4m3F : FFmt := { ebits := 4, fbits := 3, bias := 7 }
def e5m2F : FFmt := { ebits := 5, fbits := 2, bias := 15 }
def e3m2F : FFmt := { ebits := 3, fbits := 2, bias := 3 }
def e2m1F : FFmt := { ebits := 2, fbits := 1, bias := 1 }

def FVal.negative (x : FVal) : Bool :=
  match x with
  | .fin neg _ _ => neg
  | .inf neg => neg
  | .nan => false

def zeroV : FVal := .fin false 0 0
def oneV : FVal := .fin false 1 0

/-- Magnitude field of an encoding as a value, with no special encodings. -/
def fieldsValue (f : FFmt) (neg : Bool) (e m : Nat) : FVal :=
  if e = 0 then .fin neg m (1 - (f.bias : Int) - f.fbits)
  else .fin neg (2 ^ f.fbits + m) ((e : Int) - f.bias - f.fbits)

/-- Decode an IEEE encoding (R46); every NaN is the one NaN (R47). -/
def decodeF (f : FFmt) (v : Nat) : FVal :=
  let m := bits v 0 f.fbits
  let e := bits v f.fbits f.ebits
  let neg := bitAt v (f.fbits + f.ebits)
  if e = 2 ^ f.ebits - 1 then (if m = 0 then .inf neg else .nan) else fieldsValue f neg e m

def signBit (f : FFmt) (neg : Bool) : Nat := if neg then 2 ^ (f.fbits + f.ebits) else 0

def infBits (f : FFmt) (neg : Bool) : Nat := signBit f neg + (2 ^ f.ebits - 1) * 2 ^ f.fbits

/-- The canonical quiet NaN (R47). -/
def nanBits (f : FFmt) : Nat := (2 ^ f.ebits - 1) * 2 ^ f.fbits + 2 ^ (f.fbits - 1)

/-- `m x 2^k` shifted right to the nearest integer, ties to even: m / 2^s. -/
def shiftRne (m s : Nat) : Nat :=
  let q := m >>> s
  let r := m % 2 ^ s
  let half := 2 ^ s / 2
  if s = 0 then m else if r < half then q else if half < r then q + 1 else q + q % 2

/-- Encode a magnitude `q x 2^u`, `u` the unit in the last place of its binade; a carry into the next binade and a
subnormal fall out of the addition. -/
def packMag (f : FFmt) (q : Nat) (u : Int) : Nat :=
  q + (u + f.fbits + f.bias - 1).toNat * 2 ^ f.fbits

/-- The exponent of the unit in the last place for a magnitude `m x 2^e`. -/
def ulpExp (f : FFmt) (m : Nat) (e : Int) : Int :=
  max ((Nat.log2 m : Int) + e) (1 - (f.bias : Int)) - f.fbits

/-- Round an exact value to nearest even and encode it (R46, R47). -/
def encodeRne (f : FFmt) (v : FVal) : Nat :=
  match v with
  | .nan => nanBits f
  | .inf neg => infBits f neg
  | .fin neg m e =>
    if m = 0 then signBit f neg
    else
      let u := ulpExp f m e
      let q := if u ≤ e then m <<< (e - u).toNat else shiftRne m (u - e).toNat
      let b := packMag f q u
      if infBits f false ≤ b then infBits f neg else signBit f neg + b

/-- The value nearest to `v` in a format. -/
def roundTo (f : FFmt) (v : FVal) : FVal := decodeF f (encodeRne f v)

/-- binary32 rounding, as the pseudocode's r32. -/
def r32 (v : FVal) : FVal := roundTo singleF v

def of32 (w : Word32) : FVal := decodeF singleF w.toNat
def to32 (v : FVal) : Word32 := BitVec.ofNat 32 (encodeRne singleF v)
def ofBf16 (w : BitVec 16) : FVal := decodeF bf16F w.toNat

def FVal.finite : FVal → Bool
  | .fin _ _ _ => true
  | _ => false

def FVal.neg : FVal → FVal
  | .nan => .nan
  | .inf s => .inf (!s)
  | .fin s m e => .fin (!s) m e

def FVal.abs : FVal → FVal
  | .nan => .nan
  | .inf _ => .inf false
  | .fin _ m e => .fin false m e

def FVal.isNeg : FVal → Bool
  | .nan => false
  | .inf s => s
  | .fin s _ _ => s

/-- The integer `(-1)^neg m x 2^(e - base)` for `base ≤ e`. -/
def scaled (neg : Bool) (m : Nat) (e base : Int) : Int :=
  let k : Int := ((m <<< (e - base).toNat : Nat) : Int)
  if neg then -k else k

/-- Exact sum; opposite infinities give NaN (R63); an exact zero is -0 only for two negative terms. -/
def FVal.add (x y : FVal) : FVal :=
  match x, y with
  | .nan, _ => .nan
  | _, .nan => .nan
  | .inf s, .inf t => if s = t then .inf s else .nan
  | .inf s, _ => .inf s
  | _, .inf t => .inf t
  | .fin s m e, .fin t n d =>
    let b := min e d
    let k := scaled s m e b + scaled t n d b
    if k = 0 then .fin (s && t) 0 0 else .fin (decide (k < 0)) k.natAbs b

def FVal.sub (x y : FVal) : FVal := x.add y.neg

/-- Exact product; zero times infinity is NaN. -/
def FVal.mul (x y : FVal) : FVal :=
  match x, y with
  | .nan, _ => .nan
  | _, .nan => .nan
  | .inf s, .inf t => .inf (s != t)
  | .inf s, .fin t n _ => if n = 0 then .nan else .inf (s != t)
  | .fin s m _, .inf t => if m = 0 then .nan else .inf (s != t)
  | .fin s m e, .fin t n d => .fin (s != t) (m * n) (e + d)

/-- Whether x < y; false with a NaN. -/
def FVal.lt (x y : FVal) : Bool :=
  match x, y with
  | .nan, _ => false
  | _, .nan => false
  | .inf s, .inf t => s && !t
  | .inf s, _ => s
  | _, .inf t => !t
  | .fin s m e, .fin t n d => let b := min e d; decide (scaled s m e b < scaled t n d b)

/-- Whether x and y are numerically equal; false with a NaN. -/
def FVal.eqv (x y : FVal) : Bool :=
  match x, y with
  | .nan, _ => false
  | _, .nan => false
  | .inf s, .inf t => s == t
  | .inf _, _ => false
  | _, .inf _ => false
  | .fin s m e, .fin t n d => let b := min e d; decide (scaled s m e b = scaled t n d b)

def FVal.le (x y : FVal) : Bool := x.lt y || x.eqv y

def FVal.unordered (x y : FVal) : Bool :=
  match x, y with
  | .nan, _ => true
  | _, .nan => true
  | _, _ => false

/-- Minimum: with one NaN the other operand, and -0 below +0 (R189). -/
def FVal.minimum (x y : FVal) : FVal :=
  match x, y with
  | .nan, _ => y
  | _, .nan => x
  | _, _ => if x.eqv y then (if x.isNeg then x else y) else if x.lt y then x else y

/-- Maximum: with one NaN the other operand, and +0 above -0 (R189). -/
def FVal.maximum (x y : FVal) : FVal :=
  match x, y with
  | .nan, _ => y
  | _, .nan => x
  | _, _ => if x.eqv y then (if x.isNeg then y else x) else if x.lt y then y else x

/-- The non-finite value that a choice names (Free.nonFinite). -/
def nonFiniteOf (k : Nat) : FVal := if k % 3 = 0 then .nan else if k % 3 = 1 then .inf false else .inf true

/-- An exact value that rounds as the quotient does in every format here: 64 quotient bits and a sticky bit. A zero
divisor gives a non-finite value that is not stated further (R137). -/
def FVal.div (x y : FVal) : FVal :=
  match x, y with
  | .nan, _ => .nan
  | _, .nan => .nan
  | .inf _, .inf _ => .nan
  | .inf s, .fin t n d =>
    if n = 0 then nonFiniteOf (Free.nonFinite (infBits singleF s) (encodeRne singleF (.fin t n d)))
    else .inf (s != t)
  | .fin s _ _, .inf t => .fin (s != t) 0 0
  | .fin s m e, .fin t n d =>
    if n = 0 then nonFiniteOf (Free.nonFinite (encodeRne singleF (.fin s m e)) (encodeRne singleF (.fin t n d)))
    else if m = 0 then .fin (s != t) 0 0
    else
      let k := 64 + Nat.log2 n
      let q := (m <<< k) / n
      let sticky := if (m <<< k) % n = 0 then 0 else 1
      .fin (s != t) (2 * q + sticky) (e - d - k - 1)

/-- Integer square root by bits from `i` down. -/
def isqrtFrom : Nat → Nat → Nat → Nat
  | 0, _, r => r
  | i + 1, n, r => if (r + 2 ^ i) * (r + 2 ^ i) ≤ n then isqrtFrom i n (r + 2 ^ i) else isqrtFrom i n r

/-- Integer square root, rounded down. -/
def isqrt (n : Nat) : Nat := isqrtFrom (Nat.log2 n / 2 + 1) n 0

/-- An exact value that rounds as the square root does. The root of a negative value is non-finite and not stated
further (R137); the sign of the root of -0 is not stated (R189). -/
def FVal.sqrt (x : FVal) : FVal :=
  match x with
  | .nan => .nan
  | .inf false => .inf false
  | .inf true => nonFiniteOf (Free.nonFinite (infBits singleF true) 0)
  | .fin s m e =>
    if m = 0 then .fin (s && Free.sqrtMinusZero) 0 0
    else if s then nonFiniteOf (Free.nonFinite (encodeRne singleF x) 0)
    else
      let k := 64 + (if e % 2 = 0 then 0 else 1)
      let n := m <<< k
      let r := isqrt n
      let sticky := if r * r = n then 0 else 1
      .fin false (2 * r + sticky) ((e - k) / 2 - 1)

/-- Fraction bits carried by the exp2 and log2 approximations; every binary32 result is then the correctly rounded
one (R189). -/
def expPrec : Nat := 160

/-- 2^(f / 2^64) x 2^expPrec, rounded down, from the bits of f: `c` is 2^(2^-i) x 2^expPrec for the bit in turn. -/
def exp2Frac : Nat → Nat → Nat → Nat → Nat
  | 0, _, _, acc => acc
  | i + 1, f, c, acc =>
    let acc' := if bitAt f i then (acc * c) >>> expPrec else acc
    exp2Frac i f (isqrt (c <<< expPrec)) acc'

/-- exp2 as an exact value that rounds correctly to binary32; an infinite operand is not stated. -/
def FVal.exp2 (x : FVal) : FVal :=
  match x with
  | .nan => .nan
  | .inf s => of32 (Free.transcendental 0 (BitVec.ofNat 32 (infBits singleF s)))
  | .fin s m e =>
    if m = 0 then oneV
    else
      let top := (Nat.log2 m : Int) + e
      if top < -40 then oneV
      else if 10 ≤ top then (if s then .fin false 1 (-400) else .fin false 1 400)
      else
        let k : Int := if 0 ≤ e + 64 then ((m <<< (e + 64).toNat : Nat) : Int) else ((m >>> (-(e + 64)).toNat : Nat) : Int)
        let k := if s then -k else k
        let n := k / 2 ^ 64
        let f := (k % 2 ^ 64).toNat
        if f = 0 then .fin false 1 n
        else .fin false (2 * exp2Frac 64 f (isqrt (2 <<< (2 * expPrec))) (1 <<< expPrec) + 1) (n - expPrec - 1)

/-- The first `n` bits of log2 of y / 2^320, y in [2^320, 2^321), after the point. -/
def log2Frac : Nat → Nat → Nat → Nat
  | 0, _, acc => acc
  | n + 1, y, acc =>
    let z := (y * y) >>> 320
    if z < 2 ^ 321 then log2Frac n z (2 * acc) else log2Frac n (z >>> 1) (2 * acc + 1)

/-- log2 as an exact value that rounds correctly to binary32; the logarithm of a value not above zero and of an
infinity is not stated. -/
def FVal.log2 (x : FVal) : FVal :=
  match x with
  | .nan => .nan
  | .inf s => of32 (Free.transcendental 1 (BitVec.ofNat 32 (infBits singleF s)))
  | .fin s m e =>
    if m = 0 || s then of32 (Free.transcendental 1 (BitVec.ofNat 32 (encodeRne singleF x)))
    else
      let b := Nat.log2 m
      let k : Int := (b : Int) + e
      if m = 2 ^ b then .fin (decide (k < 0)) k.natAbs 0
      else
        let t : Int := k * 2 ^ 100 + (log2Frac 100 (m <<< (320 - b)) 0 : Nat)
        if 0 ≤ t then .fin false (2 * t.toNat + 1) (-101)
        else .fin true (2 * (-t - 1).toNat + 1) (-101)

/-- One accumulation step c + a x b: the product exact, the sum rounded to binary32 (R63, R89). -/
def fma32 (c a b : FVal) : FVal := r32 (c.add (a.mul b))

/-- A fixed pairwise tree of one level (R64). -/
def pairs (op : FVal → FVal → FVal) : List FVal → List FVal
  | x :: y :: r => op x y :: pairs op r
  | [x] => [x]
  | [] => []

/-- The five levels of the tree over 32 inputs (R64). -/
def tree32 (op : FVal → FVal → FVal) (l : List FVal) : FVal :=
  nth (pairs op (pairs op (pairs op (pairs op (pairs op l))))) 0 zeroV

end Sys2Proof.Machine
end

