-- ==== Sys2Proof/Machine/Formats.lean ====
section
/-! DEFINITION. The element formats by their codes (Tables 5.5 and 9.5), blocked values (R49), the layout of R50 and
R168, the noise of R56 and R57, stochastic rounding (R54) and the conversions of R53 and R55. -/

namespace Sys2Proof.Machine

/-! ### Codes -/

/-- Blocked formats: E4M3, E5M2, INT8, E3M2, E2M1 (Table 9.5). -/
def isBlocked (code : Nat) : Bool := code == 1 || code == 2 || code == 3 || code == 7 || code == 8

/-- Width of an element in bits. -/
def elemWidth (code : Nat) : Nat :=
  match code with
  | 1 => 8
  | 2 => 8
  | 3 => 8
  | 4 => 16
  | 5 => 16
  | 6 => 32
  | 7 => 6
  | 8 => 4
  | _ => 1

/-- Fields of a floating format. -/
def fmtOf (code : Nat) : FFmt :=
  match code with
  | 1 => e4m3F
  | 2 => e5m2F
  | 4 => bf16F
  | 5 => halfF
  | 7 => e3m2F
  | 8 => e2m1F
  | _ => singleF

/-- emax of an element format (Table 3.3). -/
def emaxOf (code : Nat) : Int :=
  match code with
  | 1 => 8
  | 2 => 15
  | 7 => 4
  | 8 => 2
  | _ => 0

/-- Encoding of the largest finite magnitude. -/
def largestCode (code : Nat) : Nat :=
  match code with
  | 1 => 0x7E
  | 2 => 0x7B
  | 3 => 0x7F
  | 4 => 0x7F7F
  | 5 => 0x7BFF
  | 6 => 0x7F7FFFFF
  | 7 => 0x1F
  | _ => 0x7

/-- The value an element encodes, before any block scale (R46, R48). -/
def elemValue (code v : Nat) : FVal :=
  match code with
  | 1 => if bits v 0 7 = 0x7F then .nan else fieldsValue e4m3F (bitAt v 7) (bits v 3 4) (bits v 0 3)
  | 2 => decodeF e5m2F v
  | 3 =>
    let k := signedOf 8 (bits v 0 8)
    .fin (decide (k < 0)) k.natAbs (-6)
  | 4 => decodeF bf16F v
  | 5 => decodeF halfF v
  | 6 => decodeF singleF v
  | 7 => fieldsValue e3m2F (bitAt v 5) (bits v 2 3) (bits v 0 2)
  | _ => fieldsValue e2m1F (bitAt v 3) (bits v 1 2) (bits v 0 1)

/-- A value times 2^k, exactly. -/
def FVal.scale (x : FVal) (k : Int) : FVal :=
  match x with
  | .fin s m e => .fin s m (e + k)
  | y => y

/-- An element under its block's scale byte (R49). -/
def blockedValue (code v scaleByte : Nat) : FVal :=
  if scaleByte = 255 then .nan else (elemValue code v).scale ((scaleByte : Int) - 127)

/-! ### Noise (R56, R57) -/

def rotl (x : Word32) (n : Nat) : Word32 := x.rotateLeft n

def wordAt (x : List Word32) (i : Nat) : Word32 := nth x i 0

/-- One quarter round on words a, b, c, d. -/
def quarter (x : List Word32) (a b c d : Nat) : List Word32 :=
  let va := wordAt x a + wordAt x b
  let vd := rotl (wordAt x d ^^^ va) 16
  let vc := wordAt x c + vd
  let vb := rotl (wordAt x b ^^^ vc) 12
  let va := va + vb
  let vd := rotl (vd ^^^ va) 8
  let vc := vc + vd
  let vb := rotl (vb ^^^ vc) 7
  (((x.set a va).set b vb).set c vc).set d vd

def doubleRound (x : List Word32) : List Word32 :=
  let x := quarter (quarter (quarter (quarter x 0 4 8 12) 1 5 9 13) 2 6 10 14) 3 7 11 15
  quarter (quarter (quarter (quarter x 0 5 10 15) 1 6 11 12) 2 7 8 13) 3 4 9 14

/-- ChaCha with 8 rounds: key words, block counter and nonce (R56). -/
def chacha8 (key : List Word32) (counter nonce : Nat) : List Word32 :=
  let s : List Word32 := [0x61707865#32, 0x3320646E#32, 0x79622D32#32, 0x6B206574#32] ++ key ++
    [BitVec.ofNat 32 counter, BitVec.ofNat 32 (counter >>> 32), BitVec.ofNat 32 nonce, BitVec.ofNat 32 (nonce >>> 32)]
  List.zipWith (· + ·) (doubleRound (doubleRound (doubleRound (doubleRound s)))) s

/-- The key terms of a conversion (R57, Table 3.4). -/
structure NoiseKey where
  seed    : Word
  tensor  : Nat
  purpose : Nat
  slot    : Nat
  step    : Nat
  deriving DecidableEq, Repr

/-- The 16-bit noise of element `i` (R57). -/
def noise (k : NoiseKey) (i : Nat) : Nat :=
  let key : List Word32 := [BitVec.ofNat 32 k.seed.toNat, BitVec.ofNat 32 (k.seed.toNat >>> 32), BitVec.ofNat 32 k.tensor,
    BitVec.ofNat 32 (k.purpose ||| (k.slot <<< 8)), 0, 0, 0, 0]
  let w := chacha8 key (i >>> 5) k.step
  bits (wordAt w (bits (i >>> 1) 0 4)).toNat (16 * (i % 2)) 16

/-! ### Stochastic rounding (R54) -/

/-- Encode `n` units in the last place of exponent `u`, clamped to the largest finite value. -/
def packClamped (code n : Nat) (u : Int) (neg : Bool) : Nat :=
  if code = 3 then
    let k := min n 127
    if neg then (256 - k) % 256 else k
  else
    let c := min (packMag (fmtOf code) n u) (largestCode code)
    if c = 0 then 0 else signBit (fmtOf code) neg + c

/-- The exponent of the target's unit in the last place at a magnitude m x 2^e (R54). -/
def srUlp (code m : Nat) (e : Int) : Int := if code = 3 then -6 else ulpExp (fmtOf code) m e

/-- Stochastic rounding of a finite value with 16-bit noise (R54). A non-finite value is never passed. -/
def sr (code : Nat) (q : FVal) (noise16 : Nat) : Nat :=
  match q with
  | .fin neg m e =>
    if m = 0 then 0
    else
      let u := srUlp code m e
      let k := e - u + 16
      let f := if 0 ≤ k then m <<< k.toNat else m >>> (-k).toNat
      let n := (f + noise16) >>> 16
      if n = 0 then 0 else packClamped code n u neg
  | _ => 0

/-- floor(log2) of a finite nonzero magnitude. -/
def FVal.log2floor (x : FVal) : Int :=
  match x with
  | .fin _ m e => (Nat.log2 m : Int) + e
  | _ => 0

def FVal.isZero (x : FVal) : Bool :=
  match x with
  | .fin _ m _ => m == 0
  | _ => false

/-- The largest magnitude of finite values. -/
def maxMag (l : List FVal) : FVal := l.foldl (fun acc x => if acc.lt x.abs then x.abs else acc) zeroV

/-- The scale byte of a finite, nonzero block (R53). -/
def scaleByteOf (code : Nat) (m : FVal) : Nat := (min (max (m.log2floor - emaxOf code + 127) 0) 254).toNat

/-- A blocked conversion: scale byte and element codes; scale byte 255 marks an overflow (R53). -/
def convertBlock (code : Nat) (k : NoiseKey) (vals : List FVal) (first : Nat) : Nat × List Nat :=
  if vals.any (fun v => !v.finite) then (255, vals.map (fun _ => 0))
  else
    let m := maxMag vals
    if m.isZero then (0, vals.map (fun _ => 0))
    else
      let b := scaleByteOf code m
      (b, vals.mapIdx (fun j v => sr code (v.scale (127 - (b : Int))) (noise k (first + j))))

/-- A conversion to BF16 or binary16, and whether it is an overflow (R55). -/
def convert16 (code : Nat) (k : NoiseKey) (v : FVal) (i : Nat) : Nat × Bool :=
  if v.finite then (sr code v (noise k i), false) else (nanBits (fmtOf code), true)

/-! ### Layout (R50, R168, R206) -/

def TensorDecl.count (d : TensorDecl) : Nat := (d.dims.take d.rank).foldl (· * ·) 1

def TensorDecl.block (d : TensorDecl) : Nat := 2 ^ d.blockLog2

/-- The innermost dimension. -/
def TensorDecl.inner (d : TensorDecl) : Nat := nth d.dims (d.rank - 1) 1

/-- Bytes of `n` elements alone. -/
def elemBytes (code n : Nat) : Nat := ceilDiv (n * elemWidth code) 8

/-- Where the scale bytes of a blocked tensor start (R50). -/
def TensorDecl.scaleBase (d : TensorDecl) : Nat := alignUp (elemBytes d.format d.count) 64

/-- Length of a tensor in its own layout: R50, or R168 for mask bits. -/
def TensorDecl.bytes (d : TensorDecl) : Nat :=
  if d.format = 9 then alignUp (elemBytes 9 d.count) 64
  else if isBlocked d.format then d.scaleBase + ceilDiv d.count d.block
  else elemBytes d.format d.count

/-- `w` bits at bit position `p` of little-endian memory, `w` at most 64. -/
def readBits (m : Mem) (p w : Nat) : Nat := bits (memNat m (p / 8) (w / 8 + 2)) (p % 8) w

/-- Write `w` bits at bit position `p`. -/
def writeBits (m : Mem) (p w v : Nat) : Mem :=
  let n := w / 8 + 2
  let old := memNat m (p / 8) n
  let o := p % 8
  let new := old - (bits old o w) * 2 ^ o + (v % 2 ^ w) * 2 ^ o
  memWrites m (p / 8) (leBytes n new)

/-- The encoding of element `i`. -/
def readElem (m : Mem) (code i : Nat) : Nat := readBits m (i * elemWidth code) (elemWidth code)

def writeElem (m : Mem) (code i v : Nat) : Mem := writeBits m (i * elemWidth code) (elemWidth code) v

/-- The scale byte of the block that holds element `i`; 127 (a factor of one) where the format has no blocks. -/
def readScale (m : Mem) (d : TensorDecl) (i : Nat) : Nat :=
  if isBlocked d.format then (memRead m (d.scaleBase + i / d.block)).toNat else 127

def writeScale (m : Mem) (d : TensorDecl) (i b : Nat) : Mem :=
  memWrite m (d.scaleBase + i / d.block) (BitVec.ofNat 8 b)

/-- The exact value of element `i` of a tensor. -/
def tensorValue (m : Mem) (d : TensorDecl) (i : Nat) : FVal :=
  if isBlocked d.format then blockedValue d.format (readElem m d.format i) (readScale m d i)
  else elemValue d.format (readElem m d.format i)

/-- Write element codes from index `i` up. -/
def writeElems (m : Mem) (code : Nat) : Nat → List Nat → Mem
  | _, [] => m
  | i, v :: r => writeElems (writeElem m code i v) code (i + 1) r

/-- A converting store of consecutive values from element `first`: whole blocks of a blocked tensor, single elements
of BF16 or binary16. Answers the memory and whether a conversion overflowed (R53, R55). -/
def convertInto (m : Mem) (d : TensorDecl) (k : NoiseKey) (first : Nat) (vals : List FVal) : Mem × Bool :=
  if isBlocked d.format then
    (chunksOf d.block vals.length vals).zipIdx.foldl (fun (acc : Mem × Bool) c =>
      let i := first + c.2 * d.block
      let r := convertBlock d.format k c.1 i
      (writeScale (writeElems acc.1 d.format i r.2) d i r.1, acc.2 || r.1 == 255)) (m, false)
  else
    vals.zipIdx.foldl (fun (acc : Mem × Bool) c =>
      let r := convert16 d.format k c.1 (first + c.2)
      (writeElem acc.1 d.format (first + c.2) r.1, acc.2 || r.2)) (m, false)

/-- Nearest-even re-encoding of an element value into E3M2, E2M1 or E4M3, clamped to the largest finite; a zero keeps its
sign (R218). -/
def reencode (code : Nat) (v : FVal) : Nat :=
  match v with
  | .fin neg m e =>
    if m = 0 then signBit (fmtOf code) neg
    else
      let u := ulpExp (fmtOf code) m e
      let q := if u ≤ e then m <<< (e - u).toNat else shiftRne m (u - e).toNat
      packClamped code q u neg
  | .inf neg => signBit (fmtOf code) neg + largestCode code
  | .nan => Free.packNaN code % 2 ^ elemWidth code

end Sys2Proof.Machine
end

