-- ==== Sys2Proof/Machine/Ops.lean ====
section
/-! DEFINITION. The shared operations: dies and members, rings, completions (R244 to R248), events (R249 to R251), the
life of a command (R241 to R243, R349), the device-memory window, and member loss. -/

namespace Sys2Proof.Machine

abbrev Out := Host.Outcome State Fault Refusal

/-! ### Dies and members -/

/-- Event DIE codes (Table 10.8). -/
def dieM (n : Nat) : Nat := 40 + n
def dieL (n : Nat) : Nat := 48 + n

/-- M7, which carries the module controller and the power controller (Table 1.2). -/
def controllerDie : Nat := dieM 7

/-- The units of Table 1.2 whose die the manual fixes (R16). -/
inductive DieUnit where
  | linkPort (n : Nat)
  | bobbin (n : Nat)
  | updateEngine (n k : Nat)
  | gddrChannel (c : Nat)
  | cardingUnit (m : Nat)
  | rowCache (m : Nat)
  | memoryPort (k : Nat)
  | nandChannel (c : Nat)
  | hostPort
  | securityBlock
  | powerController
  | moduleController
  | spindle (die sp : Nat)
  | sliver (die sp : Nat)
  | diePool (die : Nat)
  | graphUnit (die : Nat)
  | budgetUnit (die : Nat)
  deriving DecidableEq, Repr

/-- The die that carries a unit, as an event DIE code (Tables 1.2 and 10.8). -/
def dieOfUnit (u : DieUnit) : Nat :=
  match u with
  | .linkPort n => dieL n
  | .bobbin n => dieL n
  | .updateEngine n _ => dieL n
  | .gddrChannel c => dieM (c / 3)
  | .cardingUnit m => dieM m
  | .rowCache m => dieM m
  | .memoryPort k => dieM (4 * k)
  | .nandChannel c => dieM (nth [1, 2, 5, 6] (c / 4) 0)
  | .hostPort => dieM 3
  | .securityBlock => dieM 3
  | .powerController => controllerDie
  | .moduleController => controllerDie
  | .spindle die _ => die
  | .sliver die _ => die
  | .diePool die => die
  | .graphUnit die => die
  | .budgetUnit die => die

/-- Every unit of a package: 16 link dies with 4 update engines each, 8 memory dies with 3 GDDR7 channels each, 2 memory
ports, 16 NAND channels, 40 compute dies with 64 spindles and slivers each (Tables 1.2 and 1.3). -/
def packageUnits : List DieUnit :=
  (List.range 16).flatMap (fun n => .linkPort n :: .bobbin n :: (List.range 4).map (.updateEngine n)) ++
  (List.range 24).map .gddrChannel ++ (List.range 8).flatMap (fun m => [.cardingUnit m, .rowCache m]) ++
  (List.range 2).map .memoryPort ++ (List.range 16).map .nandChannel ++
  [.hostPort, .securityBlock, .powerController, .moduleController] ++
  (List.range 40).flatMap (fun d =>
    .diePool d :: .graphUnit d :: .budgetUnit d ::
      (List.range 64).flatMap (fun sp => [.spindle d sp, .sliver d sp]))

/-- The units that one die carries. -/
def unitsOnDie (die : Nat) : List DieUnit := packageUnits.filter (fun u => dieOfUnit u == die)

def State.member (s : State) : Nat := s.regs.memberNumber
def State.members (s : State) : List Nat := s.regs.members
def State.jobSize (s : State) : Nat := s.regs.members.length

/-- MEMBER of an event record: 0xFFFF if the module belongs to no job (Table 10.8). -/
def State.eventMember (s : State) : Nat := if s.regs.jobSet then s.regs.memberNumber else 0xFFFF

/-- Take the next free value's number. -/
def State.bump (s : State) : State := s.setFreeCount (s.freeCount + 1)

/-- Whether the module runs: powered, its reset sequence ended (R361). -/
def State.running (s : State) : Bool := s.supply.corePower && !s.supply.inReset && s.regs.ready

/-! ### Columns of the arrays (R172) -/

/-- The columns that a self-test bypasses, as (die, physical column): one with a cell that fails, and all eight of a sliver
with a fault in its operand buffer, accumulators, feed or drain stage. -/
def bypassOf (found : SelfTest) : List (Nat × Nat) :=
  (sortDistinct (found.cells.map (fun c => 512 * c.1 + c.2.1 % 512) ++
    found.parts.flatMap (fun p => (List.range 8).map (fun j => 512 * p.1 + 8 * (p.2.1 % 64) + j)))).map (fun k => (k / 512, k % 512))

/-- Presented widths of the 40 dies' 64 slivers under a bypass. -/
def widthsOf (bypass : List (Nat × Nat)) : List (List Nat) :=
  (List.range 40).map (fun die =>
    let here := bypass.filter (fun b => b.1 == die)
    (List.range 64).map (fun sl => 8 - (here.filter (fun b => b.2 / 8 == sl)).length))

/-- The physical columns that a sliver presents, in the order of their presented numbers. -/
def presentedColumns (s : State) (die sliver : Nat) : List Nat :=
  ((List.range 8).map (8 * sliver + ·)).filter (fun c => !s.regs.bypass.contains (die, c))

/-- The presented columns of a gang of slivers: those of its slivers, in ascending sliver order. -/
def gangColumns (s : State) (die : Nat) (slivers : List Nat) : List Nat :=
  (sortDistinct slivers).flatMap (presentedColumns s die)

/-! ### Rings -/

def ringAt (s : State) (n : Nat) : Ring := nth s.rings.ring n Ring.reset

def setRing (s : State) (n : Nat) (r : Ring) : State :=
  s.setRings { s.rings with ring := s.rings.ring.set n r }

/-- Unconsumed entries, by modular difference (R237). -/
def Ring.used (r : Ring) : Nat := (r.producer - r.consumer).toNat

def Ring.size (r : Ring) : Nat := 2 ^ r.sizeLog2

/-- Free entries of a module-written ring. -/
def Ring.free (r : Ring) : Nat := r.size - r.used

/-- PHASE of ring index `i` (R248). -/
def Ring.phase (r : Ring) (i : Word32) : Bool := !(bitAt i.toNat r.sizeLog2)

def Ring.advance (r : Ring) (n : Nat) : Ring := { r with producer := r.producer + BitVec.ofNat 32 n }

/-! ### Completions -/

/-- Whether an event that the command caused is still held (R248). -/
def causeHeld (s : State) (c : Completion) : Bool :=
  s.rings.heldEvents.any (fun e => e.cause == some (c.ring, c.submitIndex)) && c.opcode != 0

/-- Whether a completion can be written now: ring 8 in use, room in it, no held event of its command. -/
def doneReady (s : State) (c : Completion) : Bool :=
  (ringAt s 8).active && decide ((ringAt s 8).used < (ringAt s 8).size) && !causeHeld s c

/-- Write a completion record and forget the command it answers (R244, R248). -/
def writeDone (s : State) (c : Completion) : State :=
  let r := ringAt s 8
  let c' := { c with phase := r.phase r.producer }
  let s := s.setRings { s.rings with
    completions := s.rings.completions ++ [(r.producer, c')],
    accepted := if c.opcode = 0 then s.rings.accepted
      else s.rings.accepted.filter (fun a => !(a.sub.ring == c.ring && a.sub.index == c.submitIndex)) }
  setRing s 8 (r.advance 1)

/-- Post a completion, or hold it back while it cannot be written. -/
def postDone (s : State) (c : Completion) : State :=
  if doneReady s c then writeDone s c
  else s.setRings { s.rings with heldDone := s.rings.heldDone ++ [c] }

/-- Post every held completion that can be written now, in order. -/
def flushDone (s : State) : State :=
  s.rings.heldDone.foldl postDone (s.setRings { s.rings with heldDone := [] })

/-! ### Events -/

/-- Kinds that merge while held (R251). -/
def sameMergedKind (a b : EventBody) : Bool :=
  match a, b with
  | .brakeEntered _, .brakeEntered _ => true
  | .thermalThrottle _ _, .thermalThrottle _ _ => true
  | _, _ => false

/-- Write an event record to ring 9. -/
def writeEvent (s : State) (e : Event) : State :=
  let r := ringAt s 9
  let e' := { e with phase := r.phase r.producer }
  setRing (s.setRings { s.rings with events := s.rings.events ++ [(r.producer, e')] }) 9 (r.advance 1)

def eventRoom (s : State) : Bool := (ringAt s 9).active && decide ((ringAt s 9).used < (ringAt s 9).size)

/-- Merge into the held record of the same kind and die, if there is one. -/
def mergeHeld (e : Event) : List Event → Option (List Event)
  | [] => none
  | h :: r =>
    if sameMergedKind h.body e.body && h.die == e.die then
      some ({ h with count := min (h.count + 1) 65535, body := e.body } :: r)
    else (mergeHeld e r).map (h :: ·)

/-- Hold an event in order, merged where R251 says so. -/
def holdEvent (s : State) (e : Event) : State :=
  s.setRings { s.rings with heldEvents := (mergeHeld e s.rings.heldEvents).getD (s.rings.heldEvents ++ [e]) }

/-- The member's own faults, counted in its failure record (R320). -/
def ownFault (s : State) (b : EventBody) : Bool :=
  match b with
  | .memberLost (some m) _ => m == s.member
  | .replicaMismatch _ _ _ _ => true
  | .rowPoisoned _ _ _ _ => true
  | _ => false

/-- Originate an event at a die: it takes the die's next sequence number (R19) and is written, or held while ring 9
is full or not in use, or while earlier events are held (R251, R409). -/
def postEventFor (s : State) (die step : Nat) (body : EventBody) (cause : Option (Nat × Word32)) : State :=
  let e : Event :=
    { body := body, phase := false, die := die, member := s.eventMember, count := 1,
      sequence := nth s.sequences die 1, step := step, cause := cause }
  let s := s.setSequences (modifyAt s.sequences die (· + 1))
  let s := if ownFault s body then s.setSecuring { s.securing with failO := s.securing.failO + 1 } else s
  if eventRoom s && s.rings.heldEvents.isEmpty then writeEvent s e else holdEvent s e

def postEvent (s : State) (die step : Nat) (body : EventBody) : State := postEventFor s die step body none

/-- Write held events while ring 9 has room; `fuel` bounds them. -/
def flushEventsN : Nat → State → State
  | 0, s => s
  | n + 1, s =>
    match s.rings.heldEvents with
    | [] => s
    | e :: r =>
      if eventRoom s then flushEventsN n (writeEvent (s.setRings { s.rings with heldEvents := r }) e) else s

/-- Write held events and then the completions that waited for them. -/
def flushEvents (s : State) : State := flushDone (flushEventsN s.rings.heldEvents.length s)

end Sys2Proof.Machine

namespace Sys2Proof

open Machine

/-! ### Submission descriptors (R242, R243) -/

/-- A field of a descriptor, by descriptor offset and size in bytes. -/
def Sub.field (d : Sub) (off n : Nat) : Nat := bytesField d.desc.toNat off n

/-- A field of the body, by body offset (R242). -/
def Sub.body (d : Sub) (off n : Nat) : Nat := d.field (0x10 + off) n

def Sub.opcode (d : Sub) : Nat := d.field 0 2
def Sub.ordered (d : Sub) : Bool := bitAt (d.field 2 1) 0
def Sub.commandId (d : Sub) : Word32 := BitVec.ofNat 32 (d.field 4 4)

/-- FLAGS and the reserved fields of the header are zero (R243). -/
def Sub.headerOk (d : Sub) : Bool := d.field 2 1 / 2 == 0 && d.field 3 1 == 0 && d.field 8 8 == 0

/-- Body bytes from an offset to the end of the descriptor are zero (R242). -/
def Sub.zeroFrom (d : Sub) (off : Nat) : Bool := d.body off (0x30 - off) == 0

end Sys2Proof

namespace Sys2Proof.Machine

/-- Opcodes of Table 10.3. -/
def knownOpcodes : List Nat :=
  [0x0001, 0x0002, 0x0003, 0x0010, 0x0011, 0x0020, 0x0021, 0x0030, 0x0031, 0x0032, 0x0040, 0x0041, 0x0042, 0x0050,
   0x0051, 0x0060, 0x0070, 0x0071]

/-- Commands answered without a job block (R349). -/
def jobFreeOpcodes : List Nat := [0x0002, 0x0003, 0x0060, 0x0070, 0x0071]

/-- Commands that need the job key (R349). -/
def keyOpcodes : List Nat := [0x0020, 0x0010, 0x0011, 0x0050, 0x0041]

/-! ### The life of a command -/

def sameSub (a b : Sub) : Bool := a.ring == b.ring && a.index == b.index && a.desc == b.desc

/-- STEP_INPUT and EVAL_REQUEST are checked and held at acceptance (R28, R29, R43): ORDERED holds back only the reading of
their blocks. -/
def takenAtAcceptance (d : Sub) : Bool := d.opcode == 0x0010 || d.opcode == 0x0011

/-- An earlier command of the ring of an ORDERED one has not completed (R241). -/
def orderedBehind (before : List Accepted) (d : Sub) : Bool := d.ordered && before.any (fun b => b.sub.ring == d.ring)

/-- Whether an accepted entry waits under ORDERED before it begins. -/
def orderedWait (before : List Accepted) (a : Accepted) : Bool := !takenAtAcceptance a.sub && orderedBehind before a.sub

/-- The commands accepted before `d`. -/
def acceptedBefore (s : State) (d : Sub) : List Accepted := s.rings.accepted.takeWhile (fun a => !sameSub a.sub d)

/-- Whether an ORDERED command still waits for earlier commands of its ring. -/
def heldByOrder (s : State) (d : Sub) : Bool := orderedBehind (acceptedBefore s d) d

/-- Whether `d` is accepted, has not begun and is the next of its ring to begin, earlier commands that wait under
ORDERED aside (R241). `before` holds the entries already passed, oldest first. -/
def beginScan (d : Sub) : List Accepted → List Accepted → Bool
  | _, [] => false
  | before, a :: r =>
    if sameSub a.sub d && !a.begun then !orderedWait before a
    else if a.sub.ring == d.ring && !a.begun && !orderedWait before a then false
    else beginScan d (before ++ [a]) r

def canBegin (s : State) (d : Sub) : Bool := beginScan d [] s.rings.accepted

def markBegun (s : State) (d : Sub) : State :=
  s.setRings { s.rings with accepted := s.rings.accepted.map (fun a => if sameSub a.sub d then { a with begun := true } else a) }

/-- All ones: not applicable (R246). -/
def notApplicable : Nat := 2 ^ 64 - 1

/-- Complete a command (Table 10.4). -/
def finishWith (s : State) (d : Sub) (status : Status) (error d0 d1 : Nat) : State :=
  postDone s
    { opcode := d.opcode, status := status, phase := false, commandId := d.commandId,
      submitIndex := d.index, ring := d.ring, errorCode := error, detail0 := BitVec.ofNat 64 d0,
      detail1 := BitVec.ofNat 64 d1 }

/-- Complete a command with no error code and no detail. -/
def finish (s : State) (d : Sub) (status : Status) : State := finishWith s d status 0 0 0

/-- The checks that come before every other check of a command: the header (R243) and the two of R349. -/
def entryStatus (s : State) (d : Sub) : Option Status :=
  if !d.headerOk then some .malformed
  else if !s.regs.jobSet && !jobFreeOpcodes.contains d.opcode then some .rejectedConfig
  else if s.security.jobKey.isNone && keyOpcodes.contains d.opcode then some .security
  else none

/-- Begin a command of this row: it runs only when its turn has come and the descriptor spells the row's command;
otherwise nothing happens. `na` fills the details of a refusal by the entry checks. -/
def beginCommand (s : State) (d : Sub) (mine : Bool) (na : Nat) (run : State → State) : Out :=
  if canBegin s d && mine then
    match entryStatus s d with
    | some st => .next (finishWith (markBegun s d) d st 0 na na)
    | none => .next (run (markBegun s d))
  else .next s

/-! ### The device-memory window (R341) -/

/-- A block that a command names: offset a multiple of 64, and offset plus length within 2^32 (R27). -/
def blockOk (off len : Nat) : Bool := off % 64 == 0 && decide (off + len ≤ 2 ^ 32)

def windowBytes (s : State) (off len : Nat) : List Byte := memReads s.window off len

def windowWrite (s : State) (off : Nat) (bs : List Byte) : State := s.setWindow (memWrites s.window off bs)

/-! ### Tensors -/

def tensorMem (s : State) (id : Nat) : Mem := (aGet s.tensors id).getD []

def setTensor (s : State) (id : Nat) (m : Mem) : State := s.setTensors (aPut s.tensors id m)

/-! ### Units and memory ports (R284, R343, R347) -/

/-- The power state of a unit, numbered as in R347. -/
def unitState (s : State) (u : Nat) : UnitState := ((s.power.units[u]?).map PowerUnit.state).getD .off


/-- Memory ports that take new pages: an expander present, not failed, the unit ON. -/
def usablePorts (s : State) : List Nat :=
  (List.range 2).filter (fun k =>
    (s.regs.memPorts[k]?).any (fun m => m.present && !m.failed) &&
    unitState s (16 + k) == .on)

/-- An operation is queued for NAND channels: one that is OFF wakes, and one that drains wakes after it (R284, R286). -/
def wakeChannels (s : State) (channels : List Nat) : State :=
  s.setPower { s.power with
    units := s.power.units.mapIdx (fun i u =>
      if !channels.contains (i - 18) || decide (i < 18 ∨ 34 ≤ i) then u
      else if u.state == .off then { state := .waking, recorded := false }
      else if u.state == .draining then { u with recorded := true }
      else u) }

/-- The channels of a page in flash. -/
def pageChannels (r : PageRef) : List Nat :=
  (List.range 4).map (fun i => Free.flashChannel r.table r.version r.skein r.page i % 16)

/-! ### Telemetry counters -/

def countOutOfFootprint (s : State) (n : Nat) : State :=
  s.setTelemetry { s.telemetry with outOfFootprint := s.telemetry.outOfFootprint + n }

def countTier (s : State) (tier field n : Nat) : State :=
  s.setTelemetry { s.telemetry with tiers := modifyAt s.telemetry.tiers tier (fun l => modifyAt l field (· + n)) }

def countPort (s : State) (port field n : Nat) : State :=
  s.setLinks { s.links with ports := modifyAt s.links.ports port (fun p => { p with counters := modifyAt p.counters field (· + n) }) }

end Sys2Proof.Machine
end

