-- ==== Sys2Proof/Machine/Operands.lean ====
section
/-! DEFINITION. Operand forms: the fields of a Ply instruction word (R216, Table 9.9), the views and lanes of a vector
register (R186 to R188), and the container of a Ply module (R204 to R212, R221 to R224). -/

namespace Sys2Proof.Machine

/-! ### Instruction words (Table 9.9) -/

def plyOp (w : Word) : Nat := bits w.toNat 0 8
def plyView (w : Word) : Nat := bits w.toNat 8 2
def plyPredicated (w : Word) : Bool := bitAt w.toNat 10
def plyPred (w : Word) : Nat := bits w.toNat 11 3
/-- DST of format R and I, REG of T, C and S, ARG1 of D. -/
def plyDst (w : Word) : Nat := bits w.toNat 14 5
/-- SRC1 of R and I, INDEX of T, ARG2 of D. -/
def plySrc1 (w : Word) : Nat := bits w.toNat 19 5
def plySrc2 (w : Word) : Nat := bits w.toNat 24 5
def plySrc3 (w : Word) : Nat := bits w.toNat 29 5
/-- FUNCT of format R. -/
def plyFunctR (w : Word) : Nat := bits w.toNat 34 8
def plyFmt (w : Word) : Nat := bits w.toNat 42 2
def plyTfmt (w : Word) : Nat := bits w.toNat 44 2
/-- Bits 31:24: FUNCT of I and C, PURPOSE of T, COUNTER of D and S. -/
def plyByte3 (w : Word) : Nat := bits w.toNat 24 8
/-- Bits 63:32: IMM, DESC or TARGET. -/
def plyImm (w : Word) : Nat := bits w.toNat 32 32
def plySlot (w : Word) : Nat := bits w.toNat 32 16
/-- TARGET as a signed offset (format C). -/
def plyTarget (w : Word) : Int := signedOf 32 (plyImm w)
/-- IMM sign-extended to 64 bits. -/
def plySext (w : Word) : Word := BitVec.ofInt 64 (signedOf 32 (plyImm w))

/-! ### Vector views (Table 8.3) -/

/-- Lane width in bits. -/
def laneWidth (view : Nat) : Nat := 8 * 2 ^ view

def laneCount (view : Nat) : Nat := 512 / laneWidth view

/-- Lane `j` of a register (R186). -/
def lane (view : Nat) (v : Wide) (j : Nat) : Nat := bits v.toNat (j * laneWidth view) (laneWidth view)

/-- A register from its lanes. -/
def ofLanes (view : Nat) (l : List Nat) : Wide :=
  BitVec.ofNat 512 (l.zipIdx.foldl (fun acc x => acc + (x.1 % 2 ^ laneWidth view) <<< (x.2 * laneWidth view)) 0)

def lanesOf (view : Nat) (v : Wide) : List Nat := (List.range (laneCount view)).map (lane view v)

/-- Whether a predicate selects lane `j`: bit j, 2j or 4j (R188). -/
def predLane (view : Nat) (p : Word) (j : Nat) : Bool := bitAt p.toNat (j * 2 ^ view)

/-- The predicate whose every lane bit is given, each written into every bit that the view assigns to the lane. -/
def ofPred (view : Nat) (l : List Bool) : Word :=
  BitVec.ofNat 64 (l.zipIdx.foldl (fun acc x => if x.1 then acc + ((2 ^ 2 ^ view - 1) <<< (x.2 * 2 ^ view)) else acc) 0)

/-- The format code of a lane format in a view (R216). -/
def laneFormat (view fmt : Nat) : Nat :=
  match view with
  | 0 => fmt + 1
  | 1 => fmt + 4
  | _ => 6

/-- Scale byte of 8-bit lane `j` (R187). -/
def tagByte (tag : Word32) (j : Nat) : Nat := bits tag.toNat (8 * (j / 16)) 8

/-- The exact value of a lane; 8-bit floating lanes read with their scale byte (R49, R187). -/
def laneValue (view fmt : Nat) (v : Wide) (tag : Word32) (j : Nat) : FVal :=
  if view = 0 then blockedValue (fmt + 1) (lane 0 v j) (tagByte tag j)
  else elemValue (laneFormat view fmt) (lane view v j)

/-! ### The container (R204, R205) -/

/-- A section of the directory: kind, offset, length, count. -/
structure Section4 where
  kind   : Nat
  offset : Nat
  length : Nat
  count  : Nat
  deriving DecidableEq, Repr

/-- Entry size by kind (Table 9.3); NAMES has none. -/
def entrySize (kind : Nat) : Nat :=
  match kind with
  | 1 => 48
  | 2 => 48
  | 3 => 24
  | 4 => 8
  | 5 => 32
  | 6 => 32
  | 7 => 32
  | 8 => 16
  | 9 => 16
  | _ => 1

/-- Most entries by kind (Table 9.3). -/
def mostEntries (kind : Nat) : Nat :=
  match kind with
  | 1 => 65535
  | 2 => 4096
  | 3 => 2 ^ 20
  | 4 => 2 ^ 19
  | _ => 2 ^ 16

def readDirectory (bs : List Byte) : List Section4 :=
  (List.range (leAt bs 0x0C 2)).map (fun i =>
    let o := 0x40 + 16 * i
    { kind := leAt bs o 2, offset := leAt bs (o + 4) 4, length := leAt bs (o + 8) 4, count := leAt bs (o + 12) 4 })

def sectionOf (dir : List Section4) (kind : Nat) : Section4 :=
  (dir.find? (fun d => d.kind == kind)).getD { kind := kind, offset := 0, length := 0, count := 0 }

/-- The entries of a section, each as its bytes. -/
def entriesOf (bs : List Byte) (d : Section4) : List (List Byte) :=
  chunksOf (entrySize d.kind) d.count ((bs.drop d.offset).take (d.count * entrySize d.kind))

def readTensor (e : List Byte) : TensorDecl :=
  { id := leAt e 0 4, role := leAt e 4 1, format := leAt e 5 1, blockLog2 := leAt e 6 1, rank := leAt e 7 1,
    dims := [leAt e 8 4, leAt e 12 4, leAt e 16 4, leAt e 20 4], table := leAt e 0x18 2, optimiser := leAt e 0x1A 1,
    stateFormat := leAt e 0x1B 1, stateBlockLog2 := leAt e 0x1C 1, stateSlots := leAt e 0x1D 1,
    associated := leAt e 0x20 4 }

def readFunc (e : List Byte) : FuncEntry :=
  { kind := leAt e 0 1, argWords := leAt e 1 1, codeFirst := leAt e 4 4, codeCount := leAt e 8 4,
    scratch := leAt e 12 4, counterMask := leAt e 0x10 8, fpFirst := leAt e 0x18 4, fpCount := leAt e 0x1C 4,
    bufferCount := leAt e 0x20 4, target := leAt e 0x24 4 }

def readFoot (e : List Byte) : FootEntry :=
  { slot := leAt e 0 2, access := leAt e 2 1, offsetArg := bitAt (leAt e 3 1) 0, lengthArg := bitAt (leAt e 3 1) 1,
    offsetWord := leAt e 4 1, lengthWord := leAt e 5 1, offset := leAt e 8 8, length := leAt e 16 8 }

def readProduct (e : List Byte) : ProductD :=
  { arrangement := leAt e 0 1, a := leAt e 2 2, b := leAt e 4 2, out := leAt e 6 2, drain := leAt e 8 4,
    rows := leAt e 12 4, inn := leAt e 16 4, outpos := leAt e 20 4 }

def readDrain (e : List Byte) : DrainD :=
  { bias := leAt e 0 2, mask := leAt e 2 2, steps := leAt e 4 1, maskKind := leAt e 5 1, purpose := leAt e 7 1,
    alpha := BitVec.ofNat 16 (leAt e 8 2), lo := BitVec.ofNat 16 (leAt e 10 2), hi := BitVec.ofNat 16 (leAt e 12 2) }

def readLayer (e : List Byte) : LayerD :=
  { kind := leAt e 0 1, mode := leAt e 1 1, purpose := leAt e 2 1, rowLength := leAt e 4 4, rows := leAt e 8 4,
    inSlot := leAt e 12 2, outSlot := leAt e 14 2, gain := leAt e 16 2, shift := leAt e 18 2,
    eps := BitVec.ofNat 16 (leAt e 20 2) }

def readMove (e : List Byte) : MoveD := { src := leAt e 0 2, dst := leAt e 2 2, elements := leAt e 4 4 }

def readTile (e : List Byte) : TileD :=
  { src := leAt e 0 2, dst := leAt e 2 2, addend := leAt e 4 2, rows := leAt e 6 1, view := leAt e 7 1,
    op := leAt e 8 1, broadcast := leAt e 9 1, q := leAt e 10 1, fmt := leAt e 11 1 }

/-- The sections of a module whose container is sound. -/
def readModule (bs : List Byte) : PlyModule :=
  let dir := readDirectory bs
  let es (k : Nat) := entriesOf bs (sectionOf dir k)
  { tensors := (es 1).map readTensor, funcs := (es 2).map readFunc, foots := (es 3).map readFoot,
    code := (es 4).map (fun e => BitVec.ofNat 64 (leNat e)), products := (es 5).map readProduct,
    drains := (es 6).map readDrain, layers := (es 7).map readLayer, moves := (es 8).map readMove,
    tiles := (es 9).map readTile }

/-! ### Reading a module's entries -/

def tensorAt (m : PlyModule) (slot : Nat) : TensorDecl := nth m.tensors slot default

def funcAt (m : PlyModule) (slot : Nat) : FuncEntry := nth m.funcs slot default

/-- The footprint entries of a function. -/
def footsOf (m : PlyModule) (f : FuncEntry) : List FootEntry := (m.foots.drop f.fpFirst).take f.fpCount

/-- Whether an entry gives an access: 1 read, 2 write (Table 9.8). -/
def FootEntry.gives (e : FootEntry) (access : Nat) : Bool := e.access == access || e.access == 3

/-- The two-dimensional view of a tensor: rows and columns; rank 1 is one row (R163). -/
def TensorDecl.cols (d : TensorDecl) : Nat := d.inner
def TensorDecl.rows2 (d : TensorDecl) : Nat := d.count / d.inner

/-! ### Lattice and other images -/

/-- Bytes from `lo` up to `hi` are zero. -/
def zeroBytes (bs : List Byte) (lo hi : Nat) : Bool := ((bs.drop lo).take (hi - lo)).all (· == 0)

end Sys2Proof.Machine
end

