-- ==== Sys2Proof/Machine/Flags.lean ====
section
/-! DEFINITION. Comparisons and predicates: what CMP writes (R188, R217), overflow tests (R68), and the arithmetic of
one lane (R189). -/

namespace Sys2Proof.Machine

/-- An integer lane operation at width `n`, in the order of Table 9.10: add, sub, mul, and, or, xor, shl, shr, sar, min,
max, unsigned min, unsigned max (R189). -/
def aluLane (n funct a b : Nat) : Nat :=
  let m := 2 ^ n
  match funct with
  | 0 => (a + b) % m
  | 1 => (a + m - b % m) % m
  | 2 => (a * b) % m
  | 3 => a &&& b
  | 4 => a ||| b
  | 5 => a ^^^ b
  | 6 => if n ≤ b then 0 else (a <<< b) % m
  | 7 => if n ≤ b then 0 else a >>> b
  | 8 => if bitAt a (n - 1) then (if n ≤ b then m - 1 else (a >>> b) + (m - 2 ^ (n - b))) else (if n ≤ b then 0 else a >>> b)
  | 9 => if signedOf n a < signedOf n b then a else b
  | 10 => if signedOf n a < signedOf n b then b else a
  | 11 => min a b
  | _ => max a b

/-- An integer comparison at width `n`: eq, ne, lt, le signed, lt, le unsigned (R217). -/
def cmpInt (n funct a b : Nat) : Bool :=
  match funct with
  | 0 => a == b
  | 1 => a != b
  | 2 => decide (signedOf n a < signedOf n b)
  | 3 => decide (signedOf n a ≤ signedOf n b)
  | 4 => decide (a < b)
  | _ => decide (a ≤ b)

/-- A floating comparison: lt, le, unordered (R217). -/
def cmpFloat (funct : Nat) (x y : FVal) : Bool :=
  match funct with
  | 6 => x.lt y
  | 7 => x.le y
  | _ => x.unordered y

/-- A floating lane operation before its rounding: add, sub, mul, multiply-add, min, max, div, sqrt, exp2, log2
(R217). -/
def fopLane (funct : Nat) (x y z : FVal) : FVal :=
  match funct with
  | 0 => x.add y
  | 1 => x.sub y
  | 2 => x.mul y
  | 3 => (x.mul y).add z
  | 4 => x.minimum y
  | 5 => x.maximum y
  | 6 => x.div y
  | 7 => x.sqrt
  | 8 => x.exp2
  | _ => x.log2

/-- The combining operation of a reduction: 0 add, 1 max, 2 min (R191, R193). -/
def reduceOp (k : Nat) (x y : FVal) : FVal :=
  match k with
  | 0 => r32 (x.add y)
  | 1 => x.maximum y
  | _ => x.minimum y

/-- The next value of a sync counter (R195). -/
def counterSignal (v : Word32) (n : Nat) : Word32 := v + BitVec.ofNat 32 n

/-- Whether a wait for a target is satisfied (R195). -/
def waitMet (v t : Word32) : Bool := decide ((v - t).toNat < 2 ^ 31)

end Sys2Proof.Machine
end

