-- ==== Sys2Proof/Machine/Frames.lean ====
section
/-! DEFINITION. Frames as bytes: the header of Table 12.3 and the payloads of Table 12.8 (R293, R298), and the checks of a
payload that this layout makes. -/

namespace Sys2Proof.Machine

/-- 64-byte units that a frame occupies (R293). -/
def frameUnits (length : Nat) : Nat := ceilDiv (length + 32) 64

/-- The class a kind belongs to (Table 12.4); none for a reserved kind. -/
def kindClass (kind : Nat) : Option Nat :=
  if 0x01 ≤ kind ∧ kind ≤ 0x06 then some 0
  else if kind = 0x10 then some 1
  else if kind = 0x20 ∨ kind = 0x21 then some 2
  else if kind = 0x30 then some 3
  else if 0x40 ≤ kind ∧ kind ≤ 0x43 then some 4
  else none

/-- STREAM of a kind (Table 12.4). -/
def kindStream (kind : Nat) : Bool := kind == 0x04 || kind == 0x05

/-- KIND of a body (Table 12.4). -/
def bodyKind (b : MsgBody) : Nat :=
  match b with
  | .rowRequest _ => 0x01
  | .rowData _ => 0x02
  | .partialSum _ => 0x03
  | .streamData _ => 0x04
  | .streamEnd _ => 0x05
  | .skeinTransfer _ => 0x06
  | .treeBlock _ => 0x10
  | .sliceData _ => 0x20
  | .digest _ => 0x21
  | .hankData _ => 0x30
  | .commitReport _ => 0x40
  | .commitDecision _ => 0x40
  | .securingReport _ => 0x40
  | .securingDecision _ => 0x40
  | .halt _ => 0x40
  | .grant _ => 0x41
  | .forwarded k => k

/-- LENGTH of a body's payload (Table 12.8), padded to 16 bytes. -/
def bodyLength (b : MsgBody) : Nat :=
  match b with
  | .rowRequest f => 16 + alignUp (8 * f.rows.length) 16 + sumOf (f.groups.map (fun g => 16 + 16 * g.entries.length))
  | .rowData f => 16 + sumOf (f.rows.map (fun r => alignUp (8 + r.2.length) 16))
  | .partialSum f => 16 + sumOf (f.frags.map (fun g => 16 + 4 * g.values.length))
  | .streamData f => 16 + sumOf (f.frags.map (fun g => 16 + 4 * g.values.length))
  | .streamEnd _ => 32
  | .skeinTransfer f => 32 + alignUp (if f.rowList then 8 * f.rows.length else f.bytes.length) 16
  | .treeBlock f => 32 + alignUp (4 * f.values.length) 16
  | .sliceData f => 32 + alignUp (2 * f.values.length) 16
  | .digest _ => 32
  | .hankData f => 32 + alignUp (72 * f.lines.length) 16
  | .commitReport f => 48 + alignUp (4 * f.evals.length) 16
  | .commitDecision f => 48 + alignUp (4 * f.evals.length) 16
  | .securingReport _ => 48
  | .securingDecision _ => 32
  | .halt _ => 16
  | .grant gs => 16 * gs.length
  | .forwarded _ => 16

/-! ### The header (Table 12.3) -/

/-- CLASS_HOPS: class, STREAM, hops left, ROUTE_EPOCH and KEY_EPOCH. -/
def classHops (cls : Nat) (stream : Bool) (hops : Nat) (routeEpoch keyEpoch : Bool) : Nat :=
  cls % 8 + 8 * stream.toNat + 16 * (hops % 4) + 64 * routeEpoch.toNat + 128 * keyEpoch.toNat

/-- The 16 header bytes of a frame as it leaves (R293). -/
def frameHeader (f : OutFrame) : List Byte :=
  leBytes 2 (f.dest % 4096) ++ leBytes 2 (f.source % 4096) ++
  leBytes 1 (classHops f.cls f.stream f.hops f.epoch f.keyEpoch) ++ leBytes 1 f.kind ++ leBytes 2 f.length ++
  leBytes 4 f.flow.toNat ++ leBytes 4 f.seq.toNat

/-- KIND and LENGTH of a LINK_CONTROL or CREDIT frame (Table 12.8). -/
def linkKind (m : LinkMsg) : Nat := match m with | .credit _ _ => 0x42 | _ => 0x43

def linkLength (m : LinkMsg) : Nat :=
  match m with
  | .hello _ _ _ _ => 48
  | .confirmation _ _ => 48
  | .keepalive => 16
  | .replayRequest _ => 16
  | .reStripe _ _ _ => 16
  | .creditAdvertisement _ => 64
  | .credit _ _ => 64

/-- The header of a frame that stays on one link: class 4, no hops left, FLOW 0. -/
def linkHeader (dest source : Nat) (seq : Word32) (keyEpoch : Bool) (m : LinkMsg) : List Byte :=
  leBytes 2 (dest % 4096) ++ leBytes 2 (source % 4096) ++ leBytes 1 (classHops 4 false 0 false keyEpoch) ++
  leBytes 1 (linkKind m) ++ leBytes 2 (linkLength m) ++ leBytes 4 0 ++ leBytes 4 seq.toNat

/-- The header of a received frame keeps to Table 12.3. -/
def headerOk (rx : Rx) : Bool :=
  decide (rx.source < 4096 ∧ rx.hops < 4 ∧ 16 ≤ rx.length ∧ rx.length ≤ 4096) && rx.length % 16 == 0

/-! ### Payloads (Table 12.8) -/

/-- Zeros up to a multiple of 16 bytes. -/
def pad16 (bs : List Byte) : List Byte := bs ++ List.replicate (alignUp bs.length 16 - bs.length) 0

def words32 (l : List Word32) : List Byte := l.flatMap (fun v => leBytes 4 v.toNat)

/-- The payload bytes of a body, before encryption (R298); a forwarded frame's are those it came with. -/
def payloadBytes (b : MsgBody) : List Byte :=
  let flags (pool last noGrad : Bool) : Nat := pool.toNat + 2 * last.toNat + 4 * noGrad.toNat
  let head (step table pass fl : Nat) : List Byte := leBytes 8 step ++ leBytes 2 table ++ leBytes 1 pass ++ leBytes 1 fl
  match b with
  | .rowRequest f =>
    head f.step f.table f.pass (flags f.pool f.last f.noGradient) ++ leBytes 2 f.rows.length ++ leBytes 2 f.groups.length ++
    pad16 (f.rows.flatMap (fun r => leBytes 8 (r.1 + r.2 * 2 ^ 40))) ++
    f.groups.flatMap (fun g =>
      leBytes 4 g.bag ++ leBytes 4 g.entries.length ++ leBytes 8 0 ++
      g.entries.flatMap (fun e => leBytes 4 e.1 ++ leBytes 4 e.2.1 ++ leBytes 4 e.2.2.toNat ++ leBytes 4 0))
  | .rowData f =>
    head f.step f.table f.pass (flags false f.last false) ++ leBytes 2 f.rows.length ++
    leBytes 2 ((f.rows.head?.map (fun r => r.2.length)).getD 0) ++ f.rows.flatMap (fun r => pad16 (leBytes 8 r.1 ++ r.2))
  | .partialSum f =>
    head f.step f.table f.pass (flags false f.last false) ++ leBytes 2 f.frags.length ++ leBytes 2 0 ++
    f.frags.flatMap (fun g =>
      leBytes 4 g.item ++ leBytes 2 g.first ++ leBytes 2 g.values.length ++ leBytes 8 0 ++ words32 g.values)
  | .streamData f =>
    head f.step f.table f.pass 0 ++ leBytes 2 f.frags.length ++ leBytes 2 0 ++
    f.frags.flatMap (fun g =>
      leBytes 8 g.item ++ leBytes 2 g.first ++ leBytes 2 g.values.length ++ leBytes 4 0 ++ words32 g.values)
  | .streamEnd f => head f.step f.table f.pass 0 ++ leBytes 4 0 ++ leBytes 8 f.rowCount ++ leBytes 8 0
  | .skeinTransfer f =>
    let bs := if f.rowList then f.rows.flatMap (fun r => leBytes 8 (r.1 + (if r.2 then 2 ^ 63 else 0))) else f.bytes
    leBytes 8 f.boundary ++ leBytes 2 f.table ++ leBytes 1 (f.rowList.toNat + 2 * f.lastPage.toNat + 4 * f.last.toNat) ++
    leBytes 1 0 ++ leBytes 4 f.version ++ leBytes 4 f.skein ++ leBytes 4 f.page ++ leBytes 4 f.offset ++
    leBytes 2 bs.length ++ leBytes 2 0 ++ pad16 bs
  | .treeBlock f =>
    leBytes 8 f.step ++ leBytes 8 f.treeId ++ leBytes 4 f.block ++ leBytes 2 f.first ++ leBytes 2 f.values.length ++
    leBytes 8 0 ++ pad16 (words32 f.values)
  | .sliceData f =>
    leBytes 8 f.step ++ leBytes 8 f.treeId ++ leBytes 4 f.first ++ leBytes 4 f.values.length ++ leBytes 8 0 ++
    pad16 (f.values.flatMap (fun v => leBytes 2 v.toNat))
  | .digest f =>
    leBytes 8 f.step ++ leBytes 8 f.treeId ++
    leBytes 8 (match f.kind with | .published => 0 | .recomputeRequest => 1 | .recomputed => 2) ++ leBytes 8 f.digest.toNat
  | .hankData f =>
    leBytes 8 f.boundary ++ leBytes 2 f.origin ++ leBytes 1 f.part ++ leBytes 1 0 ++ leBytes 4 f.lines.length ++
    leBytes 8 f.position ++ leBytes 8 (if f.part = 3 then f.sealedLoss.toNat else f.firstLine) ++
    pad16 (f.lines.flatMap (fun l => l.1) ++ f.lines.flatMap (fun l => leBytes 8 l.2.toNat))
  | .commitReport f =>
    leBytes 8 f.step ++ leBytes 1 0 ++ leBytes 1 f.overflow.toNat ++ leBytes 2 0 ++ leBytes 4 f.loss.toNat ++
    leBytes 8 f.expected ++ leBytes 8 f.applied ++ leBytes 2 f.evals.length ++ leBytes 14 0 ++
    pad16 (f.evals.flatMap (leBytes 4))
  | .commitDecision f =>
    leBytes 8 f.step ++ leBytes 1 1 ++ leBytes 1 f.overflow.toNat ++ leBytes 1 f.committed.toNat ++ leBytes 1 0 ++
    leBytes 4 f.loss.toNat ++ leBytes 16 0 ++ leBytes 2 f.evals.length ++ leBytes 14 0 ++ pad16 (f.evals.flatMap (leBytes 4))
  | .securingReport f =>
    leBytes 8 f.hank ++ leBytes 8 2 ++ leBytes 8 f.eSecure ++ leBytes 8 f.eStep ++ leBytes 8 f.r ++ leBytes 8 f.o
  | .securingDecision f => leBytes 8 f.hank ++ leBytes 8 3 ++ leBytes 8 f.next ++ leBytes 8 0
  | .halt f =>
    leBytes 8 f.step ++ leBytes 1 4 ++ leBytes 1 f.reason ++ leBytes 2 (f.named.getD 0xFFFF) ++ leBytes 4 0
  | .grant gs =>
    gs.flatMap (fun g => leBytes 1 g.cls ++ leBytes 3 g.pool ++ leBytes 4 g.flow.toNat ++ leBytes 4 g.units ++ leBytes 4 0)
  | .forwarded _ => []

/-- The fragments of a payload keep to the layout: counts that are multiples of 4 and fit 16 bits (R298). -/
def fragsOk (l : List Fragment) : Bool :=
  l.all (fun g => g.values.length % 4 == 0 && decide (g.first + g.values.length < 2 ^ 16))

/-- Ascending, repeats allowed. -/
def rising : List Nat → Bool
  | x :: y :: r => decide (x ≤ y) && rising (y :: r)
  | _ => true

/-- ROW_REQUEST: rows ascend, groups only with POOL, each group's positions ascend and its U ordinals name the request's
rows (Table 12.8, 0x01). -/
def rowRequestOk (f : RowRequestF) : Bool :=
  ascending (f.rows.map (·.1)) && f.rows.all (fun r => decide (r.1 < 2 ^ 40 ∧ r.2 < 2 ^ 24)) &&
  (f.pool || f.groups.isEmpty) && rising (f.groups.map BagGroup.bag) &&
  f.groups.all (fun g => ascending (g.entries.map (·.1)) && !g.entries.isEmpty)

/-- ROW_DATA: every row of one length (Table 12.8, 0x02). -/
def rowDataOk (f : RowDataF) : Bool :=
  ascending (f.rows.map (·.1)) && f.rows.all (fun r => r.2.length == (f.rows.head?.map (fun x => x.2.length)).getD 0)

/-- PARTIAL_SUM: bags ascend, one bag's fragments in order (Table 12.8, 0x03). -/
def partialSumOk (f : PartialSumF) : Bool := fragsOk f.frags && rising (f.frags.map Fragment.item)

/-- GRANT: a class and a pool it has (Table 12.8, 0x41). -/
def grantsOk (gs : List GrantF) : Bool :=
  gs.all (fun g => decide (g.cls ≤ 4 ∧ (g.pool = 0 ∨ (g.pool = 1 ∧ g.cls = 0)) ∧ g.units < 2 ^ 32))

end Sys2Proof.Machine
end

