-- ==== Sys2Proof/Machine/Links.lean ====
section
/-! DEFINITION. Links: sending a frame (R293 to R307), bring-up (R289 to R292), receiving, credit and replay (R296 to
R300), lanes and ports that fail (R308 to R310), forwarding. -/

namespace Sys2Proof.Machine

/-! ### Frames -/

def portAt (s : State) (p : Nat) : Port := nth s.links.ports p Port.reset

def setPort (s : State) (p : Nat) (v : Port) : State := s.setLinks { s.links with ports := s.links.ports.set p v }

/-- A hop pool in the order of CREDIT (Table 12.8, 0x42). -/
def poolIndex (cls : Nat) (stream : Bool) (level : Nat) : Nat :=
  if cls = 0 then (if stream then 4 else 0) + level else 4 + 4 * cls + level

/-- Whether a frame of this kind is injected under an end-to-end grant: kinds 0x01 to 0x30 (R302). A parent's room for
COMMIT frames is reserved, so those wait for no GRANT. -/
def needsGrant (kind : Nat) : Bool := decide (kind ≤ 0x30)

/-! ### Routes (R303 to R307) -/

/-- Members next to this one: the table before any ROUTE_TABLE (R304). -/
def adjacentMask (s : State) (dest : Nat) : Nat :=
  s.links.ports.zipIdx.foldl (fun m p =>
    if p.1.link == .up && (p.1.peer.map (·.1)) == some dest then m + 2 ^ p.2 else m) 0

/-- Entries of `n` bytes of a value. -/
def entries (n : Nat) (v : List Byte) : List (List Byte) := chunksOf n v.length v

/-- The entries of a ROUTE_TABLE value (R303). -/
def routeEntries (v : List Byte) : List RouteEntry :=
  (entries 8 (v.drop 8)).map (fun e => { dest := leAt e 0 2, distance := leAt e 2 1, ports := leAt e 4 2 })

/-- The next route table committed, which frames stamped with it are routed by before this member passes its boundary
(R307). -/
def committedRoutes (s : State) : Option (List RouteEntry) :=
  (sortBy (fun x y => decide (x.boundary.getD 0 ≤ y.boundary.getD 0))
    (s.cfg.sets.filter (fun x => x.boundary.isSome && x.items.any (fun i => i.1 == 2)))).head?.bind
      (fun x => (x.items.find? (fun i => i.1 == 2)).map (fun i => routeEntries i.2))

/-- The table before any ROUTE_TABLE as entries (R304). -/
def adjacentRoutes (s : State) : List RouteEntry :=
  (s.members.filter (fun m => adjacentMask s m != 0)).map (fun m => { dest := m, distance := 1, ports := adjacentMask s m })

/-- The table of the epoch in use. -/
def ownRoutes (s : State) : List RouteEntry := if s.cfg.routeSet then s.cfg.routes else adjacentRoutes s

/-- The table a frame of an epoch is routed by (R307). -/
def tableFor (s : State) (epoch : Bool) : List RouteEntry :=
  if epoch == s.cfg.routeEpoch then ownRoutes s
  else
    match s.cfg.prevRoutes, committedRoutes s with
    | some r, _ => r
    | none, some r => r
    | none, none => ownRoutes s

/-- DISTANCE and PORT_MASK for a destination. -/
def routeFor (s : State) (epoch : Bool) (dest : Nat) : Option (Nat × Nat) :=
  ((tableFor s epoch).find? (fun e => e.dest == dest)).map (fun e => (e.distance, e.ports))

/-- Ports of a mask in ascending order. -/
def maskPorts (mask : Nat) : List Nat := (List.range 16).filter (fun p => bitAt mask p)

/-- The place k of R306. -/
def flowPlace (source dest : Nat) (flow : Word32) (count : Nat) : Nat :=
  let x := source ^^^ (dest <<< 12) ^^^ flow.toNat
  let h := (x * 0x9E3779B9) % 2 ^ 32
  (h >>> 16) % count

/-- The port a flow takes: its place among the mask's ports, or the next UP port after it, wrapping (R306). -/
def pickPort (s : State) (mask source dest : Nat) (flow : Word32) : Option Nat :=
  let ports := maskPorts mask
  let k := flowPlace source dest flow ports.length
  (ports.drop k ++ ports.take k).find? (fun p => (portAt s p).link == .up)

def sameFlow (f g : OutFrame) : Bool :=
  f.source == g.source && f.dest == g.dest && f.cls == g.cls && f.flow == g.flow

/-- Units of end-to-end grant held for a flow (R302). -/
def grantKey (f : OutFrame) : Nat × Nat × Nat := (f.cls, if f.stream then 1 else 0, f.flow.toNat)

/-- Whether a frame may leave through a port now: a grant where one is needed, hop credit, room in the replay buffer,
and the port not paused (R300, R302, R308). -/
def canLeave (s : State) (f : OutFrame) (p : Port) : Bool :=
  let u := frameUnits f.length
  (f.granted || !needsGrant f.kind || decide (u ≤ (aGet s.links.grants (grantKey f)).getD 0)) &&
  decide (u ≤ nth p.credits (poolIndex f.cls f.stream (3 - f.hops)) 0) && !p.paused &&
  decide (sumOf (p.replay.map (fun r => r.2.length + 32)) + f.length + 32 ≤ 262144)

/-- The frame with the counter of its link: SEQUENCE its low 32 bits, KEY_EPOCH the lowest bit of the epoch (R295). -/
def OutFrame.counted (f : OutFrame) (count : Nat) : OutFrame :=
  { f with seq := BitVec.ofNat 32 count, keyEpoch := bitAt count 32 }

/-- Send a frame on a port: credit and grant are spent, the frame takes the next frame counter and is kept for
replay (R295, R300). -/
def emit (s : State) (n : Nat) (f : OutFrame) : State :=
  let p := portAt s n
  let u := frameUnits f.length
  let f := f.counted p.txCount
  let p' := { p with
    credits := modifyAt p.credits (poolIndex f.cls f.stream (3 - f.hops)) (· - u),
    replay := p.replay ++ [(BitVec.ofNat 32 p.txCount, f)], txCount := p.txCount + 1,
    counters := modifyAt (modifyAt p.counters 0 (· + 1)) 2 (· + (f.length + 32)) }
  let s := setPort s n p'
  s.setLinks { s.links with
    sent := s.links.sent ++ [(n, f)],
    grants := if f.granted || !needsGrant f.kind then s.links.grants
      else aPut s.links.grants (grantKey f) ((aGet s.links.grants (grantKey f)).getD 0 - u) }

/-- The frame with its count of hops. -/
def OutFrame.withHops (f : OutFrame) (n : Nat) : OutFrame := { f with hops := n }

/-- The port a frame takes now and the hops left behind it (R305, R306). -/
def frameRoute (s : State) (f : OutFrame) : Option (Nat × Nat) :=
  (routeFor s f.epoch f.dest).bind (fun r =>
    (pickPort s r.2 f.source f.dest f.flow).map (fun n => (n, r.1 - 1)))

/-- A frame that stands in a port's send queue: it has been injected, and only the link holds it back (R301, R302). -/
def queuedAt (s : State) (n : Nat) (g : OutFrame) : Bool :=
  (g.granted || !needsGrant g.kind || decide (frameUnits g.length ≤ (aGet s.links.grants (grantKey g)).getD 0)) &&
  (frameRoute s g).map (·.1) == some n

/-- The port a waiting frame leaves through now and the frame as it leaves, one hop nearer; none while it must wait: behind
its own flow, or behind a frame of its class that entered the port's send queue before it (R284, R300, R301, R302, R305,
R306). -/
def leavesBy (s : State) (f : OutFrame) : Option (Nat × OutFrame) :=
  if s.links.waiting.any (sameFlow f) then none
  else
    (frameRoute s f).bind (fun r =>
      if s.links.waiting.any (fun g => g.cls == f.cls && queuedAt s r.1 g) then none
      else if canLeave s (f.withHops r.2) (portAt s r.1) && unitState s r.1 != .draining then some (r.1, f.withHops r.2)
      else none)

/-- Try to send one waiting frame, keeping the order of its flow; a port that drains takes no new frame (R284). -/
def pumpOne (s : State) (f : OutFrame) : State :=
  match leavesBy s f with
  | some (n, g) => emit s n g
  | none => s.setLinks { s.links with waiting := s.links.waiting ++ [f] }

/-- Waiting frames with those of class 4 first, which leave before any other (R301). -/
def sendOrder (l : List OutFrame) : List OutFrame := l.filter (fun f => f.cls == 4) ++ l.filter (fun f => f.cls != 4)

/-- Send every waiting frame that can leave, in order. Which of the classes 0 to 3 goes first is a matter of bandwidth, that
is of time (R301). -/
def pump (s : State) : State := (sendOrder s.links.waiting).foldl pumpOne (s.setLinks { s.links with waiting := [] })

/-- Post MEMBER_LOST (Table 10.9). -/
def memberLost (s : State) (named : Option Nat) (reason step : Nat) : State :=
  postEvent s controllerDie step (.memberLost named reason)

/-- The step in progress, 0 if none (Table 10.8 STEP). -/
def stepNow (s : State) : Nat := if s.steps.c < s.steps.a then s.steps.c + 1 else 0

/-- Whether a frame's route entry has no UP port left (R310); traffic routed over a port that is WAKING only waits (R286). -/
def strandedFrame (s : State) (f : OutFrame) : Bool :=
  match routeFor s f.epoch f.dest with
  | none => false
  | some (_, mask) =>
    (pickPort s mask f.source f.dest f.flow).isNone && (maskPorts mask).all (fun p => unitState s p != .waking)

/-- The FLOW value of an item, a new one the first time (R306). -/
def flowFor (s : State) (key : List Nat) : State × Word32 :=
  match aGet s.links.flows key with
  | some f => (s, f)
  | none =>
    (s.setLinks { s.links with flows := s.links.flows ++ [(key, s.links.nextFlow)], nextFlow := s.links.nextFlow + 1 },
     s.links.nextFlow)

/-- Kinds whose FLOW names one item that ends: a stream, a row request and its replies, a moved skein, a part of a hank
(R306). The other flows last, and each of their transfers counts as a flow of its own once the one before it has arrived. -/
def endingFlow (kind : Nat) : Bool := decide (kind ≤ 0x06) || kind == 0x30

/-- ROUTE_EPOCH of a frame: that of its flow's first frame, for a flow that began under the previous table (R307). -/
def flowEpoch (s : State) (f : OutFrame) : Bool :=
  let inFlight := s.links.waiting ++ s.links.ports.flatMap (fun p => p.replay.map (·.2))
  let before := if endingFlow f.kind then s.links.sent.map (·.2) ++ inFlight else inFlight
  if s.cfg.prevRoutes.isNone then s.cfg.routeEpoch
  else ((before.filter (sameFlow f)).getLast?.map OutFrame.epoch).getD s.cfg.routeEpoch

/-- Originate a frame of a given flow to another member. -/
def sendFlow (s : State) (dest : Nat) (flow : Word32) (body : MsgBody) : State :=
  let kind := bodyKind body
  let f0 : OutFrame :=
    { dest := dest, source := s.member, cls := (kindClass kind).getD 0, stream := kindStream kind, hops := 0,
      epoch := s.cfg.routeEpoch, kind := kind, length := bodyLength body, flow := flow, body := body, granted := false,
      seq := 0, keyEpoch := false }
  let f := { f0 with epoch := flowEpoch s f0 }
  let s := if strandedFrame s f then memberLost s (some dest) 8 (stepNow s) else s
  pump (s.setLinks { s.links with waiting := s.links.waiting ++ [f] })

/-- Kinds that share a flow: a stream's data and end; a slice and its digest (R306). -/
def flowGroup (kind : Nat) : Nat := if kind = 0x05 then 0x04 else if kind = 0x21 then 0x20 else kind

/-- Originate a frame to another member; `key` names the item whose flow it belongs to. -/
def sendTo (s : State) (dest : Nat) (key : List Nat) (body : MsgBody) : State :=
  let r := flowFor s (flowGroup (bodyKind body) :: dest :: key)
  sendFlow r.1 dest r.2 body

/-! ### Link control -/

/-- Send a LINK_CONTROL or CREDIT frame on one link; it takes a frame counter unless it is a hello, whose SEQUENCE is 0
(R295, R298). -/
def sendControl (s : State) (n : Nat) (m : LinkMsg) (counted : Bool) : State :=
  let p := portAt s n
  setPort s n { p with
    control := p.control ++ [m],
    controlSeq := p.controlSeq ++ [if counted then (BitVec.ofNat 32 p.txCount, bitAt p.txCount 32) else (0, false)],
    controlOut := if counted then p.controlOut ++ [(BitVec.ofNat 32 p.txCount, m)] else p.controlOut,
    txCount := if counted then p.txCount + 1 else p.txCount,
    counters := modifyAt p.counters 0 (· + 1) }

/-- Hop buffer sizes in 64-byte units, in the order of CREDIT (Table 12.5). -/
def bufferSizes : List Nat :=
  List.replicate 4 2048 ++ List.replicate 4 4096 ++ List.replicate 4 4096 ++ List.replicate 4 3072 ++
  List.replicate 4 2048 ++ List.replicate 4 512

/-- 16 random bytes of the security block. -/
def drawBytes (s : State) (n : Nat) : State × List Byte :=
  (s.bump, (List.range n).map (fun i => Free.randomByte s.freeCount i))

/-- An UP port fails: frames in flight or flows in progress lose the peer, and frames left without an UP port lose
their destination; later frames avoid the port (R310). -/
def failPort (s : State) (n reason : Nat) : State :=
  let p := portAt s n
  let flows := s.links.waiting.any (fun f => s.links.sent.any (fun g => g.1 == n && sameFlow f g.2))
  let s' := setPort s n { p with link := .failed, reason := reason }
  if p.link == .up then
    let s' := if !p.replay.isEmpty || flows then memberLost s' (p.peer.map (·.1)) 8 (stepNow s') else s'
    (s'.links.waiting.filter (fun f => strandedFrame s' f && !strandedFrame s f)).foldl
      (fun s f => memberLost s (some f.dest) 8 (stepNow s)) s'
  else s'

/-- Stage 1 of bring-up: the link trains again with nothing held from the bring-up before; the remembered peer, the
telemetry counters and the frames sent stay. -/
def startTraining (s : State) (n : Nat) : State :=
  let p := portAt s n
  setPort s n { p with
    link := .training, reason := 0, lanes := [], salt := [], hello := none, confirmed := false, txCount := 0,
    rxCount := 0, replay := [], controlOut := [], credits := List.replicate 24 0, badTags := 0, paused := false }

/-- PORT_TRAINING_END: stages 1 to 3 end (Table 12.1); the port fails with reason 1, 2, 3 or 4, or says hello. -/
def execPortTrainingEnd (port : Nat) (signal : Bool) (trained locked : List Nat) (s : State) : Out :=
  let p := portAt s port
  if p.link != .training || 16 ≤ port || !s.supply.corePower then .next s
  else if !signal then .next (failPort s port 1)
  else
    let tr := (List.range 4).filter (fun l => trained.contains l)
    let lk := tr.filter (fun l => locked.contains l)
    if tr.length < 3 then .next (failPort s port 2)
    else if lk.length < 3 then .next (failPort s port 3)
    else if s.security.jobKey.isNone then .next (failPort s port 4)
    else
      let d := drawBytes s 16
      let s := setPort d.1 port { p with link := .confirming, lanes := lk, salt := d.2 }
      .next (sendControl s port (.hello s.security.jobId s.member port d.2) false)

/-- PORT_RETRY: a FAILED port with reason 1, 2 or 3 trains again (Table 12.2). -/
def execPortRetry (port : Nat) (s : State) : Out :=
  let p := portAt s port
  if p.link == .failed && decide (1 ≤ p.reason ∧ p.reason ≤ 3) then .next (startTraining s port) else .next s

/-- HELLO: the peer's job identifier and member number are checked in the order of Table 12.2, and the confirmation
is sent (R290). -/
def execHello (port : Nat) (jobId : List Byte) (member peerPort : Nat) (salt : List Byte) (s : State) : Out :=
  let p := portAt s port
  if p.link != .confirming || p.hello.isSome then .next s
  else if jobId != s.security.jobId then .next (failPort s port 5)
  else if !s.members.contains member then .next (failPort s port 6)
  else if member == s.member then .next (failPort s port 7)
  else
    let s := setPort s port { p with hello := some (member, peerPort, salt) }
    .next (sendControl s port (.confirmation p.salt salt) true)

/-- CONFIRMATION: a valid tag over both salts confirms; the peer is remembered and the hop buffers are advertised
(R290, R292, R299). -/
def execConfirmation (port : Nat) (senderSalt receiverSalt : List Byte) (tagValid : Bool) (s : State) : Out :=
  let p := portAt s port
  match p.hello with
  | none => .next s
  | some (member, peerPort, salt) =>
    if p.link != .confirming || p.confirmed then .next s
    else if !(tagValid && senderSalt == salt && receiverSalt == p.salt) then .next (failPort s port 8)
    else
      let s := setPort s port { p with confirmed := true, peer := some (member, peerPort), rxCount := 1 }
      .next (sendControl s port (.creditAdvertisement bufferSizes) true)

/-- CREDIT_ADVERTISEMENT: stage 6 ends and the port is UP; with 3 lanes it posts LANE_DEGRADED (R290, R291). -/
def execCreditAdvertisement (port : Nat) (sizes : List Nat) (s : State) : Out :=
  let p := portAt s port
  if p.link != .confirming || !p.confirmed then .next s
  else
    let s := setPort s port { p with
      link := .up, credits := sizes, rxCount := p.rxCount + 1, counters := modifyAt p.counters 9 (· + 1) }
    let s :=
      match (List.range 4).find? (fun l => !p.lanes.contains l) with
      | some l => postEvent s (dieL port) (stepNow s) (.laneDegraded port l 3)
      | none => s
    .next (pump s)

/-! ### Receiving -/

/-- The next frame expected on a port: the low half of the frame counter (R295). -/
def nextSeq (p : Port) : Word32 := BitVec.ofNat 32 p.rxCount

/-- A frame is the next of its link: SEQUENCE and KEY_EPOCH are those of the frame counter (R295). Under the key of another
epoch the tag of the frame would fail (R296). -/
def inOrder (p : Port) (rx : Rx) : Bool := rx.seq == nextSeq p && rx.keyEpoch == bitAt p.rxCount 32

/-- Take a valid frame of a class from an UP port when it is the next in order: it is counted, its room is freed and
the credit and the acknowledgement go back at once (R300); a port that drains grants no credit (Table 11.6). -/
def acceptFrame (s : State) (rx : Rx) (cls : Nat) (stream : Bool) : Option State :=
  let p := portAt s rx.port
  if p.link == .up && inOrder p rx then
    let s := setPort s rx.port { p with
      rxCount := p.rxCount + 1, badTags := 0,
      counters := modifyAt (modifyAt p.counters 1 (· + 1)) 3 (· + (rx.length + 32)) }
    some (sendControl s rx.port
      (.credit rx.seq ((List.range 24).map (fun i =>
        if i = poolIndex cls stream (3 - rx.hops) ∧ unitState s rx.port ≠ .draining then frameUnits rx.length else 0)))
      true)
  else none

/-- The destination's grant for the room a consumed frame has left (R302). Control frames need none; bobbins grant stream
frames and tree windows TREE_BLOCK frames by rules of their own (R129, R146), and a slice is granted whole (R149). -/
def replenish (s : State) (rx : Rx) (kind : Nat) : State :=
  if kindStream kind || kind == 0x10 || kind == 0x20 || decide (0x40 ≤ kind) then s
  else sendTo s rx.source [rx.flow.toNat]
    (.grant [{ cls := (kindClass kind).getD 0, pool := 0, flow := rx.flow, units := frameUnits rx.length }])

/-- KEEPALIVE_SEND (R310). -/
def execKeepaliveSend (port : Nat) (s : State) : Out :=
  if (portAt s port).link == .up then .next (sendControl s port .keepalive true) else .next s

/-- KEEPALIVE: a valid frame that carries nothing (R310). -/
def execKeepalive (port : Nat) (s : State) : Out :=
  let p := portAt s port
  if p.link == .up then
    .next (setPort s port { p with
      rxCount := p.rxCount + 1, badTags := 0, counters := modifyAt p.counters 1 (· + 1) })
  else .next s

/-- LIVENESS_LOST: no valid frame for a nominal 200 µs (R310). -/
def execLivenessLost (port : Nat) (s : State) : Out :=
  if (portAt s port).link == .up then .next (pump (failPort s port 9)) else .next s

/-- The working-lane mask. -/
def laneMask (lanes : List Nat) : Nat := sumOf (lanes.map (2 ^ ·))

/-- Announce a new striping and ask for replay from the first frame not received (R308). -/
def announceStripe (s : State) (port lane : Nat) (lanes : List Nat) : State :=
  let s := sendControl s port (.reStripe lane (laneMask lanes) (BitVec.ofNat 32 (portAt s port).txCount)) true
  sendControl s port (.replayRequest (nextSeq (portAt s port))) true

/-- LANE_FAILURE (R308, R309). -/
def execLaneFailure (port lane : Nat) (s : State) : Out :=
  let p := portAt s port
  if p.link != .up || !p.lanes.contains lane then .next s
  else
    let lanes := p.lanes.filter (· != lane)
    let s := setPort s port { p with lanes := lanes, counters := modifyAt p.counters 8 (· + 1) }
    if lanes.length < 3 then
      .next (pump (failPort (postEvent s (dieL port) (stepNow s) (.laneDegraded port lane lanes.length)) port 11))
    else
      let s := setPort s port { portAt s port with paused := true }
      let s := announceStripe s port lane lanes
      .next (postEvent s (dieL port) (stepNow s) (.laneDegraded port lane lanes.length))

/-- Resend every unacknowledged frame from `seq` on, link control and CREDIT frames among them, with the same bytes
(R300). -/
def resendFrom (s : State) (port : Nat) (seq : Word32) : State :=
  let p := portAt s port
  let again := p.replay.filter (fun f => decide ((f.1 - seq).toNat < 2 ^ 31))
  let control := p.controlOut.filter (fun f => decide ((f.1 - seq).toNat < 2 ^ 31))
  let count (f : Word32) : Nat := p.txCount - (BitVec.ofNat 32 p.txCount - f).toNat
  let s := setPort s port { p with
    control := p.control ++ control.map (·.2),
    controlSeq := p.controlSeq ++ control.map (fun f => (f.1, bitAt (count f.1) 32)) }
  let s := s.setLinks { s.links with sent := s.links.sent ++ again.map (fun f => (port, f.2)) }
  countPort s port 7 1

/-- RE_STRIPE: the peer's striping is taken; an end that had announced its own resumes, the other answers with its own
announcement and LANE_DEGRADED (R308). A port never runs on fewer than three lanes: it fails with reason 11 (R289,
R309). -/
def execReStripe (port failedLane mask : Nat) (_seq : Word32) (s : State) : Out :=
  let p := portAt s port
  if p.link != .up then .next s
  else
    let lanes := (List.range 4).filter (fun l => bitAt mask l)
    let p := { p with rxCount := p.rxCount + 1, badTags := 0, counters := modifyAt p.counters 1 (· + 1) }
    if lanes.length < 3 then
      let s := setPort s port { p with lanes := lanes, counters := modifyAt p.counters 8 (· + 1) }
      .next (pump (failPort (postEvent s (dieL port) (stepNow s) (.laneDegraded port failedLane lanes.length)) port 11))
    else if p.paused then
      .next (pump (setPort s port { p with lanes := lanes, paused := false }))
    else
      let s := setPort s port { p with
        lanes := lanes, counters := modifyAt p.counters 8 (· + 1) }
      let s := announceStripe s port failedLane lanes
      .next (pump (postEvent s (dieL port) (stepNow s) (.laneDegraded port failedLane lanes.length)))

/-- REPLAY_REQUEST (R300). -/
def execReplayRequest (port : Nat) (seq : Word32) (s : State) : Out :=
  let p := portAt s port
  if p.link == .up then
    .next (resendFrom (setPort s port { p with
      rxCount := p.rxCount + 1, badTags := 0, counters := modifyAt p.counters 1 (· + 1) }) port seq)
  else .next s

/-- FRAME_DISCARD: a failed tag or an uncorrectable codeword; replay is requested, and the 16th failed tag in a row
fails the port with reason 10 (R296, R300). -/
def execFrameDiscard (port : Nat) (badTag : Bool) (s : State) : Out :=
  let p := portAt s port
  if p.link != .up then .next s
  else
    let p := { p with
      badTags := if badTag then p.badTags + 1 else p.badTags,
      counters := modifyAt p.counters (if badTag then 6 else 5) (· + 1) }
    let s := setPort s port p
    if 16 ≤ p.badTags then .next (pump (failPort s port 10))
    else .next (sendControl s port (.replayRequest (nextSeq p)) true)

/-- CREDIT: credit returns and a cumulative acknowledgement (R300). -/
def execCredit (rx : Rx) (ack : Word32) (units : List Nat) (s : State) : Out :=
  let p := portAt s rx.port
  if p.link == .up && inOrder p rx then
    .next (pump (setPort s rx.port { p with
      rxCount := p.rxCount + 1, badTags := 0, counters := modifyAt p.counters 1 (· + 1),
      credits := List.zipWith (· + ·) p.credits units,
      replay := p.replay.filter (fun f => !decide ((ack - f.1).toNat < 2 ^ 31)),
      controlOut := p.controlOut.filter (fun f => !decide ((ack - f.1).toNat < 2 ^ 31)) }))
  else .next s

/-- A frame that travels is one of its class: KIND belongs to CLASS, STREAM to KIND, and LINK_CONTROL never leaves its link
(R294, Tables 12.3 and 12.4). -/
def travels (cls : Nat) (stream : Bool) (kind : Nat) : Bool :=
  kindClass kind == some cls && kindStream kind == stream && kind != 0x43

/-- FRAME_FORWARD: a frame for another member: one that breaks the header's rules is discarded and its SOURCE named lost
(R294); else a route fault, or forwarded with HOPS set to this member's own DISTANCE - 1 (R305). -/
def execFrameForward (port dest source cls : Nat) (stream : Bool) (hops : Nat) (epoch : Bool) (kind length : Nat)
    (flow : Word32) (s : State) : Out :=
  let rx : Rx :=
    { port := port, source := source, hops := hops, epoch := epoch, length := length, flow := flow,
      seq := nextSeq (portAt s port), keyEpoch := bitAt (portAt s port).rxCount 32 }
  if dest == s.member then .next s
  else
    match acceptFrame s rx cls stream with
    | none => .next s
    | some s =>
      if !travels cls stream kind || !headerOk rx then .next (memberLost s (some source) 8 (stepNow s))
      else match routeFor s epoch dest with
      | none => .next (memberLost s (some source) 8 (stepNow s))
      | some (dist, _) =>
        if hops = 0 ∨ hops < dist then .next (memberLost s (some source) 8 (stepNow s))
        else
          let f : OutFrame :=
            { dest := dest, source := source, cls := cls, stream := stream, hops := dist - 1, epoch := epoch,
              kind := kind, length := length, flow := flow, body := .forwarded kind, granted := true,
              seq := 0, keyEpoch := false }
          let s := if strandedFrame s f then memberLost s (some dest) 8 (stepNow s) else s
          .next (pump (s.setLinks { s.links with waiting := s.links.waiting ++ [f] }))

/-- RESERVED_FRAME_KIND: a frame whose kind is reserved, does not belong to its class, or whose header or payload
breaks its layout is discarded, and its SOURCE is named lost (R294, R298). The room it took is that of the CLASS and STREAM
its header names (R300). -/
def execReservedFrameKind (rx : Rx) (kind : FrameKind) (s : State) : Out :=
  match acceptFrame s rx kind.cls kind.stream with
  | none => .next s
  | some s => .next (memberLost s (some rx.source) 8 (stepNow s))

/-- Receive a frame for this member: it is taken in order, a header or a payload that breaks its layout loses its SOURCE
(R294, R298), and otherwise it is handled and its room granted again. -/
def receive (s : State) (rx : Rx) (kind : Nat) (body : MsgBody) (layoutOk : Bool) (run : State → State) : Out :=
  match acceptFrame s rx ((kindClass kind).getD 0) (kindStream kind) with
  | none => .next s
  | some s =>
    if layoutOk && headerOk rx && rx.length == bodyLength body then .next (replenish (run s) rx kind)
    else .next (memberLost s (some rx.source) 8 (stepNow s))

end Sys2Proof.Machine
end

