-- ==== Sys2Proof/Machine/Access.lean ====
section
/-! DEFINITION. What a running vertex reaches: its context, its footprints (R213 to R215), tensor elements through
them, and the engine queues (R200, R201, R265, R266). -/

namespace Sys2Proof.Machine

/-! ### Contexts -/

def ctxAt (s : State) (c : CtxId) : Option Context := aGet s.spindles.contexts c

def setCtx (s : State) (c : CtxId) (x : Context) : State :=
  s.setSpindles { s.spindles with contexts := aPut s.spindles.contexts c x }

def sreg (x : Context) (n : Nat) : Word := nth x.sregs n 0
def vreg (x : Context) (n : Nat) : Wide := nth x.vregs n 0
def vtag (x : Context) (n : Nat) : Word32 := nth x.tags n 0
def preg (x : Context) (n : Nat) : Word := nth x.preds n 0

def setSreg (x : Context) (n : Nat) (v : Word) : Context := { x with sregs := x.sregs.set n v }

/-- Write a register and its tag. -/
def setVreg (x : Context) (n : Nat) (v : Wide) (tag : Word32) : Context :=
  { x with vregs := x.vregs.set n v, tags := x.tags.set n tag }

/-- Local SRAM of a spindle: 768 KiB (R171, R177); a vertex's scratch is a range of it (R184). -/
def localSram : Nat := 768 * 1024

def sramOf (s : State) (die sp : Nat) : Mem := (aGet s.spindles.sram (die, sp)).getD []

def setSram (s : State) (die sp : Nat) (m : Mem) : State :=
  s.setSpindles { s.spindles with sram := aPut s.spindles.sram (die, sp) m }

def nextPc (x : Context) : Context := { x with pc := x.pc + 1 }

/-- Whether the instruction's predicate selects lane `j` of a view (R188). -/
def selected (x : Context) (w : Word) (view j : Nat) : Bool := !plyPredicated w || predLane view (preg x (plyPred w)) j

/-- Write lanes of a view under the instruction's predicate; a 16-bit or 32-bit write clears the scale tag (R187,
R188). -/
def writeLanes (x : Context) (w : Word) (dst view : Nat) (new : List Nat) : Context :=
  let old := vreg x dst
  let l := new.mapIdx (fun j v => if selected x w view j then v else lane view old j)
  setVreg x dst (ofLanes view l) (if view = 0 then vtag x dst else 0)

/-! ### Instances and footprints -/

/-- The step number of an instance: the step, or n for an evaluation at boundary n (R217). -/
def instStep (i : InstRef) : Nat :=
  match i with
  | .step n => n
  | .eval b _ => b

def instIsEval (i : InstRef) : Bool :=
  match i with
  | .step _ => false
  | .eval _ _ => true

def latticeAt (s : State) (handle : Nat) : Option Lattice := s.lattices.find? (fun l => l.handle == handle)

def stepLattice (s : State) : Option Lattice := s.lattices.find? (fun l => !l.isEval)

/-- The lattice an instance runs. -/
def instLattice (s : State) (i : InstRef) : Option Lattice :=
  match i with
  | .step _ => stepLattice s
  | .eval _ h => latticeAt s h

def imageAt (s : State) (slot : Nat) : Option Image := s.programs.images.find? (fun i => i.slot == slot)

def currentImage (s : State) (handle : Nat) : Option Image :=
  s.programs.images.find? (fun i => i.handle == handle && i.state == .current)

/-- Argument words of a context's vertex; an update kernel's invocation has none. -/
def ctxArgs (s : State) (x : Context) : List Word :=
  if x.target != 0 then []
  else
    match instLattice s x.inst with
    | some l => (nth l.vertices x.vertex default).args
    | none => []

/-- Ranges that footprint entries cover, evaluated with argument words: (slot, access, first, elements) (R213). -/
def rangesFor (foots : List FootEntry) (args : List Word) : List (Nat × Nat × Nat × Nat) :=
  foots.map (fun e =>
    (e.slot, e.access,
      e.offset + (if e.offsetArg then (nth args e.offsetWord 0).toNat else 0),
      if e.lengthArg then (nth args e.lengthWord 0).toNat else e.length))

def gives (have_ want : Nat) : Bool := have_ == want || have_ == 3

/-- Whether an element lies in a footprint of an access. -/
def inRange (rs : List (Nat × Nat × Nat × Nat)) (access slot i : Nat) : Bool :=
  rs.any (fun r => r.1 == slot && gives r.2.1 access && decide (r.2.2.1 ≤ i ∧ i < r.2.2.1 + r.2.2.2))

/-- Whether some element of the block of element `i` lies in a footprint: its scale byte then does (R213, R214). -/
def blockInRange (rs : List (Nat × Nat × Nat × Nat)) (access slot b i : Nat) : Bool :=
  rs.any (fun r => r.1 == slot && gives r.2.1 access &&
    decide (0 < r.2.2.2 ∧ r.2.2.1 < (i / b + 1) * b ∧ i / b * b < r.2.2.1 + r.2.2.2))

/-- An element's value read through the footprints from a tensor's memory: zero outside them (R215). -/
def readValue (m : Mem) (rs : List (Nat × Nat × Nat × Nat)) (slot : Nat) (d : TensorDecl) (i : Nat) : FVal :=
  if inRange rs 1 slot i then tensorValue m d i else zeroV

/-- The noise key of a conversion that a program makes: purpose 6 in an evaluation (R57 to R59). -/
def programKey (s : State) (inst : InstRef) (tensor purpose : Nat) : NoiseKey :=
  { seed := s.regs.jobSeed, tensor := tensor, purpose := if instIsEval inst then 6 else purpose, slot := 0,
    step := instStep inst }

/-- A write of element `i` falls outside the footprints: in a blocked tensor, where no element of its block lies in one
(R215, R218). -/
def writeMisses (rs : List (Nat × Nat × Nat × Nat)) (slot : Nat) (d : TensorDecl) (i : Nat) : Bool :=
  if isBlocked d.format then !blockInRange rs 2 slot d.block i else !inRange rs 2 slot i

/-- Write consecutive values of a tensor: binary32 with no conversion where the format is binary32, else converted; a
block is written when any element of it lies in a write footprint, other formats element by element (R218, R222). DESIGN
CHOICE (log 76): a drain or layer descriptor that names PURPOSE 1 to 6 for a binary32 output, to which the spec gives no
meaning, writes the values unconverted. -/
def storeValues (s : State) (rs : List (Nat × Nat × Nat × Nat)) (slot : Nat) (d : TensorDecl) (k : NoiseKey)
    (first : Nat) (vals : List FVal) (mask : Nat → Bool) : State :=
  let m := tensorMem s d.id
  let m' :=
    if isBlocked d.format then
      (chunksOf d.block vals.length vals).zipIdx.foldl (fun m c =>
        let i := first + c.2 * d.block
        if blockInRange rs 2 slot d.block i then (convertInto m d k i c.1).1 else m) m
    else
      vals.zipIdx.foldl (fun m c =>
        let i := first + c.2
        if inRange rs 2 slot i && mask c.2 then
          (if d.format = 6 then writeElem m 6 i (encodeRne singleF c.1) else (convertInto m d k i [c.1]).1)
        else m) m
  setTensor s d.id m'

/-! ### Running an instruction -/

/-- The open level whose body has just ended, with the levels inside it and those around it: LOOP_END comes next. A level
whose own body starts here has not run yet and hides no level around it. -/
def dueLevel (depth pc : Nat) : List LoopLevel → List LoopLevel → Option (List LoopLevel × LoopLevel × List LoopLevel)
  | _, [] => none
  | inner, l :: r =>
    if l.depth != depth then none
    else if l.last = pc then some (inner.reverse, l, r)
    else if l.first = pc ∧ l.index = 0 then dueLevel depth pc (l :: inner) r
    else none

/-- Whether an open loop's body has just ended. -/
def atLoopEnd (x : Context) : Bool := (dueLevel x.calls.length x.pc [] x.loops).isSome

/-- A context that can issue: RUNNING, its retirement not held (Table 8.2, R185). -/
def canIssue (s : State) (c : CtxId) : Bool := (ctxAt s c).any (fun x => x.state == .running && !x.retiring)

/-- The context of a spindle whose turn it is: the lowest-numbered that can issue above the one that issued last, wrapping
from 3 to 0 (R180). -/
def nextIssue (s : State) (die sp : Nat) : Option Nat :=
  let last := (aGet s.spindles.issued (die, sp)).getD 3
  ((List.range 4).map (fun k => (last + 1 + k) % 4)).find? (fun k => canIssue s { die := die, spindle := sp, ctx := k })

def markIssued (s : State) (c : CtxId) : State :=
  s.setSpindles { s.spindles with issued := aPut s.spindles.issued (c.die, c.spindle) c.ctx }

/-- Issue an instruction: the context is RUNNING and its turn has come, its next instruction is this word, the row's opcode
is the word's, no loop end is due and the member is not stopped (R179, R180, R266). Otherwise nothing happens. -/
def plyStep (s : State) (c : CtxId) (w : Word) (op : Nat) (run : Context → Image → FuncEntry → State) : Out :=
  match ctxAt s c with
  | none => .next s
  | some x =>
    match imageAt s x.image with
    | none => .next s
    | some img =>
      if s.running && x.state == .running && !x.retiring && nextIssue s c.die c.spindle == some c.ctx &&
          !s.spindles.stopped && !atLoopEnd x && img.ply.code[x.pc]? == some w && plyOp w == op then
        .next (markIssued (run x img (funcAt img.ply x.func)) c)
      else .next s

/-- The footprint ranges of the function a context runs. -/
def ctxRanges (s : State) (x : Context) (img : Image) : List (Nat × Nat × Nat × Nat) :=
  rangesFor (footsOf img.ply (funcAt img.ply x.func)) (ctxArgs s x)

/-! ### Sync counters -/

def counterAt (s : State) (c : CtxId) (n : Nat) : Word32 := (aGet s.spindles.counters (c.die, c.spindle, n)).getD 0

/-- The function that a context's vertex or invocation runs. -/
def entryFunc (s : State) (x : Context) : FuncEntry :=
  ((imageAt s x.image).map (fun i => funcAt i.ply x.entry)).getD default

/-- Spindles of the die on which a vertex of the context's co-dispatch group holds a counter, its own spindle among them
(R198, R264). -/
def groupSpindles (s : State) (c : CtxId) (x : Context) (n : Nat) : List Nat :=
  match instLattice s x.inst with
  | none => [c.spindle]
  | some l =>
    let group (y : Context) : Nat := (nth l.vertices y.vertex default).group
    if group x = 0 ∨ x.target ≠ 0 then [c.spindle]
    else
      sortDistinct (c.spindle :: (s.spindles.contexts.filter (fun y =>
        y.1.die == c.die && y.2.inst == x.inst && y.2.target == 0 && group y.2 == group x &&
        bitAt (entryFunc s y.2).counterMask n)).map (fun y => y.1.spindle))

/-- Whose counter a SIGNAL reaches: format S names the number only, so within a group the spindle is free (R198, R217). -/
def signalTarget (s : State) (c : CtxId) (x : Context) (n : Nat) : CtxId :=
  let l := groupSpindles s c x n
  { c with spindle := nth l (Free.signalSpindle x.image x.vertex x.pc % l.length) c.spindle }

def signalCounter (s : State) (c : CtxId) (n amount : Nat) : State :=
  s.setSpindles { s.spindles with
    counters := aPut s.spindles.counters (c.die, c.spindle, n) (counterSignal (counterAt s c n) amount) }

/-! ### Engine queues -/

def queueAt (s : State) (q : QueueId) : Queue := (aGet s.spindles.queues q).getD { cmds := [], count := 0, offers := [] }

def setQueue (s : State) (q : QueueId) (v : Queue) : State :=
  s.setSpindles { s.spindles with queues := aPut s.spindles.queues q v }

/-- Table 8.1 queue depths. -/
def queueDepth (k : QueueKind) : Nat :=
  match k with
  | .array => Constants.arrayQueueDepth
  | .move => Constants.moveQueueDepth

/-- A command's tag: its descriptor's slot (R265). -/
def cmdTag (b : CmdBody) : Nat :=
  match b with
  | .product n => n
  | .move n => n

/-- Whether an armed slot's condition meets a command just accepted (Table 10.14). -/
def breakMeets (b : BreakSlot) (q : QueueId) (count tag : Nat) : Bool :=
  b.queue == q.kind && (b.die == none || b.die == some q.die) && (b.spindle == none || b.spindle == some q.spindle) &&
  (if b.onTag then b.tag == tag else b.count == count)

/-- Slots that fire for a command: (slot number). -/
def firing (s : State) (q : QueueId) (count tag : Nat) : List Nat :=
  s.spindles.breaks.zipIdx.filterMap (fun b =>
    match b.1 with
    | some k => if breakMeets k q count tag then some b.2 else none
    | none => none)

/-- A queue accepts a command: the count advances; a slot that fires disarms, holds the command, stops the member and
posts DEBUG_STOP (R201, R266). -/
def acceptCommand (s : State) (q : QueueId) (cmd : QCmd) : State :=
  let old := queueAt s q
  let count := old.count + 1
  let tag := cmdTag cmd.body
  let fired := firing s q count tag
  let s := setQueue s q { old with cmds := old.cmds ++ [{ cmd with held := !fired.isEmpty }], count := count }
  let s := s.setSpindles { s.spindles with
    stopped := s.spindles.stopped || !fired.isEmpty,
    breaks := s.spindles.breaks.zipIdx.map (fun b => if fired.contains b.2 then none else b.1) }
  fired.foldl (fun s n =>
    postEvent s q.die (instStep cmd.inst)
      (.debugStop n q.die q.spindle (match q.kind with | .array => 0 | .move => 1) count tag)) s

/-- Offer a command to a queue of the context's spindle: a queue that is full, or that has an earlier offer to accept,
stalls the context with it (R200, R201). -/
def offerCommand (s : State) (c : CtxId) (x : Context) (kind : QueueKind) (cmd : QCmd) : State :=
  let q : QueueId := { die := c.die, spindle := c.spindle, kind := kind }
  let old := queueAt s q
  if queueDepth kind ≤ old.cmds.length ∨ old.offers ≠ [] then
    setQueue (setCtx s c { x with state := .stalled, heldCmd := some cmd }) q { old with offers := old.offers ++ [c] }
  else acceptCommand (setCtx s c x) q cmd

end Sys2Proof.Machine
end

