-- ==== Sys2Proof/Machine/PlyControl.lean ====
section
/-! DEFINITION. Ply control flow, loops, sync counters and QUERY (R194 to R199, R217, R219). -/

namespace Sys2Proof.Machine

/-- Close the loop levels of the present call depth whose body does not hold `pc`, and every level inside them (R194). -/
def leaveLoops (depth pc : Nat) : List LoopLevel → List LoopLevel
  | [] => []
  | l :: r =>
    if l.depth == depth && !(decide (l.first ≤ pc ∧ pc < l.last)) then leaveLoops depth pc r else l :: r

/-- Continue at a CODE slot. -/
def jumpTo (x : Context) (pc : Nat) : Context := { x with pc := pc, loops := leaveLoops x.calls.length pc x.loops }

/-- The slot TARGET names, counted from the branch itself (R216). -/
def branchSlot (x : Context) (w : Word) : Nat := ((x.pc : Int) + plyTarget w).toNat

/-- BR. -/
def execBr (c : CtxId) (w : Word) (s : State) : Out :=
  plyStep s c w 0x60 (fun x _ _ => setCtx s c (jumpTo x (branchSlot x w)))

/-- BRC: branch if REG is not 0. -/
def execBrc (c : CtxId) (w : Word) (s : State) : Out :=
  plyStep s c w 0x61 (fun x _ _ =>
    setCtx s c (if sreg x (plyDst w) = 0 then nextPc x else jumpTo x (branchSlot x w)))

/-- Close the levels that a skip to `pc` leaves; one that ends at `pc` has its own end to come. -/
def skipLoops (depth pc : Nat) : List LoopLevel → List LoopLevel
  | [] => []
  | l :: r => if l.depth == depth && !(decide (l.first ≤ pc ∧ pc ≤ l.last)) then skipLoops depth pc r else l :: r

/-- LOOP: a count of 0 skips the body; otherwise a level opens with the count latched, every run remaining and index 0
(R194). A context has four levels; the translator maps deeper loops onto scalar branches, which changes no value, so the
list of levels has no bound here. -/
def execLoop (c : CtxId) (w : Word) (s : State) : Out :=
  plyStep s c w 0x62 (fun x _ _ =>
    let count := bits (sreg x (plyDst w)).toNat 0 32
    let last := x.pc + 1 + plyImm w
    setCtx s c
      (if count = 0 then { x with pc := last, loops := skipLoops x.calls.length last x.loops }
       else { x with
         pc := x.pc + 1,
         loops :=
           { first := x.pc + 1, last := last, count := count, remaining := count, index := 0, depth := x.calls.length } ::
             x.loops }))

/-- LOOP_END: the body of a level has ended: it runs again, every level inside it freed, or the level is freed (R194). -/
def execLoopEnd (c : CtxId) (s : State) : Out :=
  match ctxAt s c with
  | none => .next s
  | some x =>
    match dueLevel x.calls.length x.pc [] x.loops with
    | none => .next s
    | some (inner, l, r) =>
      if s.running && x.state == .running && !s.spindles.stopped then
        .next (setCtx s c
          (if 1 < l.remaining then
            { x with pc := l.first, loops := { l with index := l.index + 1, remaining := l.remaining - 1 } :: r }
           else { x with loops := inner ++ r }))
      else .next s

/-- CALL: the subroutine whose function slot is TARGET. -/
def execCall (c : CtxId) (w : Word) (s : State) : Out :=
  plyStep s c w 0x63 (fun x img _ =>
    setCtx s c { x with
      pc := (funcAt img.ply (plyImm w)).codeFirst, func := plyImm w, calls := (x.func, x.pc + 1) :: x.calls })

/-- RET: back to the instruction after the call; levels opened in the subroutine are freed. -/
def execRet (c : CtxId) (w : Word) (s : State) : Out :=
  plyStep s c w 0x64 (fun x _ _ =>
    match x.calls with
    | [] => setCtx s c x
    | (f, pc) :: r =>
      setCtx s c { x with pc := pc, func := f, calls := r, loops := x.loops.filter (fun l => decide (l.depth ≤ r.length)) })

/-- SIGNAL: COUNTER of its own spindle, or of a spindle of its co-dispatch group, rises by IMM (R195, R198). -/
def execSignal (c : CtxId) (w : Word) (s : State) : Out :=
  plyStep s c w 0x50 (fun x _ _ => 
    setCtx (signalCounter s (signalTarget s c x (plyByte3 w)) (plyByte3 w) (plyImm w)) c (nextPc x))

/-- WAIT: satisfied, the context goes on; otherwise it is WAITING and resumes at the instruction after (R182, R195). -/
def execWait (c : CtxId) (w : Word) (s : State) : Out :=
  plyStep s c w 0x51 (fun x _ _ =>
    let t := BitVec.ofNat 32 (sreg x (plyDst w)).toNat
    if waitMet (counterAt s c (plyByte3 w)) t then setCtx s c (nextPc x)
    else setCtx s c { nextPc x with state := .waiting, waitOn := some (plyByte3 w, t) })

/-- The loss-scale exponent of an instance: the e that governs the step, none before the commit of the step before has
decided it; in an evaluation the e in effect after its boundary (R217). -/
def instExponent (s : State) (i : InstRef) : Option Nat :=
  match i with
  | .step n => (s.steps.admitted.find? (fun x => x.n == n)).bind AdmStep.exponent
  | .eval _ _ => some s.steps.exponent

def exponentKnown (s : State) (i : InstRef) : Bool := (instExponent s i).isSome

/-- WAIT_SATISFIED: a WAITING context whose wait is satisfied runs again (R179, R197). -/
def execWaitSatisfied (c : CtxId) (s : State) : Out :=
  match ctxAt s c with
  | none => .next s
  | some x =>
    if x.state != .waiting || !s.running || s.spindles.stopped then .next s
    else if x.waitE then
      (if exponentKnown s x.inst then .next (setCtx s c { x with state := .running, waitE := false }) else .next s)
    else
      match x.waitOn with
      | none => .next s
      | some (n, t) =>
        if waitMet (counterAt s c n) t then .next (setCtx s c { x with state := .running, waitOn := none }) else .next s

/-- OPTIMISER_PARAMS of a target; LR to WD 0, C1 and C2 1.0 until an entry is applied (R138). -/
def optParamsOf (s : State) (target : Nat) : OptParams :=
  (aGet s.cfg.opt target).getD { lr := 0, beta1 := 0, beta2 := 0, eps := 0, wd := 0, c1 := 0x3F80, c2 := 0x3F80 }

/-- Field `i` of OPTIMISER_PARAMS in the order of Table 6.3. -/
def optField (p : OptParams) (i : Nat) : BitVec 16 :=
  match i with
  | 0 => p.lr
  | 1 => p.beta1
  | 2 => p.beta2
  | 3 => p.eps
  | 4 => p.wd
  | 5 => p.c1
  | _ => p.c2

/-- What QUERY returns (R217): step number, loss-scale exponent, member number, member count, a hyperparameter of the
kernel's target, units in this invocation. -/
def queryValue (s : State) (x : Context) (funct imm : Nat) : Nat :=
  match funct with
  | 0 => instStep x.inst
  | 1 => (instExponent s x.inst).getD 0
  | 2 => s.member
  | 3 => s.jobSize
  | 4 => (optField (optParamsOf s x.target) imm).toNat
  | _ => x.units.length

/-- QUERY; a vertex that asks for e before the commit that decides it waits for that commit (R217). -/
def execQuery (c : CtxId) (w : Word) (s : State) : Out :=
  plyStep s c w 0x70 (fun x _ _ =>
    if plyByte3 w = 1 ∧ exponentKnown s x.inst = false then setCtx s c { x with state := .waiting, waitE := true }
    else setCtx s c (nextPc (setSreg x (plyDst w) (BitVec.ofNat 64 (queryValue s x (plyByte3 w) (plyImm w))))))

/-- Which queue a command goes to. -/
def cmdQueue (k : QCmd) : QueueKind :=
  match k.body with
  | .product _ => .array
  | .move _ => .move

/-- The stalled context whose offer to a queue came first, and the offers after it (R200, R201). -/
def stalledFor (s : State) (q : QueueId) : List CtxId → Option (CtxId × Context × QCmd × List CtxId)
  | [] => none
  | c :: r =>
    match ctxAt s c with
    | none => stalledFor s q r
    | some x =>
      match x.heldCmd with
      | none => stalledFor s q r
      | some k =>
        if x.state = .stalled ∧ cmdQueue k = q.kind ∧ c.die = q.die ∧ c.spindle = q.spindle then some (c, x, k, r)
        else stalledFor s q r

/-- QUEUE_ACCEPT: a queue with room takes the command that the first stall holds, and its context runs again (R179,
R200). -/
def execQueueAccept (q : QueueId) (s : State) : Out :=
  let old := queueAt s q
  match stalledFor s q old.offers with
  | none => .next s
  | some (c, x, cmd, later) =>
    if !s.running || queueDepth q.kind ≤ old.cmds.length then .next s
    else
      .next (acceptCommand (setQueue (setCtx s c { x with state := .running, heldCmd := none }) q { old with offers := later })
        q cmd)

end Sys2Proof.Machine
end

