-- ==== Sys2Proof/Machine/PlyCheck.lean ====
section
/-! DEFINITION. The translation checks (R204 to R227): every rule gives the violations it finds, each at a byte offset
of the module; the lowest offset and then the lowest code is reported. Also the image bound (R230), energy classes
(R225) and the interface of a reload (R232). -/

namespace Sys2Proof.Machine

/-- A violation: byte offset, error code (Table 9.14), function slot. -/
structure Violation where
  offset : Nat
  code   : Nat
  func   : Option Nat
  deriving DecidableEq, Repr

def errBadContainer : Nat := 0x01
def errVersion : Nat := 0x02
def errOpcode : Nat := 0x03
def errOperand : Nat := 0x04
def errTensor : Nat := 0x05
def errPurpose : Nat := 0x06
def errDrain : Nat := 0x07
def errLayer : Nat := 0x08
def errFootprint : Nat := 0x09
def errBuffer : Nat := 0x0A
def errControl : Nat := 0x0B
def errOptimiser : Nat := 0x0C
def errFunction : Nat := 0x0D
def errImage : Nat := 0x0E
def errInterface : Nat := 0x0F

/-- Status of a translation error (Table 9.14). -/
def errStatus (code : Nat) : Status :=
  if code = 0x02 ∨ code = 0x05 ∨ code = 0x07 ∨ code = 0x0C ∨ code = 0x0F then .rejectedConfig
  else if code = 0x08 ∨ code = 0x0A ∨ code = 0x0D ∨ code = 0x0E then .rejectedLimit
  else if code = 0x09 then .rejectedFootprint
  else .malformed

/-- One rule: a violation where `bad` holds. -/
def rule (bad : Bool) (offset code : Nat) : List Violation :=
  if bad then [{ offset := offset, code := code, func := none }] else []

/-- The violation that R227 reports. -/
def lowestViolation : List Violation → Option Violation
  | [] => none
  | v :: r =>
    match lowestViolation r with
    | none => some v
    | some u => if u.offset < v.offset ∨ (u.offset = v.offset ∧ u.code < v.code) then some u else some v

/-! ### Header and directory (R204, R205) -/

/-- Reserved header bytes: the violation lies at the first that is not zero (DEDUCED, assumption 19). -/
def reservedBytes (bs : List Byte) (lo hi : Nat) : List Violation :=
  match ((bs.drop lo).take (hi - lo)).zipIdx.find? (fun x => x.1 != 0) with
  | some x => [{ offset := lo + x.2, code := errBadContainer, func := none }]
  | none => []

def checkHeader (bs : List Byte) : List Violation :=
  rule (leAt bs 0 4 != 0x31594C50) 0x00 errBadContainer ++
  rule (leAt bs 4 2 != 1) 0x04 errVersion ++
  rule (leAt bs 6 2 != 0) 0x06 errVersion ++
  rule (leAt bs 8 4 % 64 != 0 || leAt bs 8 4 != bs.length) 0x08 errBadContainer ++
  rule (leAt bs 0x0C 2 < 3 || 10 < leAt bs 0x0C 2 || bs.length < 0x40 + 16 * leAt bs 0x0C 2) 0x0C errBadContainer ++
  reservedBytes bs 0x0E 0x10 ++
  rule (leAt bs 0x10 4 != crc32c (bs.drop 0x40)) 0x10 errBadContainer ++
  reservedBytes bs 0x14 0x40

/-- Whether two byte ranges share a byte; an empty one shares none. -/
def rangesMeet (a la b lb : Nat) : Bool := decide (0 < la ∧ 0 < lb ∧ a < b + lb ∧ b < a + la)

def checkSection (bs : List Byte) (dir : List Section4) (i : Nat) (d : Section4) : List Violation :=
  let o := 0x40 + 16 * i
  let before := dir.take i
  rule (d.kind == 0 || 10 < d.kind || !zeroBytes bs (o + 2) (o + 4) || before.any (fun e => e.kind == d.kind) ||
    d.offset % 64 != 0 || bs.length < d.offset + d.length ||
    (d.kind != 10 && (d.length != d.count * entrySize d.kind || mostEntries d.kind < d.count)) ||
    rangesMeet d.offset d.length 0 (0x40 + 16 * dir.length) ||
    before.any (fun e => rangesMeet d.offset d.length e.offset e.length)) o errBadContainer

def checkDirectory (bs : List Byte) : List Violation :=
  let dir := readDirectory bs
  (dir.zipIdx.flatMap (fun d => checkSection bs dir d.2 d.1)) ++
  rule ([1, 2, 4].any (fun k => !dir.any (fun d => d.kind == k))) 0x40 errBadContainer

/-! ### Tensor declarations (R206 to R209) -/

/-- State formats an optimiser code allows (Table 5.6): code, format, block log2, slots. -/
def stateAllowed (optimiser format blockLog2 slots : Nat) : Bool :=
  let blockOk := if isBlocked format then decide (4 ≤ blockLog2 ∧ blockLog2 ≤ 7) else blockLog2 == 0
  let perElem := decide (1 ≤ format ∧ format ≤ 4) && blockOk
  match optimiser with
  | 0 => format == 0 && blockLog2 == 0 && slots == 0
  | 1 => perElem && slots == 0
  | 2 => format == 4 && blockLog2 == 0 && slots == 0
  | 3 => perElem && slots == 0
  | 4 => perElem && slots == 0
  | 5 => if slots = 0 then format == 0 && blockLog2 == 0 else decide (slots ≤ 2) && perElem
  | _ => false

def sameShape (a b : TensorDecl) : Bool := a.rank == b.rank && a.dims == b.dims

/-- The constraints of Tables 9.4 to 9.6 on one declaration, `slot` being its own; `width` gives a table's row width, known
where a version of it is in effect. -/
def tensorBad (width : Nat → Option Nat) (m : PlyModule) (slot : Nat) (e : List Byte) (d : TensorDecl) : Bool :=
  let blocked := isBlocked d.format
  let assoc := m.tensors.find? (fun t => t.id == d.associated)
  let inKernel := m.funcs.any (fun f => f.kind == 1 && (footsOf m f).any (fun p => p.slot == slot))
  d.id == 0 || 2 ^ 31 ≤ d.id || (m.tensors.take slot).any (fun t => t.id == d.id) ||
  10 < d.role || d.format == 0 || 9 < d.format || d.rank == 0 || 4 < d.rank ||
  (if blocked then d.blockLog2 < 4 || 7 < d.blockLog2 || d.inner % d.block != 0 else d.blockLog2 != 0) ||
  (d.dims.take d.rank).any (· == 0) || (d.dims.drop d.rank).any (· != 0) || 2 ^ 36 < d.count ||
  !zeroBytes e 0x1E 0x20 || !zeroBytes e 0x24 0x30 ||
  (if d.role == 3 || d.role == 4 then 4095 < d.table || d.rank != 2 else d.table != 0) ||
  (d.role == 3 && (width d.table).any (fun w => w != nth d.dims 1 0)) ||
  (d.role == 4 && (width d.table).any (fun w => w != nth d.dims 1 0)) ||
  (d.role == 4 && (d.format != 6 || m.tensors.any (fun t => t.role == 3 && t.table == d.table && !sameShape t d))) ||
  (if d.role == 5 then d.format != 4 || 2 < d.rank || 5 < d.optimiser ||
      (d.optimiser != 2 && !stateAllowed d.optimiser d.stateFormat d.stateBlockLog2 d.stateSlots) ||
      (isBlocked d.stateFormat && d.inner % 2 ^ d.stateBlockLog2 != 0)
    else d.optimiser != 0 || d.stateFormat != 0 || d.stateBlockLog2 != 0 || d.stateSlots != 0) ||
  ((d.format == 9) != (d.role == 6)) ||
  (d.role == 7 && (d.format != 6 || d.rank != 1 || d.count != 1)) ||
  (d.role == 9 && !inKernel) ||
  (d.role == 10 && d.format != 6) ||
  (if d.role == 6 || d.role == 10 then
      (match assoc with
        | none => true
        | some t => !sameShape t d || (d.role == 10 && t.role != 5))
    else d.associated != 0)

def checkTensors (width : Nat → Option Nat) (bs : List Byte) (m : PlyModule) : List Violation :=
  let sec := sectionOf (readDirectory bs) 1
  (entriesOf bs sec).zipIdx.flatMap (fun e =>
    let d := readTensor e.1
    let o := sec.offset + 48 * e.2
    rule (tensorBad width m e.2 e.1 d) o errTensor ++ rule (d.role == 5 && d.optimiser == 2) o errOptimiser)

/-! ### Functions and footprints (R211, R212, R215) -/

/-- Whether a footprint of a function of this kind may name a tensor of this role (R211). -/
def roleAllowed (kind role : Nat) : Bool :=
  if kind = 1 then role == 9 || role == 0 else if kind = 0 then role != 9 else true

/-- Whether a subroutine's resources are a subset of a caller's (R211). -/
def subsetOf (m : PlyModule) (sub caller : FuncEntry) : Bool :=
  decide (sub.scratch ≤ caller.scratch) && (sub.counterMask &&& caller.counterMask) == sub.counterMask &&
  (footsOf m sub).all (fun p => (footsOf m caller).contains p)

/-- Function slots that a function calls. -/
def callees (m : PlyModule) (f : FuncEntry) : List Nat :=
  ((m.code.drop f.codeFirst).take f.codeCount).filterMap (fun w => if plyOp w = 0x63 then some (plyImm w) else none)

def checkFunction (m : PlyModule) (o slot nCode nFoot : Nat) (e : List Byte) (f : FuncEntry) : List Violation :=
  let callers := m.funcs.filter (fun g => (callees m g).contains slot)
  let tableOrParam := decide (2 ^ 31 ≤ f.target ∧ f.target < 2 ^ 31 + 4096) ||
    m.tensors.any (fun t => t.id == f.target && t.role == 5)
  (rule (!zeroBytes e 2 4 || !zeroBytes e 0x28 0x30 || 2 ^ 48 ≤ f.counterMask || 2 < f.kind || f.codeCount == 0 ||
      nCode < f.codeFirst + f.codeCount || nFoot < f.fpFirst + f.fpCount || f.scratch % 64 != 0 ||
      (f.kind != 1 && f.target != 0)) o errBadContainer ++
   rule (f.bufferCount == 0 || 65536 < f.bufferCount) o errBuffer ++
   rule (f.kind == 1 && !tableOrParam) o errOptimiser ++
   rule (16 < f.argWords || 262144 < f.scratch || 1024 < f.fpCount ||
      (f.kind == 2 && callers.any (fun g => !subsetOf m f g))) o errFunction).map (fun v => { v with func := some slot })

def checkFunctions (bs : List Byte) (m : PlyModule) : List Violation :=
  let sec := sectionOf (readDirectory bs) 2
  (entriesOf bs sec).zipIdx.flatMap (fun e =>
    checkFunction m (sec.offset + 48 * e.2) e.2 m.code.length m.foots.length e.1 (readFunc e.1))

def checkFoots (bs : List Byte) (m : PlyModule) : List Violation :=
  let sec := sectionOf (readDirectory bs) 3
  (entriesOf bs sec).zipIdx.flatMap (fun e =>
    let p := readFoot e.1
    let users := m.funcs.zipIdx.filter (fun f => decide (f.1.fpFirst ≤ e.2 ∧ e.2 < f.1.fpFirst + f.1.fpCount))
    let wrong := users.find? (fun f => p.slot < m.tensors.length && !roleAllowed f.1.kind (tensorAt m p.slot).role)
    (rule (m.tensors.length ≤ p.slot || p.access == 0 || 3 < p.access || 3 < leAt e.1 3 1 || !zeroBytes e.1 6 8 ||
        (p.offsetArg && 16 ≤ p.offsetWord) || (p.lengthArg && 16 ≤ p.lengthWord) || wrong.isSome)
      (sec.offset + 24 * e.2) errFootprint).map (fun v => { v with func := (wrong.map (·.2)) }))

/-! ### Instructions (R215 to R219) -/

/-- A code names a lane format of its view (R216). -/
def fmtOk (view fmt : Nat) : Bool :=
  match view with
  | 0 => decide (fmt ≤ 2)
  | 1 => decide (fmt ≤ 1)
  | 2 => fmt == 0
  | _ => false

/-- Whether an opcode is one of format R (Table 9.10). -/
def isFormatR (op : Nat) : Bool :=
  op == 0x01 || op == 0x10 || op == 0x12 || op == 0x13 || op == 0x20 || op == 0x21 || op == 0x22 || op == 0x23 || op == 0x24

def plyOpcodes : List Nat :=
  [0x01, 0x02, 0x03, 0x10, 0x11, 0x12, 0x13, 0x20, 0x21, 0x22, 0x23, 0x24, 0x30, 0x31, 0x32, 0x33, 0x40, 0x41, 0x50,
   0x51, 0x52, 0x60, 0x61, 0x62, 0x63, 0x64, 0x6F, 0x70]

/-- A floating comparison: FUNCT 6 to 8 of CMP (R217). -/
def cmpFloats (funct : Nat) : Bool := decide (6 ≤ funct)

/-- Whether FUNCT is one that the opcode's row gives (R217). -/
def functOk (w : Word) : Bool :=
  let op := plyOp w
  let r := plyFunctR w
  let b := plyByte3 w
  match op with
  | 0x10 => decide (r ≤ 12)
  | 0x11 => decide (b ≤ 12)
  | 0x12 => decide (r ≤ 8)
  | 0x20 => decide (r ≤ 9)
  | 0x21 => decide ((r = 1 ∨ r = 2) ∧ plyView w < r)
  | 0x22 => r == 1 && plyView w == 2
  | 0x24 => decide (bits r 2 2 ≤ 2) && r / 16 == 0
  | 0x62 => true
  | 0x70 => decide (b ≤ 5)
  | 0x01 => r == 0
  | 0x13 => r == 0
  | 0x23 => r == 0
  | 0x02 => b == 0
  | 0x03 => b == 0
  | 0x60 => b == 0
  | 0x61 => b == 0
  | 0x63 => b == 0
  | 0x64 => b == 0
  | 0x6F => b == 0
  | _ => true

/-- Views that an opcode allows (R216 to R218, Table 8.4). -/
def viewOk (w : Word) : Bool :=
  let v := plyView w
  match plyOp w with
  | 0x01 => true
  | 0x10 => true
  | 0x11 => true
  | 0x12 => v != 3 || !cmpFloats (plyFunctR w)
  | 0x13 => v != 3
  | 0x20 => if plyFunctR w < 6 then v == 1 || v == 2 else v == 2
  | 0x21 => v == 0 || v == 1
  | 0x22 => v == 2
  | 0x23 => v != 3
  | 0x24 =>
    match bits (plyFunctR w) 0 2 with
    | 0 => v == 1
    | 1 => v == 2
    | 2 => v == 2
    | _ => v == 0
  | 0x30 => v != 3
  | 0x31 => v != 3
  | _ => v == 3

/-- FMT and TFMT of format R (R216). -/
def formatsOk (w : Word) : Bool :=
  let op := plyOp w
  if !isFormatR op then true
  else
    let uses := op == 0x20 || op == 0x21 || op == 0x22 || op == 0x24 || (op == 0x12 && cmpFloats (plyFunctR w))
    (if uses then fmtOk (plyView w) (plyFmt w) else plyFmt w == 0) &&
    (if op == 0x21 then fmtOk (plyFunctR w) (plyTfmt w) else if op == 0x22 then fmtOk 1 (plyTfmt w) else plyTfmt w == 0)

/-- Reserved bits of the instruction's format (Table 9.9). -/
def reservedOk (w : Word) : Bool :=
  let op := plyOp w
  if isFormatR op then bits w.toNat 46 18 == 0
  else if op == 0x30 || op == 0x31 then bits w.toNat 48 16 == 0
  else if 0x50 ≤ op && op ≤ 0x6F then bits w.toNat 19 5 == 0
  else true

/-- Whether a view is the one in which an element of a format moves unconverted (R218); mask bits move in any. -/
def moveView (format view : Nat) : Bool :=
  if format = 9 then view != 3
  else if isBlocked format then view == 0
  else if elemWidth format = 16 then view == 1
  else view == 2

/-- Registers that one converted block takes (R218). -/
def blockRegs (d : TensorDecl) (view : Nat) : Nat := if isBlocked d.format then ceilDiv d.block (laneCount view) else 1

/-- A TLOAD's or TSTORE's own operand rules, its tensor being `d`; a UNIT tensor, which only a kernel or its subroutines can
name, takes converting stores of purpose 3 or 4 alone (R211, R218). -/
def tensorOperandBad (w : Word) (d : TensorDecl) : Bool :=
  let p := plyByte3 w
  let v := plyView w
  if plyOp w = 0x30 then !moveView d.format v
  else if p = 0 then !moveView d.format v || d.role == 9
  else
    v == 0 || d.format == 6 || d.format == 9 || d.role == 10 || d.role == 6 ||
    (isBlocked d.format && plyPredicated w) || 32 < plyDst w + blockRegs d v ||
    (d.role == 9 && p != 3 && p != 4)

/-- The tensors an instruction names: (tensor slot, access needed) (R215, R221 to R224). -/
def namedTensors (m : PlyModule) (w : Word) : List (Nat × Nat) :=
  let ifSlot (t a : Nat) : List (Nat × Nat) := if t = 0xFFFF then [] else [(t, a)]
  match plyOp w with
  | 0x30 => [(plySlot w, 1)]
  | 0x31 => [(plySlot w, 2)]
  | 0x32 =>
    match m.moves[plyImm w]? with
    | some d => [(d.src, 1), (d.dst, 2)]
    | none => []
  | 0x33 =>
    match m.tiles[plyImm w]? with
    | some d => ifSlot d.src 1 ++ ifSlot d.dst 2 ++ ifSlot d.addend 1
    | none => []
  | 0x40 =>
    match m.products[plyImm w]? with
    | some d =>
      let base := [(d.a, 1), (d.b, 1)]
      if d.arrangement = 2 then base
      else
        match m.drains[d.drain]? with
        | some r => base ++ [(d.out, 2)] ++ (if bitAt r.steps 0 then ifSlot r.bias 1 else []) ++
            (if bitAt r.steps 1 then ifSlot r.mask 2 else []) ++ (if bitAt r.steps 3 then ifSlot r.mask 1 else [])
        | none => base ++ [(d.out, 2)]
    | none => []
  | 0x41 =>
    match m.layers[plyImm w]? with
    | some d => ifSlot d.inSlot 1 ++ ifSlot d.gain 1 ++ ifSlot d.shift 1 ++ (if d.mode = 0 then ifSlot d.outSlot 2 else [])
    | none => []
  | _ => []

/-- Length of the descriptor section that an instruction of format D indexes. -/
def descCount (m : PlyModule) (op : Nat) : Nat :=
  match op with
  | 0x32 => m.moves.length
  | 0x33 => m.tiles.length
  | 0x40 => m.products.length
  | _ => m.layers.length

/-- A counter within 0 to 47 that the function declares (R218). -/
def counterOk (f : FuncEntry) (c : Nat) : Bool := decide (c < 48) && bitAt f.counterMask c

/-- Whether a function is of kind 1, or a subroutine that no function of kind 0 reaches (R217); `fuel` bounds the
call depth. -/
def reachesFrom (m : PlyModule) (target : Nat) : Nat → Nat → Bool
  | 0, _ => false
  | fuel + 1, slot => slot == target || (callees m (funcAt m slot)).any (reachesFrom m target fuel)

def kernelOnly (m : PlyModule) (slot : Nat) : Bool :=
  (funcAt m slot).kind == 1 ||
  ((funcAt m slot).kind == 2 && !(m.funcs.zipIdx.any (fun f => f.1.kind == 0 && reachesFrom m slot 10 f.2)))

/-- INVALID_OPERAND rules that the word and the module's descriptors decide, whatever function holds it (R216 to R218). -/
def wordBad (m : PlyModule) (w : Word) : Bool :=
  let op := plyOp w
  let v := plyView w
  !viewOk w || !formatsOk w || !reservedOk w || (v == 3 && plyPredicated w) ||
  (op == 0x13 && !plyPredicated w) ||
  (op == 0x12 && v != 3 && 8 ≤ plyDst w) ||
  (op == 0x21 && 32 < plyDst w + 2 ^ (plyFunctR w - v)) ||
  (op == 0x24 && bits (plyFunctR w) 0 2 == 1 && plyPredicated w && plyPred w == 7) ||
  ((op == 0x30 || op == 0x31) && m.tensors.length ≤ plySlot w) ||
  ((op == 0x30 || op == 0x31) && plySlot w < m.tensors.length && (op == 0x30 || plyByte3 w ≤ 6) &&
    tensorOperandBad w (tensorAt m (plySlot w))) ||
  ((op == 0x32 || op == 0x33 || op == 0x40 || op == 0x41) &&
    (descCount m op ≤ plyImm w || !(plyByte3 w == 0xFF || plyByte3 w < 48))) ||
  ((op == 0x50 || op == 0x51 || op == 0x52) && 48 ≤ plyByte3 w) ||
  (op == 0x50 && (plyImm w == 0 || 65536 < plyImm w)) ||
  (op == 0x70 && (if plyByte3 w = 4 then 6 < plyImm w else plyImm w != 0))

/-- INVALID_OPERAND rules of one instruction of a function (R217, R218). -/
def operandBad (m : PlyModule) (slot : Nat) (f : FuncEntry) (w : Word) : Bool :=
  let op := plyOp w
  wordBad m w ||
  ((op == 0x32 || op == 0x33 || op == 0x40 || op == 0x41) && !(plyByte3 w == 0xFF || counterOk f (plyByte3 w))) ||
  ((op == 0x50 || op == 0x51 || op == 0x52) && !counterOk f (plyByte3 w)) ||
  (op == 0x70 && 4 ≤ plyByte3 w && !kernelOnly m slot)

/-- The longest chain of calls below a function, `fuel` bounding it (R219). -/
def callDepth (m : PlyModule) : Nat → Nat → Nat
  | 0, _ => 0
  | fuel + 1, slot => maxOf ((callees m (funcAt m slot)).map (fun g => callDepth m fuel g + 1))

/-- Where instruction `i` of a function may continue: indices within the function, its length for falling off. -/
def successors (code : List Word) (i : Nat) : List Nat :=
  let w := nth code i 0
  let at_ (t : Int) : List Nat := if 0 ≤ (i : Int) + t then [((i : Int) + t).toNat] else []
  match plyOp w with
  | 0x60 => at_ (plyTarget w)
  | 0x61 => (i + 1) :: at_ (plyTarget w)
  | 0x62 => [i + 1, i + 1 + plyImm w]
  | 0x64 => []
  | 0x6F => []
  | _ => [i + 1]

/-- Indices reachable from the function's first instruction; `fuel` bounds the sweeps. -/
def reachSet (code : List Word) : Nat → List Nat → List Nat → List Nat
  | 0, _, seen => seen
  | fuel + 1, front, seen =>
    match front with
    | [] => seen
    | i :: r =>
      if seen.contains i then reachSet code fuel r seen
      else if code.length ≤ i then reachSet code fuel r (i :: seen)
      else reachSet code fuel (successors code i ++ r) (i :: seen)

/-- Body of a LOOP at index `i`: one past its last instruction. -/
def loopEndIdx (w : Word) (i : Nat) : Nat := i + 1 + plyImm w

/-- INVALID_CONTROL rules of instruction `i` (R219). -/
def controlBad (m : PlyModule) (f : FuncEntry) (code : List Word) (i : Nat) (w : Word) : Bool :=
  let t : Int := (i : Int) + plyTarget w
  match plyOp w with
  | 0x60 => decide (t < 0 ∨ (code.length : Int) ≤ t)
  | 0x61 => decide (t < 0 ∨ (code.length : Int) ≤ t)
  | 0x62 =>
    plyImm w == 0 || code.length < loopEndIdx w i ||
    -- its body ends inside the body of a later loop and does not contain that body
    code.zipIdx.any (fun u => plyOp u.1 == 0x62 && i < u.2 && u.2 + 1 < loopEndIdx w i && loopEndIdx w i < loopEndIdx u.1 u.2)
  | 0x63 => m.funcs.length ≤ plyImm w || (funcAt m (plyImm w)).kind != 2 || 8 < callDepth m 9 (plyImm w) + 1
  | 0x64 => f.kind != 2
  | _ => false

def checkCodeOf (m : PlyModule) (base slot : Nat) (f : FuncEntry) : List Violation :=
  let code := (m.code.drop f.codeFirst).take f.codeCount
  let o (i : Nat) := base + 8 * (f.codeFirst + i)
  let per := code.zipIdx.flatMap (fun u =>
    let w := u.1
    let i := u.2
    if !plyOpcodes.contains (plyOp w) || !functOk w then rule true (o i) errOpcode
    else
      rule (operandBad m slot f w) (o i) errOperand ++
      rule (plyOp w == 0x31 && 6 < plyByte3 w) (o i) errPurpose ++
      rule ((namedTensors m w).any (fun n =>
        !(footsOf m f).any (fun p => p.slot == n.1 && p.gives n.2))) (o i) errFootprint ++
      rule (controlBad m f code i w) (o i) errControl)
  let falls := (reachSet code (4 * code.length + 4) [0] []).any (fun i => code.length ≤ i)
  (per ++ rule (falls && !per.any (fun v => v.code == errControl || v.code == errOpcode)) (o (code.length - 1)) errControl).map
    (fun v => { v with func := some slot })

/-- A word that no function covers: every rule that no function decides (R217, R218). -/
def checkLoose (m : PlyModule) (base i : Nat) (w : Word) : List Violation :=
  let o := base + 8 * i
  if !plyOpcodes.contains (plyOp w) || !functOk w then rule true o errOpcode
  else rule (wordBad m w) o errOperand ++ rule (plyOp w == 0x31 && 6 < plyByte3 w) o errPurpose

/-- Every word of the CODE section, function by function, then those that no function covers (R227). -/
def checkCode (bs : List Byte) (m : PlyModule) : List Violation :=
  let base := (sectionOf (readDirectory bs) 4).offset
  m.funcs.zipIdx.flatMap (fun f =>
    if m.code.length < f.1.codeFirst + f.1.codeCount then [] else checkCodeOf m base f.2 f.1) ++
  m.code.zipIdx.flatMap (fun w =>
    if m.funcs.any (fun f => decide (f.codeFirst ≤ w.2 ∧ w.2 < f.codeFirst + f.codeCount)) then []
    else checkLoose m base w.2 w.1)

/-! ### Descriptors (R221 to R224) -/

/-- A format that the array accepts (Table 7.1). -/
def arrayFormat (code : Nat) : Bool := code != 6 && code != 9

/-- Shape of a two-dimensional operand. -/
def shaped (d : TensorDecl) (rows cols : Nat) : Bool := d.rank ≤ 2 && d.rows2 == rows && d.cols == cols

def sampleMajor (d : TensorDecl) (rows cols : Nat) : Bool := d.rank == 2 && decide (rows ≤ d.rows2) && d.cols == cols

/-- A product descriptor against its tensors; its drain's BIAS_SLOT names a BF16 PARAMETER of O elements in every
arrangement, as Table 9.12 says, and its output is no UNIT tensor (R211, R221, R222). -/
def productBad (m : PlyModule) (e : List Byte) (p : ProductD) : Bool :=
  let n := m.tensors.length
  2 < p.arrangement || !zeroBytes e 1 2 || !zeroBytes e 0x18 0x20 || n ≤ p.a || n ≤ p.b || n ≤ p.out || p.rows == 0 ||
  p.inn == 0 || p.outpos == 0 ||
  (let a := tensorAt m p.a
   let b := tensorAt m p.b
   let t := tensorAt m p.out
   !arrayFormat a.format || !arrayFormat b.format || t.role == 9 ||
   (match p.arrangement with
    | 0 => !sampleMajor a p.rows p.inn || !shaped b p.inn p.outpos || !(b.role == 5 || b.role == 0) ||
        !sampleMajor t p.rows p.outpos || t.format == 9 || m.drains.length ≤ p.drain
    | 1 => !sampleMajor a p.rows p.outpos || !shaped b p.inn p.outpos || !(b.role == 5 || b.role == 0) ||
        !sampleMajor t p.rows p.inn || t.format == 9 || m.drains.length ≤ p.drain
    | _ => !(a.rank == 2 && a.rows2 == p.rows && a.cols == p.inn) || !sampleMajor b p.rows p.outpos || t.role != 5 ||
        !shaped t p.inn p.outpos || p.drain != 0xFFFFFFFF) ||
   (match (if p.arrangement = 2 then none else m.drains[p.drain]?) with
    | none => false
    | some r =>
      r.bias != 0xFFFF &&
        (n ≤ r.bias || (tensorAt m r.bias).role != 5 || (tensorAt m r.bias).count != p.outpos)))

/-- A mask kind, and those of its constants that it uses; a descriptor with no mask step and no activation ignores them
(R166). -/
def drainConstantsBad (r : DrainD) : Bool :=
  let used := bitAt r.steps 1 || bitAt r.steps 2 || bitAt r.steps 3
  used &&
  (3 < r.maskKind ||
   (r.maskKind == 1 && !(ofBf16 r.alpha).finite) ||
   (r.maskKind == 2 && (!(ofBf16 r.lo).finite || !(ofBf16 r.hi).finite || !(ofBf16 r.lo).lt (ofBf16 r.hi))))

/-- Reserved fields of a drain descriptor (Table 9.12). -/
def drainReserved (e : List Byte) (r : DrainD) : Bool := 15 < r.steps || !zeroBytes e 6 7 || !zeroBytes e 0x0E 0x20

/-- A drain descriptor by itself, and with the products that name it (R222, R166). -/
def drainBad (m : PlyModule) (slot : Nat) (r : DrainD) : Bool :=
  let users := m.products.filter (fun p => p.arrangement != 2 && p.drain == slot && p.out < m.tensors.length)
  (bitAt r.steps 2 && bitAt r.steps 3) || ((bitAt r.steps 1 || bitAt r.steps 3) && r.mask == 0xFFFF) ||
  (bitAt r.steps 0 && r.bias == 0xFFFF) || drainConstantsBad r || 6 < r.purpose ||
  (r.mask != 0xFFFF && (m.tensors.length ≤ r.mask || (tensorAt m r.mask).role != 6)) ||
  users.any (fun p =>
    (r.purpose == 0 && (tensorAt m p.out).format != 6) ||
    (r.mask != 0xFFFF && (tensorAt m r.mask).associated != (tensorAt m p.out).id))

/-- A layer descriptor against R223; every breach of R223 is LAYER_OUT_OF_RANGE (Table 9.14). -/
def layerBad (m : PlyModule) (l : LayerD) : Bool :=
  let n := m.tensors.length
  let param (t : Nat) := t != 0xFFFF && (n ≤ t || (tensorAt m t).role != 5 || (tensorAt m t).count != l.rowLength)
  l.kind == 0 || 3 < l.kind || 1 < l.mode || l.rowLength == 0 || 65536 < l.rowLength || l.rows == 0 || n ≤ l.inSlot || n ≤ l.outSlot || (l.mode == 1 && l.purpose != 0) ||
  (tensorAt m l.inSlot).inner != l.rowLength || (tensorAt m l.inSlot).format == 9 ||
  (tensorAt m l.outSlot).inner != l.rowLength || (tensorAt m l.outSlot).format == 9 ||
  (l.mode == 0 && l.purpose == 0 && (tensorAt m l.outSlot).format != 6) ||
  param l.gain || param l.shift || (l.kind != 1 && l.shift != 0xFFFF) ||
  (l.mode == 1 && !m.layers.any (fun f =>
    f.mode == 0 && decide ({ f with mode := 1, purpose := 0 } = { l with mode := 1, purpose := 0 })))

def moveBad (m : PlyModule) (e : List Byte) (d : MoveD) : Bool :=
  let n := m.tensors.length
  let a := tensorAt m d.src
  let b := tensorAt m d.dst
  n ≤ d.src || n ≤ d.dst || b.role == 9 || !zeroBytes e 8 16 || a.format != b.format || a.blockLog2 != b.blockLog2 ||
  (isBlocked a.format && d.elements % a.block != 0)

/-- Format code of the tile's view and lane format. -/
def tileFormat (d : TileD) : Nat := laneFormat d.view d.fmt

def tileBad (m : PlyModule) (e : List Byte) (d : TileD) : Bool :=
  let n := m.tensors.length
  let l := laneCount d.view
  let none_ := 0xFFFF
  let arith := d.op ≤ 5
  d.rows == 0 || 128 < d.rows || !(d.view == 1 || d.view == 2) || !fmtOk d.view d.fmt || !zeroBytes e 12 16 ||
  2 < d.broadcast || 31 < d.q || n ≤ d.src || (tensorAt m d.src).format != tileFormat d ||
  !(arith || (8 ≤ d.op && d.op ≤ 10) || (12 ≤ d.op && d.op ≤ 14)) ||
  (arith && (n ≤ d.dst || (tensorAt m d.dst).role == 9 || !(4 ≤ (tensorAt m d.dst).format && (tensorAt m d.dst).format ≤ 6))) ||
  (arith && d.broadcast == 1 && 31 < d.q + (d.rows - 1) / l) ||
  (if arith then
      if d.op == 3 then d.broadcast == 2 || n ≤ d.addend || (tensorAt m d.addend).format != tileFormat d
      else if d.broadcast == 2 then n ≤ d.addend || (tensorAt m d.addend).format != tileFormat d
      else d.addend != none_
    else d.broadcast != 2 || d.dst != none_ || d.addend != none_) ||
  (8 ≤ d.op && d.op ≤ 10 && 31 < d.q + (d.rows - 1) / 16) ||
  (12 ≤ d.op && d.view == 1 && 31 < d.q + 1)

def checkDescriptors (bs : List Byte) (m : PlyModule) : List Violation :=
  let dir := readDirectory bs
  let each (k : Nat) (f : Nat → List Byte → Nat → List Violation) : List Violation :=
    let sec := sectionOf dir k
    (entriesOf bs sec).zipIdx.flatMap (fun e => f e.2 e.1 (sec.offset + entrySize k * e.2))
  each 5 (fun _ e o => rule (productBad m e (readProduct e)) o errOperand) ++
  each 6 (fun i e o => rule (drainReserved e (readDrain e)) o errOperand ++ rule (drainBad m i (readDrain e)) o errDrain) ++
  each 7 (fun _ e o =>
    let l := readLayer e
    rule (!zeroBytes e 3 4 || !zeroBytes e 0x16 0x20 ||
      (l.mode == 0 && l.outSlot < m.tensors.length && (tensorAt m l.outSlot).role == 9)) o errOperand ++
    rule (6 < l.purpose) o errPurpose ++ rule (l.purpose ≤ 6 && layerBad m l) o errLayer) ++
  each 8 (fun _ e o => rule (moveBad m e (readMove e)) o errOperand) ++
  each 9 (fun _ e o => rule (tileBad m e (readTile e)) o errOperand)

/-- The whole check of R227: header, then directory, then every section; `width` gives the row widths of tables. -/
def checkModule (width : Nat → Option Nat) (bs : List Byte) : Option Violation :=
  match lowestViolation (checkHeader bs) with
  | some v => some v
  | none =>
    match lowestViolation (checkDirectory bs) with
    | some v => some v
    | none =>
      let m := readModule bs
      lowestViolation (checkTensors width bs m ++ checkFunctions bs m ++ checkFoots bs m ++ checkCode bs m ++
        checkDescriptors bs m)

/-! ### Image bound, interface, energy class -/

/-- The image bound in granules of 64 KiB (R230). -/
def imageGranules (bs : List Byte) : Nat :=
  let dir := readDirectory bs
  let len (k : Nat) := (sectionOf dir k).length
  ceilDiv (2 * len 4 + len 5 + len 6 + len 7 + len 8 + len 9) 65536

/-- Tensors that a word names with no footprint: the weights of a weight-gradient product, and the forward output of a
recompute (R221, R223). -/
def routedSlots (m : PlyModule) (w : Word) : List Nat :=
  match plyOp w with
  | 0x40 => ((m.products[plyImm w]?).map (fun p => if p.arrangement = 2 then [p.out] else [])).getD []
  | 0x41 => ((m.layers[plyImm w]?).map (fun l => if l.mode = 1 then [l.outSlot] else [])).getD []
  | _ => []

/-- The functions that a function runs: itself and the subroutines it calls; `fuel` bounds the nesting of calls. -/
def calledFuncs (m : PlyModule) : Nat → Nat → List Nat
  | 0, slot => [slot]
  | fuel + 1, slot => slot :: (callees m (funcAt m slot)).flatMap (calledFuncs m fuel)

/-- The words a function runs, its subroutines' among them. -/
def reachedCode (m : PlyModule) (slot : Nat) : List Word :=
  (calledFuncs m 8 slot).eraseDups.flatMap (fun g => (m.code.drop (funcAt m g).codeFirst).take (funcAt m g).codeCount)

/-- Declarations that a function names with no footprint, by ascending id: routed tensors and a kernel's target (R232). -/
def routedDecls (m : PlyModule) (slot : Nat) : List TensorDecl :=
  let ids := sortDistinct (((reachedCode m slot).flatMap (routedSlots m)).map (fun t => (tensorAt m t).id) ++
    (if (funcAt m slot).kind = 1 then [(funcAt m slot).target] else []))
  ids.filterMap (fun id => m.tensors.find? (fun t => t.id == id))

/-- The tensors and footprints that a function names, with its entry but for its code (R232). -/
def sameInterface (old new : PlyModule) (slot : Nat) : Bool :=
  match old.funcs[slot]?, new.funcs[slot]? with
  | some f, some g =>
    decide ({ f with codeFirst := 0, codeCount := 0 } = { g with codeFirst := 0, codeCount := 0 }) &&
    decide (footsOf old f = footsOf new g) &&
    (footsOf old f).all (fun p => decide (tensorAt old p.slot = tensorAt new p.slot)) &&
    decide (routedDecls old slot = routedDecls new slot)
  | _, _ => false

/-- Energy of a product's multiply-accumulates in fJ (R225, Table 7.1). -/
def productEnergy (m : PlyModule) (p : ProductD) : Nat :=
  let fa := (tensorAt m p.a).format
  let fb := (tensorAt m p.b).format
  let per := if elemWidth fa = 16 ∨ elemWidth fb = 16 then 110 else if fa = 8 ∧ fb = 8 then 30 else 55
  p.rows * p.inn * p.outpos * per

/-- Energy of one run of a function's code [fJ] (R225): a loop counts its body 2^h times, or the constant count that
the translator sees; a call counts its callee. -/
def codeEnergy (m : PlyModule) : Nat → Nat → Nat
  | 0, _ => 0
  | fuel + 1, slot =>
    let f := funcAt m slot
    let code := (m.code.drop f.codeFirst).take f.codeCount
    let times (i : Nat) : Nat := (code.zipIdx.filter (fun u => plyOp u.1 == 0x62 && u.2 < i && i < loopEndIdx u.1 u.2)).foldl
      (fun acc u => acc * (Free.loopCount code u.2).getD (2 ^ plyByte3 u.1)) 1
    sumOf (code.zipIdx.map (fun u =>
      times u.2 * (match plyOp u.1 with
        | 0x40 => productEnergy m (nth m.products (plyImm u.1) default)
        | 0x63 => codeEnergy m fuel (plyImm u.1) + Free.instructionEnergy u.1
        | _ => Free.instructionEnergy u.1)))

/-- Energy class of a function (R225). -/
def energyClass (m : PlyModule) (slot : Nat) : Nat :=
  let e := codeEnergy m 10 slot / 10 ^ 9
  if e < 2 then 0 else min 15 (Nat.log2 e)

/-- An estimate [µJ] (R262). -/
def classEstimate (cls : Nat) : Nat := 2 ^ cls

end Sys2Proof.Machine
end

