-- ==== Sys2Proof/Machine/Rows.lean ====
section
/-! DEFINITION. Rows and dense units: skeins and owners (R81, R82), the row record (R98), pages and tiers (R96 to R109),
poison (R119), the update of one unit (R135 to R137), shards and update blocks (R69, R125). -/

namespace Sys2Proof.Machine

/-! ### The row record (Table 5.2) -/

def Version.block (v : Version) : Nat := 2 ^ v.blockLog2

/-- Per-element state slots (Table 5.6). -/
def slotsOf (optimiser stateSlots : Nat) : Nat :=
  match optimiser with
  | 0 => 0
  | 1 => 1
  | 2 => 0
  | 3 => 2
  | 4 => 2
  | _ => stateSlots

def Version.slotCount (v : Version) : Nat := slotsOf v.optimiser v.stateSlots

def Version.endElems (v : Version) : Nat := v.width + v.width / v.block

/-- Bytes of one slot: per element blocked, per element BF16, or the row-wise accumulator. -/
def Version.slotBytes (v : Version) : Nat :=
  if v.optimiser = 2 then 2
  else if v.stateFormat = 4 then 2 * v.width
  else v.width + v.width / 2 ^ v.stateBlockLog2

def Version.a0 (v : Version) : Nat := alignUp v.endElems 16
def Version.hasSlot (v : Version) (k : Nat) : Bool := decide (k < v.slotCount) || (v.optimiser == 2 && k == 0)
def Version.end0 (v : Version) : Nat := if v.hasSlot 0 then v.a0 + v.slotBytes else v.endElems
def Version.a1 (v : Version) : Nat := alignUp v.end0 16
def Version.lastEnd (v : Version) : Nat := if v.hasSlot 1 then v.a1 + v.slotBytes else v.end0

/-- The record size: ceil32 of the end of its last part. -/
def Version.recordSize (v : Version) : Nat := alignUp v.lastEnd 32
def Version.perPage (v : Version) : Nat := Constants.pageBytes / v.recordSize

def Version.slotAt (v : Version) (k : Nat) : Nat := if k = 0 then v.a0 else v.a1

/-- The stored record of a row; a row never sent is all zero (R100). -/
def Version.record (v : Version) (row : Nat) : List Byte := (aGet v.rows row).getD (List.replicate v.recordSize 0)

/-- Rows to requesters and pooling see a poisoned row as all zero (R119). -/
def Version.served (v : Version) (row : Nat) : List Byte :=
  if v.poisoned.contains row then List.replicate v.recordSize 0 else v.record row

/-- Set a row's record; a record of all zero bytes is not listed. -/
def Version.setRecord (v : Version) (row : Nat) (bs : List Byte) : Version :=
  { v with rows := if bs.all (· == 0) then aDel v.rows row else aPut v.rows row bs }

/-- Padding ranges of a record are stored as zero (R100). -/
def Version.clearPadding (v : Version) (bs : List Byte) : List Byte :=
  bs.mapIdx (fun i b =>
    if decide (v.endElems ≤ i ∧ i < v.a0) || (v.hasSlot 1 && decide (v.end0 ≤ i ∧ i < v.a1)) || decide (v.lastEnd ≤ i)
    then 0 else b)

def recByte (bs : List Byte) (i : Nat) : Nat := (nth bs i 0).toNat

/-- Element `j` of a record, exactly (R49). -/
def Version.element (v : Version) (bs : List Byte) (j : Nat) : FVal :=
  blockedValue v.elemFormat (recByte bs j) (recByte bs (v.width + j / v.block))

/-- Value `j` of a per-element slot, exactly. -/
def Version.slotValue (v : Version) (bs : List Byte) (k j : Nat) : FVal :=
  let a := v.slotAt k
  if v.stateFormat = 4 then elemValue 4 (leAt bs (a + 2 * j) 2)
  else blockedValue v.stateFormat (recByte bs (a + j)) (recByte bs (a + v.width + j / 2 ^ v.stateBlockLog2))

/-- The row-wise Adagrad accumulator. -/
def Version.accumulator (v : Version) (bs : List Byte) : FVal := elemValue 4 (leAt bs v.a0 2)

/-! ### Skeins and owners (R81, R82) -/

/-- R81. -/
def skeinOf (row skeinLog2 : Nat) : Nat := ((row * 0x9E3779B97F4A7C15) % 2 ^ 64) >>> (64 - skeinLog2)

/-- The owner of a skein under a map, or by R82 where the table has none. -/
def ownerOfSkein (members : List Nat) (map : Option (List Nat)) (skein : Nat) : Nat :=
  match map with
  | some m => nth m skein 0
  | none => nth members (skein % members.length) 0

def skeinMapOf (s : State) (table : Nat) : Option (List Nat) := aGet s.cfg.skeinMaps table

/-- Owner of a row under the map in effect. -/
def rowOwner (s : State) (table row skeinLog2 : Nat) : Nat :=
  ownerOfSkein s.members (skeinMapOf s table) (skeinOf row skeinLog2)

/-! ### Versions -/

def findVersion (s : State) (table number : Nat) : Option Version :=
  s.tables.versions.find? (fun v => v.table == table && v.number == number)

def inEffect (s : State) (table : Nat) : Option Version :=
  s.tables.versions.find? (fun v => v.table == table && v.inEffect)

def setVersion (s : State) (v : Version) : State :=
  s.setTables { s.tables with
    versions := s.tables.versions.map (fun u => if u.table == v.table && u.number == v.number then v else u) }

/-- The tensor id that keys a table's conversions (R60, Table 6.3). -/
def tableTensor (table : Nat) : Nat := 0x80000000 + table

/-! ### Pages -/

/-- The skein of each row and the rows of a skein. -/
def Version.skeinRows (v : Version) (skein : Nat) : List Nat :=
  (List.range v.rowCount).filter (fun r => skeinOf r v.skeinLog2 == skein)

/-- Rows of a skein in the order in which the module places them on pages (R98). -/
def Version.placed (v : Version) (skein : Nat) : List Nat :=
  sortBy (fun a b => decide (Free.pageOrder v.table v.number a ≤ Free.pageOrder v.table v.number b)) (v.skeinRows skein)

/-- The pages of a skein: row lists. -/
def Version.pageRows (v : Version) (skein : Nat) : List (List Nat) :=
  let l := v.placed skein
  chunksOf v.perPage l.length l

def pageAt (s : State) (p : PageRef) : Option Page := s.tables.pages.find? (fun q => q.ref == p)

def setPage (s : State) (p : Page) : State :=
  s.setTables { s.tables with pages := s.tables.pages.map (fun q => if q.ref == p.ref then p else q) }

/-- The page that holds a row. -/
def pageOfRow (s : State) (table number row : Nat) : Option Page :=
  s.tables.pages.find? (fun q => q.ref.table == table && q.ref.version == number && q.rows.contains row)

/-- Whether a hank being taken or an export in progress holds the page uncopied (R141). -/
def copyPending (s : State) (p : PageRef) : Bool :=
  s.securing.hanks.any (fun h => h.uncopied.contains p) || s.outputs.exports.any (fun e => e.started && e.pinned.contains p)

/-- Whether a page's rows are ready for an update: in SRAM, GDDR7 or CXL memory, not in motion, not being read again,
no copy of it outstanding (R140, R141). -/
def pageReady (s : State) (p : Page) : Bool :=
  p.tier != .flash && p.moving == none && !p.rereading && !copyPending s p.ref

/-- Index of a tier's telemetry (Table 14.29): SRAM, GDDR7, CXL, flash. -/
def tierIndex (t : Tier) : Nat :=
  match t with
  | .sram => 0
  | .gddr => 1
  | .cxlPort => 2
  | .fabric => 2
  | .flash => 3

/-- TIER of a ROW_POISONED event (Table 10.9): as Table 5.7, 1 SRAM to 5 flash. -/
def tierCode (t : Tier) : Nat :=
  match t with
  | .sram => 1
  | .gddr => 2
  | .cxlPort => 3
  | .fabric => 4
  | .flash => 5

/-! ### Sharding (R69, R125) -/

/-- Update blocks of a tensor of `n` elements: 2,048 elements each (R69). -/
def updateBlocks (n : Nat) : Nat := ceilDiv n 2048

def shardCount (k nb : Nat) : Nat := min k nb
def firstBlock (nb d shard : Nat) : Nat := shard * nb / d

/-- The shard that holds an update block. -/
def shardOfBlock (k nb block : Nat) : Nat :=
  let d := shardCount k nb
  ((List.range d).find? (fun i => decide (firstBlock nb d i ≤ block ∧ block < firstBlock nb d (i + 1)))).getD 0

def treeIdOf (tensor shard : Nat) : Nat := tensor * 2 ^ 32 + shard
def treeTensor (treeId : Nat) : Nat := treeId / 2 ^ 32
def treeShard (treeId : Nat) : Nat := treeId % 2 ^ 32

/-- The members in tree order, root first (R143). -/
def treeOrder (members : List Nat) (treeId : Nat) : List Nat :=
  let k := members.length
  let root := if treeId = 0 then 0 else (treeTensor treeId + treeShard treeId) % k
  members.drop root ++ members.take root

/-- Parent, left and right child of a member in a tree (R143). -/
def treePlace (members : List Nat) (treeId m : Nat) : Nat := (treeOrder members treeId).idxOf m

def treeParent (members : List Nat) (treeId m : Nat) : Option Nat :=
  let j := treePlace members treeId m
  if j = 0 then none else (treeOrder members treeId)[(j - 1) / 2]?

def treeLeft (members : List Nat) (treeId m : Nat) : Option Nat :=
  (treeOrder members treeId)[2 * treePlace members treeId m + 1]?

def treeRight (members : List Nat) (treeId m : Nat) : Option Nat :=
  (treeOrder members treeId)[2 * treePlace members treeId m + 2]?

/-- Whole-tensor indices of an update block. -/
def blockRange (n block : Nat) : List Nat := (List.range (min 2048 (n - 2048 * block))).map (2048 * block + ·)

/-- Update blocks of a shard. -/
def shardBlocks (k n shard : Nat) : List Nat :=
  let nb := updateBlocks n
  let d := shardCount k nb
  (List.range (firstBlock nb d (shard + 1) - firstBlock nb d shard)).map (firstBlock nb d shard + ·)

/-- Elements of a shard of an `n`-element tensor in a job of `k` members. -/
def shardSize (k n shard : Nat) : Nat :=
  let nb := updateBlocks n
  let d := shardCount k nb
  min n (2048 * firstBlock nb d (shard + 1)) - 2048 * firstBlock nb d shard

/-- PARAMETER declarations of the step lattice, in the order in which it lists them (R146, R256). -/
def parameters (s : State) : List TensorDecl :=
  match stepLattice s with
  | none => []
  | some l => l.params.filterMap (fun id => l.decls.find? (fun d => d.id == id && d.role == 5))

def parameterDecl (s : State) (id : Nat) : Option TensorDecl := (parameters s).find? (fun d => d.id == id)

/-- Shards of a parameter tensor with their owners. -/
def shardsOf (s : State) (d : TensorDecl) : List (Nat × Nat) :=
  (List.range (shardCount s.jobSize (updateBlocks d.count))).map (fun i =>
    (i, nth s.members ((d.id + i) % s.jobSize) 0))

/-- Tree ids of every shard of the step lattice, ascending, with their owners. -/
def allShards (s : State) : List (Nat × Nat) :=
  sortBy (fun a b => decide (a.1 ≤ b.1)) ((parameters s).flatMap (fun d => (shardsOf s d).map (fun x => (treeIdOf d.id x.1, x.2))))

def ownsShard (s : State) (treeId : Nat) : Bool := (allShards s).contains (treeId, s.member)

/-! ### Update of one unit (R135 to R137) -/

/-- A unit's values: elements, the two per-element slots, and the row-wise accumulator. -/
structure UnitVals where
  w : List FVal
  m : List FVal
  v : List FVal
  a : FVal
  deriving DecidableEq, Repr

def zipWith3 (f : FVal → FVal → FVal → FVal) : List FVal → List FVal → List FVal → List FVal
  | x :: xs, y :: ys, z :: zs => f x y z :: zipWith3 f xs ys zs
  | _, _, _ => []

/-- Unscale a summed gradient by 2^-e in binary32 (R67). -/
def unscale (e : Nat) (g : FVal) : FVal := r32 (g.scale (-(e : Int)))

/-- The built-in formulas of R136 on a unit: codes 0 to 4. -/
def optimise (code : Nat) (p : OptParams) (g : List FVal) (u : UnitVals) : UnitVals :=
  let lr := ofBf16 p.lr
  let b1 := ofBf16 p.beta1
  let b2 := ofBf16 p.beta2
  let eps := ofBf16 p.eps
  let wd := ofBf16 p.wd
  let c1 := ofBf16 p.c1
  let c2 := ofBf16 p.c2
  let d := if code = 4 then g else List.zipWith (fun g w => r32 (g.add (r32 (wd.mul w)))) g u.w
  match code with
  | 0 => { u with w := List.zipWith (fun w d => r32 (w.sub (r32 (lr.mul d)))) u.w d }
  | 1 =>
    let m := List.zipWith (fun m d => r32 ((r32 (b1.mul m)).add d)) u.m d
    { u with m := m, w := List.zipWith (fun w m => r32 (w.sub (r32 (lr.mul m)))) u.w m }
  | 2 =>
    let sum := d.foldl (fun s x => r32 (s.add (r32 (x.mul x)))) zeroV
    let a := r32 (u.a.add (r32 (sum.div (.fin false d.length 0))))
    let den := r32 ((r32 a.sqrt).add eps)
    { u with a := a, w := List.zipWith (fun w d => r32 (w.sub (r32 ((r32 (lr.mul d)).div den)))) u.w d }
  | _ =>
    let m := List.zipWith (fun m d => r32 ((r32 (b1.mul m)).add (r32 ((r32 (oneV.sub b1)).mul d)))) u.m d
    let v := List.zipWith (fun v d => r32 ((r32 (b2.mul v)).add (r32 ((r32 (oneV.sub b2)).mul (r32 (d.mul d)))))) u.v d
    let w := zipWith3 (fun w m v =>
      let den := r32 ((r32 ((r32 v.sqrt).mul c2)).add eps)
      let x := r32 ((r32 (m.mul c1)).div den)
      let dec := if code = 3 then w else r32 (w.sub (r32 ((r32 (lr.mul wd)).mul w)))
      r32 (dec.sub (r32 (lr.mul x)))) u.w m v
    { u with m := m, v := v, w := w }

/-- Every value of a unit is finite (R137). -/
def UnitVals.finite (u : UnitVals) : Bool :=
  u.w.all FVal.finite && u.m.all FVal.finite && u.v.all FVal.finite && u.a.finite

/-- The values of a row's record. -/
def rowUnit (v : Version) (bs : List Byte) : UnitVals :=
  let l := List.range v.width
  { w := l.map (fun j => r32 (v.element bs j)),
    m := if 0 < v.slotCount then l.map (fun j => r32 (v.slotValue bs 0 j)) else [],
    v := if 1 < v.slotCount then l.map (fun j => r32 (v.slotValue bs 1 j)) else [],
    a := if v.optimiser = 2 then v.accumulator bs else zeroV }

def rowKey (s : State) (table step purpose slot : Nat) : NoiseKey :=
  { seed := s.regs.jobSeed, tensor := tableTensor table, purpose := purpose, slot := slot, step := step }

/-- Convert consecutive values block by block: element bytes, then scale bytes (R53). -/
def blockBytes (code block : Nat) (k : NoiseKey) (first : Nat) (vals : List FVal) : List Byte :=
  let cs := (chunksOf block vals.length vals).zipIdx.map (fun c => convertBlock code k c.1 (first + c.2 * block))
  (cs.flatMap (fun c => c.2.map (BitVec.ofNat 8))) ++ cs.map (fun c => BitVec.ofNat 8 c.1)

/-- Bytes of a per-element slot. -/
def slotToBytes (format blockLog2 : Nat) (k : NoiseKey) (first : Nat) (vals : List FVal) : List Byte :=
  if format = 4 then (vals.zipIdx.flatMap (fun x => leBytes 2 (convert16 4 k x.1 (first + x.2)).1))
  else blockBytes format (2 ^ blockLog2) k first vals

/-- Pad with zeros up to a length. -/
def padTo (n : Nat) (bs : List Byte) : List Byte := bs ++ List.replicate (n - bs.length) 0

/-- The record of new finite values (R137). -/
def unitRecord (s : State) (v : Version) (row step : Nat) (u : UnitVals) : List Byte :=
  let i := row * v.width
  let e := blockBytes v.elemFormat v.block (rowKey s v.table step 3 0) i u.w
  let withSlot (bs : List Byte) (k : Nat) (vals : List FVal) : List Byte :=
    padTo (v.slotAt k) bs ++ slotToBytes v.stateFormat v.stateBlockLog2 (rowKey s v.table step 4 k) i vals
  let e := if v.optimiser = 2 then padTo v.a0 e ++ leBytes 2 (convert16 4 (rowKey s v.table step 4 0) u.a row).1
    else if 0 < v.slotCount then withSlot e 0 u.m else e
  let e := if 1 < v.slotCount then withSlot e 1 u.v else e
  padTo v.recordSize e

/-! ### Dense units -/

/-- A slot of a dense parameter as a tensor: R50 in the state format. -/
def slotDecl (d : TensorDecl) : TensorDecl := { d with format := d.stateFormat, blockLog2 := d.stateBlockLog2 }

def slotMem (s : State) (id k : Nat) : Mem := (aGet s.dense.slots (id, k)).getD []

def setSlot (s : State) (id k : Nat) (m : Mem) : State := s.setDense { s.dense with slots := aPut s.dense.slots (id, k) m }

def denseSlots (d : TensorDecl) : Nat := slotsOf d.optimiser d.stateSlots

/-- The values of an update block. -/
def blockUnit (s : State) (d : TensorDecl) (block : Nat) : UnitVals :=
  let l := blockRange d.count block
  { w := l.map (fun i => r32 (tensorValue (tensorMem s d.id) d i)),
    m := if 0 < denseSlots d then l.map (fun i => r32 (tensorValue (slotMem s d.id 0) (slotDecl d) i)) else [],
    v := if 1 < denseSlots d then l.map (fun i => r32 (tensorValue (slotMem s d.id 1) (slotDecl d) i)) else [],
    a := zeroV }

def denseKey (s : State) (id step purpose slot : Nat) : NoiseKey :=
  { seed := s.regs.jobSeed, tensor := id, purpose := purpose, slot := slot, step := step }

/-- Write an update block's new finite values (R137). -/
def writeBlock (s : State) (d : TensorDecl) (block step : Nat) (u : UnitVals) : State :=
  let i := 2048 * block
  let s := setTensor s d.id (convertInto (tensorMem s d.id) d (denseKey s d.id step 3 0) i u.w).1
  let s := if 0 < denseSlots d then
      setSlot s d.id 0 (convertInto (slotMem s d.id 0) (slotDecl d) (denseKey s d.id step 4 0) i u.m).1 else s
  if 1 < denseSlots d then
    setSlot s d.id 1 (convertInto (slotMem s d.id 1) (slotDecl d) (denseKey s d.id step 4 1) i u.v).1 else s

/-! ### Steps -/

def stepAt (s : State) (n : Nat) : Option AdmStep := s.steps.admitted.find? (fun x => x.n == n)

def setStep (s : State) (x : AdmStep) : State :=
  s.setSteps { s.steps with admitted := s.steps.admitted.map (fun y => if y.n == x.n then x else y) }

/-- The request of a handle at a boundary: the one that runs, else the first. -/
def evalAt (s : State) (b h : Nat) : Option EvalReq :=
  let l := s.steps.evals.filter (fun x => x.boundary == b && x.handle == h)
  match l.find? EvalReq.running with
  | some e => some e
  | none => l.head?

def setEval (s : State) (x : EvalReq) : State :=
  s.setSteps { s.steps with evals := s.steps.evals.map (fun y => if sameSub y.sub x.sub then x else y) }

/-- The version of a table bound to a step. -/
def boundVersion (s : State) (x : AdmStep) (table : Nat) : Option Version :=
  match x.bindings.find? (fun b => b.1 == table) with
  | none => none
  | some b => findVersion s table b.2

end Sys2Proof.Machine
end

