-- ==== Sys2Proof/Machine/PlyMemory.lean ====
section
/-! DEFINITION. Ply instructions that touch tensors: TLOAD, TSTORE, TMOVE, PRODUCT, TILE and LAYER (R187, R192, R193,
R213 to R224), and what the queued products and moves do (R63, R160 to R168). -/

namespace Sys2Proof.Machine

/-! ### Units handed to a kernel (R139) -/

def isTableTarget (t : Nat) : Bool := decide (2 ^ 31 ≤ t)
def targetTable (t : Nat) : Nat := t - 2 ^ 31

/-- The bytes a kernel is handed: each unit's record or block, then its summed gradient in binary32. -/
def unitBytes (s : State) (x : Context) : List Byte :=
  let words (l : List Word32) : List Byte := l.flatMap (fun w => leBytes 4 w.toNat)
  if isTableTarget x.target then
    x.units.flatMap (fun row =>
      match (stepAt s (instStep x.inst)).bind (fun a => boundVersion s a (targetTable x.target)) with
      | none => []
      | some v =>
        let e := s.owners.entries.find? (fun e => e.step == instStep x.inst && e.table == v.table && e.row == row)
        v.record row ++ words ((e.map Entry.acc).getD []))
  else
    match parameterDecl s x.target with
    | none => []
    | some d =>
      let tid (b : Nat) := treeIdOf d.id (shardOfBlock s.jobSize (updateBlocks d.count) b)
      x.units.flatMap (fun b =>
        let l := blockRange d.count b
        let el (m : Mem) (f : TensorDecl) : List Byte := l.flatMap (fun i => leBytes 2 (readElem m f.format i))
        let n := s.dense.nodes.find? (fun n => n.step == instStep x.inst && n.treeId == tid b && n.block == b)
        el (tensorMem s d.id) d ++ (List.range (denseSlots d)).flatMap (fun k => el (slotMem s d.id k) (slotDecl d)) ++
          words ((n.map TreeNode.sum).getD []))

/-- What a context reads a tensor from: the units it was handed for a kernel's UNIT tensor, else the tensor (R139). -/
def ctxTensor (s : State) (x : Context) (d : TensorDecl) : Mem :=
  if d.role = 9 ∧ x.target ≠ 0 then Free.unitImage (unitBytes s x) else tensorMem s d.id

/-- What a queued command reads a tensor from. -/
def cmdTensor (s : State) (q : QCmd) (d : TensorDecl) : Mem :=
  if d.role = 9 ∧ q.units ≠ [] then Free.unitImage q.units else tensorMem s d.id

/-! ### TLOAD and TSTORE -/

/-- Elements that one register moves: 64 of a blocked tensor, else what 64 bytes hold (R218). -/
def moveCount (format : Nat) : Nat := if isBlocked format then 64 else 512 / elemWidth format

/-- The lane of a view that holds element `j` of a register's worth: mask bits lie several in a lane. -/
def laneOfElem (view format j : Nat) : Nat := if format = 9 then j / laneWidth view else j

/-- The index an instruction names, read at run time. -/
def plyIndex (x : Context) (w : Word) : Nat := (sreg x (plySrc1 w)).toNat

/-- An element as its lane holds it: E3M2 and E2M1 become the E4M3 code of the same value (R218). -/
def loadCode (format v : Nat) : Nat :=
  if format = 7 ∨ format = 8 then reencode 1 (elemValue format v) else v

/-- A lane's code as the tensor's element. -/
def storeCode (format v : Nat) : Nat :=
  if format = 7 ∨ format = 8 then reencode format (elemValue 1 v) else v

def execTloadEffect (s : State) (c : CtxId) (w : Word) (x : Context) (img : Image) : State :=
  let slot := plySlot w
  let d := tensorAt img.ply slot
  let view := plyView w
  let i := plyIndex x w
  let dst := plyDst w
  let rs := ctxRanges s x img
  let m := ctxTensor s x d
  let n := moveCount d.format
  let aligned := !isBlocked d.format || i % 16 == 0
  let code (j : Nat) : Nat :=
    if aligned && inRange rs 1 slot (i + j) then loadCode d.format (readElem m d.format (i + j)) else 0
  let lanes := if d.format = 9 then lanesOf view (BitVec.ofNat 512 ((List.range n).foldl (fun acc j => acc + code j <<< j) 0))
    else (List.range n).map code
  let tag := (List.range 4).foldl (fun t g =>
    t + (if aligned && isBlocked d.format && blockInRange rs 1 slot d.block (i + 16 * g) then readScale m d (i + 16 * g) else 0)
      <<< (8 * g)) 0
  let outside := !aligned || (List.range n).any (fun j =>
    selected x w view (laneOfElem view d.format j) && !inRange rs 1 slot (i + j))
  let y := writeLanes x w dst view lanes
  countOutOfFootprint
    (setCtx s c (nextPc (setVreg y dst (vreg y dst) (if view = 0 then BitVec.ofNat 32 tag else 0))))
    (if outside then 1 else 0)

/-- TLOAD: one register of elements at INDEX, and in the 8-bit view every tag byte, whatever the predicate; zero outside the
footprints (R187, R188, R215, R218). -/
def execTload (c : CtxId) (w : Word) (s : State) : Out :=
  plyStep s c w 0x30 (fun x img _ => execTloadEffect s c w x img)

/-- The memory after an unconverted store of a register, and whether any selected element fell outside the footprints
(R187, R218). -/
def storeRaw (x : Context) (w : Word) (rs : List (Nat × Nat × Nat × Nat)) (slot : Nat) (d : TensorDecl) (m : Mem) (i : Nat) :
    Mem × Bool :=
  let view := plyView w
  let v := vreg x (plyDst w)
  if isBlocked d.format && i % 16 != 0 then (m, true)
  else
    let src (j : Nat) : Nat := if d.format = 9 then bits v.toNat j 1 else storeCode d.format (lane view v j)
    let l := (List.range (moveCount d.format)).filter (fun j => selected x w view (laneOfElem view d.format j))
    let m := l.foldl (fun m j => if inRange rs 2 slot (i + j) then writeElem m d.format (i + j) (src j) else m) m
    let m := if isBlocked d.format then
        (List.range 4).foldl (fun m g =>
          if blockInRange rs 2 slot d.block (i + 16 * g) && l.any (fun j => j / 16 == g) then
            writeScale m d (i + 16 * g) (tagByte (vtag x (plyDst w)) (16 * g)) else m) m
      else m
    (m, l.any (fun j => !inRange rs 2 slot (i + j)))

/-- The lane format code a converting store reads its lanes in: a 16-bit view's is not named by format T. -/
def storeLaneFormat (view format : Nat) : Nat :=
  if view = 2 then 6 else if Free.storeLaneHalf format then 5 else 4

/-- The memory after a converting store, and whether it wrote nothing (R218). -/
def storeConverted (s : State) (x : Context) (w : Word) (rs : List (Nat × Nat × Nat × Nat)) (slot : Nat) (d : TensorDecl)
    (m : Mem) (i : Nat) : Mem × Bool :=
  let view := plyView w
  let k := programKey s x.inst d.id (plyByte3 w)
  let n := laneCount view
  let val (j : Nat) : FVal := elemValue (storeLaneFormat view d.format) (lane view (vreg x (plyDst w + j / n)) (j % n))
  if isBlocked d.format then
    if i % d.block = 0 ∧ blockInRange rs 2 slot d.block i = true then
      ((convertInto m d k i ((List.range d.block).map val)).1, false)
    else (m, true)
  else
    let l := (List.range n).filter (fun j => selected x w view j)
    (l.foldl (fun m j => if inRange rs 2 slot (i + j) then (convertInto m d k (i + j) [val j]).1 else m) m,
      l.any (fun j => !inRange rs 2 slot (i + j)))

/-- A converting store to a UNIT tensor waits for the invocation's end, with the purpose it names: a whole block from
consecutive registers, or the selected lanes of one register; answers whether it fell outside the footprints (R59, R139,
R218). -/
def stageUnit (x : Context) (w : Word) (rs : List (Nat × Nat × Nat × Nat)) (slot : Nat) (d : TensorDecl) (i : Nat) :
    Context × Bool :=
  let view := plyView w
  let n := laneCount view
  let val (j : Nat) : Word32 :=
    BitVec.ofNat 32 (encodeRne singleF (elemValue (storeLaneFormat view d.format) (lane view (vreg x (plyDst w + j / n)) (j % n))))
  let cell (i : Nat) (l : List Word32) : Nat × Nat × Nat × Nat × List Word32 :=
    let u := Free.unitCell x.target x.units.length i
    (u.1, u.2.1, u.2.2, plyByte3 w, l)
  if isBlocked d.format then
    if i % d.block = 0 ∧ blockInRange rs 2 slot d.block i = true then
      ({ x with staged := x.staged ++ [cell i ((List.range d.block).map val)] }, false)
    else (x, true)
  else
    let l := (List.range n).filter (selected x w view)
    ({ x with staged := x.staged ++ (l.filter (fun j => inRange rs 2 slot (i + j))).map (fun j => cell (i + j) [val j]) },
      l.any (fun j => !inRange rs 2 slot (i + j)))

def execTstoreEffect (s : State) (c : CtxId) (w : Word) (x : Context) (img : Image) : State :=
  let slot := plySlot w
  let d := tensorAt img.ply slot
  let i := plyIndex x w
  let rs := ctxRanges s x img
  if d.role = 9 ∧ x.target ≠ 0 then
    let r := stageUnit x w rs slot d i
    countOutOfFootprint (setCtx s c (nextPc r.1)) (if r.2 then 1 else 0)
  else
    let r := if plyByte3 w = 0 then storeRaw x w rs slot d (tensorMem s d.id) i
      else storeConverted s x w rs slot d (tensorMem s d.id) i
    countOutOfFootprint (setCtx (setTensor s d.id r.1) c (nextPc x)) (if r.2 then 1 else 0)

/-- TSTORE: one register at INDEX, bits unchanged or converted; nothing outside the footprints (R187, R215, R218). -/
def execTstore (c : CtxId) (w : Word) (s : State) : Out :=
  plyStep s c w 0x31 (fun x img _ => execTstoreEffect s c w x img)

/-! ### Queued commands -/

/-- The command that TMOVE or PRODUCT offers (R201, R221, R224). -/
def queuedCommand (s : State) (c : CtxId) (w : Word) (x : Context) (img : Image) (body : CmdBody) : QCmd :=
  { body := body, owner := c, inst := x.inst, ply := img.ply, ranges := ctxRanges s x img,
    units := if x.target = 0 then [] else unitBytes s x,
    arg1 := (sreg x (plyDst w)).toNat, arg2 := (sreg x (plySrc1 w)).toNat,
    counter := if plyByte3 w = 0xFF then none else some (plyByte3 w), held := false, drained := [] }

/-- TMOVE: the move queue takes the MOVES descriptor. -/
def execTmove (c : CtxId) (w : Word) (s : State) : Out :=
  plyStep s c w 0x32 (fun x img _ => offerCommand s c (nextPc x) .move (queuedCommand s c w x img (.move (plySlot w))))

/-- PRODUCT: the array queue takes the PRODUCTS descriptor. -/
def execProduct (c : CtxId) (w : Word) (s : State) : Out :=
  plyStep s c w 0x40 (fun x img _ => offerCommand s c (nextPc x) .array (queuedCommand s c w x img (.product (plySlot w))))

/-- What a move does (R224): elements and scale bytes, bits unchanged; an index that is no multiple of B copies nothing. -/
def runMove (s : State) (q : QCmd) (slot : Nat) : State :=
  let md := nth q.ply.moves slot default
  let a := tensorAt q.ply md.src
  let b := tensorAt q.ply md.dst
  if isBlocked a.format && (q.arg1 % a.block != 0 || q.arg2 % a.block != 0) then countOutOfFootprint s 1
  else
    let ma := cmdTensor s q a
    let l := List.range md.elements
    let m := l.foldl (fun m j =>
      if inRange q.ranges 2 md.dst (q.arg2 + j) then
        writeElem m b.format (q.arg2 + j)
          (if inRange q.ranges 1 md.src (q.arg1 + j) then readElem ma a.format (q.arg1 + j) else 0)
      else m) (tensorMem s b.id)
    let m := if isBlocked a.format then
        (List.range (md.elements / a.block)).foldl (fun m k =>
          let j := k * a.block
          if blockInRange q.ranges 2 md.dst b.block (q.arg2 + j) then
            writeScale m b (q.arg2 + j)
              (if blockInRange q.ranges 1 md.src a.block (q.arg1 + j) then readScale ma a (q.arg1 + j) else 0)
          else m) m
      else m
    countOutOfFootprint (setTensor s b.id m)
      (if l.any (fun j => !inRange q.ranges 1 md.src (q.arg1 + j) || !inRange q.ranges 2 md.dst (q.arg2 + j)) then 1 else 0)

/-- A BF16 constant of a drain descriptor. -/
def drainConst (c : BitVec 16) : FVal := ofBf16 c

/-- The mask bit of a mask-input value (Table 7.3); -0 gives 0 under every kind (R166). -/
def maskBit (r : DrainD) (v : FVal) : Bool :=
  match r.maskKind with
  | 0 => zeroV.lt v
  | 1 => zeroV.lt v
  | 2 => (drainConst r.lo).lt v && v.lt (drainConst r.hi) && !(v.isZero && v.negative)
  | _ => v.lt zeroV

/-- The forward activation of a kind (Table 7.3); a NaN passes unchanged. -/
def activation (r : DrainD) (v : FVal) : FVal :=
  if v == .nan then .nan
  else
    match r.maskKind with
    | 0 => if zeroV.lt v then v else zeroV
    | 1 => if zeroV.lt v then v else r32 ((drainConst r.alpha).mul v)
    | 2 => (v.maximum (drainConst r.lo)).minimum (drainConst r.hi)
    | _ => v.abs

/-- The backward mask on an incoming gradient (R167). -/
def backwardMask (r : DrainD) (bit : Bool) (g : FVal) : FVal :=
  match r.maskKind with
  | 0 => if bit then g else zeroV
  | 1 => if bit then g else r32 ((drainConst r.alpha).mul g)
  | 2 => if bit then g else zeroV
  | _ => if bit then g.neg else g

/-- One output element of a product before its drain: the fold over ascending k from +0 (R63, Table 7.2). -/
def productElem (s : State) (q : QCmd) (p : ProductD) (row col : Nat) : FVal :=
  let a := tensorAt q.ply p.a
  let b := tensorAt q.ply p.b
  let ra (r c : Nat) : FVal := readValue (cmdTensor s q a) q.ranges p.a a (r * a.cols + c)
  let rb (r c : Nat) : FVal := readValue (cmdTensor s q b) q.ranges p.b b (r * b.cols + c)
  match p.arrangement with
  | 0 => (List.range p.inn).foldl (fun acc k => fma32 acc (ra row k) (rb k col)) zeroV
  | 1 => (List.range p.outpos).foldl (fun acc k => fma32 acc (ra row k) (rb col k)) zeroV
  | _ => (List.range p.rows).foldl (fun acc k => fma32 acc (ra k row) (rb k col)) zeroV

/-- One element through the drain stage (R162): the value to write and the mask bit to form. -/
def drainElem (s : State) (q : QCmd) (p : ProductD) (r : DrainD) (out : TensorDecl) (row col : Nat) : FVal × Bool :=
  let v := productElem s q p row col
  let v := if bitAt r.steps 0 then 
      r32 (v.add (readValue (cmdTensor s q (tensorAt q.ply r.bias)) q.ranges r.bias (tensorAt q.ply r.bias) col)) else v
  let bit := maskBit r v
  let v := if bitAt r.steps 2 then activation r v else v
  let i := row * out.cols + col
  let stored := inRange q.ranges 1 r.mask i && readElem (tensorMem s (tensorAt q.ply r.mask).id) 9 i == 1
  (if bitAt r.steps 3 then backwardMask r stored v else v, bit)

/-- The operand elements that output (row, col) reads lie outside the footprints (R215). -/
def operandMisses (q : QCmd) (p : ProductD) (row col : Nat) : Bool :=
  let a := tensorAt q.ply p.a
  let b := tensorAt q.ply p.b
  let ma (r c : Nat) : Bool := !inRange q.ranges 1 p.a (r * a.cols + c)
  let mb (r c : Nat) : Bool := !inRange q.ranges 1 p.b (r * b.cols + c)
  match p.arrangement with
  | 0 => (List.range p.inn).any (fun k => ma row k || mb k col)
  | 1 => (List.range p.outpos).any (fun k => ma row k || mb col k)
  | _ => (List.range p.rows).any (fun k => ma k row || mb k col)

/-- An access that the drain of output (row, col) makes lies outside the footprints. -/
def drainMisses (q : QCmd) (p : ProductD) (r : DrainD) (out : TensorDecl) (row col : Nat) : Bool :=
  let i := row * out.cols + col
  (bitAt r.steps 0 && !inRange q.ranges 1 r.bias col) || (bitAt r.steps 1 && !inRange q.ranges 2 r.mask i) ||
  (bitAt r.steps 3 && !inRange q.ranges 1 r.mask i) || writeMisses q.ranges p.out out i

/-- Output columns of a product: output positions, or the input positions of a data gradient (Table 7.2). -/
def productCols (p : ProductD) : Nat := if p.arrangement = 0 then p.outpos else p.inn

/-- Whether any access of a forward or data-gradient product lies outside the footprints; a product counts once (R215). -/
def productMisses (q : QCmd) (p : ProductD) (r : DrainD) (out : TensorDecl) : Bool :=
  (List.range p.rows).any (fun n => (List.range (productCols p)).any (fun c =>
    operandMisses q p (q.arg1 + n) c || drainMisses q p r out (q.arg1 + n) c))

/-! ### Slivers (R153, R158, R159) -/

def sliverAt (s : State) (die sl : Nat) : Sliver :=
  (aGet s.spindles.slivers (die, sl)).getD
    { tiles := List.replicate 2 (List.replicate 1024 0), panels := List.replicate 2 [], turn := 0 }

/-- Steps that one panel half holds: Dk of b's format (Table 7.1). -/
def panelDepth (format : Nat) : Nat := if format = 8 then 512 else if elemWidth format = 16 then 128 else 256

/-- The last panel section of b that an output tile of 8 columns reads: its element codes by step and column, then its
scale bytes where the format has them (R158, R159). -/
def lastPanel (s : State) (q : QCmd) (p : ProductD) (col : Nat) : List Nat :=
  let b := tensorAt q.ply p.b
  let m := cmdTensor s q b
  let steps := match p.arrangement with | 0 => p.inn | 1 => p.outpos | _ => p.rows
  let dk := panelDepth b.format
  let lo := (steps - 1) / dk * dk
  let at_ (k c : Nat) : Nat := if p.arrangement = 1 then (col + c) * b.cols + k else k * b.cols + col + c
  let cells := (List.range (steps - lo)).flatMap (fun k => (List.range 8).map (fun c => at_ (lo + k) c))
  cells.map (readElem m b.format) ++ (if isBlocked b.format then cells.map (readScale m b) else [])

/-- A tile passes through the sliver of a spindle: its values stand in the accumulator whose turn it is, and the last panel
section in that half of the operand buffer. Tiles wider than a sliver lie in the slivers above (R153, R155). -/
def passTile (s : State) (qid : QueueId) (q : QCmd) (p : ProductD) (row col width : Nat) (val : Nat → Nat → Word32) : State :=
  (List.range (ceilDiv width 8)).foldl (fun s g =>
    let sl := qid.spindle + g
    let v := sliverAt s qid.die sl
    let cells := (List.range 128).flatMap (fun r => (List.range 8).map (fun c =>
      if 8 * g + c < width then val (row + r) (col + 8 * g + c) else 0))
    let v := { v with
      tiles := v.tiles.set v.turn cells, panels := v.panels.set v.turn (lastPanel s q p (col + 8 * g)), turn := 1 - v.turn }
    s.setSpindles { s.spindles with slivers := aPut s.spindles.slivers (qid.die, sl) v }) s

/-- A forward or data-gradient product (R160, R162): every row from ARG1 on, written through the footprints. The sliver is
left with its last tile, of 128 rows and 8 columns at most; rows past the product's hold zero (R154). -/
def runProduct (s : State) (qid : QueueId) (q : QCmd) (slot : Nat) : State :=
  let p := nth q.ply.products slot default
  let r := nth q.ply.drains p.drain default
  let out := tensorAt q.ply p.out
  let cols := productCols p
  let k := programKey s q.inst out.id r.purpose
  let row := (p.rows - 1) / 128 * 128
  let col := (cols - 1) / 8 * 8
  let t := passTile s qid q p row col (cols - col) (fun i j =>
    if i < p.rows then to32 (productElem s q p (q.arg1 + i) j) else 0)
  let t := countOutOfFootprint t (if productMisses q p r out then 1 else 0)
  (List.range p.rows).foldl (fun t n =>
    let row := q.arg1 + n
    let vals := (List.range cols).map (drainElem s q p r out row)
    let t := storeValues t q.ranges p.out out k (row * out.cols) (vals.map (·.1)) (fun _ => true)
    if bitAt r.steps 1 then
      let md := tensorAt q.ply r.mask
      setTensor t md.id (vals.zipIdx.foldl (fun m v =>
        let i := row * out.cols + v.2
        if inRange q.ranges 2 r.mask i then writeElem m 9 i (if v.1.2 then 1 else 0) else m) (tensorMem t md.id))
    else t) t

/-- Signal a command's counter by 1 (R201, R224). -/
def signalBy (s : State) (c : CtxId) (counter : Option Nat) : State :=
  match counter with
  | some n => signalCounter s c n 1
  | none => s

/-! ### TILE (R192, R193, R224) -/

/-- The value of element (r, c) of a tile at an index. -/
def tileValue (s : State) (x : Context) (rs : List (Nat × Nat × Nat × Nat)) (m : PlyModule) (slot base lanes r c : Nat) : FVal :=
  readValue (ctxTensor s x (tensorAt m slot)) rs slot (tensorAt m slot) (base + r * lanes + c)

/-- An element-wise tile operation before its rounding: add, subtract, multiply, multiply-add, minimum, maximum. -/
def tileOp (op : Nat) (x b y : FVal) : FVal :=
  match op with
  | 0 => x.add b
  | 1 => x.sub b
  | 2 => x.mul b
  | 3 => (x.mul b).add y
  | 4 => x.minimum b
  | _ => x.maximum b

/-- The broadcast value for (r, c): lane c of register q, or lane r mod L of register q + r / L. -/
def tileBroadcast (x : Context) (d : TileD) (r c : Nat) : FVal :=
  let l := laneCount d.view
  if d.broadcast = 0 then laneValue d.view d.fmt (vreg x d.q) 0 c
  else laneValue d.view d.fmt (vreg x (d.q + r / l)) 0 (r % l)

/-- Write one 32-bit lane of a register. -/
def setLane32 (x : Context) (reg j v : Nat) : Context :=
  setVreg x reg (ofLanes 2 ((lanesOf 2 (vreg x reg)).set j v)) 0

/-- A row reduction: each row through the tree, row r to lane r mod 16 of register q + r / 16. -/
def tileRowReduce (d : TileD) (val : Nat → Nat → FVal) (x : Context) : Context :=
  let l := laneCount d.view
  (List.range d.rows).foldl (fun x r =>
    let ins := (List.range 32).map (fun c => if c < l then val r c else zeroV)
    setLane32 x (d.q + r / 16) (r % 16) (encodeRne singleF (tree32 (reduceOp (d.op - 8)) ins))) x

/-- A column reduction: a left fold over ascending rows, from +0 for add and from row 0 otherwise. -/
def tileColReduce (d : TileD) (val : Nat → Nat → FVal) (x : Context) : Context :=
  (List.range (laneCount d.view)).foldl (fun x c =>
    let v := if d.op = 12 then (List.range d.rows).foldl (fun acc r => r32 (acc.add (val r c))) zeroV
      else (List.range (d.rows - 1)).foldl (fun acc r => reduceOp (d.op - 12) acc (val (r + 1) c)) (val 0 c)
    setLane32 x (d.q + c / 16) (c % 16) (encodeRne singleF v)) x

def tileEffect (s : State) (c : CtxId) (w : Word) (x : Context) (img : Image) : State :=
  let d := nth img.ply.tiles (plySlot w) default
  let rs := ctxRanges s x img
  let l := laneCount d.view
  let a1 := (sreg x (plyDst w)).toNat
  let a2 := (sreg x (plySrc1 w)).toNat
  let cells := (List.range d.rows).flatMap (fun r => (List.range l).map (fun k => r * l + k))
  let val (r k : Nat) : FVal := tileValue s x rs img.ply d.src a1 l r k
  let second (r k : Nat) : FVal := tileValue s x rs img.ply d.addend a2 l r k
  let missRead := cells.any (fun i => !inRange rs 1 d.src (a1 + i)) ||
    (d.addend != 0xFFFF && cells.any (fun i => !inRange rs 1 d.addend (a2 + i)))
  let counter := if plyByte3 w = 0xFF then none else some (plyByte3 w)
  let done (s : State) (x : Context) (miss : Bool) : State :=
    countOutOfFootprint (signalBy (setCtx s c (nextPc x)) c counter) (if miss then 1 else 0)
  if d.op < 8 then
    let out := tensorAt img.ply d.dst
    let fmt := fmtOf (laneFormat d.view d.fmt)
    let res (i : Nat) : FVal :=
      let r := i / l
      let k := i % l
      let b := if d.broadcast = 2 then second r k else tileBroadcast x d r k
      roundTo fmt (tileOp d.op (val r k) b (if d.op = 3 then second r k else zeroV))
    let m := cells.foldl (fun m i =>
      if inRange rs 2 d.dst (a2 + i) then writeElem m out.format (a2 + i) (encodeRne (fmtOf out.format) (res i)) else m)
      (tensorMem s out.id)
    done (setTensor s out.id m) x (missRead || cells.any (fun i => !inRange rs 2 d.dst (a2 + i)))
  else if d.op < 12 then done s (tileRowReduce d val x) missRead
  else done s (tileColReduce d val x) missRead

/-- TILE: the TILES descriptor in the context, then its counter by 1 (R192, R193, R224). -/
def execTile (c : CtxId) (w : Word) (s : State) : Out :=
  plyStep s c w 0x33 (fun x img _ => tileEffect s c w x img)

/-! ### LAYER (R169 to R171, R223) -/

/-- What a layer forms of one row (Table 7.4): the statistics (mean and inverse deviation, inverse root mean square, or
row maximum and sum of exponentials), the exponentials of a soft maximum, and the output row, all binary32. -/
structure LayerRow where
  stats : List Word32
  exps  : List Word32
  out   : List Word32
  deriving DecidableEq, Repr

/-- The same sequence in the forward part and in a recomputation (R169, R170). -/
def layerRow (d : LayerD) (input gain shift : List Word32) : LayerRow :=
  let first := if d.kind = 3 then to32 ((input.map of32).foldl FVal.maximum .nan) else Free.layerStat d.kind d.eps input 0
  let exps := if d.kind = 3 then (List.range d.rowLength).map (Free.layerExp input first) else []
  let stats := match d.kind with
    | 1 => [first, Free.layerStat d.kind d.eps input 1]
    | 2 => [first]
    | _ => [first, Free.layerSum exps]
  { stats := stats, exps := exps,
    out := (List.range d.rowLength).map (Free.layerValue d.kind stats exps input gain shift) }

/-- The rows a layer forms, from the row that ARG1 names, read through the footprints. -/
def layerRows (s : State) (x : Context) (rs : List (Nat × Nat × Nat × Nat)) (m : PlyModule) (d : LayerD) (first : Nat) :
    List LayerRow :=
  let row (slot r : Nat) : List Word32 :=
    if slot = 0xFFFF then []
    else
      let t := tensorAt m slot
      (List.range d.rowLength).map (fun j => to32 (readValue (ctxTensor s x t) rs slot t (r * d.rowLength + j)))
  (List.range d.rows).map (fun r => layerRow d (row d.inSlot (first + r)) (row d.gain 0) (row d.shift 0))

/-- Whether an access of a layer lies outside the footprints: its input rows, gain, shift, and the rows it writes (R215). -/
def layerMisses (rs : List (Nat × Nat × Nat × Nat)) (m : PlyModule) (d : LayerD) (first : Nat) : Bool :=
  let n := d.rowLength
  let param (slot : Nat) : Bool := slot != 0xFFFF && (List.range n).any (fun j => !inRange rs 1 slot j)
  let cells := (List.range (d.rows * n)).map (first * n + ·)
  cells.any (fun i => !inRange rs 1 d.inSlot i) || param d.gain || param d.shift ||
  (d.mode == 0 && cells.any (writeMisses rs d.outSlot (tensorAt m d.outSlot)))

/-- Write bytes into a vertex's scratch; what lies past its declared scratch is not written (R184). -/
def scratchWrite (s : State) (c : CtxId) (x : Context) (off : Nat) (bs : List Byte) : State :=
  setSram s c.die c.spindle
    (memWrites (sramOf s c.die c.spindle) (x.scratchAt + off) (bs.take ((entryFunc s x).scratch - off)))

/-- The values of a recomputed row as the forward part left them: converted to the output tensor's format and read back,
keyed with the forward output's id, purpose 1, indices and step (R170). -/
def recomputedRow (s : State) (x : Context) (out : TensorDecl) (first : Nat) (l : List FVal) : List FVal :=
  if out.format = 6 then l
  else
    let t := (convertInto [] out (programKey s x.inst out.id 1) first l).1
    (List.range l.length).map (fun j => tensorValue t out (first + j))

/-- A layer in its vertex's context. DESIGN CHOICE (log 77): a recomputed row stands in scratch as its forward output row,
after gain, shift and output conversion, in binary32 words from ARG2 on, one row after another; its statistics are formed
and not stored. -/
def layerEffect (s : State) (c : CtxId) (w : Word) (x : Context) (img : Image) : State :=
  let d := nth img.ply.layers (plySlot w) default
  let rs := ctxRanges s x img
  let n := d.rowLength
  let first := (sreg x (plyDst w)).toNat
  let out := tensorAt img.ply d.outSlot
  let rows := (layerRows s x rs img.ply d first).map (fun r => r.out.map of32)
  let k := programKey s x.inst out.id d.purpose
  let t := rows.zipIdx.foldl (fun t r =>
    let i := (first + r.2) * n
    if d.mode = 0 then storeValues t rs d.outSlot out k i r.1 (fun _ => true)
    else scratchWrite t c x ((sreg x (plySrc1 w)).toNat + 4 * r.2 * n)
      ((recomputedRow s x out i r.1).flatMap (fun v => leBytes 4 (encodeRne singleF v)))) s
  countOutOfFootprint
    (signalBy (setCtx t c (nextPc x)) c (if plyByte3 w = 0xFF then none else some (plyByte3 w)))
    (if layerMisses rs img.ply d first then 1 else 0)

/-- LAYER: the LAYERS descriptor in the context, then its counter by 1 (R223, R224). -/
def execLayer (c : CtxId) (w : Word) (s : State) : Out :=
  plyStep s c w 0x41 (fun x img _ => layerEffect s c w x img)

end Sys2Proof.Machine
end

