-- ==== Sys2Proof/Machine/Instances.lean ====
section
/-! DEFINITION. Instances of a lattice: the footprints of vertices as bytes (R36, R213, R214), which vertices are ready
(R259, R260, R417), and when the module may itself write a lattice's tensors (R417). -/

namespace Sys2Proof.Machine

/-! ### Footprints as bytes -/

/-- A footprint range by tensor id: id, access, first element, elements. -/
abbrev FRange := Nat × Nat × Nat × Nat

/-- The footprints of a vertex (R213). -/
def vertexFoot (s : State) (v : Vertex) : List FRange :=
  match currentImage s v.program with
  | none => []
  | some img =>
    (rangesFor (footsOf img.ply (funcAt img.ply v.function)) v.args).map (fun r => ((tensorAt img.ply r.1).id, r.2))

def declOf (l : Lattice) (id : Nat) : TensorDecl := (l.decls.find? (fun d => d.id == id)).getD default

def frWrites (r : FRange) : Bool := r.2.1 == 2 || r.2.1 == 3
def frReads (r : FRange) : Bool := r.2.1 == 1 || r.2.1 == 3

/-- A range as whole elements: a write to a blocked tensor is widened to whole blocks (R214). -/
def frSpan (d : TensorDecl) (r : FRange) : Nat × Nat :=
  let lo := r.2.2.1
  let hi := r.2.2.1 + r.2.2.2
  if frWrites r && isBlocked d.format && decide (lo < hi) then (lo / d.block * d.block, alignUp hi d.block) else (lo, hi)

/-- Whether two ranges share a byte, of elements or of scales (R36, R213). -/
def frOverlap (d : TensorDecl) (a b : FRange) : Bool :=
  let x := frSpan d a
  let y := frSpan d b
  let w := elemWidth d.format
  a.1 == b.1 && decide (x.1 < x.2 ∧ y.1 < y.2) &&
    (decide (x.1 * w / 8 < ceilDiv (y.2 * w) 8 ∧ y.1 * w / 8 < ceilDiv (x.2 * w) 8) ||
     (isBlocked d.format && decide (x.1 / d.block ≤ (y.2 - 1) / d.block ∧ y.1 / d.block ≤ (x.2 - 1) / d.block)))

/-- Two footprint lists overlap with a write on one side (R36). -/
def footsClash (l : Lattice) (a b : List FRange) : Bool :=
  a.any (fun x => b.any (fun y => (frWrites x || frWrites y) && frOverlap (declOf l x.1) x y))

/-- Any overlap at all. -/
def footsMeet (l : Lattice) (a b : List FRange) : Bool := a.any (fun x => b.any (fun y => frOverlap (declOf l x.1) x y))

/-- A whole tensor as a range. -/
def wholeTensor (d : TensorDecl) (access : Nat) : FRange := (d.id, access, 0, d.count)

/-! ### Instances -/

def instAt (s : State) (i : InstRef) : Option Inst :=
  match i with
  | .step n => (stepAt s n).map AdmStep.inst
  | .eval b h => (evalAt s b h).map EvalReq.inst

def setInst (s : State) (x : Inst) : State :=
  match x.ref with
  | .step n => match stepAt s n with
    | some a => setStep s { a with inst := x }
    | none => s
  | .eval b h => match evalAt s b h with
    | some e => setEval s { e with inst := x }
    | none => s

def vertexOf (l : Lattice) (v : Nat) : Vertex := nth l.vertices v default

/-- Vertices of an instance that have not retired. -/
def unretired (l : Lattice) (i : Inst) : List Nat := (List.range l.vertices.length).filter (fun v => !i.retired.contains v)

/-- The step instance that an instance is ordered after: step n - 1, or the step whose commit an evaluation follows
(R260). -/
def earlierInst (s : State) (i : InstRef) : Option Inst :=
  match i with
  | .step n => instAt s (.step (n - 1))
  | .eval b _ => instAt s (.step b)

/-- No unretired vertex of the instance before overlaps the ranges (R260). -/
def afterEarlier (s : State) (i : InstRef) (rs : List FRange) : Bool :=
  match earlierInst s i, stepLattice s with
  | some e, some l => (unretired l e).all (fun u => !footsClash l (vertexFoot s (vertexOf l u)) rs)
  | _, _ => true

/-- Whether the module may write a tensor for an instance now: every vertex of the instance before whose footprint
overlaps it has retired (R417). -/
def mayWriteTensor (s : State) (i : InstRef) (d : TensorDecl) : Bool :=
  match earlierInst s i, stepLattice s with
  | some e, some l => (unretired l e).all (fun u => !footsMeet l (vertexFoot s (vertexOf l u)) [wholeTensor d 2])
  | _, _ => true

/-- Every vertex of an instance with a write footprint on a tensor has retired. -/
def writersDone (s : State) (l : Lattice) (i : Inst) (id : Nat) : Bool :=
  (unretired l i).all (fun v => !(vertexFoot s (vertexOf l v)).any (fun r => r.1 == id && frWrites r && decide (0 < r.2.2.2)))

/-- Tensors of roles POOLED_GRADIENT, LOSS and GRADIENT that the module still reads for a step (R417). -/
def stillRead (s : State) (l : Lattice) (n : Nat) : List Nat :=
  match stepAt s n with
  | none => []
  | some a =>
    l.decls.filterMap (fun d =>
      if (d.role == 4 && a.sections.any (fun c => c.table == d.table && !c.merged)) ||
         (d.role == 7 && a.loss.isNone) || (d.role == 10 && !a.localDone.contains d.associated)
      then some d.id else none)

/-- The module's own input writes for an instance are done: inputs delivered, and every POOLED tensor the vertex reads
has been written. -/
def inputsReady (s : State) (l : Lattice) (i : InstRef) (rs : List FRange) : Bool :=
  let secs : List Section × Bool :=
    match i with
    | .step n => match stepAt s n with
      | some a => (a.sections, a.delivered)
      | none => ([], false)
    | .eval b h => match evalAt s b h with
      | some e => (e.sections, e.delivered)
      | none => ([], false)
  rs.all (fun r =>
    let d := declOf l r.1
    match d.role with
    | 1 => secs.2
    | 2 => secs.2
    | 3 => secs.1.any (fun c => c.table == d.table && c.pooled)
    | _ => true)

/-- The commit of step n has passed here. -/
def committed (s : State) (n : Nat) : Bool := decide (n ≤ s.steps.c)

/-- Every slice of a PARAMETER tensor stands in state n: those that the member fetches have passed their check, and those of
shards it owns have had step n's update (R26, R149, R165). -/
def slicesChecked (s : State) (d : TensorDecl) (n : Nat) : Bool :=
  (shardsOf s d).all (fun x => s.dense.replicas.any (fun r => r.treeId == treeIdOf d.id x.1 && decide (n ≤ r.checked)))

/-- Whether a vertex reads a dense PARAMETER tensor of state n - 1 through its footprints; a copy converted from it, or
a value derived from it, is reached through an earlier vertex (R26). -/
def parametersReady (s : State) (l : Lattice) (i : InstRef) (rs : List FRange) : Bool :=
  let n := match i with | .step n => n - 1 | .eval b _ => b
  rs.all (fun r => (declOf l r.1).role != 5 || slicesChecked s (declOf l r.1) n)

/-- Whether the vertex waits for a tensor that the module still reads for the step before (R417). -/
def readsDone (s : State) (l : Lattice) (i : InstRef) (rs : List FRange) : Bool :=
  match i with
  | .step n =>
    match stepLattice s with
    | some sl => !(rs.any (fun r => frWrites r && (stillRead s sl (n - 1)).contains r.1))
    | none => true
  | .eval _ _ => l.isEval

/-- A vertex of an instance is ready (R259). -/
def vertexReady (s : State) (i : Inst) (v : Nat) : Bool :=
  match instLattice s i.ref with
  | none => false
  | some l =>
    let x := vertexOf l v
    let rs := vertexFoot s x
    decide (v < l.vertices.length) && !i.retired.contains v && !i.running.contains v &&
    l.edges.all (fun e => e.2 != v || i.retired.contains e.1) &&
    (match i.ref with
     | .step n => !x.backward || committed s (n - 1)
     | .eval b h => committed s b && (evalAt s b h).any EvalReq.running) &&
    inputsReady s l i.ref rs && parametersReady s l i.ref rs && afterEarlier s i.ref rs && readsDone s l i.ref rs

/-! ### Values that live inside one step (R45) -/

/-- Roles whose contents live within one instance: working data, gradients of pooled outputs, masks, losses, outputs. -/
def isTransient (role : Nat) : Bool := role == 0 || role == 4 || role == 6 || role == 7 || role == 8

/-- Elements that stand or fall together: a block, or one element. -/
def grain (d : TensorDecl) : Nat := if isBlocked d.format then d.block else 1

/-- Some range touches a grain of a tensor. -/
def grainTouched (d : TensorDecl) (rs : List FRange) (g : Nat) : Bool :=
  rs.any (fun r => r.1 == d.id && decide (0 < r.2.2.2 ∧ r.2.2.1 < (g + 1) * grain d ∧ g * grain d < r.2.2.1 + r.2.2.2))

/-- Clear a grain: elements, and in a blocked tensor its scale byte. -/
def clearGrain (m : Mem) (d : TensorDecl) (g : Nat) : Mem :=
  let m := (List.range (grain d)).foldl (fun m j => writeElem m d.format (g * grain d + j) 0) m
  if isBlocked d.format then writeScale m d (g * grain d) 0 else m

/-- Footprints of the instance's vertices that have been dispatched, and of the instance before's that have not retired. -/
def liveFoots (s : State) (l : Lattice) (i : Inst) : List FRange :=
  (i.running ++ i.retired).flatMap (fun u => vertexFoot s (vertexOf l u)) ++
  (match earlierInst s i.ref, stepLattice s with
   | some e, some sl => (unretired sl e).flatMap (fun u => vertexFoot s (vertexOf sl u))
   | _, _ => [])

/-- No transient value of an earlier step reaches a vertex: what its footprints cover and no vertex of its own instance has
touched yet reads as never written (R45, log 6). -/
def clearStale (s : State) (l : Lattice) (i : Inst) (v : Nat) : State :=
  let rs := vertexFoot s (vertexOf l v)
  let live := liveFoots s l i
  rs.foldl (fun s r =>
    let d := declOf l r.1
    if !isTransient d.role || r.2.2.2 == 0 then s
    else
      let lo := r.2.2.1 / grain d
      let hi := (r.2.2.1 + r.2.2.2 - 1) / grain d
      setTensor s d.id (((List.range (hi + 1 - lo)).map (lo + ·)).foldl (fun m g =>
        if grainTouched d live g then m else clearGrain m d g) (tensorMem s d.id))) s

/-- Every vertex of an instance has retired. -/
def instDone (s : State) (i : Inst) : Bool :=
  match instLattice s i.ref with
  | none => true
  | some l => (unretired l i).isEmpty

end Sys2Proof.Machine
end

