-- ==== Sys2Proof/Machine/Lookup.lean ====
section
/-! DEFINITION. Carding and look-up at the requester: effective weights (R88), passes (R79), carding (R76, R77), row
requests (R86), what comes back (R87, R89), pooling (R89), and pooled outputs (Table 3.7, R417). -/

namespace Sys2Proof.Machine

/-! ### Sections of an instance -/

def instSections (s : State) (i : InstRef) : List Section :=
  match i with
  | .step n => ((stepAt s n).map AdmStep.sections).getD []
  | .eval b h => ((evalAt s b h).map EvalReq.sections).getD []

def sectionAt (s : State) (i : InstRef) (table : Nat) : Option Section :=
  (instSections s i).find? (fun c => c.table == table)

def setSection (s : State) (i : InstRef) (c : Section) : State :=
  let put (l : List Section) : List Section := l.map (fun d => if d.table == c.table then c else d)
  match i with
  | .step n => match stepAt s n with
    | some a => setStep s { a with sections := put a.sections }
    | none => s
  | .eval b h => match evalAt s b h with
    | some e => setEval s { e with sections := put e.sections }
    | none => s

/-- The version of a table bound to an instance (R38, R44). -/
def instVersion (s : State) (i : InstRef) (table : Nat) : Option Version :=
  match i with
  | .step n => (stepAt s n).bind (fun a => boundVersion s a table)
  | .eval b h => (evalAt s b h).bind (fun e =>
      (e.bindings.find? (fun x => x.1 == table)).bind (fun x => findVersion s table x.2))

/-- Whether the table is trained in the step lattice: it has a POOLED_GRADIENT tensor (R416). -/
def trained (s : State) (table : Nat) : Bool :=
  match stepLattice s with
  | some l => l.decls.any (fun d => d.role == 4 && d.table == table)
  | none => false

def Section.bagCount (c : Section) : Nat := c.offsets.length - 1
def Section.offset (c : Section) (b : Nat) : Nat := nth c.offsets b 0
def Section.row (c : Section) (p : Nat) : Nat := nth c.indices p 0

/-- Positions of a bag, ascending. -/
def Section.positions (c : Section) (b : Nat) : List Nat :=
  (List.range (c.offset (b + 1) - c.offset b)).map (c.offset b + ·)

/-- The bag of a position. -/
def Section.bagOf (c : Section) (p : Nat) : Nat :=
  ((List.range c.bagCount).find? (fun b => decide (c.offset b ≤ p ∧ p < c.offset (b + 1)))).getD 0

/-- The effective weight of a position in bag `b` (R88). -/
def Section.weight (c : Section) (b p : Nat) : FVal :=
  let w := match c.weights with
    | some l => ofBf16 (nth l p 0)
    | none => oneV
  if c.mean then r32 (w.mul (r32 (oneV.div (.fin false (c.offset (b + 1) - c.offset b) 0)))) else w

/-- The last bag, exclusive, of a pass that starts at `first` (R79). -/
def passEnd (c : Section) (w first : Nat) : Nat → Nat → Nat
  | 0, last => last
  | n + 1, last =>
    if last < c.bagCount ∧ c.offset (last + 1) - c.offset first ≤ w then passEnd c w first n (last + 1) else last

/-- The passes of a section: bag ranges, first and one past the last (R79). -/
def passesFrom (c : Section) (w : Nat) : Nat → Nat → List (Nat × Nat)
  | 0, _ => []
  | n + 1, first =>
    if first < c.bagCount then
      let last := max (first + 1) (passEnd c w first c.bagCount first)
      (first, last) :: passesFrom c w n last
    else []

def Section.passes (c : Section) : List (Nat × Nat) := passesFrom c (2 ^ c.window) c.bagCount 0

/-- Positions of a pass. -/
def Section.passPositions (c : Section) (p : Nat × Nat) : List Nat :=
  (List.range (c.offset p.2 - c.offset p.1)).map (c.offset p.1 + ·)

/-- The window entries of a pass, (row << 24) OR position, in ascending order (R76). -/
def Section.sorted (c : Section) (p : Nat × Nat) : List Nat :=
  sortBy (fun a b => decide (a ≤ b)) ((c.passPositions p).map (fun q => c.row q * 2 ^ 24 + q))

/-- The unique-row list U of a pass: each distinct row of the sorted entries once (R77). -/
def Section.unique (c : Section) (p : Nat × Nat) : List Nat := sortDistinct ((c.sorted p).map (· / 2 ^ 24))

/-- The owner of a row under the map latched for the section (R93). -/
def Section.owner (c : Section) (v : Version) (row : Nat) : Nat := nth c.owners (skeinOf row v.skeinLog2) 0

/-- The four results of carding a pass (R77): U, INV over the pass's positions, CNT over U's ordinals, and the owner split,
owners ascending. -/
def Section.cardOf (c : Section) (v : Version) (pass : Nat) (p : Nat × Nat) : Card :=
  let u := c.unique p
  { pass := pass, sorted := c.sorted p, unique := u,
    inverse := (c.passPositions p).map (fun q => u.idxOf (c.row q)),
    counts := u.map (fun r => ((c.passPositions p).filter (fun q => c.row q == r)).length),
    split := (sortDistinct (u.map (c.owner v))).map (fun o => (o, u.filter (fun r => c.owner v r == o))) }

/-- A pass has been carded. -/
def Section.isCarded (c : Section) (pass : Nat) : Bool := c.cards.any (fun k => k.pass == pass)

/-- An owner's part of the split, with the rows' U ordinals (R86). -/
def Card.rowsFor (k : Card) (owner : Nat) : List (Nat × Nat) :=
  ((aGet k.split owner).getD []).map (fun r => (r, k.unique.idxOf r))

/-- The bag groups of a request to an owner: for each bag of the pass the positions of that owner's rows, with their U
ordinals out of INV and their effective weights (R86). -/
def Section.groups (c : Section) (v : Version) (k : Card) (p : Nat × Nat) (owner : Nat) : List BagGroup :=
  (List.range (p.2 - p.1)).filterMap (fun i =>
    let b := p.1 + i
    let ps := (c.positions b).filter (fun q => c.owner v (c.row q) == owner)
    if ps.isEmpty then none
    else some { bag := b,
                entries := ps.map (fun q => (q, nth k.inverse (q - c.offset p.1) 0, to32 (c.weight b q))) })

/-! ### Frames of a request -/

/-- Cut a request into frames of at most 4,096 payload bytes: rows first, then bag groups; the last is marked. -/
def requestFrames (f : RowRequestF) : List RowRequestF :=
  let rows := (chunksOf 256 f.rows.length f.rows).map (fun r => { f with rows := r, groups := [], last := false })
  let groups := f.groups.flatMap (fun g =>
    (chunksOf 128 g.entries.length g.entries).map (fun e =>
      { f with rows := [], groups := [{ g with entries := e }], last := false }))
  let l := rows ++ groups
  l.mapIdx (fun i x => { x with last := i + 1 == l.length })

/-! ### What comes back -/

/-- Store received rows (rows-to-requester mode). -/
def takeRows (c : Section) (rows : List (Nat × List Byte)) : Section :=
  { c with gotRows := rows.foldl (fun m r => aPut m r.1 r.2) c.gotRows }

/-- Store a fragment of a partial sum from an owner. -/
def takeSum (c : Section) (owner : Nat) (f : Fragment) : Section :=
  let old := (aGet c.gotSums (f.item, owner)).getD []
  { c with gotSums := aPut c.gotSums (f.item, owner) (old ++ f.values.zipIdx.map (fun v => (f.first + v.2, v.1))) }

/-- Owners of the rows of a bag, ascending. -/
def Section.bagOwners (c : Section) (v : Version) (b : Nat) : List Nat :=
  sortDistinct ((c.positions b).map (fun p => c.owner v (c.row p)))

/-- Everything a section waits for has arrived. -/
def Section.complete (c : Section) (v : Version) : Bool :=
  (List.range c.passes.length).all c.isCarded &&
  (if c.poolAtOwner then
    (List.range c.bagCount).all (fun b => (c.bagOwners v b).all (fun o =>
      (List.range v.width).all (fun j => ((aGet c.gotSums (b, o)).getD []).any (fun x => x.1 == j))))
   else c.indices.all (fun r => (aGet c.gotRows r).isSome))

/-- Element `j` of the pooled output of a bag (R89). -/
def Section.pooledValue (c : Section) (v : Version) (b j : Nat) : FVal :=
  if c.poolAtOwner then
    (c.bagOwners v b).foldl (fun acc o =>
      let x := ((((aGet c.gotSums (b, o)).getD []).find? (fun x => x.1 == j)).map (·.2)).getD 0
      r32 (acc.add (of32 x))) zeroV
  else
    (c.positions b).foldl (fun acc p =>
      fma32 acc (c.weight b p) (v.element ((aGet c.gotRows (c.row p)).getD []) j)) zeroV

/-- Write values into a whole tensor from an index on, converting where it is not binary32 (Table 3.7). -/
def fillTensor (s : State) (d : TensorDecl) (k : NoiseKey) (first : Nat) (vals : List FVal) : State :=
  let m := tensorMem s d.id
  setTensor s d.id
    (if d.format = 6 then vals.zipIdx.foldl (fun m v => writeElem m 6 (first + v.2) (encodeRne singleF v.1)) m
     else (convertInto m d k first vals).1)

/-- Deliver a section's pooled output once everything has arrived and the tensor may be written (R89, R417). -/
def tryPool (s : State) (i : InstRef) (table : Nat) : State :=
  match sectionAt s i table, instVersion s i table, instLattice s i with
  | some c, some v, some l =>
    match l.decls.find? (fun d => d.role == 3 && d.table == table) with
    | none => s
    | some d =>
      if !c.pooled && c.complete v && mayWriteTensor s i d then
        let k := programKey s i d.id 1
        let s := (List.range c.bagCount).foldl (fun s b =>
          fillTensor s d k (b * v.width) ((List.range v.width).map (c.pooledValue v b))) s
        setSection s i { c with pooled := true, gotRows := [], gotSums := [] }
      else s
  | _, _, _ => s

/-- Try every section of an instance. -/
def tryPools (s : State) (i : InstRef) : State :=
  ((instSections s i).map Section.table).foldl (fun s t => tryPool s i t) s

/-- The instance that replies for a step number and table belong to: a running evaluation at that boundary, or the step
(R44, R94). -/
def replyInst (s : State) (step table pass : Nat) : Option InstRef :=
  let want (c : Section) : Bool := c.table == table && !c.pooled && c.isCarded pass
  match s.steps.evals.find? (fun e => e.boundary == step && e.running && e.sections.any want) with
  | some e => some (.eval e.boundary e.handle)
  | none => match stepAt s step with
    | some a => if a.sections.any want then some (.step step) else none
    | none => none

/-- Rows arrive from an owner. -/
def deliverRows (s : State) (f : RowDataF) : State :=
  match replyInst s f.step f.table f.pass with
  | none => s
  | some i =>
    match sectionAt s i f.table with
    | none => s
    | some c => tryPool (setSection s i (takeRows c f.rows)) i f.table

/-- Partial sums arrive from an owner. -/
def deliverSums (s : State) (owner : Nat) (f : PartialSumF) : State :=
  match replyInst s f.step f.table f.pass with
  | none => s
  | some i =>
    match sectionAt s i f.table with
    | none => s
    | some c => tryPool (setSection s i (f.frags.foldl (fun c g => takeSum c owner g) c)) i f.table

end Sys2Proof.Machine
end

