-- ==== Sys2Proof/Machine/Capacity.lean ====
section
/-! DEFINITION. Space: the uses of GDDR7 and its floor (R114), homes and pinned placements (R97, R101, R104), mirrors
(R327), and the carding reserve (R115). -/

namespace Sys2Proof.Machine

/-! ### GDDR7 (Table 5.9) -/

/-- Each tensor of the resident lattices once. -/
def residentDecls (ls : List Lattice) : List TensorDecl :=
  (ls.flatMap Lattice.decls).foldl (fun acc d => if acc.any (fun e => e.id == d.id) then acc else acc ++ [d]) []

/-- Elements of a parameter that this member owns. -/
def ownedElems (s : State) (d : TensorDecl) : Nat :=
  sumOf ((shardsOf s d).map (fun x => if x.2 == s.member then shardSize s.jobSize d.count x.1 else 0))

/-- Bytes of the owned shards of a parameter with their optimiser state. -/
def ownedDenseBytes (s : State) (d : TensorDecl) : Nat :=
  let n := ownedElems s d
  let state := if isBlocked d.stateFormat then n + n / 2 ^ d.stateBlockLog2 else elemBytes d.stateFormat n
  2 * n + denseSlots d * state

def ownedDense (s : State) : Nat := sumOf ((parameters s).map (ownedDenseBytes s))

/-- Lattice data: the tensors that resident lattices declare, and the optimiser state of owned shards (use 2). -/
def latticeBytes (s : State) (ls : List Lattice) : Nat :=
  sumOf ((residentDecls ls).map (fun d =>
    d.bytes + (if d.role = 5 then ownedDenseBytes s d - 2 * ownedElems s d else 0)))

/-- STAGING_GB of committed policies that are still to be applied (R356). -/
def stagingHeld (s : State) : Nat :=
  maxOf (s.cfg.secure.stagingGB ::
    (s.cfg.sets.filter (fun x => x.boundary.isSome)).flatMap (fun x =>
      (x.items.filter (fun i => i.1 == 5)).map (fun i => leAt i.2 2 1)))

/-- Rows of a section whose positions span more than one pass. -/
def spanningList (c : Section) : List Nat :=
  let us := c.passes.map c.unique
  (sortDistinct c.indices).filter (fun r => decide (1 < (us.filter (fun u => u.contains r)).length))

def spanningRows (c : Section) : Nat := (spanningList c).length

/-- Running sums of a step that its merges have let go: those of the rows already sent in their last pass (R92, R115). -/
def releasedSums (s : State) (a : AdmStep) : Nat :=
  sumOf (a.sections.map (fun c =>
    match boundVersion s a c.table with
    | none => 0
    | some v =>
      if !trained s c.table then 0
      else 4 * v.width * ((spanningList c).filter (fun r =>
        c.merged || (match c.merging with | some l => !l.contains r | none => false))).length))

def reserves (s : State) : Nat :=
  sumOf (s.steps.admitted.map (fun a => if a.n ≤ s.steps.c then 0 else a.reserve - releasedSums s a)) +
  sumOf (s.steps.evals.map EvalReq.reserve)

def pinnedGddr (s : State) : Nat := (s.tables.pages.filter (fun p => p.pinned && p.tier == .gddr)).length

/-- Uses 1 to 5 of GDDR7 [bytes] with a staging size in GB and a list of lattices. -/
def gddrUse (s : State) (staging : Nat) (ls : List Lattice) : Nat :=
  12 * s.tables.pages.length + latticeBytes s ls + staging * 10 ^ 9 + reserves s + pinnedGddr s * Constants.pageBytes

/-! ### Homes and pins -/

/-- The hint byte of a skein: a nonzero per-skein byte replaces TABLE_HINT (R104). -/
def Version.hintOf (v : Version) (skein : Nat) : Nat :=
  let h := nth v.hints skein 0
  if h = 0 then v.hint else h

def hintPin (h : Nat) : Bool := bitAt h 7
def hintTier (h : Nat) : Nat := bits h 0 3

/-- A hint byte is malformed (R104). -/
def hintBad (h : Nat) : Bool :=
  bits h 3 4 != 0 || decide (6 ≤ hintTier h) || (hintPin h && (hintTier h == 0 || hintTier h == 5))

/-- The home tier of a skein: CXL memory where its hint pins it there, else flash (R97). -/
def homeTier (h : Nat) : Tier :=
  if hintPin h && hintTier h == 3 then .cxlPort else if hintPin h && hintTier h == 4 then .fabric else .flash

/-- Where a new version's pages are first placed: the hint's tier, else their home (R104). -/
def firstTier (h : Nat) : Tier :=
  match hintTier h with
  | 1 => .sram
  | 2 => .gddr
  | 3 => .cxlPort
  | 4 => .fabric
  | _ => .flash

def cxlTier (t : Tier) : Bool := t == .cxlPort || t == .fabric

/-- Where a page must be: the tier it is pinned to, else its home. -/
def heldTier (h : Nat) : Tier := if hintPin h then firstTier h else .flash

/-- The pages of a version for the given skeins, each at its pin or its home. -/
def newPages (v : Version) (skeins : List Nat) : List Page :=
  skeins.flatMap (fun k =>
    let h := v.hintOf k
    (v.pageRows k).mapIdx (fun i rows =>
      let ref : PageRef := { table := v.table, version := v.number, skein := k, page := i }
      { ref := ref, port := 0, toPort := 0, cache := 0, rows := rows, home := homeTier h, tier := heldTier h,
        pinned := hintPin h, heat := 0, dirty := false, moving := none, rereading := false, logSeq := 0, unsettled := false,
        wanted := false, changed := false }))

def pagesHomed (ps : List Page) (t : Tier) : Nat := (ps.filter (fun p => p.home == t)).length

/-- Rows a memory port's expander holds: eight ninths of at most 4 TB (R343). -/
def portRows (m : MemPort) : Nat := if m.present && !m.failed then min (m.capacityGB * 10 ^ 9) (4 * 10 ^ 12) * 8 / 9 else 0

def cxlRows (s : State) : Nat := sumOf (s.regs.memPorts.map portRows)
def fabricRows (s : State) : Nat := s.regs.fabricLength.toNat * 8 / 9

/-- The windows latched on a memory die for tables that are still to be carded (R93). -/
def latchedOn (s : State) (die : Nat) : List Nat :=
  let open_ (c : Section) : Bool := c.unit == die && !(List.range c.passes.length).all c.isCarded
  (s.steps.admitted.flatMap (fun a => a.sections.filter open_) ++ s.steps.evals.flatMap (fun e => e.sections.filter open_)).map
    Section.window

/-- The window that a memory die's row cache leaves room for: a die whose window shrinks keeps the larger one until every
table latched to it has been carded (R93). -/
def heldWindow (s : State) (die : Nat) : Nat := maxOf (nth s.cfg.window die 20 :: latchedOn s die)

/-- Bytes of a row cache: 64 MiB less the carding window (Table 5.1, R78). -/
def rowCache (window : Nat) : Nat := 2 ^ 26 - 2 ^ (window + 3)

def rowCaches (s : State) : Nat := sumOf ((List.range 8).map (fun d => rowCache (heldWindow s d)))

/-- The largest window that a die has, or will have by a committed set (R356). -/
def windowToCome (s : State) (die : Nat) : Nat :=
  maxOf (heldWindow s die :: (s.cfg.sets.filter (fun x => x.boundary.isSome)).flatMap (fun x =>
    (x.items.filter (fun i => i.1 == 7)).map (fun i => leAt i.2 die 1)))

/-- Pages pinned to SRAM on a memory die. -/
def pinnedSram (ps : List Page) (die : Nat) : Nat :=
  (ps.filter (fun p => p.pinned && p.tier == .sram && p.cache == die)).length

/-- Maps that committed sets will apply to a table (R356). -/
def committedMaps (s : State) (table : Nat) : List (List Nat) :=
  (s.cfg.sets.filter (fun x => x.boundary.isSome)).flatMap (fun x =>
    (x.items.filter (fun i => i.1 == 1 && leAt i.2 0 2 == table)).map (fun i => (chunksOf 2 (i.2.length) (i.2.drop 8)).map (fun e => leAt e 0 2)))

/-- Skeins of a version that the member owns, or will own by a committed map. -/
def skeinsToHold (s : State) (v : Version) : List Nat :=
  (List.range (2 ^ v.skeinLog2)).filter (fun k =>
    ownerOfSkein s.members (skeinMapOf s v.table) k == s.member ||
    (committedMaps s v.table).any (fun m => nth m k 0 == s.member))

/-- Pages that the member must have room for and does not hold: of skeins that maps applied or committed give it and that
have not landed (R83, R356). -/
def pagesToCome (s : State) : List Page :=
  s.tables.versions.flatMap (fun v =>
    (newPages v (skeinsToHold s v)).filter (fun p => (pageAt s p.ref).isNone))

/-- The member with the pages of committed and applied maps that are still to land, whose room is reserved (R356). -/
def withPagesToCome (s : State) : State := s.setTables { s.tables with pages := s.tables.pages ++ pagesToCome s }

/-- Uses 1 to 5 of GDDR7 and its floor hold with a staging size, a list of lattices and so many more bytes (R114). -/
def gddrHolds (s : State) (staging : Nat) (ls : List Lattice) (more : Nat) : Bool :=
  decide (gddrUse (withPagesToCome s) staging ls + more + Constants.rowAreaFloor ≤ Constants.gddrCapacity)

/-- The floor holds with so many more bytes in use (R114). -/
def floorHolds (s : State) (more : Nat) : Bool := gddrHolds s (stagingHeld s) s.lattices more

/-- Pages pinned to SRAM fit the row caches under given windows (R104). -/
def sramFits (s : State) (ps : List Page) (window : Nat → Nat) : Bool :=
  let room (d : Nat) : Nat := rowCache (window d) / Constants.pageBytes
  decide ((ps.filter (fun p => p.pinned && p.tier == .sram)).length ≤ sumOf ((List.range 8).map room)) &&
  (List.range 8).all (fun d => decide (pinnedSram s.tables.pages d ≤ room d))

/-- Every page of a list, and every page to come, has its home, and every pinned one its place, in the member's tiers (R97,
R101, R104, R114). -/
def pagesFit (s : State) (ps : List Page) : Bool :=
  let page := Constants.pageBytes
  let all := ps ++ (pagesToCome s).filter (fun p => !ps.any (fun q => q.ref == p.ref))
  decide (pagesHomed all .flash * page ≤ Constants.flashRowArea ∧ pagesHomed all .cxlPort * page ≤ cxlRows s ∧
    pagesHomed all .fabric * page ≤ fabricRows s) &&
  sramFits s all (windowToCome s) && floorHolds (s.setTables { s.tables with pages := all }) 0

/-- Skeins of a version that a member owns under the map in effect. -/
def ownedSkeins (s : State) (v : Version) : List Nat :=
  (List.range (2 ^ v.skeinLog2)).filter (fun k => ownerOfSkein s.members (skeinMapOf s v.table) k == s.member)

/-! ### Mirrors (R327) -/

/-- The buddy of a member (R327). -/
def buddyOf (s : State) (buddies : Option (List Nat)) (m : Nat) : Option Nat :=
  if s.jobSize ≤ 1 then none
  else
    match buddies with
    | some l => l[s.members.idxOf m]?
    | none =>
      if s.members.contains (m ^^^ 1) then some (m ^^^ 1)
      else s.members[(s.members.idxOf m + 1) % s.jobSize]?

/-- Bytes of a member's full mirror: its rows of every version in effect and its dense shards. -/
def mirrorBytes (s : State) (m : Nat) : Nat :=
  sumOf (s.tables.versions.map (fun v =>
    if v.inEffect then
      ((List.range v.rowCount).filter (fun r => rowOwner s v.table r v.skeinLog2 == m)).length * v.recordSize else 0)) +
  sumOf ((parameters s).map (fun d =>
    sumOf ((shardsOf s d).map (fun x => if x.2 == m then 2 * shardSize s.jobSize d.count x.1 else 0))))

/-- The mirrors that a buddy map sends to this member fit its secured-state area. -/
def mirrorsFit (s : State) (buddies : Option (List Nat)) : Bool :=
  decide (sumOf (s.members.map (fun m => if buddyOf s buddies m == some s.member then mirrorBytes s m else 0)) ≤
    Constants.securedArea)

/-! ### The carding reserve (R115) -/

/-- The reserve of a step or evaluation: 16 bytes per index, and for a trained table of a step 4w per spanning row. -/
def cardingReserve (s : State) (eval : Bool) (secs : List (Section × Version)) : Nat :=
  sumOf (secs.map (fun x =>
    16 * x.1.indices.length +
      (if !eval && trained s x.1.table then 4 * x.2.width * spanningRows x.1 else 0)))

end Sys2Proof.Machine
end

