-- ==== Sys2Proof/Machine/Placement.lean ====
section
/-! DEFINITION. Placement: the room of each tier (R96, R114), where new pages go (R101, R104), promotion and demotion (R105 to
R108, R113), the wear budget's exhaustion (R111), and the rows that make way for a use of GDDR7 that grows (R114). -/

namespace Sys2Proof.Machine

/-! ### Room (Table 5.1) -/

/-- Tiers from fast to slow. -/
def tierRank (t : Tier) : Nat :=
  match t with
  | .sram => 0
  | .gddr => 1
  | .cxlPort => 2
  | .fabric => 3
  | .flash => 4

/-- The tier a page takes room in: the one it moves to, else the one it lies in. -/
def Page.takes (p : Page) : Tier := p.moving.getD p.tier

def pagesIn (s : State) (t : Tier) : Nat := (s.tables.pages.filter (fun p => p.takes == t)).length

/-- Pages on a memory port, or on their way there. -/
def portPages (s : State) (port : Nat) : Nat :=
  (s.tables.pages.filter (fun p =>
    p.takes == .cxlPort && (if p.moving == some .cxlPort then p.toPort else p.port) == port)).length

/-- A memory port has room for one more page. -/
def portRoom (s : State) (port : Nat) : Bool :=
  decide ((portPages s port + 1) * Constants.pageBytes ≤ ((s.regs.memPorts[port]?).map portRows).getD 0)

/-- Memory ports that take new pages and have room. -/
def roomyPorts (s : State) : List Nat := (usablePorts s).filter (portRoom s)

/-- The memory port a page goes to: the module's own choice among those with room (R105). -/
def choosePort (s : State) (r : PageRef) : Nat :=
  let l := roomyPorts s
  nth l (Free.pagePort r.table r.version r.skein r.page % l.length) 0

/-- Unpinned pages in GDDR7 or on their way there: the row area's (Table 5.9, use 6). -/
def rowAreaPages (s : State) : Nat := (s.tables.pages.filter (fun p => p.takes == .gddr && !p.pinned)).length

/-- So many unpinned pages fit the row area that uses 1 to 5 leave (R114). -/
def rowAreaHolds (s : State) (n : Nat) : Bool :=
  decide (gddrUse s (stagingHeld s) s.lattices + n * Constants.pageBytes ≤ Constants.gddrCapacity)

/-- So many pages fit SRAM: the row caches and the die pools (Table 5.1). -/
def sramHolds (s : State) (n : Nat) : Bool := decide (n * Constants.pageBytes ≤ rowCaches s + 40 * 2 ^ 24)

/-- A tier has room for one more page. -/
def tierRoom (s : State) (t : Tier) : Bool :=
  match t with
  | .sram => sramHolds s (pagesIn s .sram + 1)
  | .gddr => rowAreaHolds s (rowAreaPages s + 1)
  | .cxlPort => !(roomyPorts s).isEmpty
  | .fabric => decide ((pagesIn s .fabric + 1) * Constants.pageBytes ≤ fabricRows s)
  | .flash => true

/-- The first tier from a given one down that has room; flash is the home that always has. -/
def firstRoom (s : State) (t : Tier) : Tier :=
  (([Tier.sram, .gddr, .cxlPort, .fabric].filter (fun u => decide (tierRank t ≤ tierRank u))).find? (tierRoom s)).getD .flash

/-! ### New pages (R101, R104) -/

/-- The memory die that holds a page pinned to SRAM: the lowest whose row cache has room. -/
def chooseCache (s : State) : Nat :=
  ((List.range 8).find? (fun d =>
    decide ((pinnedSram s.tables.pages d + 1) * Constants.pageBytes ≤ rowCache (windowToCome s d)))).getD 0

/-- A new page in its place: its pin, or the hint's tier where that has room, else a slower one (R96, R104). -/
def placePage (s : State) (h : Nat) (p : Page) : Page :=
  { p with
    tier := if p.pinned then p.tier else if hintTier h = 0 then .flash else firstRoom s (firstTier h),
    port := choosePort s p.ref, cache := chooseCache s }

def addPage (s : State) (p : Page) : State := s.setTables { s.tables with pages := s.tables.pages ++ [p] }

/-- The pages of a version for the given skeins join the member's pages, one after the other. -/
def installPages (s : State) (v : Version) (skeins : List Nat) : State :=
  (newPages v skeins).foldl (fun s p => addPage s (placePage s (v.hintOf p.ref.skein) p)) s

/-! ### The flash log's room (R110, R111) -/

/-- A page version is named by a hank or by an export in progress, so that the log keeps it (R110). -/
def versionNamed (s : State) (x : PageRef × Nat) : Bool :=
  s.securing.hanks.any (fun h => h.names.contains x) || s.outputs.exports.any (fun e => e.names.contains x)

/-- Retained versions leave less than 1 TB of the spare area free (R111). -/
def spareShort (s : State) : Bool :=
  decide (Constants.flashSpare < (s.tables.older.filter (versionNamed s)).length * Constants.pageBytes + 10 ^ 12)

/-- The wear budget is exhausted: a balance of zero or below (R113), or a spare area that ran short and has not been
reclaimed since (R111). -/
def wearExhausted (s : State) : Bool := decide (s.tables.wear ≤ 0) || s.tables.spareLow

/-- Draw NAND bytes on the wear budget; what is written below a zero balance counts as overdraw (R112, R113). -/
def drawWear (s : State) (n : Nat) : State :=
  let deficit := if s.tables.wear < 0 then n else n - s.tables.wear.toNat
  let s := s.setTables { s.tables with wear := s.tables.wear - n }
  s.setTelemetry { s.telemetry with
    wearOverdraw := s.telemetry.wearOverdraw + deficit, rowAreaBytes := s.telemetry.rowAreaBytes + n }

/-- Retained versions that leave too little of the spare area exhaust the budget until a reclamation frees it (R111). -/
def noteSpare (s : State) : State := if spareShort s then s.setTables { s.tables with spareLow := true } else s

/-- Write a page to flash as a new version in the log: the one before stays until it is reclaimed (R110, R112). -/
def writeFlash (s : State) (p : Page) : State :=
  let s := wakeChannels s (pageChannels p.ref)
  let s := s.setTables { s.tables with older := s.tables.older ++ [(p.ref, p.logSeq)] }
  drawWear (setPage (noteSpare s) { p with logSeq := p.logSeq + 1, dirty := false }) Constants.pageBytes

/-- NAND channels that are ON: what a flash operation waits for (R286). -/
def channelsOn (s : State) (channels : List Nat) : Bool := channels.all (fun c => unitState s (18 + c) == .on)

/-! ### Moves (R105 to R108) -/

/-- The page holds a row whose contributors of a step are not all applied or skipped (R108). -/
def pageBusy (s : State) (p : Page) : Bool :=
  s.owners.entries.any (fun e => e.table == p.ref.table && p.rows.contains e.row && e.state != .done)

/-- A page that is not moving, not being read again, and in its tier. -/
def Page.still (p : Page) : Bool := p.moving.isNone && !p.rereading && !p.unsettled

/-- Heat lets a page pass the coldest unpinned page of a faster tier: it exceeds that page's heat by at least a quarter
(R105). -/
def heatPasses (s : State) (p : Page) (t : Tier) : Bool :=
  match (s.tables.pages.filter (fun q => q.tier == t && !q.pinned)).map Page.heat with
  | [] => true
  | h :: r => let c := r.foldl min h; decide (c < p.heat ∧ c * 5 ≤ p.heat * 4)

/-- Start a move of a page (R108). -/
def startMove (s : State) (p : Page) (t : Tier) : State :=
  let s := if p.tier = .flash ∨ t = .flash then wakeChannels s (pageChannels p.ref) else s
  setPage s { p with moving := some t, toPort := choosePort s p.ref }

/-- A dirty page that leaves the fast tiers while the budget is exhausted goes to a memory port with room, then to fabric
memory with room, and to flash only where neither has any (R107, R113). -/
def wearAllows (s : State) (p : Page) (dest : Tier) : Bool :=
  if p.dirty && wearExhausted s then
    match dest with
    | .flash => (p.tier == .sram || p.tier == .gddr || p.tier == .cxlPort) && !tierRoom s .cxlPort && !tierRoom s .fabric
    | .fabric => !tierRoom s .cxlPort || p.tier == .cxlPort
    | _ => true
  else true

/-- A move that the placement rules allow; a placed copy leaves a memory port that drains for another port or another
tier (Table 11.6), and a dirty page stays in CXL memory while the budget is exhausted unless it must leave. -/
def moveAllowed (s : State) (p : Page) (dest : Tier) : Bool :=
  let up := decide (tierRank dest < tierRank p.tier)
  let pin := (findVersion s p.ref.table p.ref.version).map (fun v => firstTier (v.hintOf p.ref.skein))
  let leaves := p.tier == .cxlPort && !(usablePorts s).contains p.port
  p.still && !cxlTier p.home && (!p.pinned || leaves || pin == some dest) && tierRoom s dest && wearAllows s p dest &&
  (if leaves then up || dest == .cxlPort || !pageBusy s p
   else if dest == p.tier then false
   else if up then p.pinned || heatPasses s p dest
   else !pageBusy s p && !(p.tier == .cxlPort && dest == .flash && p.dirty && wearExhausted s))

/-- The coldest unpinned page of a tier that may leave it now, the first of equals. -/
def coldest (s : State) (t : Tier) : Option Page :=
  (s.tables.pages.filter (fun p => p.tier == t && !p.pinned && p.still && !cxlTier p.home && !pageBusy s p)).foldl
    (fun best p => match best with
      | some q => if p.heat < q.heat then some p else some q
      | none => some p) none

/-- Where a page that makes way goes: the next slower tier with room (R105, R107). -/
def makeWay (s : State) (p : Page) : State :=
  startMove s p (firstRoom s (match p.tier with | .sram => .gddr | _ => .cxlPort))

/-- A tier holds more unpinned pages than its room: a use above it has grown (R104, R114). -/
def overFull (s : State) (t : Tier) : Bool :=
  match t with
  | .sram => !sramHolds s (pagesIn s .sram)
  | .gddr => !rowAreaHolds s (rowAreaPages s)
  | _ => false

/-- Unpinned rows make way, the coldest first, until the tier's pages fit what is left of it (R114). -/
def shrinkTier (t : Tier) : Nat → State → State
  | 0, s => s
  | n + 1, s =>
    if overFull s t then
      match coldest s t with
      | some p => shrinkTier t n (makeWay s p)
      | none => s
    else s

/-- What a grown use takes from SRAM and from the row area is freed by demoting unpinned rows (R114). -/
def shrinkRows (s : State) : State :=
  shrinkTier .gddr s.tables.pages.length (shrinkTier .sram s.tables.pages.length s)

/-- The promotion of a page that a request names (R106): to GDDR7; to a memory port with room when the page is colder than
every GDDR7 page; where GDDR7 has no room a colder unpinned page makes way, else CXL memory takes it, else it waits. -/
def promote (s : State) (p : Page) : State :=
  let g := s.tables.pages.filter (fun q => q.tier == .gddr)
  if !g.isEmpty && g.all (fun q => decide (p.heat < q.heat)) && tierRoom s .cxlPort then startMove s p .cxlPort
  else if tierRoom s .gddr then startMove s p .gddr
  else
    match coldest s .gddr with
    | some q => if q.heat < p.heat then startMove (makeWay s q) p .gddr
      else if tierRoom s .cxlPort then startMove s p .cxlPort
      else if tierRoom s .fabric then startMove s p .fabric else s
    | none =>
      if tierRoom s .cxlPort then startMove s p .cxlPort
      else if tierRoom s .fabric then startMove s p .fabric else s

/-- A page in flash that is wanted starts its promotion; one on its way down is promoted again once it lands (R106,
R108). -/
def wantPage (s : State) (p : Page) : State :=
  match p.moving with
  | some t => if t == .flash then setPage s { p with wanted := true } else s
  | none => if p.tier == .flash && p.still then promote s p else s

end Sys2Proof.Machine
end

