-- ==== Sys2Proof/Machine/Owner.lean ====
section
/-! DEFINITION. The owner's side: row requests (R84 to R87, R105, R106), serving them (R26, R87, R89), the delta stream
(R367 to R371), row-gradient streams and entries (R127 to R134), updates of rows (R131, R135, R137), parking and withheld
credit (R140 to R142), and the member's merge (R92, R127). -/

namespace Sys2Proof.Machine

/-! ### The delta stream -/

/-- Write a delta record, which takes ENTRIES ring entries (R370). -/
def writeDelta (s : State) (r : DeltaRecord) : State :=
  let g := ringAt s 11
  setRing (s.setRings { s.rings with deltas := s.rings.deltas ++ [(g.producer, r)] }) 11 (g.advance r.entries)

def deltaMarker (kind table step : Nat) : DeltaRecord :=
  { kind := kind, entries := 1, table := table, row := 0, step := step, version := 0, format := 0, blockLog2 := 0, data := [] }

/-- An update of a selected row reaches ring 11: a row record if it fits with one entry to spare, else a gap marker and
DELTA_GAP; nothing while in a gap (R367, R371). -/
def postDelta (s : State) (v : Version) (row step : Nat) (bs : List Byte) : State :=
  if !s.outputs.deltaOn || s.outputs.deltaGap || !s.cfg.deltaTables.contains v.table || !(ringAt s 11).active then s
  else
    let n := ceilDiv (32 + v.endElems) 64
    if n + 1 ≤ (ringAt s 11).free then
      writeDelta s { kind := 1, entries := n, table := v.table, row := row, step := step, version := v.number,
                     format := v.elemFormat, blockLog2 := v.blockLog2, data := bs.take v.endElems }
    else
      let at_ := (ringAt s 11).producer
      let s := writeDelta s (deltaMarker 2 v.table step)
      let s := s.setOutputs { s.outputs with deltaGap := true }
      postEvent s controllerDie step (.deltaGap at_ v.table)

/-! ### Entries -/

def findEntry (s : State) (step table row : Nat) : Option Entry :=
  s.owners.entries.find? (fun e => e.step == step && e.table == table && e.row == row)

def setEntry (s : State) (e : Entry) : State :=
  s.setOwners { s.owners with
    entries := s.owners.entries.map (fun f => if f.step == e.step && f.table == e.table && f.row == e.row then e else f) }

/-- Record a contributor of a row with the highest pass it names the row in (R87, R128). -/
def expectRow (s : State) (step table pass source row : Nat) : State :=
  match findEntry s step table row with
  | some e =>
    let others := e.expected.filter (fun x => x.1 != source)
    let old := (aGet e.expected source).getD 0
    setEntry s { e with expected := sortBy (fun a b => decide (a.1 ≤ b.1)) (others ++ [(source, max old pass)]) }
  | none =>
    s.setOwners { s.owners with
      entries := s.owners.entries ++
        [{ step := step, table := table, row := row, expected := [(source, pass)], held := [], folded := [],
           acc := [], bad := false, state := .open_, result := none }] }

/-- The version a request of a step is about: bound to the step, else in effect. -/
def requestVersion (s : State) (step table : Nat) : Option Version :=
  match stepAt s step with
  | some a => boundVersion s a table
  | none => inEffect s table

/-- Pages that whole requests or complete entries wait for are promoted, however they came to be in flash: a moved skein
that landed there, or a page that was on its way down when the request was recorded (R85, R106, R108, R140). -/
def promoteWaiting (s : State) : State :=
  let want (s : State) (step table row : Nat) : State :=
    match requestVersion s step table with
    | none => s
    | some v =>
      match pageOfRow s table v.number row with
      | some p => wantPage s p
      | none => s
  let s := (s.owners.requests.filter OwnReq.complete).foldl (fun s q =>
    q.rows.foldl (fun s r => want s q.step q.table r.1) s) s
  (s.owners.entries.filter (fun e => e.state == .parked || e.state == .complete)).foldl
    (fun s e => want s e.step e.table e.row) s

/-- A whole request has arrived: heat, promotions and expected contributors are recorded (R87, R105, R106). -/
def recordRequest (s : State) (q : OwnReq) : State :=
  let pages := match requestVersion s q.step q.table with
    | some v => (q.rows.filterMap (fun (r : Nat × Nat) => (pageOfRow s q.table v.number r.1).map Page.ref)).eraseDups
    | none => []
  let s := pages.foldl (fun s p =>
    match pageAt s p with
    | none => s
    | some g => wantPage (setPage s { g with heat := min (g.heat + 1) 65535 }) { g with heat := min (g.heat + 1) 65535 }) s
  if q.noGradient then s
  else q.rows.foldl (fun s r => expectRow s q.step q.table q.pass q.source r.1) s

/-! ### Which requests have come (R26, R30, R87) -/

/-- The other members of the job. -/
def others (s : State) : List Nat := s.members.filter (· != s.member)

/-- A sparse-input table of the step lattice that it does not train (R416). -/
def readOnlyTable (s : State) (table : Nat) : Bool :=
  (stepLattice s).any (fun l => l.decls.any (fun d => d.role == 3 && d.table == table)) && !trained s table

/-- Row requests of a step that a member has sent this one. -/
def arrivedFrom (s : State) (step source : Nat) : Nat := (aGet s.owners.arrived (step, source)).getD 0

/-- A request that arrives is an evaluation's: it expects no gradients, and it names no table that its step reads without
training, or every request of that member's step has come before it (R87, R94). A member sends an evaluation's requests
only once its own step has been served and committed. -/
def arrivesEval (s : State) (source : Nat) (f : RowRequestF) : Bool :=
  f.noGradient && (!readOnlyTable s f.table || committed s f.step ||
    decide (Free.requestsSent s.owners.era f.step source ≤ arrivedFrom s f.step source))

/-- Every pass of a step's tables has been carded here, so that its own requests are out. -/
def stepCarded (a : AdmStep) : Bool := a.read && a.sections.all (fun c => (List.range c.passes.length).all c.isCarded)

/-- Whether a lattice declares a sparse-input table (R416). -/
def hasTables (l : Lattice) : Bool := l.decls.any (fun d => d.role == 3)

/-- Every row request of a step has reached this owner, from every member: a slower member's are waited for (R30, R32). -/
def requestsIn (s : State) (n : Nat) : Bool :=
  committed s n ||
  ((stepAt s n).any stepCarded &&
    ((stepLattice s).all (fun l => !hasTables l) ||
     (others s).all (fun m => decide (Free.requestsSent s.owners.era n m ≤ arrivedFrom s n m))))

/-- Every member's row requests of the agreed evaluations of boundary c have been served here (R26, R44). -/
def evalsServed (s : State) : Bool :=
  s.steps.evalSet.all (fun h => !(latticeAt s h).all hasTables) ||
  (s.owners.requests.all (fun q => !(q.eval && q.step == s.steps.c)) &&
   (others s).all (fun m =>
    decide (Free.evalRequestsSent s.owners.era s.steps.c m ≤ (aGet s.owners.arrivedEval (s.steps.c, m)).getD 0)))

/-- A frame of a request is added to the request of its flow (R86). -/
def takeRequest (s : State) (source : Nat) (flow : Word32) (f : RowRequestF) (eval : Bool) : State :=
  let mine (q : OwnReq) : Bool :=
    q.source == source && q.step == f.step && q.table == f.table && q.pass == f.pass && q.flow == flow && !q.complete
  let old := s.owners.requests.find? mine
  let q : OwnReq := old.getD
    { source := source, step := f.step, table := f.table, pass := f.pass, pool := f.pool, noGradient := f.noGradient,
      eval := eval, flow := flow, complete := false, rows := [], groups := [] }
  let q := { q with rows := q.rows ++ f.rows, groups := q.groups ++ f.groups, complete := f.last }
  let rest := s.owners.requests.filter (fun r => !mine r)
  let s := s.setOwners { s.owners with requests := rest ++ [q] }
  if f.last then
    let k := (q.step, source)
    let o := s.owners
    recordRequest
      (s.setOwners
        (if q.eval then { o with arrivedEval := aPut o.arrivedEval k ((aGet o.arrivedEval k).getD 0 + 1) }
         else { o with arrived := aPut o.arrived k ((aGet o.arrived k).getD 0 + 1) })) q
  else s

/-! ### Serving a request -/

/-- Whether the owner has what a request reads: its step admitted, or the boundary of an evaluation passed (R84, R94). -/
def requestDue (s : State) (q : OwnReq) : Bool :=
  if q.eval then committed s q.step else (stepAt s q.step).isSome

def servedVersion (s : State) (q : OwnReq) : Option Version :=
  if q.eval then inEffect s q.table else (stepAt s q.step).bind (fun a => boundVersion s a q.table)

/-- No update of a row by an earlier step is still to come: the step before has committed, or it binds another version, or
every request of it has arrived and the row's entry, if it has one, is applied or skipped (R26). -/
def earlierApplied (s : State) (q : OwnReq) (v : Version) (row : Nat) : Bool :=
  q.eval || committed s (q.step - 1) ||
  (stepAt s (q.step - 1)).all (fun a => !a.bindings.contains (v.table, v.number)) && (stepAt s (q.step - 1)).isSome ||
  (requestsIn s (q.step - 1) &&
    s.owners.entries.all (fun e => !(e.table == q.table && e.row == row && decide (e.step < q.step) && e.state != .done)))

/-- The row is served from where it lies: in a fast tier, not being read again, not on its way down; a page on its way up
is served from its old place (R96, R108). -/
def pageServes (p : Page) : Bool :=
  p.tier != .flash && !p.rereading && p.moving.all (fun t => decide (tierRank t ≤ tierRank p.tier))

/-- Whether every row of a request can be served now: its update of the step before is applied or skipped, its skein has
landed, and its page can be read (R26, R85, R96, R108). -/
def rowsServable (s : State) (q : OwnReq) (v : Version) : Bool :=
  q.rows.all (fun r =>
    earlierApplied s q v r.1 &&
    !s.tables.arriving.any (fun a => a.2.1 == q.table && a.2.2.1 == skeinOf r.1 v.skeinLog2) &&
    (match pageOfRow s q.table v.number r.1 with
     | some p => pageServes p
     | none => false))

/-- The partial sum of a bag group at the owner, element `j` (R89). -/
def partialSum (v : Version) (q : OwnReq) (g : BagGroup) (j : Nat) : FVal :=
  g.entries.foldl (fun acc e =>
    let row := ((q.rows.find? (fun r => r.2 == e.2.1)).map (·.1)).getD 0
    fma32 acc (of32 e.2.2) (v.element (v.served row) j)) zeroV

/-- The groups of a request with a bag that went on in a later frame put together. -/
def joinGroups (l : List BagGroup) : List BagGroup :=
  l.foldr (fun a acc =>
    match acc with
    | b :: r => if a.bag = b.bag then { a with entries := a.entries ++ b.entries } :: r else a :: b :: r
    | [] => [a]) []

def sumFragments (v : Version) (q : OwnReq) : List Fragment :=
  (joinGroups q.groups).flatMap (fun g =>
    let vals := (List.range v.width).map (fun j => to32 (partialSum v q g j))
    (chunksOf 256 vals.length vals).zipIdx.map (fun c => { item := g.bag, first := 256 * c.2, values := c.1 }))

/-- Answer a request: rows, or one partial sum per bag; to this member itself with no links (R86, R87). -/
def serveRequest (s : State) (q : OwnReq) (v : Version) : State :=
  let s := q.rows.foldl (fun s r =>
    match pageOfRow s q.table v.number r.1 with
    | some p => countTier s (tierIndex p.tier) 4 1
    | none => s) s
  if q.pool then
    let fs := chunksOf 3 (sumFragments v q).length (sumFragments v q)
    let frames := fs.mapIdx (fun i l => ({ step := q.step, table := q.table, pass := q.pass, last := i + 1 == fs.length, frags := l } : PartialSumF))
    frames.foldl (fun s f => if q.source = s.member then deliverSums s s.member f else sendFlow s q.source q.flow (.partialSum f)) s
  else
    let rows := q.rows.map (fun r => (r.1, (v.served r.1).take v.endElems))
    let fs := chunksOf 3 rows.length rows
    let frames := fs.mapIdx (fun i l => ({ step := q.step, table := q.table, pass := q.pass, last := i + 1 == fs.length, rows := l } : RowDataF))
    frames.foldl (fun s f => if q.source = s.member then deliverRows s f else sendFlow s q.source q.flow (.rowData f)) s

/-! ### Updates -/

/-- The update phase of a step may run: it is the step after the last commit, every evaluation of the boundary before has
finished reading, on this member and on those that read its rows, no securing hold holds it, and the member is not stopped
(R26, R31, R266, R324). -/
def updateGate (s : State) (n : Nat) : Bool :=
  decide (n = s.steps.c + 1) && s.steps.evals.all (fun e => !e.agreed) && evalsServed s && s.securing.hold.isNone &&
  !s.spindles.stopped

/-- The link die that merges a table: the module's own assignment (R123). -/
def mergeDieOf (s : State) (table : Nat) : Nat := (aGet s.owners.dieOf table).getD (Free.mergeDie table % 16)

/-- Bytes of a parked entry (R140); an accumulator and a contribution in a stream's buffer take the same. -/
def parkedBytes (width : Nat) : Nat := alignUp (8 + 4 * width) 64

/-- Width of the rows of a step's table. -/
def rowWidth (s : State) (step table : Nat) : Nat := ((requestVersion s step table).map Version.width).getD 0

/-- Bytes parked on a link die. -/
def parkedOn (s : State) (die : Nat) : Nat :=
  sumOf (s.owners.entries.map (fun e =>
    if e.state == .parked && mergeDieOf s e.table == die then parkedBytes e.acc.length else 0))

/-- The row-merge area of a die [bytes] (R121). -/
def mergeArea (s : State) (die : Nat) : Nat := nth s.cfg.bobbin die 64 * 2 ^ 20

/-- The limit of parked entries of a die: half its row-merge area (R121). -/
def parkLimit (s : State) (die : Nat) : Nat := mergeArea s die / 2

/-- A die has room for another parked entry of this size. -/
def parkFits (s : State) (e : Entry) : Bool :=
  let die := mergeDieOf s e.table
  decide (parkedOn s die + parkedBytes e.acc.length ≤ parkLimit s die)

/-- Park an entry while its die's parked entries stay within the limit; beyond it the entry stays complete in the bobbin. A
die that has no room for another of its size withholds credit (R121, R140, R142). -/
def parkEntry (s : State) (e : Entry) : State :=
  let die := mergeDieOf s e.table
  let t := if parkFits s e then setEntry s { e with state := .parked } else s
  if !parkFits t e && !t.owners.withheld.contains die then
    t.setOwners { t.owners with withheld := t.owners.withheld ++ [die] }
  else t

/-- A die below three quarters of its limit grants credit again (R142). -/
def releaseCredit (s : State) (die : Nat) : State :=
  if s.owners.withheld.contains die && decide (parkedOn s die * 4 < parkLimit s die * 3) then
    s.setOwners { s.owners with withheld := s.owners.withheld.filter (· != die) }
  else s

/-- Keep the lower of two (table, row) or (tensor, block) pairs. -/
def lowerPair (old : Option (Nat × Nat)) (x : Nat × Nat) : Option (Nat × Nat) :=
  match old with
  | none => some x
  | some y => if x.1 < y.1 ∨ (x.1 = y.1 ∧ x.2 < y.2) then some x else some y

/-- Count a row skipped for overflow (R69, R70). -/
def skipRow (s : State) (step table row : Nat) : State :=
  match stepAt s step with
  | some a => setStep s { a with skipRows := a.skipRows + 1, lowRow := lowerPair a.lowRow (table, row) }
  | none => s

/-- Count a dense update block skipped for overflow. -/
def skipBlock (s : State) (step tensor block : Nat) : State :=
  match stepAt s step with
  | some a => setStep s { a with skipBlocks := a.skipBlocks + 1, lowBlock := lowerPair a.lowBlock (tensor, block) }
  | none => s

/-- A row's record has been written: its page is dirty, and the update is counted and sent to the delta stream. -/
def noteUpdate (s : State) (v : Version) (row step : Nat) (bs : List Byte) : State :=
  match pageOfRow s v.table v.number row with
  | some p =>
    postDelta (countTier (setPage s { p with dirty := true, changed := true }) (tierIndex p.tier) 5 1) v row step bs
  | none => postDelta s v row step bs

/-- Apply a unit's new values to a row, or skip it as an overflow if any is not finite (R69, R137). -/
def applyRowUnit (s : State) (v : Version) (step row : Nat) (u : UnitVals) : State :=
  if u.finite then
    let bs := unitRecord s v row step u
    noteUpdate (setVersion s (v.setRecord row bs)) v row step bs
  else skipRow s step v.table row

/-- Apply a built-in optimiser to a row (R135, R136). -/
def applyRow (s : State) (v : Version) (e : Entry) : State :=
  let p := optParamsOf s (tableTensor e.table)
  let g := e.acc.map (fun x => unscale s.steps.exponent (of32 x))
  applyRowUnit s v e.step e.row (optimise v.optimiser p g (rowUnit v (v.record e.row)))

/-- A stream that contributes to the row has broken a rule of R132: no row of it is applied. -/
def entryFaulty (s : State) (e : Entry) : Bool :=
  s.owners.streams.any (fun x => x.faulty && x.step == e.step && x.table == e.table && e.expected.contains (x.member, x.pass))

/-- Skip a poisoned row (R119). -/
def skipPoisoned (s : State) (e : Entry) : State :=
  setEntry (s.setTelemetry { s.telemetry with poisonSkips := s.telemetry.poisonSkips + 1 }) { e with state := .done }

/-- Write the record that an update kernel computed for a row (R69, R139). -/
def writeResult (s : State) (v : Version) (e : Entry) (bs : List Byte) : State :=
  setEntry (noteUpdate (setVersion s (v.setRecord e.row bs)) v e.row e.step bs) { e with state := .done, result := none }

/-- Handle a complete entry in the order of R131: overflow, poison, not ready, update. An update kernel's rows wait for their
invocation, wherever in SRAM, GDDR7 or CXL memory they lie (log 36, DESIGN CHOICE: R140 parks a CXL row while the update
engine's read is outstanding and names no engine for code 5); what an invocation computed for a row that is no longer ready
waits for the row. Nothing happens before the update phase may run, and nothing to a row of a stream that broke R132. -/
def settleEntry (s : State) (e : Entry) : State :=
  if !updateGate s e.step || entryFaulty s e then s
  else
    match (stepAt s e.step).bind (fun a => boundVersion s a e.table) with
    | none => s
    | some v =>
      if e.bad then setEntry (skipRow s e.step e.table e.row) { e with state := .done }
      else if v.poisoned.contains e.row then skipPoisoned s e
      else
        match pageOfRow s e.table v.number e.row with
        | none => s
        | some p =>
          if !pageReady s p || (v.optimiser != 5 && (p.tier == .cxlPort || p.tier == .fabric)) then wantPage (parkEntry s e) p
          else if v.optimiser = 5 then
            (match e.result with
             | some bs => writeResult s v e bs
             | none => s)
          else setEntry (applyRow s v e) { e with state := .done }

/-! ### Streams (R127 to R133) -/

/-- Fold every held contribution whose turn has come, in ascending member number (R130). -/
def foldTurns : Nat → Entry → Entry
  | 0, e => e
  | n + 1, e =>
    match (e.expected.map (·.1)).find? (fun m => !e.folded.contains m) with
    | none => e
    | some m =>
      match aGet e.held m with
      | none => e
      | some vals =>
        let acc0 := if e.acc.isEmpty then List.replicate vals.length 0 else e.acc
        let acc := List.zipWith (fun a x => to32 ((of32 a).add (of32 x))) acc0 vals
        foldTurns n { e with
          acc := acc, folded := e.folded ++ [m], held := aDel e.held m,
          bad := e.bad || vals.any (fun x => !(of32 x).finite) || acc.any (fun x => !(of32 x).finite) }

/-- An open entry folds the contributions whose turn has come, once every request of its step has arrived, so that its
expected contributors are known; a complete entry is settled (R130, R131). -/
def advanceEntry (s : State) (e : Entry) : State :=
  match e.state with
  | .open_ =>
    if requestsIn s e.step then
      let e := foldTurns (e.expected.length + 1) e
      let e := if e.expected.all (fun m => e.folded.contains m.1) then { e with state := .complete } else e
      let s := setEntry s e
      if e.state == .complete then settleEntry s e else s
    else s
  | .complete => settleEntry s e
  | _ => s

/-- Advance every entry, in the order they stand. -/
def settleAll (s : State) : State := s.owners.entries.foldl advanceEntry s

/-- A contribution reaches its entry, and the credit it came under is used up. -/
def contribute (s : State) (step table row source : Nat) (vals : List Word32) : State :=
  let s := s.setOwners { s.owners with granted := s.owners.granted.erase (step, table, row, source) }
  match findEntry s step table row with
  | none => s
  | some e =>
    let e := { e with held := aPut e.held source vals }
    advanceEntry (setEntry s e) e

def findStream (s : State) (step table source pass : Nat) : Option StreamRx :=
  s.owners.streams.find? (fun x => x.step == step && x.table == table && x.member == source && x.pass == pass)

def putStream (s : State) (x : StreamRx) : State :=
  let same (y : StreamRx) : Bool := y.step == x.step && y.table == x.table && y.member == x.member && y.pass == x.pass
  s.setOwners { s.owners with
    streams := if s.owners.streams.any same then s.owners.streams.map (fun y => if same y then x else y) else s.owners.streams ++ [x] }

/-- A stream breaks a rule of R132: its member is named lost, and no more of it is applied. -/
def streamFault (s : State) (x : StreamRx) : State :=
  let s := putStream s { x with faulty := true }
  memberLost (s.setSteps { s.steps with halted := true }) (some x.member) 1 x.step

/-- The stream expects this row of this member in this pass (R128). -/
def rowExpected (s : State) (x : StreamRx) (row : Nat) : Bool :=
  match findEntry s x.step x.table row with
  | some e => e.expected.contains (x.member, x.pass)
  | none => false

/-- One fragment of a stream: rows strictly ascend, and a row's fragments follow one another from element 0 (R127). -/
def takeFragment (s : State) (x : StreamRx) (g : Fragment) : State × StreamRx :=
  if x.faulty then (s, x)
  else
    let start := match x.part with
      | some (r, vals) => r == g.item && vals.length == g.first
      | none => g.first == 0 && (match x.lastRow with | some l => decide (l < g.item) | none => true)
    if !start || !rowExpected s x g.item || x.ended then (streamFault s x, { x with faulty := true })
    else
      let vals := (match x.part with | some p => p.2 | none => []) ++ g.values
      if vals.length < rowWidth s x.step x.table then (s, { x with part := some (g.item, vals) })
      else (contribute s x.step x.table g.item x.member vals,
            { x with part := none, lastRow := some g.item, count := x.count + 1 })

/-- The stream a frame belongs to, a new one where none stands. -/
def streamOf (s : State) (step table source pass : Nat) (flow : Word32) : StreamRx :=
  (findStream s step table source pass).getD
    { step := step, table := table, member := source, pass := pass, flow := flow, lastRow := none, part := none,
      count := 0, ended := false, faulty := false }

/-- Stream data from a member (R127, R132). -/
def takeStream (s : State) (source : Nat) (flow : Word32) (f : StreamDataF) : State :=
  let x := streamOf s f.step f.table source f.pass flow
  if (stepAt s f.step).isNone then streamFault s x
  else
    let r := f.frags.foldl (fun (a : State × StreamRx) g => takeFragment a.1 a.2 g) (s, x)
    if r.2.faulty then r.1 else putStream r.1 r.2

/-- Rows that expect a stream, ascending. -/
def streamRows (s : State) (step table source pass : Nat) : List Nat :=
  sortDistinct ((s.owners.entries.filter (fun e =>
    e.step == step && e.table == table && e.expected.contains (source, pass))).map Entry.row)

/-- A stream's end marker: its count is the rows received, and no row still expects the stream (R132). -/
def takeStreamEnd (s : State) (source : Nat) (flow : Word32) (f : StreamEndF) : State :=
  let x := streamOf s f.step f.table source f.pass flow
  if x.faulty then s
  else if (stepAt s f.step).isNone || x.ended || x.part.isSome || x.count != f.rowCount ||
      x.count != (streamRows s f.step f.table source f.pass).length then streamFault s x
  else putStream s { x with ended := true }

/-! ### Stream credit (R129, R142) -/

/-- The frames of one contribution: fragments of 256 values, three to a frame (R127, Table 12.8). -/
def contributionFrames (step table pass row : Nat) (vals : List Word32) : List StreamDataF :=
  let frags := (chunksOf 256 vals.length vals).zipIdx.map (fun c => ({ item := row, first := 256 * c.2, values := c.1 } : Fragment))
  (chunksOf 3 frags.length frags).map (fun l => { step := step, table := table, pass := pass, frags := l })

/-- Units that one contribution takes on the links, with the end marker after the last of a stream. -/
def contributionUnits (width : Nat) (last : Bool) : Nat :=
  sumOf ((contributionFrames 0 0 0 0 (List.replicate width 0)).map (fun f => frameUnits (bodyLength (.streamData f)))) +
  (if last then frameUnits 32 else 0)

/-- The next contributor of an entry in fold order, with its pass. -/
def Entry.next (e : Entry) : Option (Nat × Nat) := e.expected.find? (fun x => !e.folded.contains x.1)

def isGranted (s : State) (e : Entry) (m : Nat) : Bool := s.owners.granted.contains (e.step, e.table, e.row, m)

/-- Contributions granted to an entry and not yet received. -/
def grantedTo (s : State) (e : Entry) : Nat :=
  (s.owners.granted.filter (fun g => g.1 == e.step && g.2.1 == e.table && g.2.2.1 == e.row)).length

/-- What an entry takes in its bobbin: its accumulator or parked form, the contributions it holds, and the buffers granted to
its streams, each of one size (R121, R140). -/
def entrySlots (s : State) (e : Entry) : Nat :=
  if e.state == .done then 0 else (if e.acc.isEmpty then 0 else 1) + e.held.length + grantedTo s e

def entryRoom (s : State) (e : Entry) : Nat := parkedBytes (rowWidth s e.step e.table)

/-- Bytes in use in a die's row-merge area. -/
def mergeUse (s : State) (die : Nat) : Nat :=
  sumOf (s.owners.entries.map (fun e => if mergeDieOf s e.table == die then entrySlots s e * entryRoom s e else 0))

/-- A table's incomplete entries of the earliest step that has any, in ascending row order. -/
def openEntries (s : State) (table : Nat) : List Entry :=
  let l := s.owners.entries.filter (fun e => e.table == table && e.state == .open_)
  let n := (l.map Entry.step).foldl min ((l.map Entry.step).headD 0)
  sortBy (fun a b => decide (a.row ≤ b.row)) (l.filter (fun e => e.step == n))

/-- The table merges of a die that are open, in ascending table number, as far as their reserves fit together: an
accumulator and one contribution each (R129). -/
def opensFrom (s : State) (room : Nat) : List Nat → List Nat
  | [] => []
  | t :: r =>
    match openEntries s t with
    | [] => opensFrom s room r
    | e :: _ => if 2 * entryRoom s e ≤ room then t :: opensFrom s (room - 2 * entryRoom s e) r else []

def openMerges (s : State) (die : Nat) : List Nat :=
  opensFrom s (mergeArea s die - parkedOn s die)
    (sortDistinct ((s.owners.entries.filter (fun e =>
      e.state == .open_ && requestsIn s e.step && mergeDieOf s e.table == die)).map Entry.table))

/-- What a merge keeps free beyond what its lowest incomplete row has already: the accumulator, and the next contribution in
fold order (R129). -/
def reserveLeft (s : State) (e : Entry) : Nat :=
  (if e.acc.isEmpty then 1 else 0) + (if e.next.any (fun x => isGranted s e x.1) then 0 else 1)

/-- The stream of a contributor: the FLOW its frames have shown, or the one its member gives it (R306). -/
def streamFlow (s : State) (e : Entry) (m pass : Nat) : Word32 :=
  match findStream s e.step e.table m pass with
  | some x => x.flow
  | none => Free.peerFlow m [4, e.step, e.table, pass]

/-- Grant one contribution to a stream: a GRANT to its member, none to this member itself (R129, R302). -/
def grantOne (s : State) (e : Entry) (m pass : Nat) : State :=
  let s' := s.setOwners { s.owners with granted := s.owners.granted ++ [(e.step, e.table, e.row, m)] }
  if m = s.member then s'
  else
    let flow := streamFlow s e m pass
    let last := (streamRows s e.step e.table m pass).getLast? == some e.row
    sendTo s' m [flow.toNat]
      (.grant [{ cls := 0, pool := 1, flow := flow, units := contributionUnits (rowWidth s e.step e.table) last }])

/-- The reserve's grant: the next contributor of a merge's lowest incomplete row, whenever its stream waits (R129). -/
def grantReserve (s : State) (table : Nat) : State :=
  match openEntries s table with
  | [] => s
  | e :: _ =>
    match e.next with
    | some x => if isGranted s e x.1 || (aGet e.held x.1).isSome then s else grantOne s e x.1 x.2
    | none => s

/-- Contributions still to grant in the open merges of a die, in ascending row order: (entry, member, pass). -/
def grantQueue (s : State) (tables : List Nat) : List (Entry × Nat × Nat) :=
  (sortBy (fun a b => decide (a.row ≤ b.row)) (tables.flatMap (openEntries s))).flatMap (fun e =>
    (e.expected.filter (fun x => !e.folded.contains x.1 && (aGet e.held x.1).isNone && !isGranted s e x.1)).map (fun x => (e, x)))

/-- Grant what is left of a die's area in that order; a stream whose next row has no entry yet gets none while the die
withholds credit, and waits with the rows behind it (R129, R142). `use` is what the area holds with its reserves. -/
def grantRest (die : Nat) : List (Entry × Nat × Nat) → Nat → List (Nat × Nat × Nat) → State → State
  | [], _, _, s => s
  | x :: r, use, stopped, s =>
    let key := (x.1.table, x.2.1, x.2.2)
    let size := entryRoom s x.1
    if stopped.contains key then grantRest die r use stopped s
    else if s.owners.withheld.contains die && entrySlots s x.1 == 0 then grantRest die r use (stopped ++ [key]) s
    else if use + size ≤ mergeArea s die then grantRest die r (use + size) stopped (grantOne s x.1 x.2.1 x.2.2)
    else s

/-- Grant stream credit on one link die: the reserves first, then the rest of its row-merge area (R129). -/
def grantDie (s : State) (die : Nat) : State :=
  match openMerges s die with
  | [] => s
  | tables =>
    let s := tables.foldl grantReserve s
    let kept := sumOf (tables.map (fun t => match openEntries s t with
      | [] => 0
      | e :: _ => reserveLeft s e * entryRoom s e))
    grantRest die (grantQueue s tables) (mergeUse s die + kept) [] s

def grantStreams (s : State) : State := (List.range 16).foldl grantDie s

/-! ### The member's merge (R91, R92, R127) -/

/-- The contribution of a row, element `j`: the fold over its positions of r32(e(p) G(b)). -/
def contribution (s : State) (c : Section) (d : TensorDecl) (width row j : Nat) : FVal :=
  (c.indices.zipIdx.filter (fun x => x.1 == row)).foldl (fun acc x =>
    let b := c.bagOf x.2
    let g := r32 ((c.weight b x.2).mul (tensorValue (tensorMem s d.id) d (b * width + j)))
    r32 (acc.add g)) zeroV

/-- The last pass that names a row. -/
def lastPass (c : Section) (row : Nat) : Nat :=
  maxOf (c.passes.zipIdx.filterMap (fun p => if (c.unique p.1).contains row then some p.2 else none))

/-- Credit of a class and pool that the member holds for a flow's next frames, what waits for a link aside. -/
def creditFor (s : State) (cls pool dest : Nat) (flow : Word32) : Nat :=
  (aGet s.links.grants (cls, pool, flow.toNat)).getD 0 -
  sumOf ((s.links.waiting.filter (fun f => f.source == s.member && f.dest == dest && f.cls == cls && f.flow == flow)).map
    (fun f => frameUnits f.length))

/-- Send one contribution to its owner, this member among them, and the end marker behind the last of a stream; none while
the stream waits for credit (R127, R129). -/
def emitContribution (s : State) (step table pass owner row rowCount : Nat) (last : Bool) (vals : List Word32) : Option State :=
  let frames := contributionFrames step table pass row vals
  let endF : StreamEndF := { step := step, table := table, pass := pass, rowCount := rowCount }
  if owner = s.member then
    if s.owners.granted.contains (step, table, row, owner) then
      let t := frames.foldl (fun s f => takeStream s owner 0 f) s
      some (if last then takeStreamEnd t owner 0 endF else t)
    else none
  else
    let key := [step, table, pass]
    let r := flowFor s (0x04 :: owner :: key)
    if contributionUnits vals.length last ≤ creditFor r.1 0 1 owner r.2 then
      let t := frames.foldl (fun s f => sendTo s owner key (.streamData f)) r.1
      some (if last then sendTo t owner key (.streamEnd endF) else t)
    else none

/-- The merge of a table goes on: contributions leave in ascending row order as credit allows, and nothing is formed ahead
of it (R92, R127). -/
def emitRows (n table : Nat) (v : Version) (d : TensorDecl) : Nat → State → State
  | 0, s => s
  | fuel + 1, s =>
    match sectionAt s (.step n) table with
    | none => s
    | some c =>
      match c.merging with
      | some (r :: rest) =>
        let k := lastPass c r
        let o := c.owner v r
        let mine (x : Nat) : Bool := lastPass c x == k && c.owner v x == o
        let count := ((sortDistinct c.indices).filter mine).length
        let vals := (List.range v.width).map (fun j => to32 (contribution s c d v.width r j))
        (match emitContribution s n table k o r count (!rest.any mine) vals with
         | none => s
         | some t =>
           match sectionAt t (.step n) table with
           | some c => emitRows n table v d fuel (setSection t (.step n) { c with merging := some rest, merged := rest.isEmpty })
           | none => t)
      | some [] => setSection s (.step n) { c with merged := true }
      | none => s

/-- Merge a section once every vertex that writes its pooled gradient has retired and the commit of the step before has
passed (R26, R92); a read-only table has nothing to merge (R416). -/
def tryMerge (s : State) (n table : Nat) : State :=
  match stepAt s n, sectionAt s (.step n) table, instVersion s (.step n) table, stepLattice s with
  | some a, some c, some v, some l =>
    match l.decls.find? (fun d => d.role == 4 && d.table == table) with
    | none => setSection s (.step n) { c with merged := true }
    | some d =>
      if c.merged then s
      else if c.merging.isSome then emitRows n table v d (c.indices.length + 1) s
      else if c.pooled && committed s (n - 1) && writersDone s l a.inst d.id then
        emitRows n table v d (c.indices.length + 1) (setSection s (.step n) { c with merging := some (sortDistinct c.indices) })
      else s
  | _, _, _, _ => s

def tryMerges (s : State) (n : Nat) : State :=
  ((instSections s (.step n)).map Section.table).foldl (fun s t => tryMerge s n t) s

/-- Rows that the member's merges have still to send. -/
def rowsToSend (s : State) : Nat :=
  sumOf (s.steps.admitted.flatMap (fun a => a.sections.map (fun c => match c.merging with
    | some l => l.length
    | none => if c.merged then 0 else c.indices.length)))

/-- Credit is granted and merges go on, until neither moves. -/
def mergeLoop : Nat → State → State
  | 0, s => s
  | fuel + 1, s =>
    let t := (s.steps.admitted.map AdmStep.n).foldl tryMerges (grantStreams s)
    if rowsToSend t = rowsToSend s then t else mergeLoop fuel t

/-- The owner's work goes on: entries fold and settle, credit is granted, and the member's own merges use theirs. -/
def ownersGo (s : State) : State :=
  let s := settleAll s
  mergeLoop (rowsToSend s + 1) s

/-! ### Commands -/

/-- ROW_REQUEST (R87). -/
def execRowRequest (rx : Rx) (f : RowRequestF) (s : State) : Out :=
  receive s rx 0x01 (.rowRequest f) (rowRequestOk f)
    (fun s => ownersGo (takeRequest s rx.source rx.flow f (arrivesEval s rx.source f)))

/-- PARKED_ENTRY_APPLY: a parked entry's row is ready: its update is applied, or skipped; credit may return (R140,
R142). -/
def execParkedEntryApply (table row : Nat) (s : State) : Out :=
  match s.owners.entries.find? (fun e => e.table == table && e.row == row && e.state == .parked) with
  | none => .next s
  | some e =>
    match (stepAt s e.step).bind (fun a => boundVersion s a e.table) with
    | none => .next s
    | some v =>
      match pageOfRow s table v.number row with
      | none => .next s
      | some p =>
        if !s.running || !updateGate s e.step || entryFaulty s e || !pageReady s p then .next s
        else
          let t :=
            if v.poisoned.contains row then skipPoisoned s e
            else match e.result with
              | some bs => writeResult s v e bs
              | none =>
                if v.optimiser = 5 then setEntry s { e with state := .complete }
                else setEntry (applyRow s v e) { e with state := .done }
          .next (ownersGo (releaseCredit t (mergeDieOf s table)))


/-- A row's fragments cover its elements in order before the next row begins (Table 12.8, 0x04). -/
def streamLayout (s : State) (rx : Rx) (f : StreamDataF) : Bool :=
  let x := streamOf s f.step f.table rx.source f.pass rx.flow
  let w := rowWidth s f.step f.table
  fragsOk f.frags &&
  (f.frags.foldl (fun (a : Option (Nat × Nat) × Bool) g =>
    let ok := match a.1 with
      | some p => p.1 == g.item && p.2 == g.first
      | none => g.first == 0
    let upto := g.first + g.values.length
    (if upto < w then some (g.item, upto) else none, a.2 && ok && decide (upto ≤ w)))
    (x.part.map (fun p => (p.1, p.2.length)), true)).2

/-- STREAM_DATA (R130). -/
def execStreamData (rx : Rx) (f : StreamDataF) (s : State) : Out :=
  receive s rx 0x04 (.streamData f) ((stepAt s f.step).isNone || streamLayout s rx f)
    (fun s => ownersGo (takeStream s rx.source rx.flow f))

/-- STREAM_END (R132). -/
def execStreamEnd (rx : Rx) (f : StreamEndF) (s : State) : Out :=
  receive s rx 0x05 (.streamEnd f) true (fun s => ownersGo (takeStreamEnd s rx.source rx.flow f))

end Sys2Proof.Machine
end

