-- ==== Sys2Proof/Machine/Dense.lean ====
section
/-! DEFINITION. Dense gradients and shards: local values, tree nodes, windows (R143 to R146), tiles that drain (R161 to
R164), the update at the root (R147, R165), digests, slices and the scrub (R148 to R152), grants (R302). -/

namespace Sys2Proof.Machine

/-! ### Nodes -/

def findNode (s : State) (step treeId block : Nat) : Option TreeNode :=
  s.dense.nodes.find? (fun x => x.step == step && x.treeId == treeId && x.block == block)

def emptyNode (step treeId block : Nat) : TreeNode :=
  { step := step, treeId := treeId, block := block, localVals := [], leftVals := [], rightVals := [], done := false,
    die := Free.nodeDie treeId % 16, sum := [] }

def putNode (s : State) (x : TreeNode) : State :=
  let same (y : TreeNode) : Bool := y.step == x.step && y.treeId == x.treeId && y.block == x.block
  s.setDense { s.dense with
    nodes := if s.dense.nodes.any same then s.dense.nodes.map (fun y => if same y then x else y) else s.dense.nodes ++ [x] }

/-- Change a node, a new one where none stands. -/
def withNode (s : State) (step treeId block : Nat) (f : TreeNode → TreeNode) : State :=
  putNode s (f ((findNode s step treeId block).getD (emptyNode step treeId block)))

def putVals (m : Assoc Nat Word32) (l : List (Nat × Word32)) : Assoc Nat Word32 := l.foldl (fun m x => aPut m x.1 x.2) m

/-- Elements of an update block. -/
def blockLength (d : TensorDecl) (block : Nat) : Nat := (blockRange d.count block).length

/-- The tree of an update block. -/
def blockTree (s : State) (d : TensorDecl) (block : Nat) : Nat :=
  treeIdOf d.id (shardOfBlock s.jobSize (updateBlocks d.count) block)

/-- A local value of a whole-tensor index reaches its node (R144, R145). -/
def putLocal (s : State) (step : Nat) (d : TensorDecl) (i : Nat) (v : Word32) : State :=
  let b := i / 2048
  withNode s step (blockTree s d b) b (fun x => { x with localVals := aPut x.localVals (i % 2048) v })

/-! ### Tensor windows (R146) -/

/-- Elements of a drain band. -/
def bandElems (d : TensorDecl) : Nat := 128 * d.cols

/-- Room a tensor window takes [bytes]: the lowest block and two bands beyond it in binary32, or the whole tensor. -/
def windowSize (d : TensorDecl) : Nat := 4 * min d.count (2 * bandElems d + 2048)

/-- Dense node areas of the sixteen link dies [bytes]: what their row-merge areas leave, a row-merge area that shrinks
holding its space until its entries have drained (R121, R122). -/
def denseArea (s : State) : Nat :=
  sumOf ((List.range 16).map (fun die => 96 * 2 ^ 20 - max (mergeArea s die) (mergeUse s die)))

/-- A block has been forwarded, or applied or skipped by the owner, at this member in a step. -/
def blockDone (s : State) (step : Nat) (d : TensorDecl) (block : Nat) : Bool :=
  (findNode s step (blockTree s d block) block).any TreeNode.done

/-- A block's values have left the node: sent to the parent, or handed to the owner's update (R144). -/
def blockHanded (s : State) (step : Nat) (d : TensorDecl) (block : Nat) : Bool :=
  (findNode s step (blockTree s d block) block).any (fun x => x.done || !x.sum.isEmpty)

/-- A tensor's window of a step is released: every block has been forwarded or applied (R146). -/
def windowReleased (s : State) (step : Nat) (d : TensorDecl) : Bool :=
  (List.range (updateBlocks d.count)).all (blockDone s step d)

/-- The lowest block of a tensor whose values have not left its node in a step. -/
def lowestBlock (s : State) (step : Nat) (d : TensorDecl) : Option Nat :=
  (List.range (updateBlocks d.count)).find? (fun b => !blockHanded s step d b)

/-- The step whose tensors hold windows: the first uncommitted one with a window still to release. -/
def treeStep (s : State) : Option Nat :=
  ((s.steps.admitted.filter (fun a => decide (s.steps.c < a.n))).map AdmStep.n).find? (fun n =>
    (parameters s).any (fun d => !windowReleased s n d))

/-- Tensors that hold a window in a step: in the order of the lattice's list, those not yet released, as far as they fit
together. -/
def grantedFrom (s : State) (step room : Nat) : List TensorDecl → List Nat
  | [] => []
  | d :: r =>
    if windowReleased s step d then grantedFrom s step room r
    else if windowSize d ≤ room then d.id :: grantedFrom s step (room - windowSize d) r
    else []

def windowHeld (s : State) (step : Nat) (d : TensorDecl) : Bool :=
  treeStep s == some step && (grantedFrom s step (denseArea s) (parameters s)).contains d.id

/-- One past the last block in a tensor's window: blocks that begin within two bands beyond the lowest; 0 with no window. -/
def windowEnd (s : State) (step : Nat) (d : TensorDecl) : Nat :=
  if windowHeld s step d then
    (match lowestBlock s step d with
     | some b => min (updateBlocks d.count) (ceilDiv ((b + 1) * 2048 + 2 * bandElems d) 2048)
     | none => updateBlocks d.count)
  else 0

/-- Whether an index lies inside the tensor's window. -/
def inWindow (s : State) (step : Nat) (d : TensorDecl) (i : Nat) : Bool := decide (i / 2048 < windowEnd s step d)

/-! ### Local values from a GRADIENT tensor (R145) -/

/-- The member's own values of a block have entered its node. -/
def localTaken (s : State) (n : Nat) (d : TensorDecl) (b : Nat) : Bool :=
  blockHanded s n d b || (findNode s n (blockTree s d b) b).any (fun x => !x.localVals.isEmpty)

/-- Take a block's values out of a GRADIENT tensor. -/
def fillLocal (s : State) (n : Nat) (g d : TensorDecl) (b : Nat) : State :=
  if localTaken s n d b then s
  else (blockRange d.count b).foldl (fun t i => putLocal t n d i (BitVec.ofNat 32 (readElem (tensorMem s g.id) 6 i))) s

/-- No vertex of an instance that has still to retire reads or writes a tensor. -/
def untouched (s : State) (l : Lattice) (i : Inst) (id : Nat) : Bool :=
  (unretired l i).all (fun v => !(vertexFoot s (vertexOf l v)).any (fun r => r.1 == id && decide (0 < r.2.2.2)))

/-- A GRADIENT tensor's values enter the trees once every vertex of the step that writes it has retired, block by block as
the window goes; once all have left and no vertex of the step still reads the tensor it is set to +0 (R145, R146, R417). -/
def tryLocal (s : State) (n : Nat) (g : TensorDecl) : State :=
  match stepAt s n, stepLattice s with
  | some a, some l =>
    match l.decls.find? (fun d => d.id == g.associated && d.role == 5) with
    | none => s
    | some d =>
      if a.localDone.contains d.id || !writersDone s l a.inst g.id then s
      else
        let s := (List.range (windowEnd s n d)).foldl (fun s b => fillLocal s n g d b) s
        if (committed s n || (List.range (updateBlocks d.count)).all (localTaken s n d)) && untouched s l a.inst g.id then
          setStep (setTensor s g.id []) { a with localDone := a.localDone ++ [d.id] }
        else s
  | _, _ => s

def tryLocals (s : State) (n : Nat) : State :=
  match stepLattice s with
  | some l => (l.decls.filter (fun d => d.role == 10)).foldl (fun s g => tryLocal s n g) s
  | none => s

/-! ### Credit for children (R146, R302) -/

/-- TREE_BLOCK frames of a block of `len` elements: values of 1,000 elements each. -/
def blockFrames (step treeId block : Nat) (vals : List Word32) : List TreeBlockF :=
  (chunksOf 1000 vals.length vals).zipIdx.map (fun c =>
    { step := step, treeId := treeId, block := block, first := 1000 * c.2, values := c.1 })

def blockUnits (len : Nat) : Nat :=
  sumOf ((blockFrames 0 0 0 (List.replicate len 0)).map (fun f => frameUnits (bodyLength (.treeBlock f))))

/-- The flow of a child's blocks of a tree: the one its frames have shown, or the one it gives them (R306). -/
def childFlow (s : State) (child treeId : Nat) : Word32 :=
  (aGet s.links.flows [0x1010, child, treeId]).getD (Free.peerFlow child [0x10, treeId])

/-- Grant a child the blocks of a shard that have come into the window. -/
def grantChild (s : State) (n : Nat) (d : TensorDecl) (treeId child : Nat) : State :=
  let blocks := shardBlocks s.jobSize d.count (treeShard treeId)
  let from_ := (aGet s.dense.granted (n, treeId, child)).getD (blocks.headD 0)
  let now := blocks.filter (fun b => decide (from_ ≤ b ∧ b < windowEnd s n d))
  match now.getLast? with
  | none => s
  | some b =>
    let flow := childFlow s child treeId
    sendTo (s.setDense { s.dense with granted := aPut s.dense.granted (n, treeId, child) (b + 1) }) child [flow.toNat]
      (.grant [{ cls := 1, pool := 0, flow := flow, units := sumOf (now.map (fun b => blockUnits (blockLength d b))) }])

/-- Grant every child of every tree the blocks that are new in its tensor's window (R146). -/
def grantTrees (s : State) : State :=
  match treeStep s with
  | none => s
  | some n =>
    ((parameters s).filter (windowHeld s n)).foldl (fun s d =>
      (shardsOf s d).foldl (fun s x =>
        let tid := treeIdOf d.id x.1
        ([treeLeft s.members tid s.member, treeRight s.members tid s.member].filterMap id).foldl
          (fun s m => grantChild s n d tid m) s) s) s

/-- The trees go on: local values enter the windows, and children are granted what has come into them. -/
def treesGo (s : State) : State :=
  grantTrees ((s.steps.admitted.map AdmStep.n).foldl tryLocals s)

/-! ### Tiles (R161, R163, R164) -/

/-- Every column of a band of a weight-gradient product has drained. -/
def bandDrained (q : QCmd) (cols band : Nat) : Bool :=
  (List.range cols).all (fun c => q.drained.any (fun t => t.1 == band && decide (t.2.1 ≤ c ∧ c < t.2.1 + t.2.2)))

/-- The bands of a weight-gradient product: from ARG1's to the last. -/
def productBands (q : QCmd) (p : ProductD) : List Nat :=
  (List.range (ceilDiv p.inn 128)).filter (fun b => decide (q.arg1 / 128 ≤ b))

/-- An array product of step n waits while its sliver has not passed the column test of step n - 1 (R175). -/
def testDue (s : State) (q : QueueId) (k : QCmd) : Bool :=
  match q.kind, k.inst with
  | .array, .step n => (stepAt s (n - 1)).any (fun a => decide (s.steps.c < a.n) && !bitAt a.tested (64 * q.die + q.spindle))
  | _, _ => false

/-- Cells of a weight-gradient tile: input positions from the product's first row on, and columns. -/
def tileCells (q : QCmd) (p : ProductD) (tileRow tileCol width : Nat) : List (Nat × Nat) :=
  (((List.range 128).map (128 * tileRow + ·)).filter (fun i => decide (q.arg1 ≤ i ∧ i < p.inn))).flatMap (fun i =>
    (List.range width).map (fun c => (i, tileCol + c)))

/-- WEIGHT_GRADIENT_TILE_DRAIN: a finished tile leaves its accumulator for the trees, bits unchanged, when every tile of
the bands before has left and the tensor window has room (R163, R164). -/
def execWeightGradientTileDrain (queue : QueueId) (tileRow tileCol width : Nat) (s : State) : Out :=
  let old := queueAt s queue
  match old.cmds with
  | [] => .next s
  | q :: rest =>
    match q.body with
    | .move _ => .next s
    | .product slot =>
      let p := nth q.ply.products slot default
      match parameterDecl s (tensorAt q.ply p.out).id with
      | none => .next s
      | some d =>
        let n := instStep q.inst
        let cells := tileCells q p tileRow tileCol width
        if !s.running || p.arrangement != 2 || q.held || testDue s queue q || width = 0 || decide (p.outpos < tileCol + width) ||
            !(productBands q p).contains tileRow ||
            q.drained.any (fun t => t.1 == tileRow && decide (t.2.1 < tileCol + width ∧ tileCol < t.2.1 + t.2.2)) ||
            !((productBands q p).filter (fun b => decide (b < tileRow))).all (bandDrained q p.outpos) ||
            !cells.all (fun x => inWindow s n d (x.1 * d.cols + x.2)) then .next s
        else
          let t := cells.foldl (fun t x =>
            putLocal t n d (x.1 * d.cols + x.2) (to32 (productElem s q p x.1 x.2))) s
          let t := passTile t queue q p (128 * tileRow) tileCol width (fun i j =>
            if cells.contains (i, j) then to32 (productElem s q p i j) else 0)
          let t := countOutOfFootprint t (if cells.any (fun x => operandMisses q p x.1 x.2) then 1 else 0)
          .next (setQueue t queue { old with cmds := { q with drained := q.drained ++ [(tileRow, tileCol, width)] } :: rest })

/-! ### Trees (R143, R144, R146) -/

/-- Every element of a block has arrived from the sources that this member has. -/
def nodeReady (s : State) (x : TreeNode) (len : Nat) : Bool :=
  let all (m : Assoc Nat Word32) : Bool := (List.range len).all (fun i => (aGet m i).isSome)
  all x.localVals && ((treeLeft s.members x.treeId s.member).isNone || all x.leftVals) &&
  ((treeRight s.members x.treeId s.member).isNone || all x.rightVals)

/-- The combined value of an element: local, then left, then right (R144). -/
def nodeValue (s : State) (x : TreeNode) (i : Nat) : Word32 :=
  let at_ (m : Assoc Nat Word32) : FVal := of32 ((aGet m i).getD 0)
  let v := at_ x.localVals
  let v := if (treeLeft s.members x.treeId s.member).isSome then r32 (v.add (at_ x.leftVals)) else v
  let v := if (treeRight s.members x.treeId s.member).isSome then r32 (v.add (at_ x.rightVals)) else v
  to32 v

/-- A child's values of an update block (R144). What comes from no child of this member in the tree, or under no grant of
its window, changes nothing (R146). -/
def takeTreeBlock (s : State) (source : Nat) (flow : Word32) (f : TreeBlockF) : State :=
  let vals := f.values.zipIdx.map (fun v => (f.first + v.2, v.1))
  let s := s.setLinks { s.links with flows := aPut s.links.flows [0x1010, source, f.treeId] flow }
  if (aGet s.dense.granted (f.step, f.treeId, source)).getD 0 ≤ f.block then s
  else if treeLeft s.members f.treeId s.member = some source then
    withNode s f.step f.treeId f.block (fun x => { x with leftVals := putVals x.leftVals vals })
  else if treeRight s.members f.treeId s.member = some source then
    withNode s f.step f.treeId f.block (fun x => { x with rightVals := putVals x.rightVals vals })
  else s

/-- COUNT stays in the block and is a multiple of 4, except in the last fragment of the tensor's last block (Table 12.8,
0x10). -/
def treeBlockOk (s : State) (f : TreeBlockF) : Bool :=
  let upto := f.first + f.values.length
  match parameterDecl s (treeTensor f.treeId) with
  | none => decide (upto ≤ 2048) && f.values.length % 4 == 0
  | some d =>
    decide (upto ≤ blockLength d f.block) &&
    (f.values.length % 4 == 0 || (f.block + 1 == updateBlocks d.count && upto == blockLength d f.block))

/-- TREE_BLOCK (R144, R146). -/
def execTreeBlock (rx : Rx) (f : TreeBlockF) (s : State) : Out :=
  receive s rx 0x10 (.treeBlock f) (treeBlockOk s f) (fun s => treesGo (takeTreeBlock s rx.source rx.flow f))

/-- TREE_BLOCK_FORWARD: a node that has every value of a block in its window combines them and forwards the block under its
parent's credit, or hands the sum to the owner's update at the root (R144, R146). -/
def execTreeBlockForward (treeId block : Nat) (s : State) : Out :=
  match s.dense.nodes.find? (fun x => x.treeId == treeId && x.block == block && !x.done && x.sum.isEmpty) with
  | none => .next s
  | some x =>
    match parameterDecl s (treeTensor treeId) with
    | none => .next s
    | some d =>
      let len := blockLength d block
      if !s.running || len = 0 || !nodeReady s x len || !inWindow s x.step d (2048 * block) then .next s
      else
        let vals := (List.range len).map (nodeValue s x)
        match treeParent s.members treeId s.member with
        | none => .next (treesGo (putNode s { x with sum := vals, localVals := [], leftVals := [], rightVals := [] }))
        | some p =>
          let r := flowFor s [0x10, p, treeId]
          if creditFor r.1 1 0 p r.2 < blockUnits len then .next s
          else
            let s := putNode r.1 { x with done := true, localVals := [], leftVals := [], rightVals := [] }
            .next (treesGo ((blockFrames x.step treeId block vals).foldl (fun s f => sendTo s p [treeId] (.treeBlock f)) s))

/-! ### Digests (R148) -/

/-- Whole-tensor indices of a shard. -/
def shardRange (s : State) (d : TensorDecl) (shard : Nat) : List Nat :=
  (shardBlocks s.jobSize d.count shard).flatMap (blockRange d.count)

def digestOf (treeId : Nat) (weights : List (BitVec 16)) : Word :=
  BitVec.ofNat 64 (leNat ((sha384 (leBytes 8 treeId ++ weights.flatMap (fun w => leBytes 2 w.toNat))).take 8))

def shardWeights (s : State) (d : TensorDecl) (shard : Nat) : List (BitVec 16) :=
  (shardRange s d shard).map (fun i => BitVec.ofNat 16 (readElem (tensorMem s d.id) 4 i))

/-- The digest of the bits this member holds of a shard. -/
def shardDigest (s : State) (treeId : Nat) : Word :=
  match parameterDecl s (treeTensor treeId) with
  | some d => digestOf treeId (shardWeights s d (treeShard treeId))
  | none => 0

def findReplica (s : State) (treeId : Nat) : Option Replica := s.dense.replicas.find? (fun r => r.treeId == treeId)

def setReplica (s : State) (r : Replica) : State :=
  s.setDense { s.dense with replicas := s.dense.replicas.map (fun q => if q.treeId == r.treeId then r else q) }

/-- An owned shard's blocks are all applied or skipped: its digest is computed and published (R147, R149). -/
def publishIfDone (s : State) (step : Nat) (d : TensorDecl) (treeId : Nat) : State :=
  let blocks := shardBlocks s.jobSize d.count (treeShard treeId)
  if blocks.all (fun b => (findNode s step treeId b).any TreeNode.done) then
    let dig := shardDigest s treeId
    let s := match findReplica s treeId with
      | some r => setReplica s { r with published := some (step, dig), held := some dig, checked := step }
      | none => s
    (others s).foldl (fun s m =>
      sendTo s m [treeId] (.digest { step := step, treeId := treeId, kind := .published, digest := dig })) s
  else s

/-! ### The update at the root (R147, R165) -/

/-- An instance that reads dense weights of a state before state n: steps up to n, and evaluations at earlier boundaries. -/
def readsBefore (i : InstRef) (n : Nat) : Bool :=
  match i with
  | .step m => decide (m ≤ n)
  | .eval b _ => decide (b < n)

/-- Whether a queued command of such an instance still reads elements of a tensor. -/
def commandReads (q : QCmd) (n id lo hi : Nat) : Bool :=
  readsBefore q.inst n && q.ranges.any (fun r =>
    (tensorAt q.ply r.1).id == id && gives r.2.1 1 && decide (r.2.2.1 < hi ∧ lo < r.2.2.1 + r.2.2.2))

/-- No vertex of an instance that has still to retire reads elements lo to hi - 1 of a tensor. -/
def instReadsOver (s : State) (i : Inst) (id lo hi : Nat) : Bool :=
  match instLattice s i.ref with
  | none => true
  | some l => (unretired l i).all (fun v =>
      !(vertexFoot s (vertexOf l v)).any (fun r => r.1 == id && frReads r && decide (r.2.2.1 < hi ∧ lo < r.2.2.1 + r.2.2.2)))

/-- The member's last read of elements lo to hi - 1 of a tensor as they stand before step n's update has ended: by the step
and those before it, and by evaluations at boundaries before n (R26, R44, R165). -/
def readsOver (s : State) (n id lo hi : Nat) : Bool :=
  (s.steps.admitted.map AdmStep.inst ++ s.steps.evals.map EvalReq.inst).all (fun i =>
    !readsBefore i.ref n || instReadsOver s i id lo hi) &&
  s.spindles.queues.all (fun q => q.2.cmds.all (fun c => !commandReads c n id lo hi))

/-- Apply new values to an update block, or skip it as an overflow if any is not finite (R69, R137). -/
def applyBlockUnit (s : State) (d : TensorDecl) (step block : Nat) (u : UnitVals) : State :=
  if u.finite then writeBlock s d block step u else skipBlock s step d.id block

/-- Mark a root's block applied or skipped, and publish the shard if it was the last. -/
def finishBlock (s : State) (d : TensorDecl) (x : TreeNode) : State :=
  publishIfDone (putNode s { x with done := true }) x.step d x.treeId

/-! ### Slices (R149) and the scrub (R150 to R152) -/

/-- Tell the neighbours on the commit tree that the member withholds its report (R298). -/
def sendHalt (s : State) (step reason : Nat) (named : Option Nat) (skip : Option Nat) : State :=
  let ns := [treeParent s.members 0 s.member, treeLeft s.members 0 s.member, treeRight s.members 0 s.member].filterMap id
  (ns.filter (fun m => some m != skip)).foldl (fun s m =>
    sendTo s m [0] (.halt { step := step, reason := reason, named := named })) s

/-- A sealed hank old enough to roll back to (R151). -/
def hasOldHank (s : State) (clean : Nat) : Bool :=
  s.securing.hanks.any (fun h => h.sealedLoss.isSome && !h.unusable && decide (h.boundary + 1 ≤ clean))

/-- A faulty replica or shard: REPLICA_MISMATCH, the member withholds its reports, and its neighbours on the commit tree are
told (R151, R152, R298). DESIGN CHOICE (log 78): the HALT frame carries MEMBER_LOST's reason 3 and names no member, since no
reason of Table 10.9 stands for a replica mismatch. -/
def replicaMismatch (s : State) (treeId clean n : Nat) : State :=
  let s := postEvent s controllerDie n (.replicaMismatch treeId s.member (clean + 1) n)
  let s := s.setSteps { s.steps with halted := true }
  let s := sendHalt s (s.steps.c + 1) 3 none none
  if hasOldHank s clean then s else memberLost s (some s.member) 7 n

/-- One replica of the rotating scrub. DESIGN CHOICE (log 79): bits for which no digest was ever published, those of state 0,
have nothing to differ from and count as a clean check. -/
def scrubOne (s : State) (n : Nat) (r : Replica) : State :=
  let want := match r.published with
    | some p => if ownsShard s r.treeId then some p.2 else r.held
    | none => r.held
  if want.all (· == shardDigest s r.treeId) then
    let s := s.setTelemetry { s.telemetry with cleanScrubs := s.telemetry.cleanScrubs + 1 }
    setReplica s { r with lastClean := n }
  else replicaMismatch s r.treeId r.lastClean n

/-- The scrub at boundary n: replicas numbered in ascending tree id (R150). -/
def scrubAt (s : State) (n : Nat) : State :=
  ((sortBy (fun a b => decide (a.treeId ≤ b.treeId)) s.dense.replicas).zipIdx.filter (fun x => x.2 % 64 == n % 64)).foldl
    (fun s x => scrubOne s n x.1) s

/-- The frames of a slice: its BF16 weights in order. -/
def sliceFrames (s : State) (treeId step : Nat) : List SliceDataF :=
  match parameterDecl s (treeTensor treeId) with
  | none => []
  | some d =>
    let w := shardWeights s d (treeShard treeId)
    (chunksOf 2000 w.length w).zipIdx.map (fun c => { step := step, treeId := treeId, first := 2000 * c.2, values := c.1 })

/-- Units that the slice of a shard of `n` elements takes on the links. -/
def sliceUnits (n : Nat) : Nat :=
  n / 2000 * frameUnits (32 + alignUp 4000 16) + (if n % 2000 = 0 then 0 else frameUnits (32 + alignUp (2 * (n % 2000)) 16))

/-- Ask the owner for a slice: a grant on the flow of its digest (R149, R302, R306). -/
def fetchSlice (s : State) (owner : Nat) (flow : Word32) (elems : Nat) : State :=
  sendTo s owner [flow.toNat] (.grant [{ cls := 2, pool := 0, flow := flow, units := sliceUnits elems }])

/-- The flow of an owner's digest and slice of a shard. -/
def sliceFlow (s : State) (owner treeId : Nat) : Word32 :=
  (aGet s.links.flows [0x1020, owner, treeId]).getD (Free.peerFlow owner [0x20, treeId])

/-- Act on a published digest of a state whose boundary this member has passed: nothing to fetch where it is that of the
replica held (R149). -/
def actDigest (s : State) (r : Replica) (n : Nat) (digest : Word) : State :=
  let owner := nth (treeOrder s.members r.treeId) 0 0
  let r := { r with published := some (n, digest), due := none }
  if r.held = some digest then setReplica s { r with checked := n }
  else
    match parameterDecl s (treeTensor r.treeId) with
    | none => setReplica s r
    | some d =>
      fetchSlice (setReplica s { r with fetching := some n, buffer := [], mismatches := 0 }) owner (sliceFlow s owner r.treeId)
        (shardSize s.jobSize d.count (treeShard r.treeId))

/-- Digests that came before this member passed their boundary are acted on there, after the scrub (R150). -/
def dueDigests (s : State) : State :=
  s.dense.replicas.foldl (fun s r =>
    match r.due with
    | some p => if p.1 ≤ s.steps.c then actDigest s r p.1 p.2 else s
    | none => s) s

/-- A digest from another member (R149, R150, R152): a published one waits for its boundary. DESIGN CHOICE (log 80): a
mismatch that a recompute request finds, and no scrub, ends its suspect range at the highest committed step. -/
def takeDigest (s : State) (rx : Rx) (f : DigestF) : State :=
  match findReplica s f.treeId, parameterDecl s (treeTensor f.treeId) with
  | some r, some d =>
    let elems := shardSize s.jobSize d.count (treeShard f.treeId)
    let s := s.setLinks { s.links with flows := aPut s.links.flows [0x1020, rx.source, f.treeId] rx.flow }
    match f.kind with
    | .published => dueDigests (setReplica s { r with due := some (f.step, f.digest) })
    | .recomputeRequest =>
      let dig := shardDigest s f.treeId
      let s := sendTo s rx.source [f.treeId] (.digest { step := f.step, treeId := f.treeId, kind := .recomputed, digest := dig })
      if (r.published.map (·.2)).all (· == dig) then s else replicaMismatch s f.treeId r.lastClean s.steps.c
    | .recomputed =>
      if (r.published.map (·.2)) = some f.digest then
        fetchSlice (setReplica s { r with buffer := [] }) rx.source rx.flow elems
      else s
  | _, _ => s

/-- A slice fully received is checked once the member's last read of the old bits has ended: it replaces the replica, or
is fetched again (R149). -/
def trySlice (s : State) (r : Replica) : State :=
  match r.fetching, parameterDecl s (treeTensor r.treeId), r.published with
  | some n, some d, some p =>
    let range := shardRange s d (treeShard r.treeId)
    let lo := range.headD 0
    if range.length ≤ r.buffer.length ∧ readsOver s n d.id lo (lo + range.length) = true then
      let w := (List.range range.length).map (fun i => (aGet r.buffer i).getD 0)
      let owner := nth (treeOrder s.members r.treeId) 0 0
      if digestOf r.treeId w = p.2 then
        let m := w.zipIdx.foldl (fun m x => writeElem m 4 (lo + x.2) x.1.toNat) (tensorMem s d.id)
        setReplica (setTensor s d.id m)
          { r with held := some p.2, checked := n, lastClean := n, fetching := none, buffer := [], mismatches := 0 }
      else
        let r := { r with buffer := [], mismatches := r.mismatches + 1 }
        let s := s.setTelemetry { s.telemetry with sliceMismatch := s.telemetry.sliceMismatch + 1 }
        let s := setReplica s r
        if 64 ≤ r.mismatches then memberLost s (some s.member) 6 n
        else if r.mismatches = 4 then
          sendTo s owner [r.treeId] (.digest { step := n, treeId := r.treeId, kind := .recomputeRequest, digest := 0 })
        else
          fetchSlice s owner (sliceFlow s owner r.treeId) range.length
    else s
  | _, _, _ => s

def trySlices (s : State) : State := s.dense.replicas.foldl trySlice s

/-- A slice's values lie in the shard (Table 12.8, 0x20). -/
def sliceOk (s : State) (f : SliceDataF) : Bool :=
  (parameterDecl s (treeTensor f.treeId)).all (fun d =>
    decide (f.first + f.values.length ≤ shardSize s.jobSize d.count (treeShard f.treeId)))

/-- Slice data from the owner. -/
def takeSlice (s : State) (f : SliceDataF) : State :=
  match findReplica s f.treeId with
  | none => s
  | some r =>
    if r.fetching = some f.step then
      let r := { r with buffer := f.values.zipIdx.foldl (fun m v => aPut m (f.first + v.2) v.1) r.buffer }
      trySlice (setReplica s r) r
    else s

/-- A grant of class 2 on the flow of a shard's digest asks for its slice when it covers the whole slice (a consumed
digest gives back one unit only): the slice's frames join the send queue (R149, R302). -/
def sliceGranted (s : State) (source : Nat) (g : GrantF) : State :=
  match s.links.flows.find? (fun x => x.2 == g.flow && x.1.take 2 == [0x20, source]) with
  | none => s
  | some x =>
    let tid := nth x.1 2 0
    if g.cls != 2 || !ownsShard s tid || s.links.waiting.any (fun f => f.flow == g.flow && f.kind == 0x20) then s
    else
      match (findReplica s tid).bind Replica.published, parameterDecl s (treeTensor tid) with
      | some p, some d =>
        if g.units < sliceUnits (shardSize s.jobSize d.count (treeShard tid)) then s
        else (sliceFrames s tid p.1).foldl (fun s f => sendFlow s source g.flow (.sliceData f)) s
      | _, _ => s

/-- One grant: units for the flow, and the slice that a class 2 grant asks for. -/
def takeGrant (s : State) (source : Nat) (g : GrantF) : State :=
  let k := (g.cls, g.pool, g.flow.toNat)
  sliceGranted (s.setLinks { s.links with grants := aPut s.links.grants k ((aGet s.links.grants k).getD 0 + g.units) }) source g

/-- GRANT: end-to-end grants for this member's flows; frames and merges that waited for them go on (R127, R302). -/
def execGrant (rx : Rx) (grants : List GrantF) (s : State) : Out :=
  receive s rx 0x41 (.grant grants) (grantsOk grants)
    (fun s => ownersGo (pump (grants.foldl (fun s g => takeGrant s rx.source g) s)))

end Sys2Proof.Machine
end

