-- ==== Sys2Proof/Machine/Vertices.lean ====
section
/-! DEFINITION. Running a lattice: what the module does between vertices (R27, R145, R149, R416, R417), dispatch and its
energy gate (R259 to R264, R272), update-kernel invocations (R139), retirement (R185) and queue completions (R201). -/

namespace Sys2Proof.Machine

/-! ### Blocks and tensors of a role (R27, R42) -/

/-- Declarations of a role, ascending by tensor id. -/
def roleTensors (l : Lattice) (role : Nat) : List TensorDecl :=
  sortBy (fun a b => decide (a.id ≤ b.id)) (l.decls.filter (fun d => d.role == role))

/-- Offsets of a role's tensors in their block: each at the first multiple of 64 after the one before. -/
def roleOffsets (l : List TensorDecl) : List Nat :=
  (l.foldl (fun (acc : List Nat × Nat) d => (acc.1 ++ [alignUp acc.2 64], alignUp acc.2 64 + d.bytes)) ([], 0)).1

/-- The size of a role's declared tensors. -/
def roleSize (l : List TensorDecl) : Nat := l.foldl (fun acc d => alignUp acc 64 + d.bytes) 0

/-- Copy a block unchanged into the tensors of a role. -/
def scatterBlock (s : State) (l : List TensorDecl) (bs : List Byte) : State :=
  (l.zip (roleOffsets l)).foldl (fun s x => setTensor s x.1.id (memWrites [] 0 ((bs.drop x.2).take x.1.bytes))) s

/-! ### What follows from work that ends -/

/-- Deliver a step's dense and label blocks once their tensors may be written (R27, R417). -/
def tryDeliver (s : State) (n : Nat) : State :=
  match stepAt s n, stepLattice s with
  | some a, some l =>
    let d := roleTensors l 1
    let b := roleTensors l 2
    if a.read && !a.delivered && (d ++ b).all (fun t => mayWriteTensor s (.step n) t) then
      let s := scatterBlock (scatterBlock s d a.dense) b a.labels
      match stepAt s n with
      | some a => setStep s { a with delivered := true, dense := [], labels := [] }
      | none => s
    else s
  | _, _ => s

/-- The same for a running evaluation (R42, R417). -/
def tryDeliverEval (s : State) (e : EvalReq) : State :=
  match latticeAt s e.handle with
  | some l =>
    let d := roleTensors l 1
    if e.running && e.read && !e.delivered && d.all (fun t => mayWriteTensor s (.eval e.boundary e.handle) t) then
      let s := scatterBlock s d e.dense
      match evalAt s e.boundary e.handle with
      | some e => setEval s { e with delivered := true, dense := [] }
      | none => s
    else s
  | none => s

/-- Read the LOSS tensor once every vertex that writes it has retired (R416). -/
def tryLoss (s : State) (n : Nat) : State :=
  match stepAt s n, stepLattice s with
  | some a, some l =>
    match l.decls.find? (fun d => d.role == 7) with
    | some d =>
      if a.loss.isNone && writersDone s l a.inst d.id then
        setStep s { a with loss := some (BitVec.ofNat 32 (readElem (tensorMem s d.id) 6 0)) }
      else s
    | none => s
  | _, _ => s

/-- Steps that have committed and whose vertices have all retired are let go. -/
def dropSteps (s : State) : State :=
  s.setSteps { s.steps with admitted := s.steps.admitted.filter (fun a => !(decide (a.n ≤ s.steps.c) && instDone s a.inst)) }

/-- The pairs of a TABLE_VERSION_SWAP value (R37). -/
def swapPairs (v : List Byte) : List (Nat × Nat) := (entries 8 v).map (fun e => (leAt e 0 4, leAt e 4 4))

/-- Whether a version is still referred to: by an admitted step, an evaluation or a committed swap (R40). -/
def versionUsed (s : State) (v : Version) : Bool :=
  s.steps.admitted.any (fun a => decide (s.steps.c < a.n) && a.bindings.contains (v.table, v.number)) ||
  s.steps.evals.any (fun e => e.bindings.contains (v.table, v.number)) ||
  s.cfg.sets.any (fun x => x.boundary.isSome && x.items.any (fun i => i.1 == 6 && (swapPairs i.2).contains (v.table, v.number)))

/-- Free a version with its pages. A LOAD_TABLE_VERSION END that still waits for its records is answered then: every accepted
command completes (R244), here with VERSION_UNKNOWN (DESIGN CHOICE, log 83: R40 says nothing of a waiting END). -/
def dropVersion (s : State) (v : Version) : State :=
  v.ending.foldl (fun s d => finish s d .versionUnknown)
    (s.setTables { s.tables with
      versions := s.tables.versions.filter (fun u => !(u.table == v.table && u.number == v.number)),
      pages := s.tables.pages.filter (fun p => !(p.ref.table == v.table && p.ref.version == v.number)) })

/-- Free every retiring version that nothing refers to (R40). -/
def freeVersions (s : State) : State :=
  (s.tables.versions.filter (fun v => v.retiring && !versionUsed s v)).foldl dropVersion s

/-- Everything that may now go on: inputs delivered, outputs pooled, losses read, slices checked, gradients merged or taken
for the trees, complete entries settled, versions that nothing refers to any more freed. -/
def advance (s : State) : State :=
  let s := (s.steps.admitted.map AdmStep.n).foldl (fun s n => tryLoss (tryPools (tryDeliver s n) (.step n)) n) s
  let s := s.steps.evals.foldl (fun s e => tryPools (tryDeliverEval s e) (.eval e.boundary e.handle)) s
  freeVersions (dropSteps (ownersGo (treesGo (trySlices s))))

/-! ### Images (R229, R231) -/

/-- A DRAINING image that no context fetches becomes FREE. -/
def freeDrained (s : State) : State :=
  s.setPrograms { s.programs with
    images := s.programs.images.filter (fun i =>
      i.state != .draining || s.spindles.contexts.any (fun c => c.2.image == i.slot)) }

/-! ### Energy (R262, R263, R272) -/

/-- An estimate above the ceiling counts as the ceiling (R263). -/
def charged (e : Nat) : Nat := min e Constants.budgetCeiling

/-- Ranks of all vertices of a lattice with given estimates, from the last vertex down (R262). -/
def ranks (l : Lattice) (est : List Nat) : List Nat :=
  (List.range l.vertices.length).reverse.foldl (fun (acc : List Nat) v =>
    let best := maxOf ((l.edges.filter (fun e => e.1 == v)).map (fun e => nth acc (e.2 - v - 1) 0))
    (nth est v 0 + best) :: acc) []

def balanceOf (s : State) (die : Nat) : Int := nth s.power.balance die 0

def addBalance (s : State) (die : Nat) (x : Int) : State :=
  s.setPower { s.power with balance := modifyAt s.power.balance die (· + x) }

/-! ### Resources -/

/-- The index of a compute die among the 74 units (R347). -/
def dieUnit (die : Nat) : Nat := 34 + die

/-- A context is FREE: it is not listed. -/
def ctxFree (s : State) (c : CtxId) : Bool := (ctxAt s c).isNone

def freeOn (s : State) (die sp : Nat) : Nat := ((List.range 4).filter (fun k => ctxFree s { die := die, spindle := sp, ctx := k })).length

/-- Scratch ranges in use on a spindle: first byte and size (R184). -/
def scratchRanges (s : State) (die sp : Nat) : List (Nat × Nat) :=
  (s.spindles.contexts.filter (fun c => c.1.die == die && c.1.spindle == sp)).map (fun c => (c.2.scratchAt, (entryFunc s c.2).scratch))

/-- Where a vertex's scratch goes in its spindle's local SRAM: the lowest free range of its size (R184; the place is the
module's own choice, log 81). -/
def scratchPlace (s : State) (die sp size : Nat) : Option Nat :=
  let used := scratchRanges s die sp
  (sortBy (fun a b => decide (a ≤ b)) (0 :: used.map (fun r => r.1 + r.2))).find? (fun at_ =>
    decide (at_ + size ≤ localSram) && used.all (fun r => decide (r.2 = 0 ∨ size = 0 ∨ at_ + size ≤ r.1 ∨ r.1 + r.2 ≤ at_)))

/-- A declared counter is held by a vertex outside the group on this spindle (R199). -/
def countersHeld (s : State) (die sp mask : Nat) (group : List Nat) (inst : InstRef) : Bool :=
  s.spindles.contexts.any (fun c =>
    c.1.die == die && c.1.spindle == sp && !(c.2.inst == inst && c.2.target == 0 && group.contains c.2.vertex) &&
    (entryFunc s c.2).counterMask &&& mask != 0)

/-- Whether a function queues array products, its subroutines' code included. -/
def usesArray (m : PlyModule) (fn : Nat) : Bool := (reachedCode m fn).any (fun w => plyOp w == 0x40)

def sliverWidth (s : State) (die sp : Nat) : Nat := nth (nth s.regs.widths die []) sp 0

/-- A spindle has what a vertex that runs a function needs, a free context aside. -/
def spindleServes (s : State) (die sp : Nat) (m : PlyModule) (fn : Nat) (group : List Nat) (inst : InstRef) : Bool :=
  let f := funcAt m fn
  (scratchPlace s die sp f.scratch).isSome && !countersHeld s die sp f.counterMask group inst &&
  (!usesArray m fn ||
    (decide (0 < sliverWidth s die sp) && (queueAt s { die := die, spindle := sp, kind := .array }).cmds.isEmpty))

/-- Whether a spindle can take a vertex that runs a function. -/
def spindleFits (s : State) (die sp : Nat) (m : PlyModule) (fn : Nat) (group : List Nat) (inst : InstRef) : Bool :=
  decide (0 < freeOn s die sp) && spindleServes s die sp m fn group inst

/-- The lowest-numbered free context of a spindle. -/
def lowestFree (s : State) (die sp : Nat) : Option CtxId :=
  ((List.range 4).find? (fun k => ctxFree s { die := die, spindle := sp, ctx := k })).map (fun k =>
    { die := die, spindle := sp, ctx := k })

/-- The context a vertex goes to: the lowest free one of the spindle with the most free contexts, ties to the lowest
spindle (R263). -/
def placeVertex (s : State) (die : Nat) (m : PlyModule) (fn : Nat) (group : List Nat) (inst : InstRef) : Option CtxId :=
  let sps := (List.range 64).filter (fun sp => spindleFits s die sp m fn group inst)
  let most := maxOf (sps.map (freeOn s die))
  (sps.find? (fun sp => freeOn s die sp == most)).bind (lowestFree s die)

/-- A context that a vertex could go to: the lowest free one of a spindle that can take it. -/
def placeFits (s : State) (m : PlyModule) (fn : Nat) (group : List Nat) (inst : InstRef) (c : CtxId) : Bool :=
  decide (c.spindle < 64) && spindleFits s c.die c.spindle m fn group inst && lowestFree s c.die c.spindle == some c

/-- A context as a new vertex finds it: every register, tag, predicate and loop level zero, the argument block in s0
upwards (R181). -/
def freshContext (inst : InstRef) (vertex image func pc target : Nat) (args : List Word) (units : List Nat)
    (reserved scratchAt : Nat) : Context :=
  { state := .running, inst := inst, vertex := vertex, image := image, func := func, entry := func, pc := pc, calls := [],
    loops := [], sregs := (args ++ List.replicate 32 0).take 32, vregs := List.replicate 32 0, tags := List.replicate 32 0,
    preds := List.replicate 8 0, waitOn := none, waitE := false, heldCmd := none, retiring := false, reserved := reserved,
    metered := 0, units := units, target := target, staged := [], scratchAt := scratchAt }

/-- A context takes a vertex or an invocation: nothing of what it held as a FREE context stays (R181). -/
def startCtx (s : State) (c : CtxId) (x : Context) : State :=
  let s := setCtx s c x
  s.setSpindles { s.spindles with idle := aDel s.spindles.idle c }

/-! ### VERTEX_DISPATCH (R259 to R264) -/

/-- The instances that may hold ready vertices. -/
def instances (s : State) : List Inst :=
  s.steps.admitted.map AdmStep.inst ++ (s.steps.evals.filter EvalReq.running).map EvalReq.inst

/-- A vertex and the rest of its co-dispatch group (R264). -/
def groupOf (l : Lattice) (v : Nat) : List Nat :=
  let g := (vertexOf l v).group
  if g = 0 then [v] else (List.range l.vertices.length).filter (fun u => (vertexOf l u).group == g)

/-- Ready vertices of an instance, groups being ready together. -/
def readyOf (s : State) (i : Inst) : List Nat :=
  match instLattice s i.ref with
  | none => []
  | some l => (List.range l.vertices.length).filter (fun v => (groupOf l v).all (vertexReady s i))

/-- The ready vertices homed on a die, in the graph unit's order: rank descending, vertex, instance. Each is
(rank, instance place, vertex). -/
def readyOn (s : State) (die : Nat) : List (Nat × Nat × Nat) :=
  sortBy (fun a b => decide (b.1 < a.1 ∨ (a.1 = b.1 ∧ (a.2.2 < b.2.2 ∨ (a.2.2 = b.2.2 ∧ a.2.1 ≤ b.2.1)))))
    ((instances s).zipIdx.flatMap (fun x =>
      match instLattice s x.1.ref with
      | none => []
      | some l =>
        ((readyOf s x.1).filter (fun v => (vertexOf l v).home == die)).map (fun v => ((vertexOf l v).rank, x.2, v))))

/-- A compute die that is OFF wakes when a vertex homed on it is ready; in DRAINING the enable is recorded (R284,
R286). -/
def wakeDies (s : State) : State :=
  (List.range 40).foldl (fun s d =>
    match s.power.units[dieUnit d]? with
    | some u =>
      if u.state == .on || u.state == .waking || (readyOn s d).isEmpty then s
      else s.setPower { s.power with
        units := s.power.units.set (dieUnit d)
          (if u.state == .off then { state := .waking, recorded := false } else { u with recorded := true }) }
    | none => s) s

/-- What follows when work ends: the pages that requests wait for, the rows that make way for a use that has grown, and the
dies that wake. -/
def progress (s : State) : State := wakeDies (shrinkRows (promoteWaiting (advance s)))

/-- Every ready vertex of any die that another die may take: not pinned, in no group (R261). -/
def stealable (s : State) : List (Nat × Nat × Nat) :=
  sortBy (fun a b => decide (b.1 < a.1 ∨ (a.1 = b.1 ∧ (a.2.2 < b.2.2 ∨ (a.2.2 = b.2.2 ∧ a.2.1 ≤ b.2.1)))))
    ((instances s).zipIdx.flatMap (fun x =>
      match instLattice s x.1.ref with
      | none => []
      | some l =>
        ((readyOf s x.1).filter (fun v => !(vertexOf l v).pinned && (vertexOf l v).group == 0)).map (fun v =>
          ((vertexOf l v).rank, x.2, v))))

/-- Sum of the estimates of a group, at most the ceiling. -/
def groupEstimate (l : Lattice) (g : List Nat) : Nat := charged (sumOf (g.map (fun v => (vertexOf l v).estimate)))

/-- The estimate of a queue entry's unit. -/
def queueEstimate (s : State) (x : Nat × Nat × Nat) : Nat :=
  match (instances s)[x.2.1]? with
  | none => 0
  | some j => ((instLattice s j.ref).map (fun l => groupEstimate l (groupOf l x.2.2))).getD 0

/-- The unit of a queue entry, named by its instance and its lowest vertex. -/
def queueUnit (s : State) (x : Nat × Nat × Nat) : Option (InstRef × Nat) :=
  (instances s)[x.2.1]?.bind (fun j => (instLattice s j.ref).map (fun l => (j.ref, (groupOf l x.2.2).headD x.2.2)))

/-- Vertices that have passed a unit while it is held on a die (R263). -/
def passedBy (s : State) (die : Nat) (u : Option (InstRef × Nat)) : Nat :=
  if nth s.power.heldFor die none == u then nth s.power.passed die 0 else 0

/-- The energy gate of a die: the first ready unit if its estimate fits, else a unit after it of class 3 or lower that fits,
at most 16 vertices of them (R263). -/
def energyGate (s : State) (die : Nat) (queue : List (Nat × Nat × Nat)) (i : InstRef) (group : List Nat) : Bool :=
  let unit := (i, group.headD 0)
  match queue with
  | [] => false
  | h :: r =>
    if (queueEstimate s h : Int) ≤ balanceOf s die then queueUnit s h == some unit
    else
      match r.find? (fun x => queueUnit s x == some unit) with
      | none => false
      | some x =>
        queueUnit s h != some unit &&
        decide ((queueEstimate s x : Int) ≤ balanceOf s die ∧ passedBy s die (queueUnit s h) + group.length ≤ 16) &&
        (instLattice s i).any (fun l => group.all (fun u => decide ((vertexOf l u).cls ≤ 3)))

/-- The contexts that R263 gives the vertices of a unit, one after the other; none where one of them has no place. -/
def placesFor (s : State) (die : Nat) (i : Inst) (l : Lattice) (group : List Nat) : List Nat → Option (List CtxId)
  | [] => some []
  | v :: vs =>
    let x := vertexOf l v
    match currentImage s x.program with
    | none => none
    | some img =>
      match placeVertex s die img.ply x.function group i.ref with
      | none => none
      | some c =>
        (placesFor (setCtx s c (freshContext i.ref v img.slot x.function 0 0 [] [] 0
          ((scratchPlace s die c.spindle (funcAt img.ply x.function).scratch).getD 0))) die i l group vs).map (c :: ·)

/-- Dispatch the vertices of a unit to given contexts, each of which can take its vertex; none where one cannot. -/
def dispatchAll (s : State) (i : Inst) (l : Lattice) (group : List Nat) : List Nat → List CtxId → Option State
  | [], [] => some s
  | v :: vs, c :: cs =>
    let x := vertexOf l v
    match currentImage s x.program with
    | none => none
    | some img =>
      let f := funcAt img.ply x.function
      if placeFits s img.ply x.function group i.ref c then
        let e := charged x.estimate
        let s := startCtx (clearStale s l i v) c (freshContext i.ref v img.slot x.function f.codeFirst 0 (x.args.take f.argWords)
          [] e ((scratchPlace s c.die c.spindle f.scratch).getD 0))
        dispatchAll (addBalance s c.die (-(e : Int))) i l group vs cs
      else none
  | _, _ => none

/-- The contexts named are those of R263; a group that those do not place takes any that hold it together, since R264 sends
it when the die has room for it (log 82). -/
def placesOk (s : State) (die : Nat) (i : Inst) (l : Lattice) (group : List Nat) (at_ : List CtxId) : Bool :=
  match placesFor s die i l group group with
  | some p => p == at_
  | none => decide (1 < group.length) && at_.all (fun c => c.die == die)

/-- VERTEX_DISPATCH: a ready vertex, or a whole co-dispatch group, starts on free contexts of one die. -/
def execVertexDispatch (inst : InstRef) (vertices : List Nat) (at_ : List CtxId) (s : State) : Out :=
  match instAt s inst, instLattice s inst with
  | some i, some l =>
    let v := vertices.headD 0
    let die := (at_.headD default).die
    let home := readyOn s die
    let queue := if home.isEmpty then (stealable s).take 1 else home
    if !s.running || s.spindles.stopped || groupOf l v != vertices || !vertices.all (vertexReady s i) ||
        unitState s (dieUnit die) != .on || !energyGate s die queue inst vertices || !placesOk s die i l vertices at_ then .next s
    else
      match dispatchAll s i l vertices vertices at_ with
      | none => .next s
      | some t =>
        let head := (queue.head?).bind (queueUnit s)
        let first := head == some (inst, v)
        let t := setInst t { i with running := i.running ++ vertices }
        .next (t.setPower { t.power with
          heldFor := t.power.heldFor.set die (if first then none else head),
          passed := t.power.passed.set die (if first then 0 else passedBy s die head + vertices.length),
          heldRounds := if first || nth s.power.heldFor die none != head then t.power.heldRounds.set die 0
            else t.power.heldRounds })
  | _, _ => .next s

/-! ### Update kernels (R139) -/

def kernelFor (s : State) (target : Nat) : Option Kernel :=
  (stepLattice s).bind (fun l => l.kernels.find? (fun k => k.target == target))

/-- Units already handed to an invocation. -/
def unitTaken (s : State) (target u : Nat) : Bool := s.spindles.contexts.any (fun c => c.2.target == target && c.2.units.contains u)

/-- A row of a table with code 5 may be handed over: complete, finite, not poisoned, ready, not computed already. -/
def rowUnitReady (s : State) (n table row : Nat) : Bool :=
  match findEntry s n table row, (stepAt s n).bind (fun a => boundVersion s a table) with
  | some e, some v =>
    e.state == .complete && e.result.isNone && !entryFaulty s e && !e.bad && v.optimiser == 5 && !v.poisoned.contains row &&
    (pageOfRow s table v.number row).any (pageReady s)
  | _, _ => false

/-- An update block of a code-5 parameter may be handed over at its root. -/
def blockUnitReady (s : State) (n : Nat) (d : TensorDecl) (b : Nat) : Bool :=
  match findNode s n (blockTree s d b) b with
  | some x =>
    !x.done && !x.sum.isEmpty && x.sum.all (fun v => (of32 v).finite) && d.optimiser == 5 &&
    readsOver s n d.id (2048 * b) (2048 * b + blockLength d b)
  | none => false

/-- UPDATE_KERNEL_INVOCATION: a batch of up to 256 rows, or 16 update blocks, starts on a free context. -/
def execUpdateKernelInvocation (target : Nat) (units : List Nat) (at_ : CtxId) (s : State) : Out :=
  match kernelFor s target with
  | none => .next s
  | some k =>
    match currentImage s k.program with
    | none => .next s
    | some img =>
      let n := s.steps.c + 1
      let f := funcAt img.ply k.function
      let ok :=
        if isTableTarget target then decide (units.length ≤ 256) && units.all (rowUnitReady s n (targetTable target))
        else decide (units.length ≤ 16) &&
          (match parameterDecl s target with
           | some d => units.all (blockUnitReady s n d)
           | none => false)
      if !s.running || !updateGate s n || units.isEmpty || !allDistinct units || !ok || units.any (unitTaken s target) ||
          unitState s (dieUnit at_.die) != .on || !ctxFree s at_ || 4 ≤ at_.ctx || 64 ≤ at_.spindle || 40 ≤ at_.die ||
          !spindleFits s at_.die at_.spindle img.ply k.function [] (.step n) then .next s
      else .next (startCtx s at_ (freshContext (.step n) 0 img.slot k.function f.codeFirst target [] units 0
        ((scratchPlace s at_.die at_.spindle f.scratch).getD 0)))

/-! ### Retirement (R185, R199, R231, R272) -/

/-- A command of a context that names a counter is still outstanding (R185). -/
def outstanding (s : State) (c : CtxId) : Bool :=
  s.spindles.queues.any (fun q => q.2.cmds.any (fun k => k.owner == c && k.counter.isSome))

/-- Values a kernel has stored to a part of a unit, each with the purpose its store named: element to purpose and value,
later stores last. -/
def stagedPart (x : Context) (unit part : Nat) : Assoc Nat (Nat × FVal) :=
  (x.staged.filter (fun t => t.1 == unit && t.2.1 == part)).foldl (fun m t =>
    t.2.2.2.2.zipIdx.foldl (fun m v => aPut m (t.2.2.1 + v.2) (t.2.2.2.1, of32 v.1)) m) []

/-- Whether a kernel's stores to a unit hold a non-finite value: then the whole unit is dropped (R69, R139). -/
def stagedBad (x : Context) (unit : Nat) : Bool :=
  (x.staged.filter (fun t => t.1 == unit)).any (fun t => t.2.2.2.2.any (fun v => !(of32 v).finite))

/-- The values of a block where every element of it has been stored, with the purpose of its first. -/
def stagedBlock (vals : Assoc Nat (Nat × FVal)) (block m : Nat) : Option (Nat × List FVal) :=
  let l := (List.range block).filterMap (fun j => aGet vals (m * block + j))
  if l.length = block then some ((l.headD (3, zeroV)).1, l.map (·.2)) else none

/-- Convert a part's staged values: whole blocks of a blocked format, single elements of BF16; what was not stored keeps
its bytes. `scaleAt` is where the part's scale bytes start, `k` gives the key of a purpose. -/
def patchPart (bs : List Byte) (format block base scaleAt count : Nat) (k : Nat → NoiseKey) (first : Nat)
    (vals : Assoc Nat (Nat × FVal)) : List Byte :=
  if isBlocked format then
    (List.range (count / block)).foldl (fun bs m =>
      match stagedBlock vals block m with
      | some v =>
        let r := convertBlock format (k v.1) v.2 (first + m * block)
        let bs := r.2.zipIdx.foldl (fun bs v => bs.set (base + m * block + v.2) (BitVec.ofNat 8 v.1)) bs
        bs.set (scaleAt + m) (BitVec.ofNat 8 r.1)
      | none => bs) bs
  else
    vals.foldl (fun bs v =>
      if v.1 < count then
        let c := (convert16 4 (k v.2.1) v.2.2 (first + v.1)).1
        (bs.set (base + 2 * v.1) (BitVec.ofNat 8 c)).set (base + 2 * v.1 + 1) (BitVec.ofNat 8 (c / 256))
      else bs) bs

/-- A row's record after a kernel's stores, each converted with the purpose it named, a state slot's with its slot (R59,
R139). -/
def patchRecord (s : State) (v : Version) (row n : Nat) (x : Context) (unit : Nat) : List Byte :=
  let i := row * v.width
  let bs := patchPart (v.record row) v.elemFormat v.block 0 v.width v.width (fun p => rowKey s v.table n p 0) i (stagedPart x unit 0)
  (List.range v.slotCount).foldl (fun bs k =>
    patchPart bs v.stateFormat (2 ^ v.stateBlockLog2) (v.slotAt k) (v.slotAt k + v.width) v.width
      (fun p => rowKey s v.table n p k) i (stagedPart x unit (k + 1))) bs

/-- A tensor's memory after a kernel's stores to elements of an update block. -/
def patchTensor (m : Mem) (d : TensorDecl) (k : Nat → NoiseKey) (first count : Nat) (vals : Assoc Nat (Nat × FVal)) : Mem :=
  if isBlocked d.format then
    (List.range (count / d.block)).foldl (fun m b =>
      match stagedBlock vals d.block b with
      | some v => (convertInto m d (k v.1) (first + b * d.block) v.2).1
      | none => m) m
  else vals.foldl (fun m v => if v.1 < count then (convertInto m d (k v.2.1) (first + v.1) [v.2.2]).1 else m) m

/-- A kernel's row at the end of its invocation: dropped as an overflow, skipped if it has become poisoned, written, or
kept until it is ready again (R69, R108, R119, R140). -/
def finishRow (s : State) (n : Nat) (v : Version) (e : Entry) (x : Context) (unit : Nat) : State :=
  if stagedBad x unit then setEntry (skipRow s n e.table e.row) { e with state := .done }
  else if v.poisoned.contains e.row then skipPoisoned s e
  else
    let bs := patchRecord s v e.row n x unit
    match pageOfRow s e.table v.number e.row with
    | none => s
    | some p =>
      if pageReady s p then writeResult s v e bs
      else
        let e := { e with result := some bs }
        wantPage (parkEntry (setEntry s e) e) p

/-- A kernel's update block at the end of its invocation: dropped as an overflow, or written (R69, R139). -/
def finishUnitBlock (s : State) (n : Nat) (d : TensorDecl) (x : Context) (block unit : Nat) : State :=
  let first := 2048 * block
  let len := blockLength d block
  if stagedBad x unit then skipBlock s n d.id block
  else
    let s := setTensor s d.id (patchTensor (tensorMem s d.id) d (fun p => denseKey s d.id n p 0) first len (stagedPart x unit 0))
    (List.range (denseSlots d)).foldl (fun s k =>
      setSlot s d.id k (patchTensor (slotMem s d.id k) (slotDecl d) (fun p => denseKey s d.id n p k) first len
        (stagedPart x unit (k + 1)))) s

/-- End of an invocation: its units are written, kept or dropped one by one (R69, R139). -/
def finishKernel (s : State) (x : Context) : State :=
  let n := instStep x.inst
  if isTableTarget x.target then
    let t := targetTable x.target
    x.units.zipIdx.foldl (fun s u =>
      match findEntry s n t u.1, (stepAt s n).bind (fun a => boundVersion s a t) with
      | some e, some v => finishRow s n v e x u.2
      | _, _ => s) s
  else
    match parameterDecl s x.target with
    | none => s
    | some d =>
      x.units.zipIdx.foldl (fun s u =>
        match findNode s n (blockTree s d u.1) u.1 with
        | none => s
        | some node => finishBlock (finishUnitBlock s n d x u.1 u.2) d node) s

/-- Free a context and let go of what its vertex held: energy is reconciled, the instance advances, a DRAINING image may
be freed (R185, R231, R272). -/
def finishRetire (s : State) (c : CtxId) (x : Context) : State :=
  let s := s.setSpindles { s.spindles with contexts := aDel s.spindles.contexts c, idle := aPut s.spindles.idle c x }
  let s := addBalance s c.die ((x.reserved : Int) - (x.metered : Int))
  let s :=
    if x.target != 0 then finishKernel s x
    else
      match instAt s x.inst with
      | some i => setInst s { i with running := i.running.filter (· != x.vertex), retired := i.retired ++ [x.vertex] }
      | none => s
  progress (freeDrained s)

/-- RETIRE: the vertex ends, or its retirement is held while a command of its own that names a counter is outstanding
(R185). -/
def execRetire (c : CtxId) (w : Word) (s : State) : Out :=
  plyStep s c w 0x6F (fun x _ _ => if outstanding s c then setCtx s c { x with retiring := true } else finishRetire s c x)

/-- Held retirements of a spindle whose last command has completed. -/
def releaseHeld (s : State) (q : QueueId) : State :=
  (List.range 4).foldl (fun s k =>
    let c : CtxId := { die := q.die, spindle := q.spindle, ctx := k }
    match ctxAt s c with
    | some x => if x.retiring && !outstanding s c then finishRetire s c x else s
    | none => s) s

/-- QUEUE_COMMAND_COMPLETE: the command at the front has its effect and signals its counter by 1 (R201, R224); one that a
debug break holds waits, and a weight-gradient product completes when its last tile has left. -/
def execQueueCommandComplete (q : QueueId) (s : State) : Out :=
  let old := queueAt s q
  match old.cmds with
  | [] => .next s
  | k :: rest =>
    let done (s : State) : State :=
      releaseHeld (progress (signalBy (setQueue s q { queueAt s q with cmds := rest }) k.owner k.counter)) q
    if !s.running || k.held || testDue s q k then .next s
    else
      match k.body with
      | .move slot => .next (done (runMove s k slot))
      | .product slot =>
        let p := nth k.ply.products slot default
        if p.arrangement = 2 then
          (if (productBands k p).all (bandDrained k p.outpos) then .next (done s) else .next s)
        else .next (done (runProduct s q k slot))

end Sys2Proof.Machine
end

