-- ==== Sys2Proof/Machine/ConfigSets.lean ====
section
/-! DEFINITION. Staged configuration: item lists (R353), the checks of every key (R37, R43, R66, R78, R83, R90, R104,
R122, R138, R269, R304, R318, R327, R368), what each key sets (R357), and STAGE_CONFIG, COMMIT_CONFIG and DISCARD_CONFIG
(R354 to R358). -/

namespace Sys2Proof.Machine

/-! ### Item lists (R353) -/

/-- An item: its number in the list, its key and its value. -/
abbrev Item := Nat × Nat × List Byte

/-- Parse an item list; `none` where items do not fill it exactly, or a reserved or padding byte is not zero. -/
def parseItems : Nat → Nat → List Byte → Option (List Item)
  | 0, _, bs => if bs.isEmpty then some [] else none
  | fuel + 1, n, bs =>
    if bs.isEmpty then some []
    else
      let len := leAt bs 4 4
      let next := alignUp (8 + len) 8
      if bs.length < next ∨ leAt bs 2 2 ≠ 0 ∨ zeroBytes bs (8 + len) next = false then none
      else (parseItems fuel (n + 1) (bs.drop next)).map (fun l => (n, leAt bs 0 2, (bs.drop 8).take len) :: l)

/-- Ascending key order, then list order (R354, R357). -/
def itemOrder (l : List Item) : List Item := sortBy (fun a b => decide (a.2.1 ≤ b.2.1)) l

/-- Reserved fields of values for whose keys no check names them (R8). -/
def itemReserved (key : Nat) (v : List Byte) : Bool :=
  match key with
  | 1 => leAt v 2 2 != 0
  | 2 => !zeroBytes v 2 8 || (entries 8 (v.drop 8)).any (fun e => leAt e 3 1 != 0 || leAt e 6 2 != 0)
  | 10 => (entries 4 v).any (fun e => leAt e 3 1 != 0)
  | _ => false

/-! ### What a key sets -/

def u16s (v : List Byte) : List Nat := (entries 2 v).map (fun e => leAt e 0 2)

def readPolicy (v : List Byte) : SecurePolicy :=
  { mode := leAt v 0 1, hanksKept := leAt v 1 1, stagingGB := leAt v 2 1, fabric := bitAt (leAt v 3 1) 0,
    pinnedInterval := leAt v 4 4, initialInterval := leAt v 8 4, priorSteps := leAt v 12 4, fabricOffset := leAt v 16 8,
    fabricLength := leAt v 24 8 }

def readOpt (e : List Byte) : OptParams :=
  { lr := BitVec.ofNat 16 (leAt e 4 2), beta1 := BitVec.ofNat 16 (leAt e 6 2), beta2 := BitVec.ofNat 16 (leAt e 8 2),
    eps := BitVec.ofNat 16 (leAt e 10 2), wd := BitVec.ofNat 16 (leAt e 12 2), c1 := BitVec.ofNat 16 (leAt e 14 2),
    c2 := BitVec.ofNat 16 (leAt e 16 2) }

/-- The loss-scale policy and the exponent it leaves (R66). -/
def setLossPolicy (s : State) (v : List Byte) : State :=
  let p : LossPolicy :=
    { fixed := leAt v 0 1 == 1, exponent := leAt v 1 1, minExponent := leAt v 2 1, maxExponent := leAt v 3 1,
      growth := leAt v 4 4 }
  let e := if p.exponent = 0xFF then min (max s.steps.exponent p.minExponent) p.maxExponent else p.exponent
  (s.setCfg { s.cfg with lossPolicy := p }).setSteps { s.steps with exponent := e, clean := 0 }

/-- A securing policy applied at boundary b moves the next scheduled boundary (R318). -/
def setSecurePolicy (s : State) (b : Nat) (p : SecurePolicy) : State :=
  let h := s.securing.lastSched
  let next :=
    match p.mode with
    | 1 => some (max (h + p.pinnedInterval) (b + 1))
    | 2 => none
    | _ => if s.securing.decided && s.securing.nextSched.isSome then s.securing.nextSched
           else some (max (h + p.initialInterval) (b + 1))
  (s.setCfg { s.cfg with secure := p }).setSecuring { s.securing with
    nextSched := next, decided := p.mode == 0 && s.securing.decided && s.securing.nextSched.isSome }

/-- Switch tables to the versions a swap names; the versions before them are freed once nothing refers to them (R38 to
R40). -/
def setSwap (s : State) (pairs : List (Nat × Nat)) : State :=
  s.setTables { s.tables with
    versions := s.tables.versions.map (fun v =>
      match pairs.find? (fun p => p.1 == v.table) with
      | none => v
      | some p =>
        if p.2 == v.number then { v with inEffect := true, retiring := false }
        else if v.inEffect then { v with inEffect := false, retiring := true } else v) }

/-- A new route table: the one before is kept and the epoch bit inverted (R307). -/
def setRoutes (s : State) (r : List RouteEntry) : State :=
  s.setCfg { s.cfg with
    prevRoutes := some (ownRoutes s), routes := r, routeSet := true,
    routeEpoch := !s.cfg.routeEpoch }

/-- The state that an item applied at boundary b leaves, its sends aside (R357). -/
def setItem (s : State) (b key : Nat) (v : List Byte) : State :=
  match key with
  | 1 => s.setCfg { s.cfg with skeinMaps := aPut s.cfg.skeinMaps (leAt v 0 2) (u16s (v.drop 8)) }
  | 2 => setRoutes s (routeEntries v)
  | 3 => setLossPolicy s v
  | 4 => s.setCfg { s.cfg with capWatts := leAt v 0 2, maxLevel := leAt v 2 1 }
  | 5 => setSecurePolicy s b (readPolicy v)
  | 6 => setSwap s (swapPairs v)
  | 7 => s.setCfg { s.cfg with window := v.map BitVec.toNat }
  | 8 => s.setCfg { s.cfg with bobbin := v.map BitVec.toNat }
  | 9 => s.setCfg { s.cfg with opt := (entries 24 v).foldl (fun m e => aPut m (leAt e 0 4) (readOpt e)) s.cfg.opt }
  | 10 => s.setCfg { s.cfg with pooling := (entries 4 v).foldl (fun m e => aPut m (leAt e 0 2) (leAt e 2 1)) s.cfg.pooling }
  | 11 => s.setCfg { s.cfg with deltaTables := u16s v }
  | 12 => s.setCfg { s.cfg with evalPolicy := leAt v 0 1 }
  | _ => s.setCfg { s.cfg with buddies := some (u16s v) }

/-! ### Checks -/

/-- The first failing check of a list. -/
def firstBad (l : List (Bool × Status)) : Option Status := (l.find? (fun x => x.1)).map (·.2)

def bf16Finite (b : BitVec 16) : Bool := (ofBf16 b).finite

def checkSkeinMap (s : State) (seen : List Item) (v : List Byte) : Option Status :=
  let t := leAt v 0 2
  match inEffect s t with
  | none => some .rejectedConfig
  | some x =>
    firstBad
      [(leAt v 4 4 != 2 ^ x.skeinLog2 || v.length != 8 + 2 * 2 ^ x.skeinLog2, .rejectedConfig),
       ((u16s (v.drop 8)).any (fun m => !s.members.contains m), .rejectedConfig),
       (seen.any (fun i => i.2.1 == 1 && leAt i.2.2 0 2 == t), .rejectedConfig),
       (!pagesFit (s.setCfg { s.cfg with skeinMaps := aPut s.cfg.skeinMaps t (u16s (v.drop 8)) }) s.tables.pages, .noSpace)]

def checkRoutes (s : State) (v : List Byte) : Option Status :=
  let es := routeEntries v
  let peer (p : Nat) : Option Nat := (portAt s p).peer.map (·.1)
  firstBad
    [(leAt v 0 2 == 0 || v.length != 8 + 8 * leAt v 0 2, .rejectedConfig),
     (es.any (fun e => e.dest == s.member || !s.members.contains e.dest) || !allDistinct (es.map RouteEntry.dest), .rejectedConfig),
     ((others s).any (fun m => !es.any (fun e => e.dest == m)), .rejectedConfig),
     (es.any (fun e => e.distance == 0 || decide (4 < e.distance) || e.ports == 0), .rejectedConfig),
     (es.any (fun e => (maskPorts e.ports).any (fun p =>
        (peer p).isNone || (if e.distance = 1 then peer p != some e.dest else peer p == some e.dest))), .rejectedConfig)]

def checkLoss (v : List Byte) : Option Status :=
  let e := leAt v 1 1
  firstBad
    [(v.length != 8 || decide (1 < leAt v 0 1) || decide (leAt v 3 1 < leAt v 2 1) || decide (24 < leAt v 3 1) ||
      (e != 0xFF && !decide (leAt v 2 1 ≤ e ∧ e ≤ leAt v 3 1)) || leAt v 4 4 == 0 || decide (1000000 < leAt v 4 4), .rejectedConfig)]

def checkPower (v : List Byte) : Option Status :=
  firstBad [(v.length != 4 || decide (leAt v 0 2 < 150 ∨ 600 < leAt v 0 2 ∨ 7 < leAt v 2 1) || leAt v 3 1 != 0, .rejectedConfig)]

def checkSecure (s : State) (v : List Byte) : Option Status :=
  let p := readPolicy v
  let out (x lo hi : Nat) : Bool := decide (x < lo ∨ hi < x)
  firstBad
    [(v.length != 32 || out p.mode 0 2 || out p.hanksKept 3 8 || out p.stagingGB 1 32 || decide (1 < leAt v 3 1) ||
      out p.pinnedInterval 50 1000000 || out p.initialInterval 50 1000000 || out p.priorSteps 1 4000000000 ||
      (p.fabric && (p.fabricLength == 0 || p.fabricOffset % 65536 != 0 || p.fabricLength % 65536 != 0 ||
        decide (s.regs.fabricLength.toNat < p.fabricOffset + p.fabricLength))), .rejectedConfig),
     (!gddrHolds s p.stagingGB s.lattices 0 || decide (p.stagingGB * 10 ^ 9 < 2 * ownedDense s), .noSpace)]

def checkSwap (s : State) (v : List Byte) : Option Status :=
  let ps := swapPairs v
  firstBad
    [(v.length % 8 != 0 || v.isEmpty || decide (256 < ps.length), .rejectedConfig),
     (ps.any (fun p => !(findVersion s p.1 p.2).any Version.loaded), .versionUnknown),
     (!allDistinct (ps.map (·.1)), .rejectedConfig),
     (ps.any (fun p => match findVersion s p.1 p.2, inEffect s p.1 with
        | some n, some o => n.width != o.width || n.skeinLog2 != o.skeinLog2
        | _, _ => false), .rejectedConfig)]

def checkWindow (s : State) (v : List Byte) : Option Status :=
  let w := v.map BitVec.toNat
  firstBad
    [(v.length != 8 || w.any (fun k => decide (k < 19 ∨ 23 < k)), .rejectedConfig),
     (!sramFits s (withPagesToCome s).tables.pages (fun d => nth w d 20), .noSpace)]

/-- The largest tensor window of any resident lattice (R122). -/
def largestWindow (s : State) : Nat :=
  maxOf ((residentDecls s.lattices).map (fun d => if d.role = 5 then windowSize d else 0))

def checkBobbin (s : State) (v : List Byte) : Option Status :=
  let w := v.map BitVec.toNat
  firstBad
    [(v.length != 16 || w.any (fun k => decide (k < 32 ∨ 80 < k)), .rejectedConfig),
     (decide (sumOf (w.map (fun m => (96 - m) * 2 ^ 20)) < largestWindow s), .noSpace)]

def checkOpt (s : State) (v : List Byte) : Option Status :=
  let es := entries 24 v
  firstBad
    [(v.length % 24 != 0 || v.isEmpty || decide (8192 < es.length) ||
      es.any (fun e =>
        let t := leAt e 0 4
        let p := readOpt e
        !(if isTableTarget t then (inEffect s (targetTable t)).isSome else (parameterDecl s t).isSome) ||
        !([p.lr, p.beta1, p.beta2, p.eps, p.wd, p.c1, p.c2].all bf16Finite) || !zeroBytes e 0x12 0x18) ||
      !allDistinct (es.map (fun e => leAt e 0 4)), .rejectedConfig)]

def checkPooling (s : State) (v : List Byte) : Option Status :=
  let es := entries 4 v
  firstBad
    [(v.length % 4 != 0 || v.isEmpty || decide (4096 < es.length) ||
      es.any (fun e => (inEffect s (leAt e 0 2)).isNone || decide (1 < leAt e 2 1)) ||
      !allDistinct (es.map (fun e => leAt e 0 2)), .rejectedConfig)]

def checkDelta (s : State) (v : List Byte) : Option Status :=
  firstBad
    [(v.length % 2 != 0 || decide (4096 < (u16s v).length) || !ascending (u16s v) ||
      (u16s v).any (fun t => (inEffect s t).isNone), .rejectedConfig)]

def checkEval (v : List Byte) : Option Status :=
  firstBad [(v.length != 1 || decide (16 < leAt v 0 1), .rejectedConfig)]

def checkBuddy (s : State) (v : List Byte) : Option Status :=
  let l := u16s v
  firstBad
    [(v.length != 2 * s.jobSize || l.any (fun m => !s.members.contains m) ||
      (decide (2 ≤ s.jobSize) && (l.zip s.members).any (fun x => x.1 == x.2)), .rejectedConfig),
     (!mirrorsFit s (some l), .noSpace)]

/-- The check of one item against a state, after the items before it. -/
def checkItem (s : State) (seen : List Item) (key : Nat) (v : List Byte) : Option Status :=
  match key with
  | 1 => checkSkeinMap s seen v
  | 2 => checkRoutes s v
  | 3 => checkLoss v
  | 4 => checkPower v
  | 5 => checkSecure s v
  | 6 => checkSwap s v
  | 7 => checkWindow s v
  | 8 => checkBobbin s v
  | 9 => checkOpt s v
  | 10 => checkPooling s v
  | 11 => checkDelta s v
  | 12 => checkEval v
  | _ => checkBuddy s v

/-- Check items in order, each against the state that those before it would leave: the first failing item (R354). -/
def checkItems (s : State) (b : Nat) (seen : List Item) : List Item → Option (Status × Nat × Nat)
  | [] => none
  | i :: r =>
    match checkItem s seen i.2.1 i.2.2 with
    | some st => some (st, i.1, i.2.1)
    | none => checkItems (setItem s b i.2.1 i.2.2) b (seen ++ [i]) r

/-! ### Sets -/

def setItems (x : CfgSet) : List Item := itemOrder (x.items.mapIdx (fun n i => (n, i.1, i.2)))

/-- Committed sets for boundaries up to b in the order they will apply: by boundary, then by acceptance (R357). -/
def committedUpTo (s : State) (b : Nat) : List CfgSet :=
  let l := s.cfg.commitOrder.filterMap (fun id => s.cfg.sets.find? (fun x => x.id == id && x.boundary.any (fun c => decide (c ≤ b))))
  sortBy (fun x y => decide (x.boundary.getD 0 ≤ y.boundary.getD 0)) l

/-- The state that the committed sets up to a boundary would leave. -/
def afterSets (s : State) (b : Nat) : State :=
  (committedUpTo s b).foldl (fun t x => (setItems x).foldl (fun t i => setItem t b i.2.1 i.2.2) t) s

/-- Skein map, pooling mode and versions that will govern a step (R38, R93). -/
def governed (s : State) (step : Nat) : State := afterSets s (step - 1)

/-! ### Applying -/

/-- Skein transfers of a version's page to a new owner: its row list, then its bytes (Table 12.8, 0x06). -/
def transferFrames (b : Nat) (v : Version) (p : Page) (lastPage last : Bool) : List SkeinTransferF :=
  let base (rowList : Bool) (off : Nat) (rows : List (Nat × Bool)) (bytes : List Byte) (lp l : Bool) : SkeinTransferF :=
    { boundary := b, table := v.table, version := v.number, skein := p.ref.skein, page := p.ref.page, offset := off,
      rowList := rowList, lastPage := lp, last := l, rows := rows, bytes := bytes }
  let rows := p.rows.map (fun r => (r, v.poisoned.contains r))
  let bytes := p.rows.flatMap v.record
  let rl := (chunksOf 500 rows.length rows).zipIdx.map (fun c => base true (8 * 500 * c.2) c.1 [] false false)
  let n := ceilDiv bytes.length 4000
  rl ++ (chunksOf 4000 bytes.length bytes).zipIdx.map (fun c =>
    base false (4000 * c.2) [] c.1 (lastPage && c.2 + 1 == n) (last && c.2 + 1 == n))

/-- The pages of a skein in every version of its table, in order. -/
def skeinPagesOf (s : State) (table skein : Nat) : List (Version × Page) :=
  s.tables.versions.flatMap (fun v =>
    if v.table = table then
      (s.tables.pages.filter (fun p => p.ref.table == table && p.ref.version == v.number && p.ref.skein == skein)).map (fun p => (v, p))
    else [])

/-- Send a skein to its new owner; it is kept here until it has landed (R85). -/
def sendSkein (s : State) (b table skein dest : Nat) : State :=
  let ps := skeinPagesOf s table skein
  let frames := ps.zipIdx.flatMap (fun x =>
    let lastPage := !(ps.drop (x.2 + 1)).any (fun y => y.1.number == x.1.1.number)
    transferFrames b x.1.1 x.1.2 lastPage (x.2 + 1 == ps.length))
  let s := s.setTables { s.tables with leaving := s.tables.leaving ++ [(b, table, skein, dest)] }
  frames.foldl (fun s f => sendTo s dest [b, table, skein] (.skeinTransfer f)) s

/-- Apply a skein map at boundary b: skeins leave, and others are awaited unless they have landed already (R85). -/
def applySkeinMap (s : State) (b : Nat) (v : List Byte) : State :=
  let t := leAt v 0 2
  let owner (m : State) (k : Nat) : Nat := ownerOfSkein m.members (skeinMapOf m t) k
  let new := setItem s b 1 v
  let ks := match inEffect s t with
    | some x => List.range (2 ^ x.skeinLog2)
    | none => []
  ks.foldl (fun u k =>
    let o := owner s k
    let n := owner new k
    if o == s.member && n != s.member then sendSkein u b t k n
    else if o != s.member && n == s.member then
      if u.tables.landed.contains (b, t, k) then u.setTables { u.tables with landed := u.tables.landed.erase (b, t, k) }
      else if s.tables.versions.any (fun x => x.table == t && !(x.skeinRows k).isEmpty) then
        u.setTables { u.tables with arriving := u.tables.arriving ++ [(b, t, k, o)] }
      else u
    else u) new

/-- Wake the OFF link ports that a route table uses; for one that drains, the enable is recorded (R284, R286). -/
def wakePorts (s : State) (r : List RouteEntry) : State :=
  (List.range 16).foldl (fun s p =>
    match s.power.units[p]? with
    | some u =>
      if !r.any (fun e => bitAt e.ports p) then s
      else if u.state == .off then
        startTraining (s.setPower { s.power with units := s.power.units.set p { state := .waking, recorded := false } }) p
      else if u.state == .draining then s.setPower { s.power with units := s.power.units.set p { u with recorded := true } }
      else s
    | none => s) s

/-- Apply one item for real (R357). -/
def applyItem (s : State) (b key : Nat) (v : List Byte) : State :=
  match key with
  | 1 => applySkeinMap s b v
  | 2 => wakePorts (setItem s b 2 v) (routeEntries v)
  | _ => setItem s b key v

/-- The sets committed for a boundary, in the order their commands were accepted. -/
def setsFor (s : State) (b : Nat) : List CfgSet :=
  s.cfg.commitOrder.filterMap (fun id => s.cfg.sets.find? (fun x => x.id == id && x.boundary == some b))

/-- A route table is due at a boundary. -/
def routesDue (s : State) (b : Nat) : Bool := ((setsFor s b).flatMap setItems).any (fun i => i.2.1 == 2)

/-- Apply the sets of a boundary (R357). -/
def applySets (s : State) (b : Nat) : State :=
  let l := setsFor s b
  let s := l.foldl (fun s x => (setItems x).foldl (fun s i => applyItem s b i.2.1 i.2.2) s) s
  s.setCfg { s.cfg with
    sets := s.cfg.sets.filter (fun x => x.boundary != some b),
    commitOrder := s.cfg.commitOrder.filter (fun id => !l.any (fun x => x.id == id)),
    commitBehind := s.cfg.commitBehind.filter (fun y => !l.any (fun x => x.id == y.1)) }

/-! ### Commands -/

/-- A refusal that names an item (R354). -/
def finishItem (s : State) (d : Sub) (f : Status × Nat × Nat) : State := finishWith s d f.1 0 f.2.1 f.2.2

/-- A refusal that names none. -/
def finishNa (s : State) (d : Sub) (st : Status) : State := finishWith s d st 0 notApplicable notApplicable

def knownKey (k : Nat) : Bool := decide (1 ≤ k ∧ k ≤ 13)

/-- STAGE_CONFIG (R353 to R355). -/
def runStageConfig (d : Sub) (s : State) : State :=
  let id := d.body 0 4
  let off := d.body 8 4
  let len := d.body 12 4
  let bad := decide (1 < d.body 4 1) || d.body 5 3 != 0 || !d.zeroFrom 0x10 || id == 0 || !blockOk off len ||
    decide (len < 8 ∨ 16 * 2 ^ 20 < len)
  if bad then finishNa s d .malformed
  else
    match parseItems len 0 (windowBytes s off len) with
    | none => finishNa s d .malformed
    | some items =>
      if items.any (fun i => !knownKey i.2.1 || itemReserved i.2.1 i.2.2) then finishNa s d .malformed
      else if s.cfg.sets.any (fun x => x.id == id) ||
          !allDistinct ((items.filter (fun i => i.2.1 != 1)).map (fun i => i.2.1)) then finishNa s d .rejectedConfig
      else
        let now := bitAt (d.body 4 1) 0
        if now && !(s.steps.a == s.steps.c && s.securing.restoring.isNone) then finishNa s d .rejectedConfig
        else if !now && decide (8 ≤ s.cfg.sets.length) then finishNa s d .noSpace
        else
          match checkItems s s.steps.c [] (itemOrder items) with
          | some f => finishItem s d f
          | none =>
            if now then
              finish (progress ((itemOrder items).foldl (fun s i => applyItem s s.steps.c i.2.1 i.2.2) s)) d .ok
            else
              finish (s.setCfg { s.cfg with
                sets := s.cfg.sets ++ [{ id := id, items := items.map (fun i => i.2), boundary := none }] }) d .ok

def execStageConfig (d : Sub) (s : State) : Out :=
  beginCommand s d (d.opcode == 0x0030) 0 (runStageConfig d)

/-- The committed sets with one more, in the order in which their COMMIT_CONFIG commands were accepted (R357). -/
def commitPlace (s : State) (d : Sub) (id : Nat) : List Nat :=
  let l := s.cfg.commitOrder
  let n := (l.findIdx? (fun x => ((aGet s.cfg.commitBehind x).getD []).any (sameSub d))).getD l.length
  l.take n ++ id :: l.drop n

/-- COMMIT_CONFIG commands accepted before this one and not yet answered. -/
def commitsAhead (s : State) (d : Sub) : List Sub :=
  ((acceptedBefore s d).map Accepted.sub).filter (fun x => x.opcode == 0x0031)

/-- COMMIT_CONFIG (R33, R356). -/
def runCommitConfig (d : Sub) (s : State) : State :=
  let id := d.body 0 4
  let b := d.body 8 8
  if d.body 4 4 != 0 || !d.zeroFrom 0x10 || id == 0 then finishNa s d .malformed
  else
    match s.cfg.sets.find? (fun x => x.id == id && x.boundary.isNone) with
    | none => finishNa s d .rejectedConfig
    | some x =>
      if b ≤ s.steps.c ∨ b + 1 ≤ s.steps.a then finishNa s d .rejectedConfig
      else
        match checkItems (afterSets s b) b [] (setItems x) with
        | some f => finishItem s d f
        | none =>
          finish (s.setCfg { s.cfg with
            sets := s.cfg.sets.map (fun y => if y.id == id then { y with boundary := some b } else y),
            commitOrder := commitPlace s d id, commitBehind := aPut s.cfg.commitBehind id (commitsAhead s d) }) d .ok

def execCommitConfig (d : Sub) (s : State) : Out :=
  beginCommand s d (d.opcode == 0x0031) 0 (runCommitConfig d)

/-- DISCARD_CONFIG (R358). -/
def runDiscardConfig (d : Sub) (s : State) : State :=
  let id := d.body 0 4
  if !d.zeroFrom 4 || id == 0 then finish s d .malformed
  else if s.cfg.sets.any (fun x => x.id == id && x.boundary.isNone) then
    finish (s.setCfg { s.cfg with sets := s.cfg.sets.filter (fun x => x.id != id) }) d .ok
  else finish s d .rejectedConfig

def execDiscardConfig (d : Sub) (s : State) : Out :=
  beginCommand s d (d.opcode == 0x0032) 0 (runDiscardConfig d)

end Sys2Proof.Machine
end

