-- ==== Sys2Proof/Machine/Steps.lean ====
section
/-! DEFINITION. Steps and evaluations: the sparse block and its checks (R72 to R75), STEP_INPUT and the reading of its
blocks (R27, R28, R116), EVAL_REQUEST, the reading of its blocks, and its end (R42 to R44). -/

namespace Sys2Proof.Machine

/-! ### The sparse block (R72 to R75) -/

/-- A violation: status, DETAIL_0, DETAIL_1 (Table 10.6). -/
abbrev Refused := Status × Nat × Nat

/-- Tables that a lattice's POOLED tensors name (R416). -/
def sparseTables (l : Lattice) : List Nat := sortDistinct ((l.decls.filter (fun d => d.role == 3)).map TensorDecl.table)

/-- The bag dimension of a lattice's pooled tensors. -/
def bagDimension (l : Lattice) : Nat := ((l.decls.find? (fun d => d.role == 3)).map (fun d => nth d.dims 0 0)).getD 0

/-- Every check of the header (item 1). -/
def checkSparseHeader (l : Lattice) (bs : List Byte) : Option Refused :=
  let na := notApplicable
  let tables := leAt bs 2 2
  let bags := leAt bs 4 4
  if leAt bs 0 2 ≠ 1 ∨ zeroBytes bs 8 64 = false ∨ tables = 0 then some (.malformed, na, na)
  else if 4096 < tables then some (.rejectedLimit, na, na)
  else if bags = 0 then some (.malformed, na, na)
  else if 2 ^ 20 < bags then some (.rejectedLimit, na, na)
  else if bags ≠ bagDimension l ∨ bs.length < 0x40 + 32 * tables then some (.malformed, na, na)
  else none

/-- A directory entry's bytes. -/
def dirEntry (bs : List Byte) (i : Nat) : List Byte := (bs.drop (0x40 + 32 * i)).take 32

/-- The byte ranges of an entry's arrays: offset and length (R74). -/
def entryArrays (bags : Nat) (e : List Byte) : List (Nat × Nat) :=
  [(leAt e 8 4, 4 * (bags + 1)), (leAt e 12 4, leAt e 4 4 * leAt e 3 1)] ++
  (if bitAt (leAt e 2 1) 0 then [(leAt e 16 4, 2 * leAt e 4 4)] else [])

/-- Two ranges share a byte: an empty one shares none. -/
def spansMeet (a b : Nat × Nat) : Bool := decide (0 < a.2 ∧ 0 < b.2 ∧ a.1 < b.1 + b.2 ∧ b.1 < a.1 + a.2)

/-- Two ranges of a list meet. -/
def anySpansMeet : List (Nat × Nat) → Bool
  | [] => false
  | a :: r => r.any (spansMeet a) || anySpansMeet r

/-- The checks of one directory entry (item 2); `before` holds the ranges of earlier entries, header and directory
first. -/
def checkEntry (bs : List Byte) (bags i : Nat) (before : List (Nat × Nat)) : Option Refused :=
  let e := dirEntry bs i
  let at_ (st : Status) : Option Refused := some (st, i, notApplicable)
  let flags := leAt e 2 1
  let arrays := entryArrays bags e
  if zeroBytes e 0x14 32 = false ∨ 4 ≤ flags then at_ .malformed
  else if 0 < i ∧ leAt e 0 2 ≤ leAt (dirEntry bs (i - 1)) 0 2 then at_ .malformed
  else if leAt e 3 1 ≠ 4 ∧ leAt e 3 1 ≠ 5 then at_ .malformed
  else if 2 ^ 24 < leAt e 4 4 then at_ .rejectedLimit
  else if leAt e 8 4 % 64 ≠ 0 ∨ leAt e 12 4 % 64 ≠ 0 ∨ leAt e 16 4 % 64 ≠ 0 ∨
      (bitAt flags 0 = false ∧ leAt e 16 4 ≠ 0) then at_ .malformed
  else if arrays.any (fun a => decide (bs.length < a.1 + a.2)) || anySpansMeet arrays ||
      arrays.any (fun a => before.any (spansMeet a)) then at_ .malformed
  else none

/-- Every entry, in ascending order. -/
def checkEntries (bs : List Byte) (bags : Nat) : List Nat → List (Nat × Nat) → Option Refused
  | [], _ => none
  | i :: r, before =>
    match checkEntry bs bags i before with
    | some f => some f
    | none => checkEntries bs bags r (before ++ entryArrays bags (dirEntry bs i))

/-- The directory's tables against the lattice's (item 3). -/
def checkTables (l : Lattice) (tables : List Nat) : Option Refused :=
  let want := sparseTables l
  match tables.zipIdx.find? (fun t => !want.contains t.1) with
  | some t => some (.rejectedConfig, t.2, notApplicable)
  | none =>
    match want.find? (fun t => !tables.contains t) with
    | some t => some (.rejectedConfig, notApplicable, t)
    | none => none

/-- The offsets array, in ascending index (item 4); `prev` is the value before. -/
def checkOffsets (entry bags count : Nat) : Nat → Nat → List Nat → Option Refused
  | _, _, [] => none
  | j, prev, v :: r =>
    let at_ (st : Status) : Option Refused := some (st, entry, 2 ^ 63 + j)
    if j = 0 ∧ v ≠ 0 then at_ .malformed
    else if v < prev then at_ .malformed
    else if 65535 < v - prev then at_ .rejectedLimit
    else if j = bags ∧ v ≠ count then at_ .malformed
    else checkOffsets entry bags count (j + 1) v r

/-- The indices array, in ascending position (item 5). -/
def checkIndices (entry rows : Nat) (l : List Nat) : Option Refused :=
  match l.zipIdx.find? (fun x => decide (rows ≤ x.1)) with
  | some x => some (.rejectedLimit, entry, x.2)
  | none => none

/-- `n` little-endian values of `w` bytes. -/
def leList (bs : List Byte) (off w n : Nat) : List Nat := (chunksOf w n ((bs.drop off).take (w * n))).map leNat

/-- A table's section as the block gives it; window, mode and owners are latched by the caller (R93). -/
def readSection (bs : List Byte) (bags i : Nat) : Section :=
  let e := dirEntry bs i
  let n := leAt e 4 4
  { table := leAt e 0 2, mean := bitAt (leAt e 2 1) 1, offsets := leList bs (leAt e 8 4) 4 (bags + 1),
    indices := leList bs (leAt e 12 4) (leAt e 3 1) n,
    weights := if bitAt (leAt e 2 1) 0 then some ((leList bs (leAt e 16 4) 2 n).map (BitVec.ofNat 16)) else none,
    unit := 0, window := 20, poolAtOwner := false, owners := [], cards := [], gotRows := [], gotSums := [],
    pooled := false, merging := none, merged := false }

/-- The offsets and indices of every table, in directory order (items 4 and 5). -/
def checkArrays (bags : Nat) (rowCount : Nat → Nat) : List (Section × Nat) → Option Refused
  | [] => none
  | (c, i) :: r =>
    match checkOffsets i bags c.indices.length 0 0 c.offsets with
    | some f => some f
    | none =>
      match checkIndices i (rowCount c.table) c.indices with
      | some f => some f
      | none => checkArrays bags rowCount r

/-- The whole check of a sparse block (R75): the first violation, or its sections. -/
def readSparse (l : Lattice) (rowCount : Nat → Nat) (bs : List Byte) : Except Refused (List Section) :=
  match checkSparseHeader l bs with
  | some f => .error f
  | none =>
    let bags := leAt bs 4 4
    let n := leAt bs 2 2
    match checkEntries bs bags (List.range n) [(0, 0x40), (0x40, 32 * n)] with
    | some f => .error f
    | none =>
      let secs := (List.range n).map (readSection bs bags)
      match checkTables l (secs.map Section.table) with
      | some f => .error f
      | none =>
        match checkArrays bags rowCount secs.zipIdx with
        | some f => .error f
        | none => .ok secs

/-- Carding unit and window of each section, as the module assigns them when the block is read (R93). -/
def latchWindows (s : State) (units : List Nat) (secs : List Section) : List Section :=
  secs.mapIdx (fun i c =>
    let u := nth units i 0 % 8
    { c with unit := u, window := nth s.cfg.window u 20 })

/-- Pooling mode and owners of each section, under a configuration (R90, R93). -/
def latchMaps (g : State) (version : Nat → Option Version) (secs : List Section) : List Section :=
  secs.map (fun c =>
    { c with
      poolAtOwner := (aGet g.cfg.pooling c.table).getD 0 == 0,
      owners := match version c.table with
        | some v => (List.range (2 ^ v.skeinLog2)).map (ownerOfSkein g.members (skeinMapOf g c.table))
        | none => [] })

/-- The sections with their versions, for the reserve. -/
def withVersions (version : Nat → Option Version) (secs : List Section) : List (Section × Version) :=
  secs.filterMap (fun c => (version c.table).map (fun v => (c, v)))

/-! ### STEP_INPUT (R27 to R29) -/

/-- The versions that bind a step: those that the sets committed for boundaries before it will leave in effect (R38). -/
def bindingsFor (g : State) (l : Lattice) : List (Nat × Nat) :=
  (sparseTables l).filterMap (fun t => (inEffect g t).map (fun v => (t, v.number)))

/-- SPARSE_LENGTH fits the lattice (R27). -/
def sparseLengthBad (l : Lattice) (off len : Nat) : Bool :=
  if (sparseTables l).isEmpty then len != 0 || off != 0 else decide (len < 64)

/-- The acceptance rows of Table 2.3 after the entry checks. -/
def stepRefusal (s : State) (d : Sub) : Option Status :=
  let n := d.body 0 8
  if !d.zeroFrom 0x20 || n == 0 || !blockOk (d.body 8 4) (d.body 0xC 4) || !blockOk (d.body 0x10 4) (d.body 0x14 4) ||
      !blockOk (d.body 0x18 4) (d.body 0x1C 4) || decide (n ≤ s.steps.a) then some .malformed
  else if s.steps.a + 1 < n ∨ s.steps.c + 2 < n then some .rejectedLimit
  else
    match stepLattice s with
    | none => some .rejectedConfig
    | some l =>
      if (sparseTables l).any (fun t => (inEffect s t).isNone) || s.steps.lost then
        some .rejectedConfig
      else if d.body 0x14 4 ≠ roleSize (roleTensors l 1) ∨ d.body 0x1C 4 ≠ roleSize (roleTensors l 2) ∨
          sparseLengthBad l (d.body 8 4) (d.body 0xC 4) = true then some .malformed
      else none

/-- A new step. -/
def newStep (s : State) (d : Sub) (l : Lattice) : AdmStep :=
  let n := d.body 0 8
  { n := n, sub := d, read := false, answered := false, bindings := bindingsFor (governed s n) l, sections := [],
    dense := [], labels := [], delivered := false, reserve := 0, inst := Inst.fresh (.step n) l.handle,
    exponent := if n = s.steps.c + 1 then some s.steps.exponent else none, loss := none, skipRows := 0, skipBlocks := 0,
    lowRow := none, lowBlock := none, skipPosted := false, tested := 0, localDone := [], reported := false }

/-- STEP_INPUT: admitted at acceptance (R28). -/
def runStepInput (d : Sub) (s : State) : State :=
  match stepRefusal s d with
  | some st => finish s d st
  | none =>
    match stepLattice s with
    | none => s
    | some l =>
      progress (s.setSteps { s.steps with
        a := d.body 0 8, admitted := s.steps.admitted ++ [newStep s d l] })

def execStepInput (d : Sub) (s : State) : Out := beginCommand s d (d.opcode == 0x0010) 0 (runStepInput d)

/-- Withdraw step n with its status, and every later one with REJECTED_LIMIT (R28). -/
def withdrawStep (s : State) (n : Nat) (f : Refused) : State :=
  let later := s.steps.admitted.filter (fun a => decide (n < a.n))
  let mine := stepAt s n
  let s := s.setSteps { s.steps with a := n - 1, admitted := s.steps.admitted.filter (fun a => decide (a.n < n)) }
  let s := match mine with
    | some a => finishWith s a.sub f.1 0 f.2.1 f.2.2
    | none => s
  later.foldl (fun s a => finish s a.sub .rejectedLimit) s

/-- The step to be read next: blocks are read in step order. -/
def nextToRead (s : State) : Option AdmStep := s.steps.admitted.find? (fun a => !a.read)

/-- What the reading of a step's blocks leaves: sections, or the row of Table 2.3 that matches. -/
def readStep (s : State) (a : AdmStep) (l : Lattice) (units : List Nat) : Except Refused AdmStep :=
  let d := a.sub
  let len := d.body 0xC 4
  let version := boundVersion s a
  let secs : Except Refused (List Section) :=
    if len = 0 then .ok []
    else readSparse l (fun t => ((version t).map Version.rowCount).getD 0) (windowBytes s (d.body 8 4) len)
  match secs with
  | .error f => .error f
  | .ok l =>
    let l := latchMaps (governed s a.n) version (latchWindows s units l)
    let r := cardingReserve s false (withVersions version l)
    if floorHolds s r then
      .ok { a with
        read := true, answered := true, sections := l, reserve := r,
        dense := windowBytes s (d.body 0x10 4) (d.body 0x14 4), labels := windowBytes s (d.body 0x18 4) (d.body 0x1C 4) }
    else .error (.noSpace, 0, 0)

/-- STEP_INPUT_BLOCKS_READ: the step stays admitted with OK, or is withdrawn (R28). A STEP_INPUT with ORDERED was admitted at
its acceptance; its blocks are read once every earlier command of its ring has completed (R28, R241). -/
def execStepInputBlocksRead (step : Nat) (units : List Nat) (s : State) : Out :=
  match nextToRead s, stepLattice s with
  | some a, some l =>
    if !s.running || a.n != step || heldByOrder s a.sub then .next s
    else
      match readStep s a l units with
      | .error f => .next (progress (withdrawStep s step f))
      | .ok a => .next (progress (finish (setStep s a) a.sub .ok))
  | _, _ => .next s

/-! ### Evaluations (R42 to R44) -/

/-- The answers of R43 after the entry checks. -/
def evalRefusal (s : State) (d : Sub) : Option Status :=
  let n := d.body 0 8
  if d.body 0xC 4 != 0 || !d.zeroFrom 0x28 || n == 0 || !blockOk (d.body 0x10 4) (d.body 0x14 4) ||
      !blockOk (d.body 0x18 4) (d.body 0x1C 4) || !blockOk (d.body 0x20 4) (d.body 0x24 4) then some .malformed
  else if n ≤ s.steps.c ∨ s.cfg.evalPolicy ≤ (s.steps.evals.filter (fun e => e.boundary == n)).length then some .rejectedLimit
  else if 64 ≤ s.steps.evals.length then some .noSpace
  else
    match latticeAt s (d.body 8 4) with
    | none => some .rejectedConfig
    | some l =>
      if !l.isEval || (sparseTables l).any (fun t => (inEffect s t).isNone) then some .rejectedConfig
      else if d.body 0x1C 4 ≠ roleSize (roleTensors l 1) ∨ d.body 0x24 4 ≠ roleSize (roleTensors l 8) ∨
          sparseLengthBad l (d.body 0x10 4) (d.body 0x14 4) = true then some .malformed
      else none

/-- EVAL_REQUEST: several requests of one handle for one boundary are held beside each other (R44). -/
def runEvalRequest (d : Sub) (s : State) : State :=
  match evalRefusal s d with
  | some st => finish s d st
  | none =>
    let n := d.body 0 8
    let h := d.body 8 4
    s.setSteps { s.steps with
      evals := s.steps.evals ++
        [{ boundary := n, handle := h, sub := d, read := false, sections := [], dense := [], delivered := false,
           reserve := 0, bindings := [], agreed := false, running := false, inst := Inst.fresh (.eval n h) h }] }

def execEvalRequest (d : Sub) (s : State) : Out := beginCommand s d (d.opcode == 0x0011) 0 (runEvalRequest d)

def dropEval (s : State) (e : EvalReq) : State :=
  s.setSteps { s.steps with evals := s.steps.evals.filter (fun x => !sameSub x.sub e.sub) }

/-- Start a request of the agreed set: it takes the versions, maps and modes in effect after its boundary (R44, R94). -/
def startEval (s : State) (e : EvalReq) : State :=
  let l := (latticeAt s e.handle).getD default
  setEval s { e with
    running := true, bindings := bindingsFor s l, sections := latchMaps s (inEffect s) e.sections }

/-- Start the first agreed request of every lattice of which none runs. -/
def startEvals (s : State) : State :=
  s.steps.evals.foldl (fun s e =>
    if e.agreed && !s.steps.evals.any (fun x => x.handle == e.handle && x.running) then startEval s e else s) s

/-- What the reading of an evaluation's blocks leaves. -/
def readEval (s : State) (e : EvalReq) (l : Lattice) (units : List Nat) : Except Refused EvalReq :=
  let d := e.sub
  let len := d.body 0x14 4
  let version := inEffect (afterSets s e.boundary)
  let secs : Except Refused (List Section) :=
    if len = 0 then .ok []
    else readSparse l (fun t => ((version t).map Version.rowCount).getD 0) (windowBytes s (d.body 0x10 4) len)
  match secs with
  | .error f => .error f
  | .ok l =>
    let l := latchWindows s units l
    let r := cardingReserve s true (withVersions version l)
    if floorHolds s r then
      .ok { e with read := true, sections := l, reserve := r, dense := windowBytes s (d.body 0x18 4) (d.body 0x1C 4) }
    else .error (.noSpace, 0, 0)

/-- EVAL_BLOCKS_READ: the request stays held, or is withdrawn (R43). -/
def execEvalBlocksRead (boundary handle : Nat) (units : List Nat) (s : State) : Out :=
  match s.steps.evals.find? (fun e => e.boundary == boundary && e.handle == handle && !e.read), latticeAt s handle with
  | some e, some l =>
    if !s.running || heldByOrder s e.sub then .next s
    else
      match readEval s e l units with
      | .error f => .next (progress (finishWith (dropEval s e) e.sub f.1 0 f.2.1 f.2.2))
      | .ok e' =>
        .next (setEval s e')
  | _, _ => .next s

/-- The bytes of a tensor. -/
def tensorBytes (s : State) (d : TensorDecl) : List Byte := memReads (tensorMem s d.id) 0 d.bytes

/-- Write an evaluation's output block: each EVAL_OUTPUT tensor at its place (R27, R42). -/
def writeOutputs (s : State) (e : EvalReq) (l : Lattice) : State :=
  let ts := roleTensors l 8
  (ts.zip (roleOffsets ts)).foldl (fun s x => windowWrite s (e.sub.body 0x20 4 + x.2) (tensorBytes s x.1)) s

/-- EVAL_COMPLETE: every vertex has retired; the output block is written and the request completes with OK (R44). -/
def execEvalComplete (boundary handle : Nat) (s : State) : Out :=
  match s.steps.evals.find? (fun e => e.boundary == boundary && e.handle == handle && e.running), latticeAt s handle with
  | some e, some l =>
    if !s.running || !instDone s e.inst || !e.delivered then .next s
    else .next (progress (startEvals (finish (dropEval (writeOutputs s e l) e) e.sub .ok)))
  | _, _ => .next s

end Sys2Proof.Machine
end

