-- ==== Sys2Proof/Machine/Hanks.lean ====
section
/-! DEFINITION. Hanks: what one holds (R316), which boundaries are secured (R317 to R321), taking (R322 to R325), targets
and mirrors (R326, R328), sealing and release (R329, R330), the securing round (R319). -/

namespace Sys2Proof.Machine

/-! ### Contents (R316) -/

/-- The values of the keys that a hank holds, as item values (Tables 2.4 and 14.21). -/
def optValue (m : Assoc Nat OptParams) : List Byte :=
  m.flatMap (fun x =>
    leBytes 4 x.1 ++ [x.2.lr, x.2.beta1, x.2.beta2, x.2.eps, x.2.wd, x.2.c1, x.2.c2].flatMap (fun v => leBytes 2 v.toNat) ++
    List.replicate 6 0)

def lossValue (p : LossPolicy) : List Byte :=
  leBytes 1 (if p.fixed then 1 else 0) ++ leBytes 1 p.exponent ++ leBytes 1 p.minExponent ++ leBytes 1 p.maxExponent ++
  leBytes 4 p.growth

def secureValue (p : SecurePolicy) : List Byte :=
  leBytes 1 p.mode ++ leBytes 1 p.hanksKept ++ leBytes 1 p.stagingGB ++ leBytes 1 (if p.fabric then 1 else 0) ++
  leBytes 4 p.pinnedInterval ++ leBytes 4 p.initialInterval ++ leBytes 4 p.priorSteps ++ leBytes 8 p.fabricOffset ++
  leBytes 8 p.fabricLength

def heldConfig (s : State) : List (Nat × List Byte) :=
  s.cfg.skeinMaps.map (fun m => (1, leBytes 2 m.1 ++ leBytes 2 0 ++ leBytes 4 m.2.length ++ m.2.flatMap (leBytes 2))) ++
  [(3, lossValue s.cfg.lossPolicy), (5, secureValue s.cfg.secure)] ++
  [(9, optValue s.cfg.opt), (10, s.cfg.pooling.flatMap (fun p => leBytes 2 p.1 ++ leBytes 1 p.2 ++ [0])),
   (12, leBytes 1 s.cfg.evalPolicy)] ++
  (match s.cfg.buddies with
   | some l => [(13, l.flatMap (leBytes 2))]
   | none => [])

/-- The owned rows of a version that are not all zero, or are poisoned. -/
def ownedRowsOf (s : State) (v : Version) : List (Nat × Nat × Nat × List Byte × Bool) :=
  let l := sortDistinct (v.rows.map (·.1) ++ v.poisoned)
  (l.filter (fun r => rowOwner s v.table r v.skeinLog2 == s.member)).map (fun r =>
    (v.table, v.number, r, v.record r, v.poisoned.contains r))

/-- Versions bound to the step after a boundary: those in effect. -/
def effectVersions (s : State) : List Version := s.tables.versions.filter Version.inEffect

/-- Owned dense weights. -/
def ownedWeights (s : State) : List (Nat × Nat × BitVec 16) :=
  (parameters s).flatMap (fun d =>
    ((shardsOf s d).filter (fun x => x.2 == s.member)).flatMap (fun x =>
      (shardRange s d x.1).map (fun i => (d.id, i, BitVec.ofNat 16 (readElem (tensorMem s d.id) 4 i)))))

def hankImage (s : State) (b : Nat) : HankImage :=
  { boundary := b, member := s.member, seed := s.regs.jobSeed, members := s.members, sealedLoss := 0,
    lastSched := s.securing.lastSched, nextSched := s.securing.nextSched,
    buddies := s.members.filterMap (buddyOf s s.cfg.buddies),
    rows := (effectVersions s).flatMap (ownedRowsOf s), dense := ownedWeights s,
    slots := s.dense.slots.flatMap (fun m => m.2.map (fun c => (m.1.1, m.1.2, c.1, c.2))),
    digests := ((allShards s).filter (fun x => x.2 == s.member)).filterMap (fun x =>
      (findReplica s x.1).bind (fun r => r.published.map (fun p => (x.1, p.2)))),
    exponent := s.steps.exponent, clean := s.steps.clean, config := heldConfig s,
    bindings := (effectVersions s).map (fun v => (v.table, v.number)),
    versions := (effectVersions s).map (fun v =>
      (v.table, v.number,
        [v.rowCount, v.width, v.elemFormat, v.blockLog2, v.skeinLog2, v.optimiser, v.stateFormat, v.stateBlockLog2,
         v.stateSlots, v.hint] ++ v.hints)),
    pages := (s.tables.pages.filter (fun p => (findVersion s p.ref.table p.ref.version).any Version.inEffect)).map (fun p =>
      (p.ref, p.home, p.logSeq)) }

/-! ### Taking (R322 to R325, R328) -/

/-- A page protected by a hank taken now: dirty and placed, or homed in CXL memory and changed since the newest kept hank
(R322). -/
def protectedPage (s : State) (p : Page) : Bool :=
  (findVersion s p.ref.table p.ref.version).any Version.inEffect &&
  ((p.dirty && p.tier != .flash) || (cxlTier p.home && (p.changed || s.securing.hanks.isEmpty)))

/-- A hank is being taken until its copies have reached local flash (R325). -/
def takenHanks (s : State) : List Hank := s.securing.hanks.filter (fun h => !h.localDone)

/-- Owned dense state [bytes]. -/
def hankBytes (s : State) (h : Hank) : Nat := h.copies * Constants.pageBytes + ownedDense s

/-- Use of the secured-state area: local copies, received mirrors, and the log versions named. -/
def securedUse (s : State) : Nat :=
  sumOf (s.securing.hanks.map (hankBytes s)) +
  sumOf (s.securing.mirrors.map (fun m => sumOf (m.data.map (fun f => 72 * f.lines.length)))) +
  Constants.pageBytes * (s.tables.older.filter (fun o => s.securing.hanks.any (fun h => h.names.contains o))).length

/-- Release a hank on every target (R330). -/
def dropHank (s : State) (b : Nat) : State :=
  s.setSecuring { s.securing with hanks := s.securing.hanks.filter (fun h => h.boundary != b) }

/-- Release sealed usable hanks beyond the newest `keep`, oldest first. -/
def releaseHanks (s : State) (keep : Nat) : State :=
  let good := s.securing.hanks.filter (fun h => h.sealedLoss.isSome && !h.unusable)
  let out := good.take (good.length - keep)
  out.foldl (fun s h => dropHank s h.boundary) s

/-- The boundary is secured: scheduled or requested (R317). -/
def isSecured (s : State) (b : Nat) : Bool := s.securing.nextSched == some b || s.securing.requested.contains b

/-- No scheduled hank is pending because a round failed (R319, R321). -/
def roundFailed (s : State) : Bool :=
  s.cfg.secure.mode == 0 && s.securing.nextSched.isNone &&
  !s.securing.hanks.any (fun h => h.boundary == s.securing.lastSched && !h.unusable)

/-- The schedule passes boundary b (R318, R321). -/
def passSchedule (s : State) (b : Nat) : State :=
  let sched := s.securing.nextSched == some b || roundFailed s
  let c := s.securing
  s.setSecuring { c with
    requested := c.requested.filter (· != b),
    lastSched := if sched then b else c.lastSched,
    nextSched := if sched then (if s.cfg.secure.mode = 1 then some (b + s.cfg.secure.pinnedInterval) else none) else c.nextSched,
    decided := c.decided && !sched }

/-- E_step at a boundary: the energy of the 16 steps before it, divided by 16 (R319). -/
def stepEnergy (s : State) : Nat :=
  (nth s.securing.energyAt 0 0 - nth s.securing.energyAt 16 (nth s.securing.energyAt (s.securing.energyAt.length - 1) 0)) / 16

/-- Take hank b: its pages are protected, the rest is named, and the securing hold begins (R322, R324); its writes
queue operations for the NAND channels. One that cannot fit is abandoned (R328). -/
def takeHank (s : State) (b : Nat) : State :=
  let s := passSchedule s b
  let ps := s.tables.pages.filter (protectedPage s)
  let h : Hank :=
    { boundary := b, image := hankImage s b, uncopied := ps.map Page.ref, staged := [],
      names := ((s.tables.pages.filter (fun p => !protectedPage s p && p.home == .flash)).map (fun p => (p.ref, p.logSeq))),
      denseDone := false, localDone := false, buddyDone := false, fabricDone := false, nextLoss := none,
      sealedLoss := none, unusable := false, copies := ps.length, eStep := stepEnergy s, sent := false }
  let fits (s : State) : Bool := decide (securedUse s + hankBytes s h ≤ Constants.securedArea)
  let s := if fits s then s else releaseHanks s 2
  if fits s then
    let s := s.setTables { s.tables with pages := s.tables.pages.map (fun p =>
      if (findVersion s p.ref.table p.ref.version).any Version.inEffect then { p with changed := false } else p) }
    wakeChannels (s.setSecuring { s.securing with hanks := s.securing.hanks ++ [h], hold := some b }) (List.range 16)
  else s.setTelemetry { s.telemetry with hanksAbandoned := s.telemetry.hanksAbandoned + 1 }

/-! ### Mirrors (R326) -/

/-- 64-byte lines of a byte list. -/
def linesOf (bs : List Byte) : List (List Byte) := (chunksOf 64 bs.length bs).map (padTo 64)

/-- The frames of one part of a mirror, 56 lines each at most. -/
def partFrames (s : State) (b part position : Nat) (bs : List Byte) : List HankDataF :=
  let key := hankKey (s.security.jobKey.getD []) s.member b
  let ls := (linesOf bs).zipIdx
  (chunksOf 56 ls.length ls).map (fun c =>
    { boundary := b, origin := s.member, part := part, position := position, firstLine := (c.head?.map (·.2)).getD 0,
      sealedLoss := 0, lines := c.map (fun l => hankLine key position l.2 l.1) })

/-- The bytes of a page as a hank holds it. -/
def imagePage (h : HankImage) (v : Version) (p : Page) : List Byte :=
  p.rows.flatMap (fun r =>
    match h.rows.find? (fun x => x.1 == v.table && x.2.1 == v.number && x.2.2.1 == r) with
    | some x => x.2.2.2.1
    | none => List.replicate v.recordSize 0)

/-- The header and names of a mirror. -/
def headerBytes (h : HankImage) : List Byte :=
  leBytes 8 h.seed.toNat ++ leBytes 8 h.boundary ++ leBytes 2 h.member ++ h.members.flatMap (leBytes 2) ++
  h.buddies.flatMap (leBytes 2) ++ leBytes 8 h.lastSched ++ leBytes 8 (h.nextSched.getD 0) ++ leBytes 1 h.exponent ++
  leBytes 4 h.clean ++ h.config.flatMap (fun c => leBytes 2 c.1 ++ leBytes 4 c.2.length ++ c.2) ++
  h.bindings.flatMap (fun x => leBytes 4 x.1 ++ leBytes 4 x.2) ++
  h.digests.flatMap (fun x => leBytes 8 x.1 ++ leBytes 8 x.2.toNat)

def denseBytes (h : HankImage) : List Byte :=
  h.dense.flatMap (fun x => leBytes 2 x.2.2.toNat) ++ h.slots.flatMap (fun x => [x.2.2.2])

/-- The frames of a hank's mirror: every owned page, or those that differ from the hank mirrored there before. -/
def mirrorFrames (s : State) (h : Hank) (old : Option HankImage) : List HankDataF :=
  let pages := s.tables.pages.zipIdx.filterMap (fun x =>
    match findVersion s x.1.ref.table x.1.ref.version with
    | some v =>
      if v.inEffect then
        let bs := imagePage h.image v x.1
        if old.any (fun o => imagePage o v x.1 == bs) then none else some (x.2, bs)
      else none
    | none => none)
  pages.flatMap (fun x => partFrames s h.boundary 0 x.1 x.2) ++ partFrames s h.boundary 1 0 (denseBytes h.image) ++
  partFrames s h.boundary 2 0 (headerBytes h.image)

/-- Frames with the number of the 1 MiB of the transfer that each begins in: a flow of its own for each MiB (R306). -/
def byMiB (l : List HankDataF) : List (Nat × HankDataF) :=
  (l.foldl (fun (a : List (Nat × HankDataF) × Nat) f => (a.1 ++ [(a.2 / 2 ^ 20, f)], a.2 + 64 * f.lines.length)) ([], 0)).1

/-- Send a hank's mirror to the buddy once it is complete in local flash: full where this buddy has none. -/
def sendMirror (s : State) (h : Hank) : State :=
  match buddyOf s s.cfg.buddies s.member with
  | none => s
  | some m =>
    let old := s.securing.mirrored.bind (fun x => if x.1 = m then some x.2 else none)
    let s := (byMiB (mirrorFrames s h old)).foldl (fun s f => sendTo s m [h.boundary, f.1] (.hankData f.2)) s
    s.setSecuring { s.securing with mirrored := some (m, h.image) }

/-- A hank whose copies and dense state have all reached local flash, and to which no skein is still to come, is complete
there; its other targets follow (R322, R325, R326). -/
def settleHank (s : State) (h : Hank) : State :=
  if h.localDone || s.tables.arriving.any (fun a => a.1 == h.boundary) || !h.uncopied.isEmpty || !h.staged.isEmpty || !h.denseDone then s
  else
    let s := s.setTelemetry { s.telemetry with securedBytes := s.telemetry.securedBytes + ownedDense s }
    let s := sendMirror s h
    s.setSecuring { s.securing with
      hanks := s.securing.hanks.map (fun k =>
        if k.boundary == h.boundary then { k with localDone := true, sent := true, fabricDone := s.cfg.secure.fabric } else k) }

def settleHanks (s : State) : State := s.securing.hanks.foldl settleHank s

/-! ### Staging (R141, R323 to R325, R365) -/

/-- Pages whose copies stand in hank staging: those not yet in local flash, and those an export still reads. -/
def stagedPages (s : State) : List PageRef :=
  (s.securing.hanks.flatMap Hank.staged ++ s.outputs.exports.flatMap ExportJob.staged).foldl
    (fun l r => if l.contains r then l else l ++ [r]) []

/-- Bytes that hank staging holds: copies of pages, and the dense state of hanks being taken (R323, R324). -/
def stagingUse (s : State) : Nat :=
  (stagedPages s).length * Constants.pageBytes +
  ((takenHanks s).filter Hank.denseDone).length * ownedDense s

/-- Hank staging has room for so many more bytes. -/
def stagingRoom (s : State) (n : Nat) : Bool := decide (stagingUse s + n ≤ s.cfg.secure.stagingGB * 10 ^ 9)

/-- A page leaves one list and joins another. -/
def movePage (p : PageRef) (x : List PageRef × List PageRef) : List PageRef × List PageRef :=
  if x.1.contains p then (x.1.filter (· != p), x.2 ++ [p]) else x

/-- A protected or pinned page is copied into staging; the copy serves every hank and export that waits for it (R323, R325,
R365), and its write to local flash is queued. -/
def copyPage (s : State) (p : PageRef) : State :=
  let s := s.setSecuring { s.securing with
    hanks := s.securing.hanks.map (fun h =>
      let x := movePage p (h.uncopied, h.staged)
      { h with uncopied := x.1, staged := x.2 }) }
  let s := s.setOutputs { s.outputs with
    exports := s.outputs.exports.map (fun e =>
      let x := movePage p (e.pinned, e.staged)
      { e with pinned := x.1, staged := x.2 }) }
  if s.securing.hanks.any (fun h => h.staged.contains p) then wakeChannels s (pageChannels p) else s

/-- The copier writes a page from staging to the secured-state area (R323). -/
def writeCopy (s : State) (p : PageRef) : State :=
  let s := s.setTelemetry { s.telemetry with securedBytes := s.telemetry.securedBytes + Constants.pageBytes }
  s.setSecuring { s.securing with
    hanks := s.securing.hanks.map (fun h => { h with staged := h.staged.filter (· != p) }) }

/-- HANK_PAGE_COPY: a protected or pinned page that is not copied goes into staging, once that has room and the page has
landed whole; a copy in staging goes on to local flash, once the NAND channels are ON (R141, R286, R322, R323). The copier of
each memory die takes pages in descending heat, those that updates wait for ahead; the command names the page taken. -/
def execHankPageCopy (boundary : Nat) (page : PageRef) (s : State) : Out :=
  if !s.running then .next s
  else if s.securing.hanks.any (fun h => h.boundary == boundary && h.uncopied.contains page) ||
      s.outputs.exports.any (fun e => e.started && e.boundary == boundary && e.pinned.contains page) then
    if stagingRoom s Constants.pageBytes && (pageAt s page).all (fun p => !p.unsettled) then .next (progress (settleHanks (copyPage s page))) else .next s
  else if s.securing.hanks.any (fun h => h.boundary == boundary && h.staged.contains page) &&
      channelsOn s (pageChannels page) then .next (progress (settleHanks (writeCopy s page)))
  else .next s

/-- SECURING_HOLD_END: the dense state has been copied into staging, which had room for it, and no more than two hanks are
being taken: the update phase of the next step is admitted (R324, R325). -/
def execSecuringHoldEnd (boundary : Nat) (s : State) : Out :=
  if !s.running || s.securing.hold != some boundary || !stagingRoom s (ownedDense s) ||
      decide (2 ≤ ((takenHanks s).filter (fun h => h.boundary != boundary)).length) then .next s
  else
    let s := s.setSecuring { s.securing with
      hold := none,
      hanks := s.securing.hanks.map (fun h => if h.boundary == boundary then { h with denseDone := true } else h) }
    .next (progress (settleHanks s))

/-! ### The securing round (R319) -/

def doubleF : FFmt := { ebits := 11, fbits := 52, bias := 1023 }

def r64 (v : FVal) : FVal := roundTo doubleF v
def natV (n : Nat) : FVal := r64 (.fin false n 0)

/-- floor of a finite value that is not negative. -/
def floorV (v : FVal) : Option Nat :=
  match v with
  | .fin _ m e => some (if 0 ≤ e then m * 2 ^ e.toNat else m / 2 ^ (-e).toNat)
  | _ => none

/-- Young's rule in binary64, limited to 50 to 1,000,000 (R319). A sum of zero step energy gives no number that the
manual states: the interval is then a free value within the limits. -/
def youngInterval (eSecure eStep r o c prior : Nat) : Nat :=
  let cost := r64 ((natV eSecure).div (natV eStep))
  let mean := r64 ((natV (c + prior)).div (natV (r + o + 1)))
  let root := r64 ((r64 ((r64 ((natV 2).mul cost)).mul mean)).sqrt)
  match floorV (r64 (root.add (.fin false 1 (-1)))) with
  | some n => min (max n 50) 1000000
  | none => 50 + Free.nonFinite eSecure eStep % 999951

/-- Children of this member on the commit tree. -/
def commitChildren (s : State) : List Nat := [treeLeft s.members 0 s.member, treeRight s.members 0 s.member].filterMap id

/-- A securing decision is taken: the next scheduled boundary, while the schedule is adaptive (R318, R319). -/
def takeSecuringDecision (s : State) (f : SecuringDecisionF) : State :=
  if s.cfg.secure.mode = 0 ∧ f.hank = s.securing.lastSched then
    s.setSecuring { s.securing with nextSched := some f.next, decided := true }
  else s

/-- Pass a decision to the children in the flow of commit decisions. -/
def passSecuring (s : State) (f : SecuringDecisionF) : State :=
  (commitChildren s).foldl (fun s m => sendTo s m [0] (.securingDecision f)) s

/-- Send the member's combined report of the round for its last scheduled hank, once it has sealed and both children have
reported; the root decides. -/
def tryRound (s : State) : State :=
  let h := s.securing.lastSched
  let kids := commitChildren s
  let got := kids.filterMap (fun m => (s.securing.reports.find? (fun r => r.1 == m && r.2.hank == h)).map (·.2))
  match s.securing.hanks.find? (fun k => k.boundary == h && k.sealedLoss.isSome) with
  | none => s
  | some k =>
  if s.cfg.secure.mode != 0 || s.securing.reported == some h || got.length != kids.length then s
  else
    let own : SecuringReportF :=
      { hank := h, eSecure := Free.securingEnergy s.freeCount, eStep := k.eStep, r := s.securing.failR, o := s.securing.failO }
    let s := s.bump
    let sum := got.foldl (fun (a b : SecuringReportF) =>
      { a with eSecure := a.eSecure + b.eSecure, eStep := a.eStep + b.eStep, r := max a.r b.r, o := a.o + b.o }) own
    let s := s.setSecuring { s.securing with
      reported := some h, reports := s.securing.reports.filter (fun r => r.2.hank != h) }
    match treeParent s.members 0 s.member with
    | some p => sendTo s p [0] (.securingReport sum)
    | none =>
      let n := youngInterval sum.eSecure sum.eStep sum.r sum.o s.steps.c s.cfg.secure.priorSteps
      let f : SecuringDecisionF := { hank := h, next := max (h + n) (s.steps.c + 2) }
      takeSecuringDecision (passSecuring s f) f

/-- SECURING_REPORT: a child's report (R319). -/
def execSecuringReport (rx : Rx) (f : SecuringReportF) (s : State) : Out :=
  receive s rx 0x40 (.securingReport f) true (fun s =>
    if (commitChildren s).contains rx.source then
      tryRound (s.setSecuring { s.securing with reports := s.securing.reports ++ [(rx.source, f)] })
    else s)

/-- SECURING_DECISION: the next scheduled hank boundary comes down the tree (R319). -/
def execSecuringDecision (rx : Rx) (f : SecuringDecisionF) (s : State) : Out :=
  receive s rx 0x40 (.securingDecision f) true (fun s =>
    if treeParent s.members 0 s.member = some rx.source then takeSecuringDecision (passSecuring s f) f else s)

/-! ### Sealing (R329, R330) -/

/-- Frames of a hank are still on their way to the buddy: waiting, or sent and not acknowledged. -/
def mirrorOut (s : State) (b : Nat) : Bool :=
  let mine (f : OutFrame) : Bool := match f.body with
    | .hankData d => d.boundary == b && d.origin == s.member
    | _ => false
  s.links.waiting.any mine || s.links.ports.any (fun p => p.replay.any (fun r => mine r.2))

/-- Targets written: bit 0 local, bit 1 buddy, bit 2 fabric. -/
def hankTargets (s : State) (h : Hank) : Nat :=
  1 + (if h.sent && (buddyOf s s.cfg.buddies s.member).isSome && !mirrorOut s h.boundary then 2 else 0) +
  (if h.fabricDone then 4 else 0)

/-- A mirror goes; lines that no newer mirror of its origin replaces pass to the next of them (R326). -/
def dropMirror (l : List Mirror) (m : Mirror) : List Mirror :=
  let newer := (l.filter (fun k => k.origin == m.origin && decide (m.boundary < k.boundary))).map Mirror.boundary
  (l.filter (fun k => !(k.origin == m.origin && k.boundary == m.boundary))).map (fun k =>
    if k.origin = m.origin ∧ m.boundary < k.boundary ∧ newer.all (fun b => k.boundary ≤ b) then
      { k with data := m.data.filter (fun f => !k.data.any (fun g =>
          g.part == f.part && g.position == f.position && g.firstLine == f.firstLine)) ++ k.data }
    else k)

/-- A mirror serves no hank that is kept. DEDUCED (log 91): no frame tells of a release, so the buddy counts the seals of the
origin as R330 does; one that is the buddy no more releases with its own hanks, which lie at the same boundaries (R317). -/
def mirrorOver (s : State) (m : Mirror) : Bool :=
  if buddyOf s s.cfg.buddies m.origin = some s.member then
    m.sealedLoss.isSome && decide (s.cfg.secure.hanksKept ≤ (s.securing.mirrors.filter (fun k =>
      k.origin == m.origin && k.sealedLoss.isSome && decide (m.boundary < k.boundary))).length)
  else
    let own := s.securing.hanks.filter (fun h => h.sealedLoss.isSome)
    !own.isEmpty && own.all (fun h => decide (m.boundary < h.boundary))

/-- Release the mirrors of hanks no longer kept, oldest first (R327, R330). -/
def releaseMirrors (s : State) : State :=
  let out := sortBy (fun a b => decide (a.boundary ≤ b.boundary)) (s.securing.mirrors.filter (mirrorOver s))
  s.setSecuring { s.securing with mirrors := out.foldl dropMirror s.securing.mirrors }

/-- HANK_SEAL: a hank whose targets are complete and whose next decision is known seals; older ones beyond HANKS_KEPT are
released, and the securing round may go on (R319, R329, R330). -/
def execHankSeal (boundary : Nat) (s : State) : Out :=
  match s.securing.hanks.find? (fun h => h.boundary == boundary) with
  | none => .next s
  | some h =>
    let targets := hankTargets s h
    match h.nextLoss with
    | none => .next s
    | some loss =>
      if !s.running || !h.localDone || h.sealedLoss.isSome || h.unusable ||
          (targets = 1 && !(s.jobSize == 1 && !s.cfg.secure.fabric)) then .next s
      else
        let s := s.setSecuring { s.securing with
          hanks := s.securing.hanks.map (fun k =>
            if k.boundary == boundary then { k with sealedLoss := some loss, buddyDone := bitAt targets 1 } else k) }
        let s := s.setTelemetry { s.telemetry with hanksSealed := s.telemetry.hanksSealed + 1 }
        let s := match buddyOf s s.cfg.buddies s.member with
          | some m =>
            if bitAt targets 1 then
              sendTo s m [boundary] (.hankData
                { boundary := boundary, origin := s.member, part := 3, position := 0, firstLine := 0, sealedLoss := loss, lines := [] })
            else s
          | none => s
        let s := postEvent s controllerDie (stepNow s) (.hankSealed boundary loss targets)
        .next (tryRound (releaseMirrors (releaseHanks s s.cfg.secure.hanksKept)))

/-- HANK_DATA: mirror lines or a seal from a member whose buddy this is, stored unchanged; a seal may release older ones (R326, R330). -/
def takeHankData (s : State) (f : HankDataF) : State :=
  let same (m : Mirror) : Bool := m.origin == f.origin && m.boundary == f.boundary
  let old := (s.securing.mirrors.find? same).getD { origin := f.origin, boundary := f.boundary, data := [], sealedLoss := none }
  let new : Mirror := if f.part = 3 then { old with sealedLoss := some f.sealedLoss } else { old with data := old.data ++ [f] }
  let s := s.setTelemetry { s.telemetry with securedBytes := s.telemetry.securedBytes + 64 * f.lines.length }
  releaseMirrors (s.setSecuring { s.securing with
    mirrors := if s.securing.mirrors.any same then s.securing.mirrors.map (fun m => if same m then new else m)
      else s.securing.mirrors ++ [new] })

def execHankData (rx : Rx) (f : HankDataF) (s : State) : Out :=
  receive s rx 0x30 (.hankData f) (decide (f.lines.length ≤ 56 ∧ f.part ≤ 3) && f.lines.all (fun l => l.1.length == 64))
    (fun s => takeHankData s f)

/-! ### SECURE_NOW and REPORT_FAILURE (R320, R321) -/

def runSecureNow (d : Sub) (s : State) : State :=
  let b := d.body 0 8
  if !d.zeroFrom 8 || b == 0 then finish s d .malformed
  else if b ≤ s.steps.c ∨ b + 1 ≤ s.steps.a then finish s d .rejectedConfig
  else
    finish (if s.securing.requested.contains b then s
      else s.setSecuring { s.securing with requested := s.securing.requested ++ [b] }) d .ok

def execSecureNow (d : Sub) (s : State) : Out := beginCommand s d (d.opcode == 0x0040) 0 (runSecureNow d)

def runReportFailure (d : Sub) (s : State) : State :=
  let n := d.body 0 2
  let m := d.body 2 2
  if n == 0 || !d.zeroFrom 4 || (m != 0xFFFF && !s.members.contains m) then finish s d .malformed
  else finish (s.setSecuring { s.securing with failR := s.securing.failR + n }) d .ok

def execReportFailure (d : Sub) (s : State) : Out := beginCommand s d (d.opcode == 0x0042) 0 (runReportFailure d)

end Sys2Proof.Machine
end

