-- ==== Sys2Proof/Machine/Exports.lean ====
section
/-! DEFINITION. Exports (R363 to R366), the control of the delta stream (R369, R371), and telemetry snapshots (R372,
R373). -/

namespace Sys2Proof.Machine

/-! ### EXPORT_SKEIN -/

def exportFormatBad (d : Sub) : Bool :=
  let f := d.body 2 1
  let l := d.body 3 1
  decide (3 < f) || (if f = 0 then l != 0 else decide (l < 4 ∨ 7 < l))

/-- The row width is no multiple of B; an unknown version has no width to hold against it. -/
def exportWidthBad (s : State) (d : Sub) : Bool :=
  d.body 2 1 != 0 && (findVersion s (d.body 0 2) (d.body 4 4)).any (fun v => v.width % 2 ^ d.body 3 1 != 0)

/-- The member will own a skein of the range at boundary b. -/
def willOwn (g : State) (table first count : Nat) : Bool :=
  (List.range count).any (fun i => ownerOfSkein g.members (skeinMapOf g table) (first + i) == g.member)

/-- The answers of R364 after the entry checks. -/
def exportRefusal (s : State) (d : Sub) : Option Status :=
  let t := d.body 0 2
  let b := d.body 8 8
  let first := d.body 0x10 4
  let count := d.body 0x14 4
  let off := d.body 0x18 4
  let len := d.body 0x1C 4
  if !d.zeroFrom 0x20 || exportFormatBad d || exportWidthBad s d || off % 65536 != 0 || len % 65536 != 0 ||
      decide (len < 2 ^ 20 ∨ 2 ^ 32 < off + len) || count == 0 || b == 0 then some .malformed
  else if !(ringAt s 10).active || decide (b ≤ s.steps.c) || decide (b + 1 ≤ s.steps.a) then some .rejectedConfig
  else
    match findVersion s t (d.body 4 4) with
    | none => some .versionUnknown
    | some v =>
      let g := afterSets s b
      if !(findVersion g t v.number).any Version.inEffect || decide (2 ^ v.skeinLog2 < first + count) || !willOwn g t first count then
        some .rejectedConfig
      else if 4 ≤ s.outputs.exports.length then some .rejectedLimit
      else none

def newExport (d : Sub) : ExportJob :=
  { sub := d, table := d.body 0 2, version := d.body 4 4, format := d.body 2 1, blockLog2 := d.body 3 1, boundary := d.body 8 8,
    first := d.body 0x10 4, count := d.body 0x14 4, stagingOffset := d.body 0x18 4, stagingLength := d.body 0x1C 4,
    started := false, todo := [], pinned := [], staged := [], names := [], written := 0, poisoned := 0, place := 0, chunks := [] }

def runExportSkein (d : Sub) (s : State) : State :=
  match exportRefusal s d with
  | some st => finish s d st
  | none => s.setOutputs { s.outputs with exports := s.outputs.exports ++ [newExport d] }

def execExportSkein (d : Sub) (s : State) : Out := beginCommand s d (d.opcode == 0x0050) 0 (runExportSkein d)

/-! ### Running an export (R365) -/

def setExport (s : State) (e : ExportJob) : State :=
  s.setOutputs { s.outputs with exports := s.outputs.exports.map (fun x => if sameSub x.sub e.sub then e else x) }

/-- The rows of a skein as they stand: skein, row, record, poison mark. -/
def skeinTodo (v : Version) (skein : Nat) : List (Nat × Nat × List Byte × Bool) :=
  (v.skeinRows skein).map (fun r => (skein, r, v.served r, v.poisoned.contains r))

/-- Skeins of an export's range that have not landed here. -/
def exportWaits (s : State) (e : ExportJob) (skein : Nat) : Bool :=
  s.tables.arriving.any (fun a => a.2.1 == e.table && a.2.2.1 == skein)

def exportSkeins (s : State) (e : ExportJob) : List Nat :=
  ((List.range e.count).map (e.first + ·)).filter (fun k => ownerOfSkein s.members (skeinMapOf s e.table) k == s.member)

/-- The pages of an export's skeins: those outside flash are pinned until they are copied, and the log versions of those in
flash are named so that the log keeps them (R110, R365). -/
def pinPages (s : State) (e : ExportJob) (skeins : List Nat) : ExportJob :=
  let ps := s.tables.pages.filter (fun p =>
    p.ref.table == e.table && p.ref.version == e.version && skeins.contains p.ref.skein)
  { e with
    pinned := e.pinned ++ (ps.filter (fun p => p.tier != .flash)).map Page.ref,
    names := e.names ++ (ps.filter (fun p => p.tier == .flash)).map (fun p => (p.ref, p.logSeq)) }

/-- At its boundary an export pins every page of its range and fixes the rows it writes. -/
def startExport (s : State) (e : ExportJob) : State :=
  match findVersion s e.table e.version with
  | none => s
  | some v =>
    let ks := (exportSkeins s e).filter (fun k => !exportWaits s e k)
    setExport s { pinPages s e ks with started := true, todo := ks.flatMap (skeinTodo v) }

def startExports (s : State) (b : Nat) : State :=
  (s.outputs.exports.filter (fun e => e.boundary == b && !e.started)).foldl startExport s

/-- A skein that has landed is exported in its place (R365). -/
def exportLanded (s : State) (b table skein : Nat) : State :=
  (s.outputs.exports.filter (fun e =>
      e.started && e.boundary == b && e.table == table && decide (e.first ≤ skein ∧ skein < e.first + e.count))).foldl
    (fun s e =>
      match findVersion s e.table e.version with
      | none => s
      | some v =>
        let (lo, hi) := e.todo.partition (fun x => decide (x.1 < skein))
        setExport s { pinPages s e [skein] with todo := lo ++ skeinTodo v skein ++ hi }) s

/-- Copies in staging that the rows still to write need (R365). -/
def stillStaged (s : State) (e : ExportJob) : List PageRef :=
  e.staged.filter (fun r => (pageAt s r).any (fun p => e.todo.any (fun x => p.rows.contains x.2.1)))

/-- An entry of a chunk: row number, then the record or its converted bytes; zeros for a poisoned row. -/
def exportEntry (s : State) (e : ExportJob) (v : Version) (x : Nat × Nat × List Byte × Bool) : List Byte :=
  let row := x.2.1
  let data := if e.format = 0 then x.2.2.1
    else blockBytes e.format (2 ^ e.blockLog2) (rowKey s v.table e.boundary 5 0) (row * v.width)
      ((List.range v.width).map (v.element x.2.2.1))
  let data := if x.2.2.2 then List.replicate data.length 0 else data
  padTo (alignUp (8 + data.length) 8) (leBytes 8 row ++ data)

/-- Chunks whose ring-10 record software has not consumed. -/
def liveChunks (s : State) (e : ExportJob) : List (Word32 × Nat × Nat) :=
  let r := ringAt s 10
  e.chunks.filter (fun c => decide ((c.1 - r.consumer).toNat < r.used))

/-- Where the next chunk goes in the staging range: after the one before, or at the start where it does not fit. -/
def chunkPlace (e : ExportJob) (len : Nat) : Nat := if e.place + len ≤ e.stagingLength then e.place else 0

def writeExport (s : State) (x : ExportRecord) : State :=
  let r := ringAt s 10
  setRing (s.setRings { s.rings with exports := s.rings.exports ++ [(r.producer, x)] }) 10 (r.advance 1)

/-- EXPORT_CHUNK: a chunk of so many rows of one skein is written and announced; with no row left, the end record and the
completion follow (R365, R366). -/
def execExportChunk (ring : Nat) (index : Word32) (rows : Nat) (s : State) : Out :=
  let r := ringAt s 10
  match s.outputs.exports.find? (fun e => e.sub.ring == ring && e.sub.index == index && e.started) with
  | none => .next s
  | some e =>
    match findVersion s e.table e.version with
    | none => .next s
    | some v =>
      let record : ExportRecord :=
        { isEnd := false, commandId := e.sub.commandId, boundary := e.boundary, table := e.table, version := e.version,
          skein := 0, entries := 0, chunkOffset := 0, chunkLength := 0, poisoned := 0 }
      let waits (skein : Nat) : Bool := (List.range (skein - e.first)).any (fun i => exportWaits s e (e.first + i))
      if !s.running || !r.active || r.free = 0 then .next s
      else
        match e.todo with
        | [] =>
          if rows ≠ 0 ∨ waits (e.first + e.count) = true then .next s
          else
            let s := writeExport s { record with isEnd := true, skein := 0xFFFFFFFF, entries := e.written, poisoned := e.poisoned }
            let s := s.setOutputs { s.outputs with exports := s.outputs.exports.filter (fun x => !sameSub x.sub e.sub) }
            .next (progress (finishWith s e.sub .ok 0 e.written e.poisoned))
        | first :: _ =>
          let now := e.todo.take rows
          let bytes := now.flatMap (exportEntry s e v)
          let at_ := chunkPlace e bytes.length
          let live := liveChunks s e
          if rows = 0 || decide (e.todo.length < rows) || now.any (fun x => x.1 != first.1) || decide (2 ^ 20 < bytes.length) ||
              waits first.1 || live.any (fun c => decide (c.2.1 < at_ + bytes.length ∧ at_ < c.2.1 + c.2.2)) then .next s
          else
            let bad := (now.filter (fun x => x.2.2.2)).length
            let s := windowWrite s (e.stagingOffset + at_) bytes
            let s := writeExport s { record with
              skein := first.1, entries := rows, chunkOffset := e.stagingOffset + at_, chunkLength := bytes.length, poisoned := bad }
            let e := { e with todo := e.todo.drop rows }
            .next (setExport s { e with
              staged := stillStaged s e, written := e.written + rows, poisoned := e.poisoned + bad, place := at_ + bytes.length,
              chunks := live ++ [(r.producer, at_, bytes.length)] })

/-! ### DELTA_CONTROL (R369, R371) -/

/-- DELTA_CONTROL, the operation at the next boundary; an OPERATION above 1 is answered as a start. -/
def runDeltaControl (d : Sub) (s : State) : State :=
  let op := d.body 0 1
  if 1 < op ∨ d.zeroFrom 1 = false then finish s d .malformed
  else if op = 1 ∧ (ringAt s 11).active = false then finish s d .rejectedConfig
  else s.setOutputs { s.outputs with deltaPending := s.outputs.deltaPending ++ [(d, op == 1)] }

def execDeltaControlStart (d : Sub) (s : State) : Out :=
  beginCommand s d (d.opcode == 0x0051 && d.body 0 1 != 0) 0 (runDeltaControl d)

def execDeltaControlStop (d : Sub) (s : State) : Out :=
  beginCommand s d (d.opcode == 0x0051 && d.body 0 1 == 0) 0 (runDeltaControl d)

/-- Pending operations take effect and complete with boundary b; a restore completes them too (R369). -/
def settleDelta (s : State) (b : Nat) : State :=
  s.outputs.deltaPending.foldl (fun s x =>
    finishWith (s.setOutputs { s.outputs with deltaOn := x.2, deltaGap := x.2 && s.outputs.deltaGap }) x.1 .ok 0 b 0)
    (s.setOutputs { s.outputs with deltaPending := [] })

/-- The delta stream at boundary b: pending operations take effect, and a gap ends where ring 11 is half free (R369,
R371). -/
def passDelta (s : State) (b : Nat) : State :=
  let s := settleDelta s b
  let r := ringAt s 11
  if s.outputs.deltaOn && s.outputs.deltaGap && r.active && decide (r.size / 2 ≤ r.free) then
    let s := writeDelta s (deltaMarker 3 0xFFFF b)
    s.setOutputs { s.outputs with deltaGap := false }
  else s

/-! ### TELEMETRY_SNAPSHOT (R372, R373) -/

/-- u64 values, padded with zeros to `n` of them. -/
def u64s (n : Nat) (l : List Nat) : List Byte := (l ++ List.replicate (n - l.length) 0).flatMap (leBytes 8)

def snapshotBytes (s : State) : List Byte :=
  let t := s.telemetry
  leBytes 4 1 ++ leBytes 4 3056 ++ leBytes 8 s.regs.energyCount.toNat ++ leBytes 8 s.steps.c ++ leBytes 8 s.steps.a ++
  leBytes 8 (wrapInt 64 s.tables.wear) ++ List.replicate 24 0 ++
  padTo (0x200 - 0x40) (t.metered.flatMap (leBytes 8)) ++
  s.links.ports.flatMap (fun p => u64s 16 p.counters) ++
  t.tiers.flatMap (u64s 8) ++
  u64s 8 [t.correctedLines, t.rereadLines, t.rowsPoisoned, t.poisonSkips, t.outOfFootprint, t.sliceMismatch] ++
  u64s 8 [t.wearOverdraw, t.rowAreaBytes, t.securedBytes, t.hanksSealed, t.hanksAbandoned, t.cleanScrubs] ++
  s.regs.chords.map (BitVec.ofNat 8)

def runTelemetrySnapshot (d : Sub) (s : State) : State :=
  let off := d.body 0 4
  let len := d.body 4 4
  if !d.zeroFrom 8 || !blockOk off len then finish s d .malformed
  else if len < 4096 then finish s d .rejectedLimit
  else finishWith (windowWrite s off (snapshotBytes s)) d .ok 0 3056 0

def execTelemetrySnapshot (d : Sub) (s : State) : Out := beginCommand s d (d.opcode == 0x0060) 0 (runTelemetrySnapshot d)

end Sys2Proof.Machine
end

