-- ==== Sys2Proof/Machine/Commit.lean ====
section
/-! DEFINITION. The commit: column tests (R175), reports and the root's decision (R31, R32, R134, R336), what a member does
at a boundary (R31, R65, R85, R105, R150, R307, R322, R365, R369), halts (R298), and skeins that move (R85). -/

namespace Sys2Proof.Machine

/-! ### SLIVER_COLUMN_TEST (R175) -/

/-- Entries of a step, owned blocks of the step's dense tensors (tree id and block), and whether a block is applied. -/
def stepEntries (s : State) (n : Nat) : List Entry := s.owners.entries.filter (fun e => e.step == n)

def ownedBlocks (s : State) : List (Nat × Nat) :=
  (parameters s).flatMap (fun d =>
    ((shardsOf s d).filter (fun x => x.2 == s.member)).flatMap (fun x =>
      (shardBlocks s.jobSize d.count x.1).map (fun b => (treeIdOf d.id x.1, b))))

def blockApplied (s : State) (n : Nat) (x : Nat × Nat) : Bool := (findNode s n x.1 x.2).any TreeNode.done

/-- Every request of a step has come, and every expected row and owned block has been applied or skipped (R31). -/
def updatesOver (s : State) (n : Nat) : Bool :=
  requestsIn s n && s.owners.requests.all (fun q => !(q.step == n && !q.noGradient)) &&
  (stepEntries s n).all (fun e => e.state == .done) && (ownedBlocks s).all (blockApplied s n)

/-- A program's function queues array products. -/
def programUses (s : State) (program function : Nat) : Bool :=
  (currentImage s program).any (fun i => usesArray i.ply function)

/-- The array work of a step on a sliver has ended: nothing of it stands in the array queue, every vertex of the step that
queues products has retired, and every update is over where a kernel queues some (R139, R175). -/
def arrayWorkOver (s : State) (a : AdmStep) (q : QueueId) : Bool :=
  (queueAt s q).cmds.all (fun k => k.inst != .step a.n) &&
  (stepLattice s).all (fun l =>
    (unretired l a.inst).all (fun v => !programUses s (vertexOf l v).program (vertexOf l v).function) &&
    (!l.kernels.any (fun k => programUses s k.program k.function) || updatesOver s a.n))

/-- The member withholds its commit report: it is halted, and its neighbours on the commit tree are told (R298). -/
def withhold (s : State) (step reason : Nat) (named : Option Nat) : State :=
  sendHalt (s.setSteps { s.steps with halted := true }) step reason named none

/-- SLIVER_COLUMN_TEST. -/
def execSliverColumnTest (die sliver : Nat) (pass : Bool) (s : State) : Out :=
  let n := s.steps.c + 1
  match stepAt s n with
  | none => .next s
  | some a =>
    if !s.running || 40 ≤ die || 64 ≤ sliver || bitAt a.tested (64 * die + sliver) ||
        !arrayWorkOver s a { die := die, spindle := sliver, kind := .array } then .next s
    else if pass then .next (progress (setStep s { a with tested := a.tested ||| 2 ^ (64 * die + sliver) }))
    else
      let s := memberLost s (some s.member) 4 n
      let s := s.setSecuring { s.securing with
        hanks := s.securing.hanks.filter (fun h => !(h.boundary == n - 1 && h.sealedLoss.isNone)) }
      .next (withhold s n 4 (some s.member))

/-! ### Reports (R31, R134) -/

/-- Every sliver has passed its test. -/
def allTested (a : AdmStep) : Bool := a.tested == 2 ^ 2560 - 1

/-- Contributions expected, and applied or skipped (R134). -/
def contributionsExpected (s : State) (n : Nat) : Nat :=
  sumOf ((stepEntries s n).map (fun e => e.expected.length)) + (ownedBlocks s).length

def contributionsApplied (s : State) (n : Nat) : Nat :=
  sumOf ((stepEntries s n).map (fun e => if e.state == .done then e.expected.length else 0)) +
  ((ownedBlocks s).filter (blockApplied s n)).length

/-- The member's update phase of step n has ended: its own streams have left, and every expected row and owned block has
been applied or skipped (R31). -/
def updatePhaseOver (s : State) (a : AdmStep) : Bool :=
  stepCarded a && a.sections.all Section.merged && a.loss.isSome && updatesOver s a.n

/-- Handles of the member's evaluation requests for a boundary, ascending, those whose blocks have been read (R31). -/
def evalHandles (s : State) (b : Nat) : List Nat :=
  sortBy (fun x y => decide (x ≤ y)) ((s.steps.evals.filter (fun e => e.boundary == b && e.read)).map EvalReq.handle)

/-- Intersection of two lists of handles, each as often as in both. -/
def bothHandles : List Nat → List Nat → List Nat
  | [], _ => []
  | x :: r, l => if l.contains x then x :: bothHandles r (l.erase x) else bothHandles r l

/-- Combine two reports (R31). -/
def joinReports (a b : CommitReportF) : CommitReportF :=
  { a with
    overflow := a.overflow || b.overflow, loss := to32 ((of32 a.loss).add (of32 b.loss)), expected := a.expected + b.expected,
    applied := a.applied + b.applied, evals := bothHandles a.evals b.evals }

/-- OVERFLOW_SKIP, once for a step that skipped a unit (R70). -/
def postOverflow (s : State) (a : AdmStep) : State :=
  if (a.skipRows = 0 ∧ a.skipBlocks = 0) ∨ a.skipPosted = true then s
  else
    setStep (postEvent s controllerDie a.n (.overflowSkip a.skipRows a.skipBlocks a.lowRow a.lowBlock)) { a with skipPosted := true }

def ownReport (s : State) (a : AdmStep) : CommitReportF :=
  let loss := a.loss.getD 0
  { step := a.n, overflow := decide (0 < a.skipRows + a.skipBlocks) || !(of32 loss).finite, loss := loss,
    expected := contributionsExpected s a.n, applied := contributionsApplied s a.n, evals := evalHandles s a.n }

/-- The children's reports of a step, left then right, once all are there. -/
def childReports (s : State) (n : Nat) : Option (List CommitReportF) :=
  let kids := commitChildren s
  let got := kids.filterMap (fun m => (s.steps.reports.find? (fun r => r.1 == m && r.2.step == n)).map (·.2))
  if got.length = kids.length then some got else none

/-- Send a decision down the tree. -/
def sendDecision (s : State) (f : CommitDecisionF) : State :=
  (commitChildren s).foldl (fun s m => sendTo s m [0] (.commitDecision f)) s

/-- The root's decision: it commits when the counts are equal and, for the first step after a restore, the job loss is the
sealed loss, bit for bit (R31, R32, R336). -/
def rootDecision (s : State) (f : CommitReportF) : CommitDecisionF :=
  let proven := match s.securing.toProve with
    | some p => p.1 + 1 != f.step || p.2 == f.loss
    | none => true
  { step := f.step, overflow := f.overflow, committed := f.expected == f.applied && proven, loss := f.loss, evals := f.evals }

/-- Once the member has reported for step n and both children's reports are there, the combined report goes up, or the root
decides and keeps its decision until it applies it. -/
def tryReport (s : State) (a : AdmStep) : State :=
  match childReports s a.n with
  | none => s
  | some got =>
    let f := got.foldl joinReports (ownReport s a)
    let s := s.setSteps { s.steps with reports := s.steps.reports.filter (fun r => r.2.step != a.n) }
    match treeParent s.members 0 s.member with
    | some p => sendTo s p [0] (.commitReport f)
    | none =>
      let d := rootDecision s f
      sendDecision (s.setSteps { s.steps with decision := some d }) d

/-- Whether the member may report for its step in progress now (R31, R175, R251, R266, R298). -/
def mayReport (s : State) (a : AdmStep) : Bool :=
  s.running && !a.reported && a.n == s.steps.c + 1 && !s.steps.halted && !s.steps.lost && !s.spindles.stopped &&
  updateGate s a.n && updatePhaseOver s a && allTested a && decide (s.rings.heldEvents.length < Constants.maxHeldEvents)

/-- COMMIT_REPORT_SEND. -/
def execCommitReportSend (s : State) : Out :=
  match stepAt s (s.steps.c + 1) with
  | none => .next s
  | some a =>
    if !mayReport s a then .next s
    else
      let s := postOverflow s a
      match stepAt s a.n with
      | none => .next s
      | some a =>
        let a := { a with reported := true }
        .next (tryReport (setStep s a) a)

/-- COMMIT_REPORT: a child's report; the root decides once every report is there (R31). -/
def execCommitReport (rx : Rx) (f : CommitReportF) (s : State) : Out :=
  receive s rx 0x40 (.commitReport f) (rising f.evals) (fun s =>
    if !(commitChildren s).contains rx.source then s
    else
      let s := s.setSteps { s.steps with reports := s.steps.reports ++ [(rx.source, f)] }
      match stepAt s f.step with
      | some a => if a.reported && f.step == s.steps.c + 1 && !s.steps.halted && s.steps.decision.isNone then tryReport s a else s
      | none => s)

/-! ### At a boundary -/

/-- The loss-scale rule (R65). -/
def passLossScale (s : State) (overflow : Bool) : State :=
  let p := s.cfg.lossPolicy
  if p.fixed then s
  else if overflow then s.setSteps { s.steps with exponent := max (s.steps.exponent - 1) p.minExponent, clean := 0 }
  else if s.steps.clean + 1 = p.growth then
    s.setSteps { s.steps with exponent := min (s.steps.exponent + 1) p.maxExponent, clean := 0 }
  else s.setSteps { s.steps with clean := s.steps.clean + 1 }

/-- Requests for a boundary inside the agreed set run; the others complete with REJECTED_CONFIG (R44). DESIGN CHOICE (log
84): an EVAL_POLICY lowered by a set that applies after more requests for the boundary were accepted does not turn the excess
away: R43 tests the policy at acceptance only, so every agreed request runs. -/
def settleEvals (b : Nat) : List EvalReq → List Nat → State → State
  | [], _, s => s
  | e :: r, agreed, s =>
    if e.boundary != b then settleEvals b r agreed s
    else if e.read && agreed.contains e.handle then settleEvals b r (agreed.erase e.handle) (setEval s { e with agreed := true })
    else settleEvals b r agreed (finish (dropEval s e) e.sub .rejectedConfig)

/-- Heat decays by an eighth (R105). -/
def decayHeat (s : State) : State :=
  s.setTables { s.tables with pages := s.tables.pages.map (fun p => { p with heat := p.heat - p.heat / 8 }) }

/-- What a committed step leaves behind is dropped: entries, streams, credit, counts of requests and tree nodes. -/
def dropStepWork (s : State) (b : Nat) : State :=
  let s := s.setOwners { s.owners with
    entries := s.owners.entries.filter (fun e => decide (b < e.step)),
    streams := s.owners.streams.filter (fun x => decide (b < x.step)),
    granted := s.owners.granted.filter (fun g => decide (b < g.1)),
    arrived := s.owners.arrived.filter (fun x => decide (b < x.1.1)),
    arrivedEval := s.owners.arrivedEval.filter (fun x => decide (b ≤ x.1.1)) }
  s.setDense { s.dense with
    nodes := s.dense.nodes.filter (fun x => decide (b < x.step)),
    granted := s.dense.granted.filter (fun g => decide (b < g.1.1)) }

/-- Tables in effect. -/
def tablesInEffect (s : State) : List Nat := sortDistinct ((s.tables.versions.filter Version.inEffect).map Version.table)

/-- The rows that each table's last step updated are counted, and a table with no open entry moves to the link die that the
balance gives it (R123). -/
def rebalance (s : State) (b : Nat) : State :=
  let counts := (tablesInEffect s).map (fun t => (t, (s.owners.entries.filter (fun e => e.step == b && e.table == t)).length))
  let idle (t : Nat) : Bool := s.owners.entries.all (fun e => e.table != t || decide (e.step ≤ b))
  s.setOwners { s.owners with
    rowCounts := counts,
    dieOf := counts.foldl (fun m x => if idle x.1 then aPut m x.1 (Free.balancedDie counts x.1 % 16) else m) s.owners.dieOf }

/-- Link dies that have no cause to withhold credit any more grant it again (R142). -/
def releaseCredits (s : State) : State := (List.range 16).foldl releaseCredit s

/-- Frames of a skein transfer still waiting here, or sent and not acknowledged. -/
def transferOut (s : State) (x : Nat × Nat × Nat × Nat) : Bool :=
  let mine (f : OutFrame) : Bool := match f.body with
    | .skeinTransfer t => t.boundary == x.1 && t.table == x.2.1 && t.skein == x.2.2.1
    | _ => false
  s.links.waiting.any mine || s.links.ports.any (fun p => p.replay.any (fun r => mine r.2))

/-- Free the pages and rows of a skein that has landed at its new owner (R85). -/
def freeSkein (s : State) (x : Nat × Nat × Nat × Nat) : State :=
  let t := s.tables
  s.setTables { t with
    pages := t.pages.filter (fun p => !(p.ref.table == x.2.1 && p.ref.skein == x.2.2.1)),
    versions := t.versions.map (fun v =>
      if v.table = x.2.1 then
        { v with
          rows := v.rows.filter (fun r => skeinOf r.1 v.skeinLog2 != x.2.2.1),
          poisoned := v.poisoned.filter (fun r => skeinOf r v.skeinLog2 != x.2.2.1) }
      else v),
    leaving := t.leaving.filter (· != x) }

def freeLanded (s : State) : State :=
  (s.tables.leaving.filter (fun x => !transferOut s x &&
    ownerOfSkein s.members (skeinMapOf s x.2.1) x.2.2.1 != s.member)).foldl freeSkein s

/-- Hanks of the boundary before learn the loss that seals them (R329). -/
def noteLoss (s : State) (b : Nat) (loss : Word32) : State :=
  s.setSecuring { s.securing with
    hanks := s.securing.hanks.map (fun h => if h.boundary + 1 == b then { h with nextLoss := some loss } else h) }

/-- The loss-scale exponent that governs step b + 1 is decided (R65, R217). -/
def decideExponent (s : State) (n : Nat) : State :=
  match stepAt s n with
  | some a => setStep s { a with exponent := some s.steps.exponent }
  | none => s

/-- Everything a member does when it passes boundary b, in the order of R31. -/
def passBoundary (s : State) (f : CommitDecisionF) : State :=
  let b := f.step
  let s := applySets (s.setSteps { s.steps with c := b, decision := none, evalSet := f.evals }) b
  let s := passLossScale s f.overflow
  let s := decideExponent (s.setSteps { s.steps with jobLoss := f.loss }) (b + 1)
  let s := postEvent s controllerDie b (.stepCommitted f.loss f.overflow s.steps.exponent)
  let s := dueDigests (scrubAt s b)
  let s := settleEvals b s.steps.evals f.evals s
  let s := noteLoss (releaseCredits (dropStepWork (rebalance s b) b)) b f.loss
  let s := s.setSecuring { s.securing with
    toProve := none, energyAt := (s.regs.energyCount.toNat :: s.securing.energyAt).take 17 }
  let s := if isSecured s b || (roundFailed s && s.securing.requested.contains b) then takeHank s b else s
  let s := startExports (passDelta (decayHeat s) b) b
  progress (startEvals (freeLanded s))

/-- A decision that does not commit: no boundary is passed, MEMBER_LOST names no member, and the hank that a restore had to
prove becomes unusable (R32, R336). -/
def refuseCommit (s : State) (f : CommitDecisionF) : State :=
  let s := s.setSteps { s.steps with halted := true, decision := none }
  let s := match s.securing.toProve with
    | some p =>
      if p.1 + 1 = f.step then
        let t := dropHank s p.1
        t.setSecuring { t.securing with mirrors := t.securing.mirrors.filter (fun m => m.boundary != p.1) }
      else s
    | none => s
  memberLost s none 3 f.step

/-- A decision takes effect on this member. Where a route table is due and the one before the last is still held, the whole
boundary waits until that is freed (R307, log 85). -/
def applyDecision (s : State) (f : CommitDecisionF) : State :=
  if !f.committed then refuseCommit s f
  else if s.cfg.prevRoutes.isSome && routesDue s f.step then
    (s.setSteps { s.steps with decision := none }).setCfg { s.cfg with routeDue := some f }
  else passBoundary s f

/-- COMMIT_DECISION: the root applies the decision it has taken; another member takes the one its parent sends, passes it on
and applies it (R31). -/
def execCommitDecision (rx : Rx) (f : CommitDecisionF) (s : State) : Out :=
  match treeParent s.members 0 s.member with
  | none =>
    if s.running && s.steps.decision == some f && f.step == s.steps.c + 1 then .next (applyDecision s f) else .next s
  | some p =>
    receive s rx 0x40 (.commitDecision f) (rising f.evals) (fun s =>
      if rx.source = p ∧ f.step = s.steps.c + 1 ∧ s.cfg.routeDue = none ∧ (stepAt s f.step).any AdmStep.reported = true then
        applyDecision (sendDecision s f) f
      else s)

/-- HALT: the member withholds its own report for the step and passes the halt to its other neighbours (R298). -/
def execHalt (rx : Rx) (f : HaltF) (s : State) : Out :=
  receive s rx 0x40 (.halt f) true (fun s =>
    if s.steps.halted then s
    else sendHalt (s.setSteps { s.steps with halted := true }) f.step f.reason f.named (some rx.source))

/-! ### ROUTE_TABLE_FREE (R307) -/

/-- A stream of this member that began under the previous table and has contributions still to send. -/
def oldStream (s : State) : Bool :=
  s.steps.admitted.any (fun a => a.sections.any (fun c =>
    (c.merging.getD []) != [] &&
    s.links.flows.any (fun x => match x.1 with
      | [4, dest, n, table, _] =>
        n == a.n && table == c.table &&
        ((s.links.sent.map (·.2)).filter (fun f =>
          f.source == s.member && f.dest == dest && f.cls == 0 && f.flow == x.2)).getLast?.any
          (fun f => f.kind == 4 && f.epoch != s.cfg.routeEpoch)
      | _ => false)))

/-- No flow stamped with the previous table remains here, so far as the member sees: no such frame waits or is unacknowledged,
and no stream that began under it goes on (R307). -/
def oldEpochGone (s : State) : Bool :=
  !oldStream s && s.links.waiting.all (fun f => f.epoch == s.cfg.routeEpoch) &&
  s.links.ports.all (fun p => p.replay.all (fun r => r.2.epoch == s.cfg.routeEpoch))

/-- ROUTE_TABLE_FREE: the previous table goes, and a boundary that waited for it is passed. -/
def execRouteTableFree (s : State) : Out :=
  if !s.running || s.cfg.prevRoutes.isNone || !oldEpochGone s then .next s
  else
    match s.cfg.routeDue with
    | none => .next (pump (s.setCfg { s.cfg with prevRoutes := none }))
    | some f => .next (pump (passBoundary (s.setCfg { s.cfg with prevRoutes := none, routeDue := none }) f))

/-! ### SKEIN_TRANSFER (R85) -/

/-- The page that a transfer frame fills, made the first time one names it, not yet settled. DESIGN CHOICE (log 86): it is
placed as a new version's pages are, in the tier that its hint names where that has room, and in flash where it names none;
R85 and R101 say that the pages move and not to which tier. -/
def landingPage (s : State) (v : Version) (f : SkeinTransferF) : State × Page :=
  let ref : PageRef := { table := f.table, version := f.version, skein := f.skein, page := f.page }
  match pageAt s ref with
  | some p => (s, p)
  | none =>
    let h := v.hintOf f.skein
    let p := placePage s h
      { ref := ref, port := 0, toPort := 0, cache := 0, rows := [], home := homeTier h, tier := heldTier h, pinned := hintPin h,
        heat := 0, dirty := true, moving := none, rereading := false, logSeq := 0, unsettled := true, wanted := false,
        changed := true }
    (addPage s p, p)

/-- Write page bytes from an offset on into the records they belong to. -/
def patchPage (v : Version) (p : Page) (offset : Nat) (bytes : List Byte) : Version :=
  p.rows.zipIdx.foldl (fun v x =>
    let lo := x.2 * v.recordSize
    if lo < offset + bytes.length ∧ offset < lo + v.recordSize then
      v.setRecord x.1 ((v.record x.1).mapIdx (fun i b =>
        if offset ≤ lo + i ∧ lo + i < offset + bytes.length then nth bytes (lo + i - offset) 0 else b))
    else v) v

/-- A hank of the boundary of the move holds the rows that land (R322). -/
def patchHanks (s : State) (b : Nat) (v : Version) (p : Page) : State :=
  let rows := p.rows.map (fun r => (v.table, v.number, r, v.record r, v.poisoned.contains r))
  s.setSecuring { s.securing with
    hanks := s.securing.hanks.map (fun h =>
      if h.boundary = b then
        { h with
          image := { h.image with
            rows := h.image.rows.filter (fun x => !(x.1 == v.table && x.2.1 == v.number && p.rows.contains x.2.2.1)) ++ rows,
            pages := h.image.pages.filter (fun x => x.1 != p.ref) ++ [(p.ref, p.home, p.logSeq)] },
          uncopied := if h.uncopied.contains p.ref then h.uncopied else h.uncopied ++ [p.ref],
          copies := if h.uncopied.contains p.ref then h.copies else h.copies + 1 }
      else h) }

/-- A page of a moved skein lies in its tier: one that landed in flash has been written there and is clean (R107, R112). -/
def settlePage (s : State) (p : Page) : State :=
  let p := { p with unsettled := false }
  if p.tier == .flash then writeFlash s p else setPage s p

/-- The last frame of a transfer has been taken: the skein has landed, before or after this member passes the boundary of
its move (R85). -/
def landSkein (s : State) (f : SkeinTransferF) : State :=
  let key := (f.boundary, f.table, f.skein)
  let s := (s.tables.pages.filter (fun p => p.ref.table == f.table && p.ref.skein == f.skein && p.unsettled)).foldl settlePage s
  let s := s.setTables { s.tables with
    arriving := s.tables.arriving.filter (fun a => !(a.1 == f.boundary && a.2.1 == f.table && a.2.2.1 == f.skein)),
    landed := if s.steps.c < f.boundary then s.tables.landed ++ [key] else s.tables.landed }
  progress (settleHanks (exportLanded s f.boundary f.table f.skein))

/-- A page's row list, then its bytes (Table 12.8, 0x06). -/
def takeTransfer (s : State) (f : SkeinTransferF) : State :=
  match findVersion s f.table f.version with
  | none => s
  | some v =>
    let r := landingPage s v f
    let s :=
      if f.rowList then
        let p := { r.2 with rows := r.2.rows ++ f.rows.map (·.1) }
        setPage (setVersion r.1 { v with poisoned := v.poisoned ++ (f.rows.filter (·.2)).map (·.1) }) p
      else
        let v := patchPage v r.2 f.offset f.bytes
        patchHanks (setVersion r.1 v) f.boundary v r.2
    if f.last then landSkein s f else s

/-- The payload keeps to Table 12.8: a row list holds no page bytes and page bytes no rows, and both stay in the page. -/
def transferOk (f : SkeinTransferF) : Bool :=
  (if f.rowList then f.bytes.isEmpty && f.offset % 8 == 0 && f.rows.all (fun r => decide (r.1 < 2 ^ 40)) else f.rows.isEmpty) &&
  decide (f.offset + (if f.rowList then 8 * f.rows.length else f.bytes.length) ≤ Constants.pageBytes)

/-- SKEIN_TRANSFER (R85). -/
def execSkeinTransfer (rx : Rx) (f : SkeinTransferF) (s : State) : Out :=
  receive s rx 0x06 (.skeinTransfer f) (transferOk f) (fun s => takeTransfer s f)

end Sys2Proof.Machine
end

