-- ==== Sys2Proof/Machine/Programs.lean ====
section
/-! DEFINITION. Programs: LOAD_PROGRAM, slots and granules, translation, UNLOAD_PROGRAM (R227 to R234). -/

namespace Sys2Proof.Machine

/-- Vertices of resident lattices that name a function of a program: function slots (R232). -/
def referencedFuncs (s : State) (handle : Nat) : List Nat :=
  s.lattices.flatMap (fun l =>
    (l.vertices.filterMap (fun v => if v.program = handle then some v.function else none)) ++
    (l.kernels.filterMap (fun k => if k.program = handle then some k.function else none)))

def isReferenced (s : State) (handle : Nat) : Bool := !(referencedFuncs s handle).isEmpty

/-- Functions of a reload whose interface changes, as violations at their entries (R232). -/
def interfaceViolations (s : State) (handle : Nat) (bs : List Byte) : List Violation :=
  match currentImage s handle with
  | none => []
  | some img =>
    let sec := sectionOf (readDirectory bs) 2
    ((referencedFuncs s handle).filter (fun f => !sameInterface img.ply (readModule bs) f)).map (fun f =>
      { offset := sec.offset + 48 * f, code := errInterface, func := some f })

/-- The row width of a table: that of its version in effect (R208). DESIGN CHOICE (log 88): a table that has none yet gives
no width to hold a POOLED tensor against at the load, and admission holds it then. -/
def tableWidth (s : State) (table : Nat) : Option Nat := (inEffect s table).map Version.width

/-- The violation that a load is refused with: those of R227 and a changed interface together. -/
def loadViolation (s : State) (handle : Nat) (bs : List Byte) : Option Violation :=
  match lowestViolation (checkHeader bs ++ checkDirectory bs) with
  | some _ => checkModule (tableWidth s) bs
  | none =>
    let l := match checkModule (tableWidth s) bs with
      | some v => [v]
      | none => []
    lowestViolation (l ++ interfaceViolations s handle bs)

def granulesOf (l : List Image) : Nat := sumOf (l.map Image.granules)

def keptImages (s : State) : List Image := s.programs.images.filter (fun i => i.state != .draining)

/-- CURRENT and LOADING images leave no slot or too few granules (R230). -/
def noRoom (s : State) (need : Nat) : Bool :=
  decide (Constants.imageSlots ≤ (keptImages s).length ∨ Constants.granules < granulesOf (keptImages s) + need)

def runLoadProgram (d : Sub) (s : State) : State :=
  let h := d.body 0 4
  let off := d.body 8 4
  let len := d.body 0xC 4
  if d.body 4 4 != 0 || !d.zeroFrom 0x10 || h == 0 || !blockOk off len || decide (len < 64) then finish s d .malformed
  else if 64 * 2 ^ 20 < len then finish s d .rejectedLimit
  else
    let bs := windowBytes s off len
    match loadViolation s h bs with
    | some v => finishWith s d (errStatus v.code) v.code v.offset (v.func.getD notApplicable)
    | none =>
      let g := imageGranules bs
      if Constants.granules < g then finishWith s d .rejectedLimit errImage 0 notApplicable
      else if noRoom s g then finish s d .noSpace
      else
        s.setPrograms { s.programs with
          waiting := s.programs.waiting ++ [{ sub := d, handle := h, granules := g, ply := readModule bs }] }

/-- LOAD_PROGRAM (R230). -/
def execLoadProgram (d : Sub) (s : State) : Out := beginCommand s d (d.opcode == 0x0002) 0 (runLoadProgram d)

/-- A load that has not taken its room: neither translating nor answered. -/
def loadWaits (s : State) (d : Sub) : Bool :=
  d.opcode == 0x0002 && !s.programs.images.any (fun i => i.load == some d) &&
  !s.rings.heldDone.any (fun c => c.ring == d.ring && c.submitIndex == d.index)

/-- The load whose turn it is to take room: the first in the order of acceptance, where it has passed its checks (R230). -/
def nextLoad (s : State) : Option Load :=
  match s.rings.accepted.find? (fun a => loadWaits s a.sub) with
  | none => none
  | some a => s.programs.waiting.find? (fun l => l.sub == a.sub)

/-- LOAD_PROGRAM_SLOT_TAKEN: the load that was accepted first takes a free slot and its granules (R230). -/
def execLoadProgramSlotTaken (slot : Nat) (s : State) : Out :=
  match nextLoad s with
  | none => .next s
  | some l =>
    if !s.running || Constants.imageSlots ≤ slot || s.programs.images.any (fun i => i.slot == slot) ||
        decide (Constants.granules < granulesOf s.programs.images + l.granules) ||
        s.programs.images.any (fun i => i.handle == l.handle && i.state == .loading) then .next s
    else
      .next (s.setPrograms { s.programs with
        waiting := s.programs.waiting.filter (fun x => x.sub != l.sub),
        images := s.programs.images ++
          [{ slot := slot, handle := l.handle, state := .loading, granules := l.granules, ply := l.ply, load := some l.sub }] })

/-- Loads of a handle in progress: translating or waiting. -/
def loadsInProgress (s : State) (handle : Nat) : List Sub :=
  (s.programs.images.filter (fun i => i.handle == handle)).filterMap Image.load ++
  (s.programs.waiting.filter (fun l => l.handle == handle)).map Load.sub

/-- A context fetches the image of a slot (R231). -/
def slotFetched (s : State) (slot : Nat) : Bool := s.spindles.contexts.any (fun c => c.2.image == slot)

/-- Table 9.16 from its second row on. -/
def unload (s : State) (d : Sub) (handle : Nat) : State :=
  match currentImage s handle with
  | none => finish s d .rejectedConfig
  | some img =>
    if isReferenced s handle then finish s d .rejectedConfig
    else if slotFetched s img.slot then
      finish (s.setPrograms { s.programs with
        images := s.programs.images.map (fun i => if i.slot == img.slot then { i with state := .draining } else i) })
        d .acceptedDeferred
    else finish (s.setPrograms { s.programs with images := s.programs.images.filter (fun i => i.slot != img.slot) }) d .ok

/-- TRANSLATION_END: the image becomes CURRENT, the one before DRAINING, and the load completes with OK; an unload that
waited for it and for no other load follows (R231, R234). -/
def execTranslationEnd (handle : Nat) (s : State) : Out :=
  match s.programs.images.find? (fun i => i.handle == handle && i.state == .loading) with
  | none => .next s
  | some img =>
    if !s.running then .next s
    else
      let s := s.setPrograms { s.programs with
        images := s.programs.images.map (fun i =>
          if i.slot == img.slot then { i with state := .current, load := none }
          else if i.handle == handle && i.state == .current then { i with state := .draining } else i) }
      let s := freeDrained s
      let s := match img.load with
        | some d => finish s d .ok
        | none => s
      let left := s.programs.unloads.map (fun u => (u.1, u.2.filter (fun d => img.load != some d)))
      let s := s.setPrograms { s.programs with unloads := left.filter (fun u => !u.2.isEmpty) }
      .next (progress ((left.filter (fun u => u.2.isEmpty)).foldl (fun s u => unload s u.1 (u.1.body 0 4)) s))

def runUnloadProgram (d : Sub) (s : State) : State :=
  let h := d.body 0 4
  if h == 0 || !d.zeroFrom 4 then finish s d .malformed
  else if !(loadsInProgress s h).isEmpty then
    s.setPrograms { s.programs with unloads := s.programs.unloads ++ [(d, loadsInProgress s h)] }
  else unload s d h

/-- UNLOAD_PROGRAM (R234). -/
def execUnloadProgram (d : Sub) (s : State) : Out := beginCommand s d (d.opcode == 0x0003) 0 (runUnloadProgram d)

end Sys2Proof.Machine
end

