-- ==== Sys2Proof/Machine/Admission.lean ====
section
/-! DEFINITION. Lattice images (R252 to R256), admission in the order of Table 10.13 with its details (R246), residency
and removal (R257). -/

namespace Sys2Proof.Machine

/-! ### The image (R253 to R256) -/

/-- A vertex entry as it stands, with its first argument word. -/
structure RawVertex where
  entry    : List Byte
  program  : Nat
  function : Nat
  part     : Nat
  flags    : Nat
  hint     : Nat
  group    : Nat
  argFirst : Nat
  deriving Repr

structure RawLattice where
  bytes    : List Byte
  argCount : Nat
  vertices : List RawVertex
  edges    : List (Nat × Nat)
  kernels  : List (List Byte × Kernel)
  params   : List Nat
  deriving Repr

def latSection (bs : List Byte) (k : Nat) : Nat × Nat :=
  match k with
  | 2 => (leAt bs 0x20 4, 32 * leAt bs 0x10 4)
  | 3 => (leAt bs 0x24 4, 8 * leAt bs 0x14 4)
  | 4 => (leAt bs 0x28 4, 8 * leAt bs 0x18 4)
  | 5 => (leAt bs 0x2C 4, 16 * leAt bs 0x1C 2)
  | _ => (leAt bs 0x30 4, 4 * leAt bs 0x1E 2)

def latEntries (bs : List Byte) (k n : Nat) : List (List Byte) :=
  let s := latSection bs k
  chunksOf n (s.2 / n) ((bs.drop s.1).take s.2)

def readRawVertex (e : List Byte) : RawVertex :=
  { entry := e, program := leAt e 0 4, function := leAt e 4 2, part := leAt e 6 1, flags := leAt e 7 1, hint := leAt e 8 1,
    group := leAt e 0xC 4, argFirst := leAt e 0x10 4 }

def readRaw (bs : List Byte) : RawLattice :=
  { bytes := bs, argCount := leAt bs 0x18 4, vertices := (latEntries bs 2 32).map readRawVertex,
    edges := (latEntries bs 3 8).map (fun e => (leAt e 0 4, leAt e 4 4)),
    kernels := (latEntries bs 5 16).map (fun e => (e, { target := leAt e 0 4, program := leAt e 4 4, function := leAt e 8 2 })),
    params := (latEntries bs 6 4).map (fun e => leAt e 0 4) }

/-- The header fields and its CHECK (R253). -/
def latHeaderBad (bs : List Byte) : Bool :=
  leAt bs 0 4 != 0x3154414C || leAt bs 4 2 != 1 || leAt bs 6 2 != 0 || leAt bs 8 4 != bs.length ||
  leAt bs 0xC 4 != crc32c (bs.drop 0x40) || !zeroBytes bs 0x34 0x40

/-- The first section that breaks R253's bounds or meets a section before it: DETAIL_1 names it (DEDUCED, assumption
53). -/
def badSection (bs : List Byte) : Option Nat :=
  [2, 3, 4, 5, 6].find? (fun k =>
    let s := latSection bs k
    s.1 % 64 != 0 || decide (s.1 < 0x40 ∨ bs.length < s.1 + s.2) ||
    anySpansMeet (((List.range (k - 1)).map (fun j => latSection bs (j + 2))).filter (fun x => x.2 != 0)))

/-- The function a vertex names, where its program has a CURRENT image and the function exists. -/
def namedFunc (s : State) (program function : Nat) : Option (PlyModule × FuncEntry) :=
  match currentImage s program with
  | none => none
  | some img => (img.ply.funcs[function]?).map (fun f => (img.ply, f))

/-- A vertex entry breaks R254. -/
def vertexBad (s : State) (role argCount : Nat) (v : RawVertex) : Bool :=
  decide (1 < v.part) || (role == 1 && v.part != 0) || decide (1 < v.flags) ||
  (v.hint != 0xFF && decide (40 ≤ v.hint)) || (v.flags == 1 && v.hint == 0xFF) || !zeroBytes v.entry 9 0xC ||
  !zeroBytes v.entry 0x14 0x20 || 
  (namedFunc s v.program v.function).any (fun f => decide (argCount < v.argFirst + f.2.argWords))

/-- A kernel entry breaks R256: reserved bytes, any entry of an evaluation lattice, or a function of kind 1 with another
TARGET; a function that does not exist or has the wrong kind is check 5's. -/
def kernelBad (s : State) (role : Nat) (k : List Byte × Kernel) : Bool :=
  role == 1 || !zeroBytes k.1 0xA 0x10 ||
  (namedFunc s k.2.program k.2.function).any (fun f => f.2.kind == 1 && f.2.target != k.2.target)

/-- An edge breaks R255; `i` is its place. -/
def edgeBad (r : RawLattice) (i : Nat) (e : Nat × Nat) : Bool :=
  let prev := r.edges[i - 1]?
  let a := r.vertices[e.1]?
  let b := r.vertices[e.2]?
  decide (e.2 ≤ e.1 ∨ r.vertices.length ≤ e.2) ||
  (i != 0 && prev.any (fun p => decide (e.1 < p.1 ∨ (e.1 = p.1 ∧ e.2 ≤ p.2)))) ||
  (a.any (fun x => x.part == 1) && b.any (fun x => x.part == 0)) ||
  (match a, b with
   | some x, some y => x.group != 0 && x.group == y.group
   | _, _ => false)

/-- The first entry of a list that a test names, as a refusal that names it. -/
def firstEntry {α : Type} (l : List α) (st : Status) (sec : Nat) (bad : Nat → α → Bool) : Option Refused :=
  (l.zipIdx.find? (fun x => bad x.2 x.1)).map (fun x => (st, x.2, sec))

/-- The first refusal of a list of checks. -/
def firstRefusal : List (Option Refused) → Option Refused
  | [] => none
  | some r :: _ => some r
  | none :: l => firstRefusal l

def plain (bad : Bool) (st : Status) (sec : Nat) : Option Refused := if bad then some (st, notApplicable, sec) else none

/-- Check 3. -/
def latCheck3 (s : State) (role : Nat) (bs : List Byte) : Option Refused :=
  if latHeaderBad bs then some (.malformed, notApplicable, 1)
  else if let some k := badSection bs then some (.malformed, notApplicable, k)
  else
    let r := readRaw bs
    firstRefusal
      [firstEntry r.vertices .malformed 2 (fun _ v => vertexBad s role r.argCount v),
       firstEntry r.edges .malformed 3 (edgeBad r),
       firstEntry r.kernels .malformed 5 (fun _ k => kernelBad s role k),
       firstEntry r.params .malformed 6 (fun i p => (r.params.take i).contains p)]

/-- Check 4. -/
def latCheck4 (s : State) (r : RawLattice) : Option Refused :=
  let v := sumOf (s.lattices.map (fun l => l.vertices.length))
  let e := sumOf (s.lattices.map (fun l => l.edges.length))
  firstRefusal
    [plain (r.vertices.isEmpty || decide (2 ^ 20 < r.vertices.length ∨ 2 ^ 22 < r.edges.length ∨ 2 ^ 24 < r.argCount ∨
        8192 < r.kernels.length)) .rejectedLimit 1,
     plain (decide (2 ^ 21 < v + r.vertices.length)) .rejectedLimit 2,
     plain (decide (2 ^ 23 < e + r.edges.length)) .rejectedLimit 3]

/-! ### The lattice it makes -/

/-- Modules of a lattice's programs. -/
def latModules (s : State) (r : RawLattice) : List PlyModule :=
  (sortDistinct (r.vertices.map RawVertex.program ++ r.kernels.map (fun k => k.2.program))).filterMap (fun h =>
    (currentImage s h).map Image.ply)

def latDecls (ms : List PlyModule) : List TensorDecl :=
  (ms.flatMap PlyModule.tensors).foldl (fun acc d => if acc.contains d then acc else acc ++ [d]) []

def argWords (bs : List Byte) (first n : Nat) : List Word :=
  let off := (latSection bs 4).1
  (List.range n).map (fun i => BitVec.ofNat 64 (leAt bs (off + 8 * (first + i)) 8))

/-- A die on which no sliver presents width. -/
def dieDark (s : State) (die : Nat) : Bool := (nth s.regs.widths die []).all (· == 0)

/-- Whether a vertex queues array products. -/
def rawArrays (s : State) (v : RawVertex) : Bool :=
  (namedFunc s v.program v.function).any (fun f => usesArray f.1 v.function)

/-- The energy class that a vertex has at admission (R262). -/
def rawClass (s : State) (v : RawVertex) : Nat :=
  ((currentImage s v.program).map (fun i => energyClass i.ply v.function)).getD 0

/-- Tensors that a function names: through footprints, and those its products and recomputes are routed to. -/
def tensorIdsOf (m : PlyModule) (slot : Nat) : List Nat :=
  sortDistinct ((footsOf m (funcAt m slot)).map (fun p => (tensorAt m p.slot).id) ++ (routedDecls m slot).map TensorDecl.id)

def rawTensors (s : State) (v : RawVertex) : List Nat :=
  ((namedFunc s v.program v.function).map (fun f => tensorIdsOf f.1 v.function)).getD []

/-- The vertices of a unit: a co-dispatch group, or a vertex alone (R264). -/
def rawUnit (vs : List RawVertex) (v : RawVertex) : List RawVertex :=
  if v.group = 0 then [v] else vs.filter (fun u => u.group == v.group)

/-- The die that a pin or a hint gives a unit (R261): a hinted die that presents no width is passed over for a unit that
queues array products. -/
def fixedHome (s : State) (vs : List RawVertex) (v : RawVertex) : Option Nat :=
  let g := rawUnit vs v
  match g.find? (fun u => u.flags == 1) with
  | some u => some u.hint
  | none => (g.find? (fun u => u.hint != 0xFF && !(dieDark s u.hint && g.any (rawArrays s)))).map RawVertex.hint

/-- The homes given so far, with the sum of estimates on each die, the die of each set of tensors and of each group. -/
structure Homing where
  homes  : List Nat
  loads  : List Nat
  kept   : Assoc (List Nat) Nat
  groups : Assoc Nat Nat
  deriving Repr

/-- The least loaded die, the lowest of equals, that is not dark for array work; any die where all are. -/
def lightestDie (s : State) (loads : List Nat) (arrays : Bool) : Nat :=
  let lit := (List.range 40).filter (fun d => !(arrays && dieDark s d))
  let dies := if lit.isEmpty then List.range 40 else lit
  let least := dies.foldl (fun m d => min m (nth loads d 0)) (nth loads (dies.headD 0) 0)
  (dies.find? (fun d => nth loads d 0 == least)).getD 0

/-- Home one vertex: by pin or hint; with its group; on the die that keeps its tensors; else on the least loaded die. DESIGN
CHOICE (log 89): vertices keep to one die where they name the same set of tensors, and the estimates of the rest are
balanced in vertex order; R261 says that the module does both and not how. -/
def homeNext (s : State) (vs : List RawVertex) (h : Homing) (v : RawVertex) : Homing :=
  let arrays := (rawUnit vs v).any (rawArrays s)
  let usable (d : Option Nat) : Option Nat := d.filter (fun d => !(arrays && dieDark s d))
  let ts := rawTensors s v
  let die := (fixedHome s vs v).getD
    ((aGet h.groups v.group).getD ((usable (aGet h.kept ts)).getD (lightestDie s h.loads arrays)))
  { homes := h.homes ++ [die], loads := modifyAt h.loads die (· + classEstimate (rawClass s v)),
    kept := if (aGet h.kept ts).isSome then h.kept else aPut h.kept ts die,
    groups := if v.group = 0 then h.groups else aPut h.groups v.group die }

/-- The home die of every vertex (R261). -/
def homesOf (s : State) (vs : List RawVertex) : List Nat :=
  (vs.foldl (homeNext s vs) { homes := [], loads := List.replicate 40 0, kept := [], groups := [] }).homes

/-- The lattice of an image, its vertices with the home, class, estimate and rank that they keep (R261, R262). -/
def makeLattice (s : State) (handle role : Nat) (r : RawLattice) : Lattice :=
  let homes := homesOf s r.vertices
  let l : Lattice :=
    { handle := handle, isEval := role == 1,
      vertices := r.vertices.mapIdx (fun i v =>
        { program := v.program, function := v.function, backward := v.part == 1, pinned := v.flags == 1, dieHint := v.hint,
          group := v.group,
          args := argWords r.bytes v.argFirst (((namedFunc s v.program v.function).map (fun f => f.2.argWords)).getD 0),
          home := nth homes i 0, cls := rawClass s v, estimate := classEstimate (rawClass s v), rank := 0 }),
      edges := r.edges, kernels := r.kernels.map (·.2), params := r.params, decls := latDecls (latModules s r) }
  let rs := ranks l (l.vertices.map Vertex.estimate)
  { l with vertices := l.vertices.mapIdx (fun i v => { v with rank := nth rs i 0 }) }

/-! ### Checks 5 to 8 -/

/-- Optimiser code of a kernel target: a PARAMETER tensor's, or that of a table's version in effect. -/
def targetCode (s : State) (l : Lattice) (t : Nat) : Option Nat :=
  if isTableTarget t then (inEffect s (targetTable t)).map Version.optimiser
  else (l.decls.find? (fun d => d.id == t && d.role == 5)).map TensorDecl.optimiser

/-- Targets of the lattice with optimiser code 5. -/
def kernelTargets (s : State) (l : Lattice) : List Nat :=
  (l.params.filter (fun p => targetCode s l p == some 5)) ++
  ((l.decls.filter (fun d => d.role == 4)).map (fun d => tableTensor d.table)).filter (fun t => targetCode s l t == some 5)

def latCheck5 (s : State) (l : Lattice) : Option Refused :=
  firstRefusal
    [firstEntry l.vertices .rejectedConfig 2 (fun _ v => !(namedFunc s v.program v.function).any (fun f => f.2.kind == 0)),
     firstEntry l.kernels .rejectedConfig 5 (fun _ k =>
       !(namedFunc s k.program k.function).any (fun f => f.2.kind == 1) ||
       targetCode s l k.target != some 5),
     plain (!l.isEval && (kernelTargets s l).any (fun t => !l.kernels.any (fun k => k.target == t))) .rejectedConfig 5]

/-- PARAMETER tensors that a vertex of the lattice names. -/
def namedParams (s : State) (l : Lattice) : List Nat :=
  sortDistinct (l.vertices.flatMap (fun v =>
    (((namedFunc s v.program v.function).map (fun f => tensorIdsOf f.1 v.function)).getD []).filter (fun id =>
      l.decls.any (fun d => d.id == id && d.role == 5))))

/-- Gradient sources of a PARAMETER tensor (R145). -/
def gradientSources (l : Lattice) (ms : List PlyModule) (id : Nat) : Nat :=
  (l.decls.filter (fun d => d.role == 10 && d.associated == id)).length +
  sumOf (ms.map (fun m => (m.products.filter (fun p => p.arrangement == 2 && (tensorAt m p.out).id == id)).length))

/-- Two declarations carry one id and differ (R210). -/
def declsClash (l r : List TensorDecl) : Bool := l.any (fun a => r.any (fun b => a.id == b.id && a != b))

/-- Declarations of the module a program handle names. -/
def programDecls (s : State) (handle : Nat) : List TensorDecl :=
  match currentImage s handle with
  | none => []
  | some g => g.ply.tensors

/-- Declarations that the modules of the first `n` vertices bring. -/
def declsBefore (s : State) (l : Lattice) (n : Nat) : List TensorDecl :=
  (sortDistinct ((l.vertices.take n).map Vertex.program)).flatMap (programDecls s)

/-- Two tensors of one role and one table (R416), or two POOLED tensors of different bag dimensions. -/
def pooledClash (a b : TensorDecl) : Bool :=
  a.id != b.id &&
  (((a.role == 3 || a.role == 4) && a.role == b.role && a.table == b.table) ||
    (a.role == 3 && b.role == 3 && nth a.dims 0 0 != nth b.dims 0 0))

/-- A POOLED_GRADIENT tensor whose table no POOLED tensor of the lattice names (R416), or one of another shape (R208). -/
def strayGradient (l : Lattice) (d : TensorDecl) : Bool :=
  d.role == 4 && !l.decls.any (fun e => e.role == 3 && e.table == d.table && sameShape e d)

/-- A POOLED tensor whose width is not that of its table's rows (R208, log 88). -/
def pooledWidthBad (s : State) (d : TensorDecl) : Bool :=
  d.role == 3 && (tableWidth s d.table).any (fun w => w != nth d.dims 1 0)

/-- Check 6. A declaration at fault is named by the first vertex whose module brings it, with section 2 (DEDUCED,
assumption 53). -/
def latCheck6 (s : State) (l : Lattice) (ms : List PlyModule) : Option Refused :=
  let resident := s.lattices.flatMap Lattice.decls
  firstRefusal
    [firstEntry l.vertices .rejectedConfig 2 (fun i v =>
       declsClash (programDecls s v.program) (resident ++ declsBefore s l (i + 1))),
     firstEntry l.kernels .rejectedConfig 5 (fun _ k => declsClash (programDecls s k.program) (resident ++ l.decls)),
     firstEntry l.vertices .rejectedConfig 2 (fun i v =>
       (programDecls s v.program).any (fun a => strayGradient l a || pooledWidthBad s a || (declsBefore s l (i + 1)).any (pooledClash a))),
     plain (l.decls.any (fun a => strayGradient l a || pooledWidthBad s a || l.decls.any (pooledClash a))) .rejectedConfig 5,
     plain (!l.isEval && (l.decls.filter (fun d => d.role == 7)).length != 1) .rejectedConfig 2,
     firstEntry l.params .rejectedConfig 6 (fun _ p => !(namedParams s l).contains p),
     plain ((namedParams s l).any (fun p => !l.params.contains p)) .rejectedConfig 6,
     if l.isEval then none else firstEntry l.params .rejectedConfig 6 (fun _ p => gradientSources l ms p != 1)]

/-- Ranges of a function lie within its tensors (R213). -/
def rangesBad (m : PlyModule) (f : FuncEntry) (args : List Word) : Bool :=
  (rangesFor (footsOf m f) args).any (fun r => r.2.2.2 != 0 && decide ((tensorAt m r.1).count < r.2.2.1 + r.2.2.2))

def latCheck7 (s : State) (l : Lattice) : Option Refused :=
  firstRefusal
    [firstEntry l.vertices .rejectedLimit 2 (fun _ v =>
       (namedFunc s v.program v.function).any (fun f => rangesBad f.1 f.2 v.args)),
     firstEntry l.kernels .rejectedLimit 5 (fun _ k => (namedFunc s k.program k.function).any (fun f => rangesBad f.1 f.2 []))]

/-- Scratch sizes fit a die's spindles, 4 contexts and 768 KiB each (R264). `bins` holds what each spindle has taken;
spindles that hold the same are tried once. -/
def packFits : List Nat → List (Nat × Nat) → Bool
  | [], _ => true
  | x :: xs, bins =>
    (List.range bins.length).any (fun i =>
      let b := nth bins i (4, 0)
      decide (b.1 < 4 ∧ b.2 + x ≤ localSram) && !(bins.take i).contains b && packFits xs (bins.set i (b.1 + 1, b.2 + x)))

/-- A co-dispatch group beyond R264, or pinned to two dies. Its declared counters fit any die: the vertices of a group may
hold the same counters of a spindle together (R199). -/
def groupBad (s : State) (l : Lattice) (g : Nat) : Bool :=
  let vs := l.vertices.filter (fun v => v.group == g)
  let hints := (vs.filter Vertex.pinned).map Vertex.dieHint
  decide (256 < vs.length) ||
  !packFits (vs.map (fun v => ((namedFunc s v.program v.function).map (fun f => f.2.scratch)).getD 0)) (List.replicate 64 (0, 0)) ||
  hints.any (fun h => h != hints.headD 0)

def latCheck8 (s : State) (l : Lattice) : Option Refused :=
  firstEntry l.vertices .rejectedLimit 2 (fun _ v => v.group != 0 && groupBad s l v.group)

/-! ### Check 9: R36, R41, R124 -/

/-- For each vertex the set of vertices it reaches, as bits. -/
def reachBits (l : Lattice) : List Nat :=
  (List.range l.vertices.length).reverse.foldl (fun (acc : List Nat) v =>
    let out := (l.edges.filter (fun e => e.1 == v)).foldl (fun m e => m ||| 2 ^ e.2 ||| nth acc (e.2 - v - 1) 0) 0
    out :: acc) []

/-- The first pair of one lattice that breaks R36. -/
def firstPair (s : State) (l : Lattice) (foots : List (List FRange)) (reach : List Nat) (a : Nat) : Option (Nat × Nat) :=
  let n := l.vertices.length
  ((List.range (n - a - 1)).map (a + 1 + ·)).findSome? (fun b =>
    if footsClash l (nth foots a []) (nth foots b []) && !bitAt (nth reach a 0) b then some (0, b) else none) |>.orElse fun _ =>
  -- vertices of other resident lattices count as above every vertex of this one
  s.lattices.findSome? (fun o =>
    if o.isEval == l.isEval then none
    else
      (List.range o.vertices.length).findSome? (fun b =>
        let fa := nth foots a []
        let fb := vertexFoot s (vertexOf o b)
        let clash := if l.isEval then fa.any (fun x => frWrites x && fb.any (frOverlap (declOf l x.1) x))
          else fb.any (fun x => frWrites x && fa.any (frOverlap (declOf o x.1) x))
        if clash then some (o.handle, b) else none))

def latCheck9 (s : State) (l : Lattice) : Option Refused :=
  let foots := l.vertices.map (vertexFoot s)
  let reach := reachBits l
  match (List.range l.vertices.length).findSome? (fun a => (firstPair s l foots reach a).map (fun p => (a, p))) with
  | some x => some (.rejectedFootprint, x.1, x.2.1 * 2 ^ 32 + x.2.2)
  | none =>
    firstEntry l.vertices .rejectedFootprint notApplicable (fun _ v =>
      (vertexFoot s v).any (fun r => frWrites r && (declOf l r.1).role == 5))

/-! ### Check 10 and admission -/

/-- The state with the lattice resident. -/
def withLattice (s : State) (l : Lattice) : State := s.setLattices (s.lattices ++ [l])

/-- The dense node areas that the member has, or will have by a committed BOBBIN_WINDOW (R146, R356). -/
def denseAreaToCome (s : State) : Nat :=
  ((s.cfg.sets.filter (fun x => x.boundary.isSome)).flatMap (fun x => x.items.filter (fun i => i.1 == 8))).foldl
    (fun m i => min m (sumOf (i.2.map (fun k => (96 - k.toNat) * 2 ^ 20)))) (denseArea s)

def latCheck10 (s : State) (l : Lattice) : Option Refused :=
  let t := withLattice s l
  let sizes := l.params.map (fun p => windowSize (declOf l p))
  if !floorHolds t 0 then
    some (.noSpace, notApplicable, notApplicable)
  else if !l.isEval && decide (denseAreaToCome s < maxOf sizes) then some (.noSpace, sizes.idxOf (maxOf sizes), 6)
  else none

/-- Replicas that this member holds no bits of: owned shards are published, the others wait for their owner's digest
(R149, R334). -/
def absentReplicas (s : State) : State :=
  let s := s.setDense { s.dense with
    replicas := (allShards s).map (fun x =>
      { treeId := x.1, published := none, held := none, checked := 0, lastClean := s.steps.c, due := none, fetching := none,
        buffer := [], mismatches := 0 }) }
  ((allShards s).filter (fun x => x.2 == s.member)).foldl (fun s x =>
    let dig := shardDigest s x.1
    let s := match findReplica s x.1 with
      | some r => setReplica s { r with published := some (s.steps.c, dig), held := some dig, checked := s.steps.c }
      | none => s
    (others s).foldl (fun s m =>
      sendTo s m [x.1] (.digest { step := s.steps.c, treeId := x.1, kind := .published, digest := dig })) s) s

/-- Replicas of a newly resident step lattice: the bits that this member holds, whose digests it computes, are those of state
c, or absent after a restore (R149, R334). -/
def startReplicas (s : State) : State :=
  if s.securing.toProve.isSome then absentReplicas s
  else
    s.setDense { s.dense with
      replicas := (allShards s).map (fun x =>
        { treeId := x.1, published := none, held := some (shardDigest s x.1), checked := s.steps.c, lastClean := s.steps.c,
          due := none, fetching := none, buffer := [], mismatches := 0 }) }

/-- Make a lattice resident: every tensor but a PARAMETER starts as never written, so GRADIENT tensors are +0 (R145). One
that another resident lattice declares too is left alone: a GRADIENT tensor is set to +0 by the step that uses it, once its
values have left and its vertices have retired (R417). -/
def makeResident (s : State) (l : Lattice) : State :=
  let shared (d : TensorDecl) : Bool := s.lattices.any (fun o => o.decls.any (fun e => e.id == d.id))
  let s := withLattice s l
  let s := (l.decls.filter (fun d => d.role != 5 && !shared d)).foldl (fun s d => setTensor s d.id []) s
  if l.isEval then s else startReplicas s

/-- The first failing check of Table 10.13, or the lattice to admit. -/
def checkLattice (s : State) (d : Sub) : Except Refused Lattice :=
  let na := notApplicable
  let handle := d.body 0 4
  let role := d.body 5 1
  let off := d.body 8 4
  let len := d.body 0xC 4
  if handle == 0 || decide (1 < d.body 4 1 ∨ 1 < role) || d.body 6 2 != 0 || !d.zeroFrom 0x10 || !blockOk off len ||
      decide (len < 64 ∨ 2 ^ 30 < len) then .error (.malformed, na, na)
  else if (latticeAt s handle).isSome || (role == 0 && (stepLattice s).isSome) ||
      (role == 1 && decide (15 ≤ (s.lattices.filter Lattice.isEval).length)) then .error (.rejectedConfig, na, na)
  else
    let bs := windowBytes s off len
    match latCheck3 s role bs with
    | some f => .error f
    | none =>
      let r := readRaw bs
      match latCheck4 s r with
      | some f => .error f
      | none =>
        let l := makeLattice s handle role r
        let ms := latModules s r
        match latCheck5 s l with
        | some f => .error f
        | none =>
          match firstRefusal [latCheck6 s l ms, latCheck7 s l, latCheck8 s l, latCheck9 s l, latCheck10 s l] with
          | some f => .error f
          | none => .ok l

def runSubmitLattice (d : Sub) (s : State) : State :=
  match checkLattice s d with
  | .error f => finishWith s d f.1 0 f.2.1 f.2.2
  | .ok l => finish (makeResident s l) d .ok

/-- SUBMIT_LATTICE, OPERATION 0; an OPERATION above 1 is answered here (R258). -/
def execSubmitLattice (d : Sub) (s : State) : Out :=
  beginCommand s d (d.opcode == 0x0001 && d.body 4 1 != 1) notApplicable (runSubmitLattice d)

/-- An accepted EVAL_REQUEST names the lattice: one that is held, or one that has not begun (R257). -/
def namedByEval (s : State) (handle : Nat) : Bool :=
  s.steps.evals.any (fun e => e.handle == handle) ||
  s.rings.accepted.any (fun a => !a.begun && a.sub.opcode == 0x0011 && a.sub.body 8 4 == handle)

/-- Removal (R257). -/
def runSubmitLatticeRemove (d : Sub) (s : State) : State :=
  let na := notApplicable
  let handle := d.body 0 4
  if handle == 0 || d.body 5 1 != 0 || d.body 6 2 != 0 || d.body 8 8 != 0 || !d.zeroFrom 0x10 then
    finishWith s d .malformed 0 na na
  else
    match latticeAt s handle with
    | none => finishWith s d .rejectedConfig 0 na na
    | some l =>
      let busy := if l.isEval then namedByEval s handle else s.steps.a != s.steps.c
      if busy then finishWith s d .rejectedConfig 0 na na
      else
        let s := s.setLattices (s.lattices.filter (fun x => x.handle != handle))
        finish (if l.isEval then s else s.setDense { s.dense with replicas := [] }) d .ok

/-- SUBMIT_LATTICE_REMOVE. -/
def execSubmitLatticeRemove (d : Sub) (s : State) : Out :=
  beginCommand s d (d.opcode == 0x0001 && d.body 4 1 == 1) notApplicable (runSubmitLatticeRemove d)

end Sys2Proof.Machine
end

