-- ==== Sys2Proof/Machine/Tables.lean ====
section
/-! DEFINITION. Table versions: LOAD_TABLE_VERSION in its three phases (R99 to R104), RETIRE_TABLE_VERSION (R40); tiers:
placement and moves (R105 to R109), the flash log and its wear (R110 to R113), lost bits and poison (R117 to R120), chord
modules (R314). -/

namespace Sys2Proof.Machine

/-! ### LOAD_TABLE_VERSION (R99 to R102) -/

def loadPhase (d : Sub) : Nat := d.body 2 1

/-- The first row of Table 5.8. -/
def loadMalformed (d : Sub) : Bool :=
  let ph := loadPhase d
  decide (2 < ph) || d.body 3 1 != 0 || d.body 0x1A 6 != 0 || !d.zeroFrom 0x28 || !blockOk (d.body 0x20 4) (d.body 0x24 4) ||
  (ph == 0 && (d.body 8 8 == 0 || hintBad (d.body 0x19 1))) ||
  (ph != 0 && (d.body 8 8 != 0 || d.body 0x10 8 != 0 || d.body 0x18 2 != 0)) ||
  (ph == 2 && (d.body 0x20 4 != 0 || d.body 0x24 4 != 0))

/-- The version that BEGIN describes. -/
def describedVersion (d : Sub) (hints : List Nat) : Version :=
  { table := d.body 0 2, number := d.body 4 4, rowCount := d.body 8 8, width := d.body 0x10 2, elemFormat := d.body 0x12 1,
    blockLog2 := d.body 0x13 1, skeinLog2 := d.body 0x14 1, optimiser := d.body 0x15 1, stateFormat := d.body 0x16 1,
    stateBlockLog2 := d.body 0x17 1, stateSlots := d.body 0x18 1, hint := d.body 0x19 1, hints := hints, rows := [],
    poisoned := [], ending := [], loaded := false, inEffect := false, retiring := false }

/-- A format, block size, optimiser code, slot count or state format that Tables 5.5 and 5.6 do not allow. -/
def layoutBad (v : Version) : Bool :=
  decide (v.width < 16 ∨ 1024 < v.width ∨ v.skeinLog2 < 6 ∨ 16 < v.skeinLog2 ∨ v.elemFormat < 1 ∨ 3 < v.elemFormat ∨
    v.blockLog2 < 4 ∨ 7 < v.blockLog2) || v.width % 16 != 0 || v.width % v.block != 0 ||
  !stateAllowed v.optimiser v.stateFormat v.stateBlockLog2 v.stateSlots ||
  (isBlocked v.stateFormat && v.width % 2 ^ v.stateBlockLog2 != 0)

/-- BEGIN (R100, R101). -/
def runLoadBegin (d : Sub) (s : State) : State :=
  let len := d.body 0x24 4
  let src := (windowBytes s (d.body 0x20 4) len).map BitVec.toNat
  let v := describedVersion d src
  if loadMalformed d then finish s d .malformed
  else if 4096 ≤ v.table ∨ layoutBad v = true ∨ (findVersion s v.table v.number).isSome = true then finish s d .rejectedConfig
  else if (len ≠ 0 ∧ len ≠ 2 ^ v.skeinLog2) ∨ src.any hintBad = true then finish s d .malformed
  else if 2 ^ 40 < v.rowCount ∨ 4 ≤ (s.tables.versions.filter (fun u => u.table == v.table)).length then finish s d .rejectedLimit
  else
    let t := s.setTables { s.tables with versions := s.tables.versions ++ [v] }
    if pagesFit t (t.tables.pages ++ newPages v (ownedSkeins t v)) then
      finish (installPages t v (ownedSkeins t v)) d .ok
    else finish s d .noSpace

/-- LOAD_TABLE_VERSION_BEGIN; a PHASE above 2 is answered here. -/
def execLoadTableVersionBegin (d : Sub) (s : State) : Out :=
  beginCommand s d (d.opcode == 0x0020 && loadPhase d != 1 && loadPhase d != 2) 0 (runLoadBegin d)

/-- Entries of a DATA source: row number and record. -/
def dataEntries (v : Version) (bs : List Byte) : List (Nat × List Byte) :=
  (chunksOf (8 + v.recordSize) bs.length bs).map (fun e => (leAt e 0 8, e.drop 8))

/-- The first fault of the entries, with its place (Table 5.8): order over all entries, then row count, then skein. -/
def dataFault (s : State) (v : Version) (es : List (Nat × List Byte)) : Option (Status × Nat × Nat) :=
  let rows := es.map (·.1)
  let find (p : Nat → Nat → Bool) (st : Status) : Option (Status × Nat × Nat) :=
    (rows.zipIdx.find? (fun x => p x.2 x.1)).map (fun x => (st, x.2, x.1))
  match find (fun i r => i != 0 && decide (r ≤ nth rows (i - 1) 0)) .malformed with
  | some f => some f
  | none =>
    match find (fun _ r => decide (v.rowCount ≤ r)) .rejectedLimit with
    | some f => some f
    | none => find (fun _ r => rowOwner s v.table r v.skeinLog2 != s.member) .rejectedConfig

/-- Write a record: padding is stored as zero, and a poison mark is cleared (R100, R119). -/
def loadRecord (v : Version) (x : Nat × List Byte) : Version :=
  let v := v.setRecord x.1 (v.clearPadding x.2)
  { v with poisoned := v.poisoned.filter (· != x.1) }

/-- DATA (R100). -/
def runLoadData (d : Sub) (s : State) : State :=
  let na := notApplicable
  if loadMalformed d then finishWith s d .malformed 0 na na
  else
    match findVersion s (d.body 0 2) (d.body 4 4) with
    | none => finishWith s d .versionUnknown 0 na na
    | some v =>
      let len := d.body 0x24 4
      if v.loaded then finishWith s d .rejectedConfig 0 na na
      else if len % (8 + v.recordSize) ≠ 0 then finishWith s d .malformed 0 na na
      else
        let es := dataEntries v (windowBytes s (d.body 0x20 4) len)
        match dataFault s v es with
        | some f => finishWith s d f.1 0 f.2.1 f.2.2
        | none =>
          let s := setVersion s (es.foldl loadRecord v)
          let rows := es.map (·.1)
          let hit (p : Page) : Bool := p.ref.table == v.table && p.ref.version == v.number && rows.any p.rows.contains
          let s := (s.tables.pages.filter (fun p => hit p && p.tier == .flash)).foldl (fun s p => wakeChannels s (pageChannels p.ref)) s
          let s := s.setTables { s.tables with pages := s.tables.pages.map (fun p =>
            if hit p then { p with unsettled := true, dirty := p.dirty || p.tier != .flash, changed := true } else p) }
          finish s d .ok

def execLoadTableVersionData (d : Sub) (s : State) : Out :=
  beginCommand s d (d.opcode == 0x0020 && loadPhase d == 1) notApplicable (runLoadData d)

/-- A version is complete: loaded, and in effect if the table had none (R100). -/
def completeVersion (s : State) (v : Version) : State :=
  let first := (inEffect s v.table).isNone
  v.ending.foldl (fun s d => finish s d .ok)
    (setVersion s { v with ending := [], loaded := true, inEffect := v.inEffect || first })

/-- Pages of a version that DATA has written and that are not yet in their tier. -/
def unsettledPages (s : State) (v : Version) : List Page :=
  s.tables.pages.filter (fun p => p.ref.table == v.table && p.ref.version == v.number && p.unsettled)

/-- END: it completes once every record has reached its tier (R100). -/
def runLoadEnd (d : Sub) (s : State) : State :=
  if loadMalformed d then finish s d .malformed
  else
    match findVersion s (d.body 0 2) (d.body 4 4) with
    | none => finish s d .versionUnknown
    | some v =>
      if v.loaded then finish s d .rejectedConfig
      else
        let v := { v with ending := v.ending ++ [d] }
        let s := setVersion s v
        if (unsettledPages s v).isEmpty then completeVersion s v else s

def execLoadTableVersionEnd (d : Sub) (s : State) : Out :=
  beginCommand s d (d.opcode == 0x0020 && loadPhase d == 2) 0 (runLoadEnd d)

/-! ### Records in their tiers -/

/-- RECORDS_REACHED_TIER: the records of a version lie in their tiers, those of flash written once their NAND channels are
ON; an END that waits completes (R100, R112, R286). -/
def execRecordsReachedTier (table version : Nat) (s : State) : Out :=
  match findVersion s table version with
  | none => .next s
  | some v =>
    let ps := unsettledPages s v
    if !s.running || !ps.all (fun p => p.tier != .flash || channelsOn s (pageChannels p.ref)) then .next s
    else
      let s := ps.foldl settlePage s
      .next (if v.ending.isEmpty then s else completeVersion s v)

/-! ### RETIRE_TABLE_VERSION (Table 2.6) -/

/-- Named in a staged or committed set not yet applied. -/
def namedInSets (s : State) (t v : Nat) : Bool :=
  s.cfg.sets.any (fun x => x.items.any (fun i => i.1 == 6 && (swapPairs i.2).contains (t, v)))

/-- RETIRE_TABLE_VERSION, the checks of Table 2.6 in order. DESIGN CHOICE (log 83): where an END of the version still waits,
the spec does not say how that END is answered; the version goes and its END completes with VERSION_UNKNOWN (R40). -/
def runRetireTableVersion (d : Sub) (s : State) : State :=
  let t := d.body 0 2
  if d.body 2 2 != 0 || !d.zeroFrom 8 || decide (4096 ≤ t) then finish s d .malformed
  else
    match findVersion s t (d.body 4 4) with
    | none => finish s d .versionUnknown
    | some v =>
      if v.inEffect || namedInSets s t v.number then finish s d .rejectedConfig
      else if versionUsed s v then finish (setVersion s { v with retiring := true }) d .acceptedDeferred
      else finish (dropVersion s v) d .ok

def execRetireTableVersion (d : Sub) (s : State) : Out := beginCommand s d (d.opcode == 0x0021) 0 (runRetireTableVersion d)

/-! ### Placement (R105, R107, R108, R111) -/

/-- PLACEMENT_MOVE. -/
def execPlacementMove (page : PageRef) (dest : Tier) (s : State) : Out :=
  match pageAt s page with
  | none => .next s
  | some p => if s.running && moveAllowed s p dest then .next (startMove s p dest) else .next s

/-- The version of a page that flash now holds serves as the copy of every hank and export that waits for one: they name it
(R110, R323). -/
def flashCopy (s : State) (p : Page) : State :=
  let x := (p.ref, p.logSeq)
  let s := s.setSecuring { s.securing with
    hanks := s.securing.hanks.map (fun h =>
      if h.uncopied.contains p.ref then { h with uncopied := h.uncopied.filter (· != p.ref), names := h.names ++ [x] } else h) }
  s.setOutputs { s.outputs with
    exports := s.outputs.exports.map (fun e =>
      if e.pinned.contains p.ref then { e with pinned := e.pinned.filter (· != p.ref), names := e.names ++ [x] } else e) }

/-- Telemetry of a move between two tiers (Table 14.29). -/
def countMove (s : State) (p : Page) (t : Tier) : State :=
  if p.tier == t then s
  else
    let up := decide (tierRank t < tierRank p.tier)
    let s := if up then countTier s (tierIndex t) 0 1 else countTier s (tierIndex p.tier) 1 1
    if up || p.dirty || t != .flash then
      countTier (countTier s (tierIndex t) 2 Constants.pageBytes) (tierIndex p.tier) 3 Constants.pageBytes
    else s

/-- A page lands in its new tier: bits unchanged; a dirty page that leaves the fast tiers is written to the log; what flash
then holds serves a hank or export that waits for a copy (R107, R108, R323). -/
def landPage (s : State) (p : Page) (t : Tier) : State :=
  let s := countMove s p t
  let q := { p with tier := t, port := p.toPort, moving := none, wanted := false }
  if t = .flash then
    let s := if p.dirty then writeFlash s q else setPage s q
    match pageAt s p.ref with
    | some r => flashCopy s r
    | none => s
  else setPage s q

/-! ### Lost bits (R117 to R120) -/

/-- The command whose reading found a line bad: one that is accepted and has not completed (R248). -/
def readingCommand (s : State) (reader : Option (Nat × Word32)) : Option (Nat × Word32) :=
  reader.bind (fun r => if s.rings.accepted.any (fun a => a.sub.ring == r.1 && a.sub.index == r.2) then some r else none)

/-- A hank being taken still reads the page of a row where the bad line lies: it is to copy it, or names it in flash. -/
def hankReads (p : Page) (h : Hank) : Bool :=
  h.sealedLoss.isNone && (h.uncopied.contains p.ref || (p.tier == .flash && h.names.contains (p.ref, p.logSeq)))

/-- The hanks being taken record the row as poisoned where their own copy would read the line (R329). -/
def poisonHanks (s : State) (v : Version) (row : Nat) : State :=
  match pageOfRow s v.table v.number row with
  | none => s
  | some p =>
    s.setSecuring { s.securing with
      hanks := s.securing.hanks.map (fun h =>
        if hankReads p h then
          { h with image := { h.image with
              rows := h.image.rows.filter (fun x => !(x.1 == v.table && x.2.1 == v.number && x.2.2.1 == row)) ++
                [(v.table, v.number, row, List.replicate v.recordSize 0, true)] } }
        else h) }

/-- Mark a row poisoned and post ROW_POISONED the first time; an export that is still to write the row writes it as zeros, and
a hank being taken records it as poisoned (R119, R248, R329, R365). -/
def poisonRow (s : State) (v : Version) (tier : Tier) (cause : Option (Nat × Word32)) (row : Nat) : State :=
  match findVersion s v.table v.number with
  | none => s
  | some v =>
    if v.poisoned.contains row || decide (v.rowCount ≤ row) then s
    else
      let s := setVersion s { v with poisoned := v.poisoned ++ [row] }
      let s := s.setTelemetry { s.telemetry with rowsPoisoned := s.telemetry.rowsPoisoned + 1 }
      let s := s.setOutputs { s.outputs with
        exports := s.outputs.exports.map (fun e =>
          if e.table == v.table && e.version == v.number then
            { e with todo := e.todo.map (fun x => if x.2.1 == row then (x.1, x.2.1, List.replicate v.recordSize 0, true) else x) }
          else e) }
      let s := poisonHanks s v row
      postEventFor s controllerDie (stepNow s) (.rowPoisoned v.table v.number row (tierCode tier)) cause

/-- The rows of a page that share a byte with a bad line are poisoned (R119). -/
def poisonRows (s : State) (p : Page) (cause : Option (Nat × Word32)) (rows : List Nat) : State :=
  match findVersion s p.ref.table p.ref.version with
  | some v => (rows.filter p.rows.contains).foldl (fun s r => poisonRow s v p.tier cause r) s
  | none => s

/-- The member's participation ends (R120). -/
def loseSelf (s : State) (reason : Nat) : State :=
  memberLost (s.setSteps { s.steps with halted := true, lost := true }) (some s.member) reason (stepNow s)

/-- An uncorrectable line in a page: read again from the flash home where the page is clean and homed there, else its rows
that share a byte with the line are poisoned (R118, R119). -/
def badLine (s : State) (p : Page) (cause : Option (Nat × Word32)) (rows : List Nat) : State :=
  if !p.dirty && p.home == .flash && p.tier != .flash then
    setPage (wakeChannels (s.setTelemetry { s.telemetry with rereadLines := s.telemetry.rereadLines + 1 }) (pageChannels p.ref))
      { p with rereading := true }
  else poisonRows s p cause rows

/-- Tiers whose lines can be found uncorrectable: GDDR7, CXL memory and flash (R117). -/
def lineTier (t : Tier) : Bool := t != .sram

/-- BACKGROUND_SCRUB: corrected lines are counted and rewritten; an uncorrectable line, found by the scrub or by a read of any
tier (log 7), lies in a table page, or, where the page named is none, outside table rows (R117 to R120). -/
def execBackgroundScrub (corrected : Nat) (bad : Option PageRef) (line : BadLine) (s : State) : Out :=
  if !s.running then .next s
  else
    let s := s.setTelemetry { s.telemetry with correctedLines := s.telemetry.correctedLines + corrected }
    match bad with
    | none => .next s
    | some r =>
      match pageAt s r with
      | none => .next (loseSelf s 5)
      | some p =>
        if lineTier p.tier && !p.rereading then .next (badLine s p (readingCommand s line.reader) line.rows) else .next s

/-- Lines of the old copy that a move could not read: nothing is lost of a clean page whose flash home still holds its bits,
and any other page's rows are poisoned (R117 to R119). -/
def lostInMove (s : State) (p : Page) (t : Tier) (lost : List Nat) : State :=
  let rows := lost.filter p.rows.contains
  if rows.isEmpty || !lineTier p.tier || (t == .flash && !p.dirty) then s
  else
    match pageAt s p.ref with
    | none => s
    | some q => if p.tier == .flash then poisonRows s p none rows else badLine s q none rows

/-- A move reads or writes flash. -/
def movesFlash (p : Page) (t : Tier) : Bool := p.tier == .flash || (t == .flash && p.dirty)

/-- PAGE_MOVE_END: a page that landed in flash and is wanted again is promoted; a move over flash ends once the page's NAND
channels are ON (R106, R108, R286). The rows whose lines the old copy did not give are poisoned (R117 to R119). -/
def execPageMoveEnd (e : PageEnd) (s : State) : Out :=
  match pageAt s e.page with
  | none => .next s
  | some p =>
    match p.moving with
    | none => .next s
    | some t =>
      if !s.running || (movesFlash p t && !channelsOn s (pageChannels p.ref)) then .next s
      else
        let s := lostInMove (landPage s p t) p t e.lost
        let s := match pageAt s e.page with
          | some q => if p.wanted && q.tier == .flash then wantPage s q else s
          | none => s
        .next (progress (settleHanks s))

/-- FLASH_REREAD_END: the page has been read again from its flash home; rows whose lines flash did not give are poisoned
(R117 to R119). -/
def execFlashRereadEnd (e : PageEnd) (s : State) : Out :=
  match pageAt s e.page with
  | none => .next s
  | some p =>
    if s.running && p.rereading && channelsOn s (pageChannels p.ref) then
      .next (progress (poisonRows (setPage s { p with rereading := false }) { p with tier := .flash } none e.lost))
    else .next s

/-! ### Reclamation and wear (R110 to R112) -/

/-- FLASH_RECLAIM: older page versions that no hank and no export names go; live versions that move draw on the budget, and a
spare area that ran short is free again where the rest leaves 1 TB. It is work for every NAND channel, which wakes for it
(R286). -/
def execFlashReclaim (s : State) : Out :=
  if !s.running then .next s
  else if !channelsOn s (List.range 16) then .next (wakeChannels s (List.range 16))
  else
    let moved := Free.reclaimedPages s.freeCount
    let s := s.bump
    let s := s.setTables { s.tables with older := s.tables.older.filter (versionNamed s) }
    .next (drawWear (s.setTables { s.tables with spareLow := spareShort s }) (moved * Constants.pageBytes))

/-- WEAR_BUDGET_ACCRUAL: 0.5 TB an hour up to 12 TB (R112). -/
def execWearBudgetAccrual (s : State) : Out :=
  if !s.supply.corePower then .next s
  else .next (s.setTables { s.tables with wear := min (s.tables.wear + 500000000000) 12000000000000 })

/-! ### Failures -/

/-- A page of a port that fails: a placed clean copy is read again from flash, a dirty one loses its rows, and a page on its
way there stays where it is (R120). -/
def losePage (port : Nat) (s : State) (p : Page) : State :=
  if p.tier == .cxlPort && p.port == port then
    let s := if p.dirty then poisonRows s p none p.rows else s
    setPage s { p with tier := .flash, moving := none, rereading := false, dirty := false }
  else if p.moving == some .cxlPort && p.toPort == port then setPage s { p with moving := none }
  else s

/-- MEMORY_PORT_FAILURE (R120). DESIGN CHOICE (log 87): the MEMBER_LOST of a port that held CXL homes carries REASON 5, an
uncorrectable line; Table 10.9 also has 3, lost state, and R120 names neither. -/
def execMemoryPortFailure (port : Nat) (s : State) : Out :=
  match s.regs.memPorts[port]? with
  | none => .next s
  | some m =>
    if !s.running || !m.present || m.failed then .next s
    else
      let on := s.tables.pages.filter (fun p => p.tier == .cxlPort && p.port == port)
      let s := s.setRegs { s.regs with memPorts := s.regs.memPorts.set port { m with failed := true } }
      if on.any (fun p => cxlTier p.home) then .next (loseSelf s 5)
      else .next (progress (s.tables.pages.foldl (losePage port) s))

/-- CHORD_MODULE_FAILURE: the member's participation ends (R314). -/
def execChordModuleFailure (chord : Nat) (s : State) : Out :=
  if !s.running || 112 ≤ chord then .next s
  else .next (loseSelf s 8)

end Sys2Proof.Machine
end

