-- ==== Sys2Proof/Machine/Rings.lean ====
section
/-! DEFINITION. The doorbell and the acceptance of commands (R238 to R243, R247), the consumer lines of the module-written
rings (R247, R251), and the set-up of a ring (R350, R351). -/

namespace Sys2Proof.Machine

/-! ### Acceptance (R240, R241, R247) -/

/-- With one more command accepted, the accepted uncompleted commands and the unconsumed completions stay below ring 8's
size, and at most 4,096 commands are accepted and uncompleted. -/
def acceptRoom (s : State) : Bool :=
  decide (s.rings.accepted.length + 1 + (ringAt s 8).used < (ringAt s 8).size ∧
    s.rings.accepted.length + 1 ≤ Constants.maxAccepted)

/-- Accept the descriptors a ring has read, in index order, while there is room. -/
def acceptFrom (ring : Nat) : List (Word32 × Wide) → State → State
  | [], s => s
  | x :: r, s =>
    if acceptRoom s then
      let g := ringAt s ring
      let s := setRing s ring { g with consumer := g.consumer + 1, unaccepted := r }
      acceptFrom ring r
        (s.setRings { s.rings with
          accepted := s.rings.accepted ++ [{ sub := { ring := ring, index := x.1, desc := x.2 }, begun := false }] })
    else s

/-- Accept what the submission rings in use have read, ring by ring from the lowest; a halted ring accepts nothing. -/
def acceptAll (s : State) : State :=
  (List.range 8).foldl
    (fun s n => if (ringAt s n).active && !(ringAt s n).halted then acceptFrom n (ringAt s n).unaccepted s else s) s

/-- The record of a halted ring: opcode 0, MALFORMED, the ring, and the offending producer index (R239). -/
def haltRecord (ring : Nat) (producer : Word32) : Completion :=
  { opcode := 0, status := .malformed, phase := false, commandId := 0, submitIndex := producer, ring := ring, errorCode := 0,
    detail0 := 0, detail1 := 0 }

/-- The producer line of a submission ring is read: a count above the ring's size halts the ring before it reads any
descriptor; otherwise the descriptors from the consumer index up to the producer index are read and accepted (R239,
R240). -/
def readProducer (s : State) (ring : Nat) (producer : Word32) (descs : List Wide) : State :=
  let r := ringAt s ring
  let count := (producer - r.consumer).toNat
  if r.size < count then
    postDone (setRing s ring { r with halted := true, unaccepted := [] }) (haltRecord ring producer)
  else
    acceptAll (setRing s ring { r with
      producer := producer,
      unaccepted := (List.range count).map (fun i => (r.consumer + BitVec.ofNat 32 i, nth descs i 0)) })

/-- Software stores a consumer index into the line of a module-written ring; an index beyond the producer's names
nothing. -/
def storeConsumer (s : State) (ring : Nat) (consumer : Word32) : State :=
  let r := ringAt s ring
  if r.active && decide ((consumer - r.consumer).toNat ≤ r.used) then setRing s ring { r with consumer := consumer } else s

/-- Room on ring 8: held-back completions are written, and acceptance goes on (R247). -/
def resumeAcceptance (s : State) (consumer : Word32) : State := acceptAll (flushDone (storeConsumer s 8 consumer))

/-- Room on ring 9: held events are written in order, and the completions that waited for them (R248, R251). -/
def resumeEvents (s : State) (consumer : Word32) : State := flushEvents (storeConsumer s 9 consumer)

/-! ### The rows -/

/-- A host store names a byte past the window (R341). -/
def storeOutside (w : Store) : Bool := decide (Constants.windowBytes < w.offset + w.bytes.length)

/-- DOORBELL: the host's stores into the window are visible before its store to a control line (R342), whose snoop
makes the module read the line again: the producer line of a submission ring, or the consumer line of a module-written
one (R238, R240). -/
def execDoorbell (ring : Nat) (producer : Word32) (descs : List Wide) (stores : List Store) (s : State) : Out :=
  if !s.running then .next s
  else
    match stores.find? storeOutside with
    | some w => .fault (.windowRange w.offset)
    | none =>
      let s := stores.foldl (fun s w => windowWrite s w.offset w.bytes) s
      if ring < 8 then
        .next (if (ringAt s ring).active && !(ringAt s ring).halted then readProducer s ring producer descs else s)
      else if ring = 8 then .next (resumeAcceptance s producer)
      else if ring = 9 then .next (resumeEvents s producer)
      else .next (storeConsumer s ring producer)

/-- COMMAND_ACCEPTANCE_RESUME: software's consumer line of ring 8 frees room (R247). -/
def execCommandAcceptanceResume (consumer : Word32) (s : State) : Out :=
  .next (if s.running then resumeAcceptance s consumer else s)

/-- HELD_EVENT_POST: software's consumer line of ring 9 frees room (R251). -/
def execHeldEventPost (consumer : Word32) (s : State) : Out := .next (if s.running then resumeEvents s consumer else s)

/-- The details of a refusal that names no entry and no section: not applicable for SUBMIT_LATTICE and for DATA (R246). -/
def headerDetail (d : Sub) : Nat :=
  if d.opcode = 0x0001 ∨ (d.opcode = 0x0020 ∧ loadPhase d = 1) then notApplicable else 0

/-- UNKNOWN_OPCODE_DESCRIPTOR: an opcode not in Table 10.3, or a header whose FLAGS or reserved fields are not zero, is
answered with MALFORMED before any other check (R243). -/
def execUnknownOpcodeDescriptor (d : Sub) (s : State) : Out :=
  .next (if canBegin s d && (!knownOpcodes.contains d.opcode || !d.headerOk)
    then finishWith (markBegun s d) d .malformed 0 (headerDetail d) (headerDetail d) else s)

/-! ### Ring set-up (R350, R351) -/

/-- SETUP_STATUS of an enable: the codes of Table 10.5. -/
def enableStatus (s : State) (ring sizeLog2 : Nat) : Nat :=
  if sizeLog2 < 6 ∨ 16 < sizeLog2 then 0x08
  else if ring ≠ 8 ∧ ring ≠ 9 ∧ !((ringAt s 8).active && (ringAt s 9).active) then 0x03
  else 0x00

/-- RING_ENABLE: the write stores SIZE_LOG2, sets SETUP_STATUS and, on OK, takes the ring into use: both control lines are
read; a submission ring consumes from its consumer line, and a producer index that differs acts as a doorbell; a
module-written ring produces from its producer line (R350). A 1 in HALTED clears that bit. -/
def execRingEnable (ring : Nat) (value : Word) (producer consumer : Word32) (descs : List Wide) (s : State) : Out :=
  let r := ringAt s ring
  if !s.running || decide (12 ≤ ring) || r.enable then .next s
  else
    let size := bits value.toNat 8 5
    let st := enableStatus s ring size
    let r := { r with sizeLog2 := size, setupStatus := BitVec.ofNat 8 st, halted := r.halted && !bitAt value.toNat 1 }
    if st ≠ 0 then .next (setRing s ring r)
    else if ring < 8 then
      let s := setRing s ring { r with enable := true, active := true, producer := consumer, consumer := consumer, unaccepted := [] }
      .next (if producer != consumer && !r.halted then readProducer s ring producer descs else s)
    else
      let s := setRing s ring { r with enable := true, active := true, producer := producer, consumer := consumer, unaccepted := [] }
      .next (acceptAll (flushEvents (flushDone s)))

/-- A write of ENABLE 0 is ignored (R351). -/
def disableIgnored (s : State) (ring : Nat) : Bool :=
  if ring = 8 ∨ ring = 9 then (List.range 8).any (fun n => (ringAt s n).active)
  else if ring = 10 then !s.outputs.exports.isEmpty
  else ring == 11 && s.outputs.deltaOn

/-- RING_DISABLE: a submission ring accepts no further descriptor and is no longer ACTIVE; accepted commands go on (R351). -/
def execRingDisable (ring : Nat) (s : State) : Out :=
  let r := ringAt s ring
  if !s.running || decide (12 ≤ ring) || !r.enable || disableIgnored s ring then .next s
  else .next (setRing s ring { r with enable := false, active := false, unaccepted := [] })

/-- RING_REARM: 1 is written to HALTED; the ring reads its producer line again and goes on from its consumer index, or
halts again (R351). -/
def execRingRearm (ring : Nat) (producer : Word32) (descs : List Wide) (s : State) : Out :=
  let r := ringAt s ring
  if !s.running || decide (12 ≤ ring) || !r.halted then .next s
  else
    let s := setRing s ring { r with halted := false }
    .next (if r.active then readProducer s ring producer descs else s)

end Sys2Proof.Machine
end

