-- ==== Sys2Proof/Machine/Power.lean ====
section
/-! DEFINITION. Grant rounds, balances and voltage levels (R269 to R277), the brake (R278 to R280), heat (R281 to R283),
and the units that are switched on and off (R284 to R286). Dies are in the order of event DIE codes: 0 to 39 compute, 40
to 47 memory, 48 to 63 link. -/

namespace Sys2Proof.Machine

/-! ### Heat (R281, Table 11.4) -/

def thermalThresholds : List Int := [95, 100, 105, 110]

/-- Actions in force on a die: each begins at its threshold and ends when the reading has fallen 3 °C below it. -/
def thermalOf (before : Nat) (reading : Int) : Nat :=
  maxOf (thermalThresholds.mapIdx (fun i t => if t ≤ reading ∨ (i < before ∧ t - 3 < reading) then i + 1 else 0))

/-- thermal_factor in quarters. -/
def thermalQuarters (action : Nat) : Nat := if 3 ≤ action then 1 else if 1 ≤ action then 2 else 4

/-- The highest level a budgeted domain may have: MAX_LEVEL, its thermal limit, and 0 while the module is held at the
floor (R282). -/
def levelLimit (maxLevel action : Nat) (floor : Bool) : Nat :=
  if floor ∨ 3 ≤ action then 0 else if action = 2 then min maxLevel 4 else maxLevel

/-- The module is held at the brake floor: by the brake, or by the 110 °C action. -/
def atFloor (p : Power) : Bool := p.braked || p.hotFloor

/-! ### Grants (R271, R272, R282) -/

/-- The effective limit in mW. -/
def effectiveLimit (s : State) : Nat :=
  1000 * (if atFloor s.power then min s.cfg.capWatts Constants.brakeFloorWatts else s.cfg.capWatts)

/-- The round's total grant: it rises while the power lies below the limit and falls while it lies above; how far is
the module's own (a free value). -/
def nextGrant (s : State) (power : Nat) : Nat :=
  let limit := effectiveLimit s
  let move := Free.grantMove s.power.total limit power + 1
  if power < limit then s.power.total + move else if limit < power then s.power.total - move else s.power.total

/-- demand_d: the estimates of a die's ready vertices, at most the ceiling. -/
def demandOf (s : State) (die : Nat) : Nat :=
  charged (sumOf ((readyOn s die).map (fun x =>
    ((instances s)[x.2.1]?).elim 0 (fun i => (instLattice s i.ref).elim 0 (fun l => (vertexOf l x.2.2).estimate)))))

/-- Weight of a die, in quarters; a parked die has none. -/
def weightOf (s : State) (die : Nat) : Nat :=
  if unitState s (dieUnit die) = .off then 0 else demandOf s die * thermalQuarters (nth s.power.thermal die 0)

/-- Divide the total grant in proportion to the weights; what a balance at its ceiling cannot take goes to the next
round. -/
def shareGrant (s : State) (power : Nat) : State :=
  let g := nextGrant s power
  let ws := (List.range 40).map (weightOf s)
  let total := sumOf ws
  let shares := ws.map (fun w => if total = 0 then 0 else g * w / total)
  let give (a : Int) (share : Nat) : Int := max a (min (a + share) Constants.budgetCeiling)
  let excess := sumOf (List.zipWith (fun (a : Int) share => (a + share - give a share).toNat) s.power.balance shares)
  s.setPower { s.power with balance := List.zipWith give s.power.balance shares, total := g + excess }

/-! ### Metering (R272, R275, R277) -/

/-- The energy metered on a die since the last round is charged to the contexts that hold vertices on it, in equal parts
and the rest to the first; with none, and for idle draw, it is deducted from the balance. -/
def chargeDie (s : State) (die metered idle : Nat) : State :=
  let here := s.spindles.contexts.filter (fun c => c.1.die == die)
  match here with
  | [] => addBalance s die (-((metered + idle : Nat) : Int))
  | first :: _ =>
    let part := metered / here.length
    let rest := metered - part * here.length
    addBalance
      (s.setSpindles { s.spindles with
        contexts := s.spindles.contexts.map (fun c =>
          if c.1.die == die then (c.1, { c.2 with metered := c.2.metered + part + (if c.1 = first.1 then rest else 0) }) else c) })
      die (-(idle : Int))

/-- The energy counter takes what was drawn (R275). -/
def countEnergy (s : State) (drawn : Nat) : State :=
  s.setRegs { s.regs with energyCount := s.regs.energyCount + BitVec.ofNat 64 drawn }

/-- The energy counter and the metered-energy counters take what was drawn, and each die charges its vertices. -/
def meterRound (s : State) (r : RoundReadings) : State :=
  let s := countEnergy s r.moduleDrawn
  let s := s.setTelemetry { s.telemetry with
    metered := s.telemetry.metered.mapIdx (fun i x => x + nth r.metered i 0 + (if i < 40 then nth r.idleDrawn i 0 else 0)) }
  (List.range 40).foldl (fun s d => chargeDie s d (nth r.metered d 0) (nth r.idleDrawn d 0)) s

/-! ### Levels (R268, R273, R274) -/

/-- The first ready unit of a die: its name, and its estimate. -/
def headOf (s : State) (die : Nat) : Option (Option (InstRef × Nat) × Nat) :=
  ((readyOn s die).head?).map (fun x => (queueUnit s x, queueEstimate s x))

/-- A vertex waits only for a free context: no spindle of the die can take it, and one could if it had a context free. -/
def contextShort (s : State) (die : Nat) (i : Inst) (l : Lattice) (group : List Nat) (v : Nat) : Bool :=
  match currentImage s (vertexOf l v).program with
  | none => false
  | some img =>
    let fits (sp : Nat) : Bool := spindleFits s die sp img.ply (vertexOf l v).function group i.ref
    let serves (sp : Nat) : Bool := spindleServes s die sp img.ply (vertexOf l v).function group i.ref
    !(List.range 64).any fits && (List.range 64).any serves

/-- Free contexts of a die. -/
def freeContexts (s : State) (die : Nat) : Nat := 256 - (s.spindles.contexts.filter (fun c => c.1.die == die)).length

/-- The die has a ready vertex that waits only for a free context: its unit's estimate lets it go, and the die is short of
contexts for the unit (R274). -/
def waitsForContext (s : State) (die : Nat) : Bool :=
  let queue := readyOn s die
  queue.any (fun x =>
    match (instances s)[x.2.1]? with
    | none => false
    | some i =>
      match instLattice s i.ref with
      | none => false
      | some l =>
        let g := groupOf l x.2.2
        energyGate s die queue i.ref g &&
          (decide (freeContexts s die < g.length) || g.any (contextShort s die i l g)))

/-- The level of a compute die at the end of a round, `held` being the rounds its first ready vertex has been held for
energy. -/
def nextLevel (s : State) (die held : Nat) : Nat :=
  let level := nth s.power.levels die 4
  let limit := levelLimit s.cfg.maxLevel (nth s.power.thermal die 0) (atFloor s.power)
  if limit < level ∨ (4 ≤ held ∧ 0 < level) then level - 1
  else if 3072 ≤ balanceOf s die ∧ level < limit ∧ waitsForContext s die = true then level + 1
  else level

/-- The level of a memory or link die: 4, lowered to 0 by heat or at the floor, and climbing back one level a round. -/
def fixedLevel (s : State) (die : Nat) : Nat :=
  if atFloor s.power ∨ 3 ≤ nth s.power.thermal die 0 then 0 else min (nth s.power.levels die 4 + 1) 4

/-- The unit that is held for energy on a die at the end of a round, and the rounds it has been held (R263, R274). -/
def nextHeld (s : State) (die : Nat) : Option (InstRef × Nat) × Nat :=
  match headOf s die with
  | some (u, e) =>
    if (e : Int) ≤ balanceOf s die then (none, 0)
    else (u, if nth s.power.heldFor die none == u then nth s.power.heldRounds die 0 + 1 else 1)
  | none => (none, 0)

/-- Every domain at level 0, as the floor sets it (R278). -/
def floorLevels (s : State) : State := s.setPower { s.power with levels := List.replicate 64 0 }

/-- Set the levels at the end of a round; a parked die keeps its level. -/
def setLevels (s : State) : State :=
  let held := (List.range 40).map (nextHeld s)
  let passed := (List.range 40).map (fun d =>
    if (nth held d (none, 0)).1.isSome && (nth held d (none, 0)).1 == nth s.power.heldFor d none then nth s.power.passed d 0 else 0)
  let levels := (List.range 64).map (fun d =>
    if d < 40 then
      if unitState s (dieUnit d) = .off then nth s.power.levels d 4 else nextLevel s d (nth held d (none, 0)).2
    else fixedLevel s d)
  s.setPower { s.power with levels := levels, heldFor := held.map (·.1), heldRounds := held.map (·.2), passed := passed }

/-- The hottest junction of the module (Table 10.9). -/
def hottest (junctions : List Int) : Int := junctions.foldl max 0

/-- The level that a die's own thermal action allows (Table 11.4). -/
def thermalLimit (action : Nat) : Nat := if 3 ≤ action then 0 else if action = 2 then 4 else 7

/-- THERMAL_THROTTLE for each die that its own thermal limit has just lowered, and for one that has just reached 105 or
110 °C (Table 11.4). -/
def postThrottles (s : State) (before : List Nat) (levels : List Nat) : State :=
  (List.range 64).foldl (fun s d =>
    let now := nth s.power.thermal d 0
    let old := nth before d 0
    let lowered := decide (thermalLimit now < nth levels d 4 ∧ nth s.power.levels d 4 < nth levels d 4)
    if lowered || decide (3 ≤ now ∧ old < 3) || decide (now = 4 ∧ old < 4) then
      postEvent s d (stepNow s) (.thermalThrottle (hottest s.power.junctions) (nth s.power.levels d 4))
    else s) s

/-- Power is removed from the core and memory supplies; nothing is posted, and the job key is gone (R283, R383). -/
def tripPower (s : State) : State :=
  (s.setSupply { s.supply with thermTrip := true, corePower := false }).setSecurity { s.security with jobKey := none }

/-- The readings of a round: the energy drawn is metered, and the junctions set the thermal actions. -/
def takeReadings (s : State) (readings : RoundReadings) : State :=
  let t := meterRound s readings
  let thermal := (List.range 64).map (fun d => thermalOf (nth s.power.thermal d 0) (nth readings.junctions d 0))
  let hot (n : Int) : Bool := readings.junctions.any (fun j => decide (n ≤ j))
  t.setPower { t.power with
    junctions := readings.junctions, thermal := thermal, hotFloor := hot 110 || (s.power.hotFloor && hot 107) }

/-- The total grant is set and divided, and each budget unit sets its level; `before` and `levels` are the thermal actions
and the levels of the round before. -/
def actOnRound (s : State) (powerMilliwatt : Nat) (before levels : List Nat) : State :=
  let t := setLevels (shareGrant s powerMilliwatt)
  postThrottles (if s.power.hotFloor then floorLevels t else t) before levels

/-- GRANT_ROUND: input power and junctions are read, the energy drawn is metered, heat acts, the total grant is set and
divided, and each budget unit sets its level. A junction at 118 °C or above removes power instead (R283). With core power on
and the module in reset or in the recovery loader, energy is counted and the trip is watched, and nothing else is done
(R275, R283). -/
def execGrantRound (readings : RoundReadings) (s : State) : Out :=
  if !s.supply.corePower then .next s
  else
    let t := if s.running then takeReadings s readings else countEnergy s readings.moduleDrawn
    if readings.junctions.any (fun j => decide (118 ≤ j)) then .next (tripPower t)
    else if !s.running then .next t
    else .next (actOnRound t readings.powerMilliwatt s.power.thermal s.power.levels)

/-! ### The brake (R278, R279, R407) -/

/-- The brake is entered: every domain goes to level 0, and BRAKE_ENTERED carries the energy counter. -/
def enterBrake (s : State) : State :=
  let s := floorLevels (s.setPower { s.power with braked := true, hysteresis := false })
  postEvent s controllerDie (stepNow s) (.brakeEntered s.regs.energyCount)

/-- The module takes the pin into account: powered, with no reset cause present (R409). -/
def brakeWatched (s : State) : Bool := s.supply.corePower && s.supply.causes.isEmpty

/-- BRAKE_ENTERED: an assertion that lasts so long. One of at least 2 µs acts, one below 0.5 µs does not, and between
them the module may act (a free choice); one of 0.5 µs or more while the module is braked keeps it braked and posts
nothing. During the reset sequence the event is held; while the module is unpowered or a reset cause is present, only the
pin is known (R409). -/
def execBrakeEntered (nanoseconds : Nat) (s : State) : Out :=
  if nanoseconds < 500 then .next s
  else
    let t := s.setSupply { s.supply with brakePin := true }
    if !brakeWatched s then .next t
    else if s.power.braked then .next (t.setPower { t.power with hysteresis := false })
    else if 2000 ≤ nanoseconds then .next (enterBrake t)
    else .next (if Free.shortPulse 1 nanoseconds s.freeCount then enterBrake t.bump else t.bump)

/-- PWR_BRAKE_N_DEASSERTED: the hysteresis starts (R279). -/
def execPwrBrakeNDeasserted (s : State) : Out :=
  if !s.supply.brakePin then .next s
  else
    let s := s.setSupply { s.supply with brakePin := false }
    .next (if s.power.braked then s.setPower { s.power with hysteresis := true } else s)

/-- BRAKE_END: the hysteresis has run out; no event. A BRAKE_ENTERED held since the reset sequence is dropped where ring 9
has not been in use yet (R279, R409). -/
def execBrakeEnd (s : State) : Out :=
  if s.power.braked && s.power.hysteresis then
    let s := s.setPower { s.power with braked := false, hysteresis := false }
    .next (if (ringAt s 9).setupStatus = 0 then s
      else s.setRings { s.rings with
        heldEvents := s.rings.heldEvents.filter (fun e => match e.body with | .brakeEntered _ => false | _ => true) })
  else .next s

/-! ### Units (R284 to R286, R347) -/

def setUnit (s : State) (u : Nat) (x : PowerUnit) : State := s.setPower { s.power with units := s.power.units.set u x }

/-- A memory port holds rows homed in CXL memory (R285, Table 14.15). -/
def holdsHomes (s : State) (k : Nat) : Bool := s.tables.pages.any (fun p => p.home == .cxlPort && p.port == k)

/-- The route table in effect uses a link port: the applied one, or before any the table of the remembered peers of UP ports
(R285, R304). -/
def routeUses (s : State) (port : Nat) : Bool := (ownRoutes s).any (fun e => bitAt e.ports port)

/-- Start waking a unit; a link port starts its bring-up (R284, R290). -/
def wakeUnit (s : State) (u : Nat) : State :=
  let s := setUnit s u { state := .waking, recorded := false }
  if u < 16 then startTraining s u else s

def drainUnit (s : State) (u : Nat) : State :=
  let s := setUnit s u { state := .draining, recorded := false }
  if 34 ≤ u then s.setPower { s.power with parkLevels := s.power.parkLevels.set (u - 34) (nth s.power.levels (u - 34) 4) } else s

/-- The answers of R285 that come before a unit's state: MALFORMED, REJECTED_CONFIG. -/
def unitRefusal (s : State) (u : Nat) (on : Bool) : Option Nat :=
  if 73 < u then some 0x08
  else if 18 ≤ u then some 0x03
  else if !on && (if u < 16 then routeUses s u else holdsHomes s (u - 16)) then some 0x03
  else none

def answerUnit (s : State) (code : Nat) : State := s.setRegs { s.regs with requestStatus := BitVec.ofNat 8 code }

/-- UNIT_ENABLE (R284, R285). An enable of an ON link port that has FAILED with reason 5 to 8 tries it again (Table
12.2). -/
def execUnitEnable (unit : Nat) (s : State) : Out :=
  if !s.running then .next s
  else
    match unitRefusal s unit true with
    | some code => .next (answerUnit s code)
    | none =>
      match unitState s unit with
      | .off => .next (wakeUnit (answerUnit s 0x00) unit)
      | .waking => .next (answerUnit s 0x00)
      | .draining => .next (setUnit (answerUnit s 0x01) unit { state := .draining, recorded := true })
      | .on =>
        let p := portAt s unit
        let again := decide (unit < 16) && p.link == .failed && decide (5 ≤ p.reason ∧ p.reason ≤ 8)
        .next (if again then startTraining (answerUnit s 0x00) unit else answerUnit s 0x00)

/-- UNIT_DISABLE (R284, R285). -/
def execUnitDisable (unit : Nat) (s : State) : Out :=
  if !s.running then .next s
  else
    match unitRefusal s unit false with
    | some code => .next (answerUnit s code)
    | none =>
      match unitState s unit with
      | .on => .next (drainUnit (answerUnit s 0x00) unit)
      | .waking => .next (setUnit (answerUnit s 0x01) unit { state := .waking, recorded := true })
      | _ => .next (answerUnit s 0x00)

/-- A compute die holds no ready and no running vertex. -/
def dieIdle (s : State) (die : Nat) : Bool := (readyOn s die).isEmpty && !s.spindles.contexts.any (fun c => c.1.die == die)

/-- DIE_PARK (R286). -/
def execDiePark (die : Nat) (s : State) : Out :=
  if s.running && decide (die < 40) && unitState s (dieUnit die) == .on && dieIdle s die then .next (drainUnit s (dieUnit die))
  else .next s

/-- No operation is queued for a NAND channel: no page on it moves, is written or is read again, and no hank is being
written. -/
def channelIdle (s : State) (channel : Nat) : Bool :=
  !s.tables.pages.any (fun p =>
    (pageChannels p.ref).contains channel &&
      (p.rereading || (p.unsettled && p.tier == .flash) || (p.moving.isSome && (p.tier == .flash || p.moving == some .flash)))) &&
  s.securing.hanks.all Hank.localDone

/-- NAND_CHANNEL_IDLE (R286). -/
def execNandChannelIdle (channel : Nat) (s : State) : Out :=
  if s.running && decide (channel < 16) && unitState s (18 + channel) == .on && channelIdle s channel then
    .next (drainUnit s (18 + channel))
  else .next s

/-- A draining unit has drained (Table 11.6): a link port's frames are delivered, a memory port holds no placed copy, a
die's vertices have retired and its commands completed. -/
def drained (s : State) (u : Nat) : Bool :=
  if u < 16 then (portAt s u).link != .up || (portAt s u).replay.isEmpty
  else if u < 18 then
    !s.tables.pages.any (fun p =>
      (p.tier == .cxlPort && p.port == u - 16) || (p.moving == some .cxlPort && p.toPort == u - 16))
  else if u < 34 then channelIdle s (u - 18)
  else !s.spindles.contexts.any (fun c => c.1.die == u - 34) &&
    s.spindles.queues.all (fun q => q.1.die != u - 34 || q.2.cmds.isEmpty)

/-- What a unit that is OFF no longer shows: the link's state, the expander. -/
def switchOff (s : State) (u : Nat) : State :=
  let s := setUnit s u { state := .off, recorded := false }
  if u < 16 then
    let s := startTraining s u
    setPort s u { portAt s u with link := .off }
  else if u < 18 then
    s.setRegs { s.regs with
      memPorts := s.regs.memPorts.set (u - 16) { present := false, capacityGB := 0, lanes := 0, rate := 0, failed := false } }
  else s

/-- UNIT_DRAIN_END: the unit is OFF; where an enable was recorded, the wake follows at once (R284). -/
def execUnitDrainEnd (unit : Nat) (s : State) : Out :=
  match s.power.units[unit]? with
  | none => .next s
  | some u =>
    if !s.running || u.state != .draining || !drained s unit then .next s
    else
      let s := switchOff s unit
      .next (if u.recorded then wakeUnit s unit else s)

/-- A memory port that has trained: an expander with IDE, of which at most 4 TB is used (R343). -/
def trainedPort (e : Option Expander) : MemPort :=
  match e with
  | some e => { present := true, capacityGB := min e.capacityGB 4000, lanes := e.lanes, rate := e.rate, failed := false }
  | none => { present := false, capacityGB := 0, lanes := 0, rate := 0, failed := false }

/-- UNIT_WAKE_END: the unit is ON, a link port once its bring-up has ended in UP or FAILED; a memory port shows what it
found; a compute die has the level it held when it parked. Where a disable was recorded, the drain follows (R274,
R284). -/
def execUnitWakeEnd (unit : Nat) (expander : Option Expander) (s : State) : Out :=
  match s.power.units[unit]? with
  | none => .next s
  | some u =>
    let training := decide (unit < 16) && ((portAt s unit).link == .training || (portAt s unit).link == .confirming)
    if !s.running || u.state != .waking || training then .next s
    else
      let s := setUnit s unit { state := .on, recorded := false }
      let s :=
        if unit = 16 ∨ unit = 17 then s.setRegs { s.regs with memPorts := s.regs.memPorts.set (unit - 16) (trainedPort expander) }
        else if 34 ≤ unit then
          let d := unit - 34
          let limit := levelLimit s.cfg.maxLevel (nth s.power.thermal d 0) (atFloor s.power)
          s.setPower { s.power with levels := s.power.levels.set d (min (nth s.power.parkLevels d 4) limit) }
        else s
      .next (if u.recorded then drainUnit s unit else pump s)

end Sys2Proof.Machine
end

