-- ==== Sys2Proof/Machine/Registers.lean ====
section
/-! DEFINITION. The set-up registers (R345 to R347): what each reads as, plain writes (R9), the job commit (R348) and the
latch of the energy counter (R276). -/

namespace Sys2Proof.Machine

/-! ### What registers read as (Tables 14.3 to 14.20) -/

def flag (b : Bool) : Nat := if b then 1 else 0

def statusCode (s : Status) : Nat :=
  match s with
  | .ok => 0
  | .acceptedDeferred => 1
  | .rejectedFootprint => 2
  | .rejectedConfig => 3
  | .rejectedLimit => 4
  | .noSpace => 5
  | .versionUnknown => 6
  | .security => 7
  | .malformed => 8

/-- IDENTIFICATION (Table 14.3). -/
def identification (s : State) : Nat :=
  0x0B64 <<< 48 + 0xA1 <<< 40 + 1 <<< 36 + (if s.regs.recoveryLoader then 0 else s.security.running.version % 2 ^ 32)

/-- STATUS (Table 14.4). -/
def statusRegister (s : State) : Nat :=
  s.supply.lastReset <<< 8 + flag s.security.jobKey.isSome <<< 4 + flag s.regs.jobSet <<< 3 + flag s.regs.meshFault <<< 2 +
  flag s.regs.recoveryLoader <<< 1 + flag s.regs.ready

def jobConfig (s : State) : Nat := s.regs.memberCount <<< 16 + s.regs.memberNumber

def unitCode (u : UnitState) : Nat :=
  match u with
  | .off => 0
  | .waking => 1
  | .on => 2
  | .draining => 3

/-- UNIT_STATE_k (Table 14.14). -/
def unitStateRegister (s : State) (k : Nat) : Nat :=
  sumOf ((List.range 32).map (fun j => if 32 * k + j ≤ 73 then unitCode (unitState s (32 * k + j)) <<< (2 * j) else 0))

/-- MEMORY_PORT_STATUS_n (Table 14.15). -/
def memoryPortRegister (s : State) (n : Nat) : Nat :=
  match s.regs.memPorts[n]? with
  | some m => m.capacityGB <<< 32 + m.lanes <<< 8 + m.rate <<< 4 + flag (holdsHomes s n) <<< 1 + flag m.present
  | none => 0

def linkCode (l : LinkState) : Nat :=
  match l with
  | .off => 0
  | .training => 1
  | .confirming => 2
  | .up => 3
  | .failed => 4

/-- PORT_STATUS_n (Table 14.16). -/
def portRegister (s : State) (n : Nat) : Nat :=
  let p := portAt s n
  (match p.peer with
   | some (m, q) => 1 <<< 48 + q <<< 44 + m <<< 32
   | none => 0) +
  (if p.link = .failed then p.reason <<< 8 else 0) + (if 3 ≤ p.lanes.length then p.lanes.length else 0) <<< 4 + linkCode p.link

/-- RING_CONTROL_n (Table 14.19). -/
def ringControl (r : Ring) : Nat :=
  r.setupStatus.toNat <<< 16 + r.sizeLog2 <<< 8 + flag r.active <<< 2 + flag r.halted <<< 1 + flag r.enable

/-- SLIVER_WIDTH_n, 256 bits (Table 14.20). -/
def sliverWidthRegister (s : State) (n : Nat) : Nat :=
  sumOf ((nth s.regs.widths n []).mapIdx (fun i w => w <<< (4 * i)))

/-- A register by its offset; an offset that Table 14.2 does not name reads as zero, and so does every register but
IDENTIFICATION and STATUS until READY (R345). -/
def registerValue (s : State) (off : Nat) : Nat :=
  if off = 0 then identification s
  else if off = 8 then statusRegister s
  else if !s.regs.ready then 0
  else if off = 0x100 then jobConfig s
  else if off = 0x108 then s.regs.jobSeed.toNat
  else if off = 0x110 then s.regs.listAddress.toNat
  else if off = 0x118 then s.regs.fabricBase.toNat
  else if off = 0x120 then s.regs.fabricLength.toNat
  else if off = 0x128 then s.regs.commitStatus.toNat <<< 8
  else if off = 0x200 then s.regs.energyCount.toNat
  else if off = 0x300 then s.regs.requestStatus.toNat <<< 16
  else if 0x308 ≤ off ∧ off ≤ 0x318 then unitStateRegister s ((off - 0x308) / 8)
  else if off = 0x400 ∨ off = 0x408 then memoryPortRegister s ((off - 0x400) / 8)
  else if 0x1000 ≤ off ∧ off < 0x1080 then portRegister s ((off - 0x1000) / 8)
  else if 0x2000 ≤ off ∧ off < 0x2180 then
    let r := ringAt s ((off - 0x2000) / 0x20)
    if off % 0x20 = 0 then r.base.toNat
    else if off % 0x20 = 8 then r.lineBase.toNat
    else if off % 0x20 = 0x18 then ringControl r
    else 0
  else if 0x3000 ≤ off ∧ off < 0x3500 then
    bits (sliverWidthRegister s ((off - 0x3000) / 0x20)) (64 * ((off - 0x3000) % 0x20 / 8)) 64
  else 0

/-- A 32-bit read of the high half of ENERGY_COUNT: the half latched by the read of the low half before it (R276). -/
def energyHighRead (s : State) : Nat := (s.regs.energyLatch.map BitVec.toNat).getD (s.regs.energyCount.toNat >>> 32)

/-! ### Writes -/

/-- The 64-bit value of a register after a 64-bit write, or a 32-bit write of one half (R345). -/
def mergeWrite (old off : Nat) (wide : Bool) (value : Nat) : Nat :=
  if wide then value
  else if off % 8 = 4 then bits old 0 32 + bits value 0 32 <<< 32
  else (old >>> 32) <<< 32 + bits value 0 32

/-- Clear the low `n` bits. -/
def dropLow (n v : Nat) : Word := BitVec.ofNat 64 ((v >>> n) <<< n)

/-- A plain field of the job block (Tables 14.6 to 14.10), locked once JOB_SET is 1. -/
def writeJob (s : State) (reg value : Nat) : State :=
  if s.regs.jobSet then s
  else
    match reg with
    | 0x100 => s.setRegs { s.regs with memberCount := bits value 16 13, memberNumber := bits value 0 12 }
    | 0x108 => s.setRegs { s.regs with jobSeed := BitVec.ofNat 64 value }
    | 0x110 => s.setRegs { s.regs with listAddress := dropLow 6 value }
    | 0x118 => s.setRegs { s.regs with fabricBase := dropLow 16 value }
    | 0x120 => s.setRegs { s.regs with fabricLength := dropLow 16 value }
    | _ => s

/-- A plain field of a ring's registers (Tables 14.17 to 14.19), ignored while ENABLE is 1; a write that sets ENABLE is
RING_ENABLE's. -/
def writeRing (s : State) (reg value : Nat) : State :=
  let n := (reg - 0x2000) / 0x20
  let r := ringAt s n
  if r.enable then s
  else
    match reg % 0x20 with
    | 0 => setRing s n { r with base := dropLow 6 value }
    | 8 => setRing s n { r with lineBase := dropLow 7 value }
    | 0x18 => if bitAt value 0 then s else setRing s n { r with sizeLog2 := bits value 8 5 }
    | _ => s

/-- REGISTER_WRITE: RW and RW/L fields take the value written; a write to any other field or offset, an access that is
not aligned, and every write before READY are ignored (R9, R345). -/
def execRegisterWrite (offset : Nat) (wide : Bool) (value : Word) (s : State) : Out :=
  if !s.running || offset % (if wide then 8 else 4) ≠ 0 then .next s
  else
    let reg := offset / 8 * 8
    let v := mergeWrite (registerValue s reg) offset wide value.toNat
    if 0x100 ≤ reg ∧ reg ≤ 0x120 then .next (writeJob s reg v)
    else if 0x2000 ≤ reg ∧ reg < 0x2180 then .next (writeRing s reg v)
    else .next s

/-- COMMIT_STATUS of a commit of the job block with the member list it reads (R348). -/
def commitCode (s : State) (members : List Nat) : Status :=
  if s.regs.memberCount = 0 ∨ 4096 < s.regs.memberCount ∨ members.any (fun m => decide (4095 < m)) ∨ ascending members = false then
    .malformed
  else if !members.contains s.regs.memberNumber || decide (16 * 10 ^ 12 < s.regs.fabricLength.toNat) then .rejectedConfig
  else .ok

/-- JOB_COMMIT: the module reads the list of MEMBER_COUNT entries, checks the job block and, on OK, locks it (R348). -/
def execJobCommit (list : List Nat) (s : State) : Out :=
  if !s.running || s.regs.jobSet then .next s
  else
    let members := (List.range s.regs.memberCount).map (fun i => nth list i 0)
    let st := commitCode s members
    let s := s.setRegs { s.regs with commitStatus := BitVec.ofNat 8 (statusCode st) }
    .next (if st = .ok then s.setRegs { s.regs with jobSet := true, members := members } else s)

/-- ENERGY_COUNT_LOW_READ (R276). -/
def execEnergyCountLowRead (s : State) : Out :=
  if !s.running then .next s
  else
    let e := s.regs.energyCount.toNat
    .next (s.setRegs { s.regs with energyLatch := some (BitVec.ofNat 32 (e >>> 32)), energyRead := BitVec.ofNat 32 e })

end Sys2Proof.Machine
end

