-- ==== Sys2Proof/Machine/Supply.lean ====
section
/-! DEFINITION. The 64 V input and its switch (R403, R404), the reset causes and what each leaves (R359 to R361), PERST_N
(R406), coinciding events (R409), and the end of the reset sequence. -/

namespace Sys2Proof.Machine

/-! ### What a reset leaves (R360, Table 14.24) -/

/-- Page versions in flash: the homes as they stand, and the older versions of the log. -/
def flashVersions (s : State) : List (PageRef × Nat) :=
  s.tables.older ++ (s.tables.pages.filter (fun p => p.home == .flash)).map (fun p => (p.ref, p.logSeq))

/-- The secured-state area: sealed hanks, mirrors and the failure record. A hank that was not sealed is never used. -/
def keptSecuring (s : State) : Securing :=
  { Securing.reset with
    hanks := s.securing.hanks.filter (fun h => h.sealedLoss.isSome), mirrors := s.securing.mirrors,
    failR := s.securing.failR, failO := s.securing.failO }

/-- Firmware, identity, the fused minimum and the owner of the flash state stay; keys, an open transfer, a debug nonce and
an unlock go; the ephemeral keys are made anew (R383, R386, R389, R393, R394). -/
def keptSecurity (s : State) : Security :=
  { Security.reset with
    flashOwner := s.security.flashOwner, running := s.security.running, boot := s.security.boot,
    minSecVersion := s.security.minSecVersion, keyGeneration := s.security.keyGeneration + 1 }

/-- The state after any reset, with the energy counter given. Commands that wait at the block's input stay. -/
def clearedState (s : State) (energy : Word) : State :=
  { State.reset with
    pending := s.pending, regs := Regs.reset energy, tables := Tables.reset (flashVersions s), securing := keptSecuring s,
    security := keptSecurity s, freeCount := s.freeCount, supply := { s.supply with inReset := true } }

/-- With the last cause gone and the module powered the sequence starts, at the floor where PWR_BRAKE_N is asserted
(R406, R409). -/
def startSequence (s : State) : State := if brakeWatched s && s.supply.brakePin then enterBrake s else s

/-- A reset is in progress, and LAST_RESET keeps the code of its first cause (R409); the recovery loader is no reset in
progress. -/
def resetGoesOn (s : State) : Bool := s.supply.inReset && !s.regs.recoveryLoader

/-- A reset of a given type, whose cause may last. -/
def resetBy (s : State) (code : Nat) (lasting : Bool) : State :=
  let t := clearedState s s.regs.energyCount
  startSequence (t.setSupply { t.supply with
    lastReset := if resetGoesOn s then s.supply.lastReset else code,
    causes := if lasting && !s.supply.causes.contains code then s.supply.causes ++ [code] else s.supply.causes })

/-- A power-on reset: the energy counter restarts at 0; its cause lasts until the switch has closed, and PERST_N asserted
then is a cause too (R275, R359, R409). -/
def powerOn (s : State) : State :=
  let t := clearedState s 0
  t.setSupply { t.supply with
    inputPresent := true, switchClosed := false, openCause := .none, corePower := false, lastReset := 1,
    causes := if s.supply.perst then [1, 2] else [1] }

/-! ### The input switch (R403, R404) -/

/-- The switch closes and its charge completes: power is on unless the thermal trip is latched. Where it had opened, the
opening was a loss of input, so a power-on reset comes first. -/
def closeSwitch (s : State) : State :=
  let t := if s.supply.openCause = .none then s else powerOn s
  startSequence (t.setSupply { t.supply with
    switchClosed := true, corePower := !t.supply.thermTrip, causes := t.supply.causes.filter (· != 1) })

/-- The switch opens: a loss of input. -/
def openSwitch (s : State) (c : OpenCause) : State :=
  s.setSupply { s.supply with switchClosed := false, openCause := c, corePower := false }

/-- INPUT_SWITCH_CLOSE: MATE_SENSE is joined and the input has stayed at or above 55 V for 10 ms. After an overvoltage or
an overcurrent the switch follows rules of its own. -/
def execInputSwitchClose (s : State) : Out :=
  let own := s.supply.openCause == .overvoltage || s.supply.openCause == .overcurrent
  if !s.supply.inputPresent || s.supply.switchClosed || own then .next s
  else .next (closeSwitch (s.setSupply { s.supply with mateJoined := true }))

/-- INPUT_OVERVOLTAGE: above 72 V the switch opens. -/
def execInputOvervoltage (s : State) : Out := .next (if s.supply.switchClosed then openSwitch s .overvoltage else s)

/-- OVERVOLTAGE_RECLOSE: the input has fallen below 70 V. -/
def execOvervoltageReclose (s : State) : Out :=
  .next (if s.supply.inputPresent && s.supply.mateJoined && s.supply.openCause == .overvoltage then closeSwitch s else s)

/-- INPUT_OVERCURRENT: above the limit for 1 ms the switch opens. -/
def execInputOvercurrent (s : State) : Out := .next (if s.supply.switchClosed then openSwitch s .overcurrent else s)

/-- OVERCURRENT_RETRY: the switch retries once every second. -/
def execOvercurrentRetry (s : State) : Out :=
  .next (if s.supply.inputPresent && s.supply.mateJoined && s.supply.openCause == .overcurrent then closeSwitch s else s)

/-- MATE_SENSE_RELEASED: the switch opens. -/
def execMateSenseReleased (s : State) : Out :=
  if !s.supply.mateJoined then .next s
  else .next ((openSwitch s .mateReleased).setSupply { (openSwitch s .mateReleased).supply with mateJoined := false })

/-- LOSS_OF_INPUT: the bus has fallen below 50 V; core power is removed until the input returns (R404). -/
def execLossOfInput (s : State) : Out :=
  if !s.supply.inputPresent then .next s
  else .next ((openSwitch s .lossOfInput).setSupply { (openSwitch s .lossOfInput).supply with inputPresent := false })

/-- THERM_TRIP_CLEAR: below 20 V for 100 ms the input counts as removed, and the latch clears (R408). -/
def execThermTripClear (s : State) : Out :=
  if !s.supply.thermTrip then .next s
  else
    let t := openSwitch s .lossOfInput
    .next (t.setSupply { t.supply with inputPresent := false, thermTrip := false })

/-! ### Resets (R359, R406) -/

/-- POWER_ON_RESET: the 64 V input is applied; power follows when the switch closes. -/
def execPowerOnReset (s : State) : Out := .next (if s.supply.inputPresent then s else powerOn s)

/-- PERST_N_ASSERTED: an assertion that lasts so long. One of 10 µs or more resets, one below 1 µs does not, and between
them the module may act (a free choice). While the thermal trip is latched, or power is off, only the pin is known. -/
def execPerstNAsserted (nanoseconds : Nat) (s : State) : Out :=
  if nanoseconds < 1000 ∨ s.supply.perst then .next s
  else
    let pin (t : State) : State := t.setSupply { t.supply with perst := true }
    if !s.supply.corePower then
      .next (pin (if s.supply.inputPresent && s.supply.inReset && !s.supply.thermTrip then
        s.setSupply { s.supply with causes := s.supply.causes ++ [2] } else s))
    else if 10000 ≤ nanoseconds then .next (pin (resetBy s 2 true))
    else .next (if Free.shortPulse 0 nanoseconds s.freeCount then pin (resetBy s.bump 2 true) else s.bump)

/-- PERST_N_DEASSERTED: its cause ends, and with the last cause the sequence starts. -/
def execPerstNDeasserted (s : State) : Out :=
  if !s.supply.perst then .next s
  else .next (startSequence (s.setSupply { s.supply with perst := false, causes := s.supply.causes.filter (· != 2) }))

/-- LINK_RESET: a CXL hot reset, or the host link going down. -/
def execLinkReset (s : State) : Out := .next (if s.supply.corePower then resetBy s 3 false else s)

/-- FUNCTION_LEVEL_RESET. -/
def execFunctionLevelReset (s : State) : Out := .next (if s.supply.corePower then resetBy s 4 false else s)

/-- REGISTER_RESET: 0xB064_0001 is written to RESET_CONTROL; any other value has no effect. -/
def execRegisterReset (value : Word32) (s : State) : Out :=
  .next (if s.running && value == 0xB0640001 then resetBy s 5 false else s)

/-- RESET_SEQUENCE_END: firmware that verifies runs, and raises the fused minimum; chords stand as the tests
found them, the columns with a fault are bypassed, and READY is 1. Otherwise the recovery loader runs and the sequence stops
(R172, R173, R313, R361, R388, R390). -/
def execResetSequenceEnd (found : SelfTest) (s : State) : Out :=
  if !s.supply.corePower || !s.supply.inReset || !s.supply.causes.isEmpty || s.regs.recoveryLoader then .next s
  else if found.firmwareOk && s.security.boot.valid && decide (s.security.minSecVersion ≤ s.security.boot.secVersion) then
    let s := s.setSecurity { s.security with
      running := s.security.boot, minSecVersion := max s.security.minSecVersion s.security.boot.secVersion }
    let s := s.setRegs { s.regs with
      ready := true, chords := found.chords, bypass := bypassOf found, widths := widthsOf (bypassOf found),
      meshFault := found.chords.any (· == 0) }
    .next (s.setSupply { s.supply with inReset := false })
  else .next (s.setRegs { s.regs with recoveryLoader := true })

end Sys2Proof.Machine
end

