-- ==== Sys2Proof/Machine/Restore.lean ====
section
/-! DEFINITION. RESTORE_FROM_HANK: the checks of Table 13.5, what a restore abandons (R333) and puts back (R334). -/

namespace Sys2Proof.Machine

/-! ### The descriptor (Table 13.4) -/

def restoreSource (d : Sub) : Nat := d.body 8 1
def restoreSet (d : Sub) : Nat := d.body 12 4

def restoreMalformed (d : Sub) : Bool :=
  let src := restoreSource d
  d.body 9 1 != 0 || !d.zeroFrom 0x18 || decide (2 < src) || (src != 1 && d.body 10 2 != 0) ||
  (src != 2 && d.body 0x10 8 != 0) || d.body 0x10 8 % 65536 != 0

/-- Hanks of its own that the member may restore from. -/
def usableHanks (s : State) : List Hank :=
  s.securing.hanks.filter (fun h => h.sealedLoss.isSome && !h.unusable && h.localDone && h.image.member == s.member)

/-- DETAIL_0: the newest usable boundary at the source, or all ones. -/
def newestUsable (s : State) (d : Sub) (newest : Option Nat) : Nat :=
  let own := (usableHanks s).map Hank.boundary
  if restoreSource d = 0 then (if own.isEmpty then notApplicable else maxOf own) else newest.getD notApplicable

/-- Hank N at the source: a local one is the module's own, a mirrored one is what the source gives. -/
def sourceHank (s : State) (d : Sub) (read : HankRead) : Option HankImage :=
  let n := d.body 0 8
  if restoreSource d = 0 then
    ((usableHanks s).find? (fun h => h.boundary == n)).map (fun h => { h.image with sealedLoss := h.sealedLoss.getD 0 })
  else
    match read with
    | .found h => if h.boundary = n ∧ h.member = s.member then some h else none
    | _ => none

/-! ### Abandoning (R333) -/

/-- Commands that a restore abandons: unread or unfinished steps, evaluations, exports, and loads of table versions. -/
def abandonedSubs (s : State) (keep : List (Nat × Nat)) : List Sub :=
  (s.steps.admitted.filter (fun a => decide (s.steps.c < a.n) && !a.answered)).map AdmStep.sub ++
  s.steps.evals.map EvalReq.sub ++ s.outputs.exports.map ExportJob.sub ++
  (s.tables.versions.filter (fun v => !keep.contains (v.table, v.number))).flatMap Version.ending

/-- Contexts and queued commands of abandoned work go, the contexts being FREE with what they held (R181); energy reserved and not drawn returns. -/
def dropWork (s : State) : State :=
  let t := s.spindles.contexts.foldl (fun s c => addBalance s c.1.die ((c.2.reserved : Int) - (c.2.metered : Int))) s
  freeDrained (t.setSpindles { t.spindles with
    contexts := [], idle := t.spindles.contexts.foldl (fun m c => aPut m c.1 c.2) t.spindles.idle,
    queues := t.spindles.queues.map (fun q => (q.1, { q.2 with cmds := [], offers := [] })) })

/-- What an accepted restore of hank `h` abandons; commands so abandoned complete with REJECTED_CONFIG. The next mirror of this
member is a full one: its buddy may be a spare that holds none (R336, log 91). -/
def abandon (s : State) (h : HankImage) (setId : Nat) : State :=
  let subs := abandonedSubs s h.bindings
  let s := dropWork s
  let s := s.setSteps { s.steps with admitted := [], evals := [], reports := [], decision := none }
  let s := s.setOutputs { s.outputs with exports := [] }
  let s := s.setTables { s.tables with
    versions := s.tables.versions.filter (fun v => h.bindings.contains (v.table, v.number)),
    pages := (s.tables.pages.filter (fun p => h.bindings.contains (p.ref.table, p.ref.version))).map (fun p =>
      { p with tier := p.home, moving := none, rereading := false, wanted := false, heat := 0 }),
    leaving := [], arriving := [], landed := [] }
  let s := s.setCfg { s.cfg with
    sets := s.cfg.sets.filter (fun x => x.id == setId && x.boundary.isNone), commitOrder := [], commitBehind := [], routeDue := none }
  let s := s.setOwners { s.owners with
    requests := [], entries := [], streams := [], arrived := [], arrivedEval := [], era := s.owners.era + 1, granted := [],
    withheld := [] }
  let s := s.setDense { s.dense with nodes := [], granted := [] }
  let s := s.setLinks { s.links with waiting := [] }
  let s := s.setSecuring { s.securing with
    hanks := s.securing.hanks.filter (fun k => k.localDone && decide (k.boundary ≤ h.boundary)), hold := none, reports := [],
    mirrors := s.securing.mirrors.filter (fun m => m.sealedLoss.isSome && decide (m.boundary ≤ h.boundary)), mirrored := none }
  subs.foldl (fun s x => finish s x .rejectedConfig) s

/-! ### Putting back (R316, R334) -/

/-- Every key that a hank holds at its default, before the hank's values are set. -/
def clearHeld (c : Config) : Config :=
  { c with
    skeinMaps := [], lossPolicy := Config.reset.lossPolicy, secure := Config.reset.secure, opt := [], pooling := [],
    evalPolicy := Config.reset.evalPolicy, buddies := none }

/-- A version as a hank describes it, with its rows and poison marks. -/
def imageVersion (h : HankImage) (x : Nat × Nat × List Nat) : Version :=
  let f (i : Nat) : Nat := nth x.2.2 i 0
  let mine := h.rows.filter (fun r => r.1 == x.1 && r.2.1 == x.2.1)
  { table := x.1, number := x.2.1, rowCount := f 0, width := f 1, elemFormat := f 2, blockLog2 := f 3, skeinLog2 := f 4,
    optimiser := f 5, stateFormat := f 6, stateBlockLog2 := f 7, stateSlots := f 8, hint := f 9, hints := x.2.2.drop 10,
    rows := (mine.filter (fun r => r.2.2.2.1.any (· != 0))).map (fun r => (r.2.2.1, r.2.2.2.1)),
    poisoned := (mine.filter (fun r => r.2.2.2.2)).map (fun r => r.2.2.1), ending := [], loaded := true, inEffect := true,
    retiring := false }

/-- The log sequence number a page stands at after the restore: the version the hank names, or a new one. -/
def restoredSeq (s : State) (n : Nat) (r : PageRef) : Nat :=
  match (s.securing.hanks.filter (fun h => h.boundary == n)).findSome? (fun h => (h.names.find? (fun x => x.1 == r)).map (·.2)) with
  | some q => q
  | none => maxOf ((s.tables.older.filter (fun x => x.1 == r)).map (·.2)) + 1

/-- The tables of hank N: every owned page at its home or its pin, its heat 0, CXL-homed ones to be protected by the next
hank (R104, R322, R333). -/
def restoreTables (s : State) (h : HankImage) : State :=
  let vs := h.versions.map (imageVersion h)
  let s := s.setTables { s.tables with older := flashVersions s, versions := vs, pages := [] }
  (vs.flatMap (fun v => newPages v (ownedSkeins s v))).foldl (fun t p =>
    addPage t { placePage t 0 p with logSeq := restoredSeq s h.boundary p.ref, changed := cxlTier p.home }) s

/-- Owned weights and optimiser state of hank N. -/
def restoreDense (s : State) (h : HankImage) : State :=
  let s := h.dense.foldl (fun s x => setTensor s x.1 (writeElem (tensorMem s x.1) 4 x.2.1 x.2.2.toNat)) s
  s.setDense { s.dense with
    slots := h.slots.foldl (fun m x =>
      aPut m (x.1, x.2.1) (memWrite ((aGet m (x.1, x.2.1)).getD []) x.2.2.1 x.2.2.2)) [] }

/-- Hank N in place: configuration, tables, dense state, loss scale, and the securing schedule, whose next boundary lies at
N + INITIAL_INTERVAL (R318). -/
def restoreImage (s : State) (h : HankImage) : State :=
  let s := s.setCfg (clearHeld s.cfg)
  let s := h.config.foldl (fun s i => setItem s h.boundary i.1 i.2) s
  let s := restoreDense (restoreTables s h) h
  let s := s.setSteps { s.steps with exponent := h.exponent, clean := h.clean }
  s.setSecuring { s.securing with
    lastSched := h.lastSched, decided := false,
    nextSched := if s.cfg.secure.mode = 2 then none else some (h.boundary + s.cfg.secure.initialInterval) }

/-! ### The command (R332) -/

/-- The first failing item of the set, checked against the restored state. -/
def restoreItem (s : State) (h : HankImage) (setId : Nat) : Option (Status × Nat × Nat) :=
  match s.cfg.sets.find? (fun x => x.id == setId) with
  | some x => checkItems (restoreImage (abandon s h setId) h) h.boundary [] (setItems x)
  | none => none

/-- The rows of Table 13.5 after the two of R349, in order: status and failing item. -/
def restoreRefusal (s : State) (d : Sub) (read : HankRead) : Option (Status × Nat) :=
  let from_ := d.body 10 2
  let id := restoreSet d
  let hank := sourceHank s d read
  let item := hank.bind (fun h => if id = 0 || read == .macFailure then none else restoreItem s h id)
  if restoreMalformed d then some (.malformed, notApplicable)
  else if s.securing.restoring.isSome ||
      (restoreSource d == 1 && (from_ == s.member || !s.members.contains from_)) ||
      (id != 0 && !s.cfg.sets.any (fun x => x.id == id && x.boundary.isNone)) then some (.rejectedConfig, notApplicable)
  else
    match item with
    | some f => some (.rejectedConfig, f.2.1)
    | none =>
      if read == .macFailure then some (.security, notApplicable)
      else
        match hank with
        | none => some (.versionUnknown, notApplicable)
        | some h =>
          if h.members != s.members || h.seed != s.regs.jobSeed then some (.rejectedConfig, notApplicable)
          else
            let t := restoreImage (abandon s h id) h
            if pagesFit t t.tables.pages then none else some (.noSpace, notApplicable)

/-- RESTORE_FROM_HANK. -/
def execRestoreFromHank (d : Sub) (read : HankRead) (newest : Option Nat) (s : State) : Out :=
  if !canBegin s d || d.opcode != 0x0041 then .next s
  else
    let best := newestUsable s d newest
    let s := markBegun s d
    match entryStatus s d with
    | some st => .next (finishWith s d st 0 best notApplicable)
    | none =>
      match restoreRefusal s d read, sourceHank s d read with
      | none, some h =>
        let t := wakeChannels (abandon s h (restoreSet d)) (List.range 16)
        .next (t.setSecuring { t.securing with
          restoring := some { sub := d, image := h, source := restoreSource d, setId := restoreSet d, newest := best } })
      | some f, _ => .next (finishWith s d f.1 0 best f.2)
      | none, none => .next s

/-- The items of a restore's set: its ROUTE_TABLE, or the rest (R334 steps 1 and 3). -/
def restoreItems (s : State) (setId : Nat) (routes : Bool) : List Item :=
  match s.cfg.sets.find? (fun x => x.id == setId) with
  | some x => (setItems x).filter (fun i => (i.2.1 == 2) == routes)
  | none => []

/-- A restore from a mirror writes every owned page to its home, on the wear budget like loading (R334). -/
def restoreWear (s : State) (source : Nat) : State :=
  if source = 0 then s
  else drawWear s ((s.tables.pages.filter (fun p => p.home == .flash)).length * Constants.pageBytes)

/-- Steps admitted while the restore ran: a and c go to N, and these complete as those before it did (R333, log 47). -/
def withdrawEarly (s : State) : State :=
  let subs := (s.steps.admitted.filter (fun a => !a.answered)).map AdmStep.sub
  let s := dropWork (s.setSteps { s.steps with admitted := [] })
  subs.foldl (fun s x => finish s x .rejectedConfig) s

/-- RESTORE_END: routes, the hank's contents and the other items are in place; a and c are N, every replica is absent, and
step N + 1 has to prove the restore; it reads and writes flash, so it waits for the NAND channels (R286, R334, R336,
R369). -/
def execRestoreEnd (s : State) : Out :=
  match s.securing.restoring with
  | none => .next s
  | some r =>
    if !s.running || !channelsOn s (List.range 16) then .next s
    else
      let n := r.image.boundary
      let s := withdrawEarly s
      let put (s : State) (l : List Item) : State := l.foldl (fun s i => applyItem s n i.2.1 i.2.2) s
      let rest := restoreItems s r.setId false
      let s := put s (restoreItems s r.setId true)
      let s := restoreWear (restoreImage s r.image) r.source
      let s := put s rest
      let s := s.setSteps { s.steps with a := n, c := n, halted := false, lost := false }
      let s := s.setCfg { s.cfg with sets := s.cfg.sets.filter (fun x => x.id != r.setId) }
      let s := s.setSecuring { s.securing with
        restoring := none, toProve := some (n, r.image.sealedLoss), energyAt := [] }
      let s := settleDelta (absentReplicas s) n
      .next (progress (finishWith s r.sub .ok 0 r.newest notApplicable))

end Sys2Proof.Machine
end

