-- ==== Sys2Proof/Machine/Debug.lean ====
section
/-! DEFINITION. DEBUG_BREAK and DEBUG_RESUME (R266, R267). -/

namespace Sys2Proof.Machine

/-- A field outside its range, or a reserved byte that is not zero (Table 10.14). -/
def breakMalformed (d : Sub) : Bool :=
  let die := d.body 2 1
  let sp := d.body 3 1
  decide (3 < d.body 0 1 ∨ 1 < d.body 1 1) || (decide (40 ≤ die) && die != 0xFF) || (decide (64 ≤ sp) && sp != 0xFF) ||
  decide (1 < d.body 4 1 ∨ 1 < d.body 5 1) || !d.zeroFrom 16

/-- The condition that a descriptor arms. -/
def breakSlot (d : Sub) : BreakSlot :=
  { die := if d.body 2 1 = 0xFF then none else some (d.body 2 1),
    spindle := if d.body 3 1 = 0xFF then none else some (d.body 3 1),
    queue := if d.body 4 1 = 0 then .array else .move, onTag := d.body 5 1 == 1, tag := d.body 6 2, count := d.body 8 8 }

def setBreak (s : State) (slot : Nat) (b : Option BreakSlot) : State :=
  s.setSpindles { s.spindles with breaks := s.spindles.breaks.set slot b }

/-- Arm a slot, replacing its condition; an OPERATION above 1 is answered here. -/
def runBreakArm (d : Sub) (s : State) : State :=
  if breakMalformed d then finish s d .malformed else finish (setBreak s (d.body 0 1) (some (breakSlot d))) d .ok

def runBreakClear (d : Sub) (s : State) : State :=
  if breakMalformed d then finish s d .malformed else finish (setBreak s (d.body 0 1) none) d .ok

def execDebugBreakArm (d : Sub) (s : State) : Out :=
  beginCommand s d (d.opcode == 0x0070 && d.body 1 1 != 0) 0 (runBreakArm d)

def execDebugBreakClear (d : Sub) (s : State) : Out :=
  beginCommand s d (d.opcode == 0x0070 && d.body 1 1 == 0) 0 (runBreakClear d)

/-- Release every held command and the contexts. -/
def releaseStop (s : State) : State :=
  s.setSpindles { s.spindles with
    stopped := false,
    queues := s.spindles.queues.map (fun q => (q.1, { q.2 with cmds := q.2.cmds.map (fun c => { c with held := false }) })) }

def runDebugResume (d : Sub) (s : State) : State :=
  if !d.zeroFrom 0 then finish s d .malformed
  else if s.spindles.stopped then finish (progress (releaseStop s)) d .ok
  else finish s d .rejectedConfig

def execDebugResume (d : Sub) (s : State) : Out := beginCommand s d (d.opcode == 0x0071) 0 (runDebugResume d)

end Sys2Proof.Machine
end

