-- ==== Sys2Proof/Machine/Exchange.lean ====
section
/-! DEFINITION. The rows whose results let other work go on: passes carded, requests served, rows, sums, digests and slices
received, blocks updated (R77, R86, R87, R89, R147, R149). -/

namespace Sys2Proof.Machine

/-- ROW_DATA: rows in the working format (R87). -/
def execRowData (rx : Rx) (f : RowDataF) (s : State) : Out :=
  receive s rx 0x02 (.rowData f) (rowDataOk f) (fun s => progress (deliverRows s f))

/-- PARTIAL_SUM: pool-at-owner sums, added in owner order (R89). -/
def execPartialSum (rx : Rx) (f : PartialSumF) (s : State) : Out :=
  receive s rx 0x03 (.partialSum f) (partialSumOk f) (fun s => progress (deliverSums s rx.source f))

/-- A request breaks the map that governs its step at this owner, or its binding (R84). -/
def requestFault (s : State) (q : OwnReq) : Bool :=
  let g := if q.eval then s else governed s q.step
  match servedVersion s q with
  | none => true
  | some v => q.rows.any (fun r => rowOwner g q.table r.1 v.skeinLog2 != s.member || decide (v.rowCount ≤ r.1))

/-- ROW_REQUEST_SERVE: once its rows are ready the request is answered; a map or binding fault posts MEMBER_LOST with
reason 2 and serves none of it (R84, R87). -/
def execRowRequestServe (source step table pass : Nat) (s : State) : Out :=
  match s.owners.requests.find? (fun q => q.source == source && q.step == step && q.table == table && q.pass == pass && q.complete) with
  | none => .next s
  | some q =>
    if !s.running || s.spindles.stopped || !requestDue s q then .next s
    else
      let drop := s.setOwners { s.owners with requests := s.owners.requests.erase q }
      if requestFault s q then .next (memberLost drop (some source) 2 step)
      else
        match servedVersion s q with
        | none => .next s
        | some v => if rowsServable s q v then .next (progress (serveRequest drop q v)) else .next s

/-- The requests of a carded pass to the owners of its rows, this member among them (R86). -/
def sendRequests (s : State) (inst : InstRef) (c : Section) (v : Version) (p : Nat × Nat) (k : Card) : State :=
  let noGrad := instIsEval inst || !trained s c.table
  let handle := match inst with | .step _ => 0 | .eval _ h => h
  k.split.foldl (fun s o =>
    let f : RowRequestF :=
      { step := instStep inst, table := c.table, pass := k.pass, pool := c.poolAtOwner, last := true, noGradient := noGrad,
        rows := k.rowsFor o.1, groups := if c.poolAtOwner then c.groups v k p o.1 else [] }
    if o.1 = s.member then takeRequest s o.1 (BitVec.ofNat 32 handle) f (instIsEval inst)
    else (requestFrames f).foldl (fun s f => sendTo s o.1 [instStep inst, c.table, k.pass, handle] (.rowRequest f)) s) s

/-- CARDING_PASS_END: a pass has been sorted: its results are kept, and its requests go to the owners of its rows (R76,
R77, R86). -/
def execCardingPassEnd (inst : InstRef) (table pass : Nat) (s : State) : Out :=
  match sectionAt s inst table, instVersion s inst table with
  | some c, some v =>
    let due := match inst with
      | .step n => (stepAt s n).any AdmStep.read
      | .eval b h => (evalAt s b h).any EvalReq.running
    match c.passes[pass]? with
    | none => .next s
    | some p =>
      if !s.running || !due || c.isCarded pass then .next s
      else
        let k := c.cardOf v pass p
        let s := setSection s inst { c with cards := c.cards ++ [k] }
        .next (progress (sendRequests s inst c v p k))
  | _, _ => .next s

/-- DENSE_BLOCK_UPDATE: a complete block at its root, after the member's last read of it: skipped on overflow, else the
built-in optimiser is applied; a kernel's block waits for its invocation (R139, R147, R165). -/
def execDenseBlockUpdate (treeId block : Nat) (s : State) : Out :=
  match s.dense.nodes.find? (fun x => x.treeId == treeId && x.block == block && !x.done && !x.sum.isEmpty) with
  | none => .next s
  | some x =>
    match parameterDecl s (treeTensor treeId) with
    | none => .next s
    | some d =>
      if !s.running || !updateGate s x.step || !readsOver s x.step d.id (2048 * block) (2048 * block + blockLength d block)
      then .next s
      else if x.sum.any (fun v => !(of32 v).finite) then .next (progress (finishBlock (skipBlock s x.step d.id block) d x))
      else if d.optimiser = 5 then .next s
      else
        let g := x.sum.map (fun v => unscale s.steps.exponent (of32 v))
        let s := applyBlockUnit s d x.step block (optimise d.optimiser (optParamsOf s d.id) g (blockUnit s d block))
        .next (progress (finishBlock s d x))

/-- DIGEST (R149). -/
def execDigest (rx : Rx) (f : DigestF) (s : State) : Out :=
  receive s rx 0x21 (.digest f) (f.kind != .recomputeRequest || f.digest == 0) (fun s => progress (takeDigest s rx f))

/-- SLICE_DATA (R149). -/
def execSliceData (rx : Rx) (f : SliceDataF) (s : State) : Out :=
  receive s rx 0x20 (.sliceData f) (sliceOk s f) (fun s => progress (takeSlice s f))

end Sys2Proof.Machine
end

