-- ==== Sys2Proof/Machine/PlyRegisters.lean ====
section
/-! DEFINITION. Ply instructions on registers: moves, integer and floating lanes, comparisons, widening, narrowing,
reductions (R186 to R191, R217). -/

namespace Sys2Proof.Machine

/-- Issue an instruction that only changes its context and moves on. -/
def registerStep (s : State) (c : CtxId) (w : Word) (op : Nat) (f : Context → Context) : Out :=
  plyStep s c w op (fun x _ _ => setCtx s c (nextPc (f x)))

/-- The tag of an 8-bit MOV or SEL: the sources' where no predicate mixes lanes, else not stated. -/
def movTag (x : Context) (w : Word) (view : Nat) (tag : Word32) : Word32 :=
  if view != 0 then 0
  else if plyPredicated w then Free.mixedTag tag (vtag x (plyDst w)) (preg x (plyPred w))
  else tag

/-- MOV: DST = SRC1, scalar or vector. -/
def movEffect (w : Word) (x : Context) : Context :=
  let v := plyView w
  if v = 3 then setSreg x (plyDst w) (sreg x (plySrc1 w))
  else
    let y := writeLanes x w (plyDst w) v (lanesOf v (vreg x (plySrc1 w)))
    setVreg y (plyDst w) (vreg y (plyDst w)) (movTag x w v (vtag x (plySrc1 w)))

/-- Second operands of ALU and ALUI at a lane width. -/
def aluEffect (w : Word) (funct : Nat) (src2 : Nat → Nat) (x : Context) : Context :=
  let v := plyView w
  if v = 3 then
    setSreg x (plyDst w) (BitVec.ofNat 64 (aluLane 64 funct (sreg x (plySrc1 w)).toNat (src2 0)))
  else
    writeLanes x w (plyDst w) v
      ((lanesOf v (vreg x (plySrc1 w))).mapIdx (fun j a => aluLane (laneWidth v) funct a (src2 j)))

/-- ALU: integer lanes or scalars, SRC2 a register (R189). -/
def aluRegEffect (w : Word) (x : Context) : Context :=
  aluEffect w (plyFunctR w)
    (fun j => if plyView w = 3 then (sreg x (plySrc2 w)).toNat else lane (plyView w) (vreg x (plySrc2 w)) j) x

/-- ALUI: as ALU with IMM sign-extended as SRC2. -/
def aluImmEffect (w : Word) (x : Context) : Context :=
  aluEffect w (plyByte3 w)
    (fun _ => if plyView w = 3 then (plySext w).toNat else bits (plySext w).toNat 0 (laneWidth (plyView w))) x

/-- Bits of a predicate under a mask are replaced, the others stay (R188). -/
def mergePred (old mask new : Word) : Word := (old &&& ~~~mask) ||| (new &&& mask)

/-- CMP: a scalar result is 0 or 1; a vector result is written to a predicate, every bit that the view assigns to a selected
lane (R188). -/
def cmpEffect (w : Word) (x : Context) : Context :=
  let v := plyView w
  let f := plyFunctR w
  if v = 3 then
    let b := cmpInt 64 f (sreg x (plySrc1 w)).toNat (sreg x (plySrc2 w)).toNat
    setSreg x (plyDst w) (if b then 1 else 0)
  else
    let a := vreg x (plySrc1 w)
    let b := vreg x (plySrc2 w)
    let lanes := List.range (laneCount v)
    let l := lanes.map (fun j =>
      if f ≤ 5 then cmpInt (laneWidth v) f (lane v a j) (lane v b j)
      else cmpFloat f (laneValue v (plyFmt w) a (vtag x (plySrc1 w)) j) (laneValue v (plyFmt w) b (vtag x (plySrc2 w)) j))
    { x with
      preds := x.preds.set (plyDst w) (mergePred (preg x (plyDst w)) (ofPred v (lanes.map (selected x w v))) (ofPred v l)) }

/-- SEL: every lane of DST from SRC1 or SRC2 by the selected predicate; the predicate does not mask (R217). -/
def selEffect (w : Word) (x : Context) : Context :=
  let v := plyView w
  let p := preg x (plyPred w)
  let l := (List.range (laneCount v)).map (fun j =>
    if predLane v p j then lane v (vreg x (plySrc1 w)) j else lane v (vreg x (plySrc2 w)) j)
  setVreg x (plyDst w) (ofLanes v l)
    (if v = 0 then Free.mixedTag (vtag x (plySrc1 w)) (vtag x (plySrc2 w)) p else 0)

/-- FOP: floating lanes, rounded to nearest even in the lane's format (R189). -/
def fopEffect (w : Word) (x : Context) : Context :=
  let v := plyView w
  let fmt := fmtOf (laneFormat v (plyFmt w))
  let val (n j : Nat) : FVal := laneValue v (plyFmt w) (vreg x n) (vtag x n) j
  writeLanes x w (plyDst w) v
    ((List.range (laneCount v)).map (fun j =>
      encodeRne fmt (fopLane (plyFunctR w) (val (plySrc1 w) j) (val (plySrc2 w) j) (val (plySrc3 w) j))))

/-- WIDEN: lanes of SRC1 in lane order over DST and the registers after it, rounded where the target is narrower than
the value; a predicate selects by source lane (R187, R217). -/
def widenEffect (w : Word) (x : Context) : Context :=
  let v := plyView w
  let t := plyFunctR w
  let n := laneCount t
  let src := vreg x (plySrc1 w)
  let fmt := fmtOf (laneFormat t (plyTfmt w))
  (List.range (2 ^ (t - v))).foldl (fun y k =>
    let r := plyDst w + k
    let old := vreg x r
    let l := (List.range n).map (fun j =>
      if selected x w v (k * n + j) then encodeRne fmt (laneValue v (plyFmt w) src (vtag x (plySrc1 w)) (k * n + j))
      else lane t old j)
    setVreg y r (ofLanes t l) 0) x

/-- NARROW: SRC1 and SRC2, 16 binary32 lanes each, into 32 lanes of TFMT, to nearest even (R189, R217). -/
def narrowEffect (w : Word) (x : Context) : Context :=
  let fmt := fmtOf (laneFormat 1 (plyTfmt w))
  writeLanes x w (plyDst w) 1
    ((List.range 32).map (fun j =>
      let v := if j < 16 then lane 2 (vreg x (plySrc1 w)) j else lane 2 (vreg x (plySrc2 w)) (j - 16)
      encodeRne fmt (elemValue 6 v)))

/-- BCAST: every lane is the low bits of a scalar. -/
def bcastEffect (w : Word) (x : Context) : Context :=
  let v := plyView w
  writeLanes x w (plyDst w) v
    (List.replicate (laneCount v) (bits (sreg x (plySrc1 w)).toNat 0 (laneWidth v)))

/-- The 32 tree inputs of a source mode (R191): one 16-bit register, two 32-bit, one 32-bit, one 8-bit register of
element codes; lanes a predicate leaves out are +0. -/
def treeInputs (w : Word) (x : Context) : List FVal :=
  let v := plyView w
  let a := vreg x (plySrc1 w)
  let val (r : Wide) (tag : Word32) (j : Nat) : FVal := laneValue v (plyFmt w) r tag j
  let on (p j : Nat) : Bool := !plyPredicated w || predLane v (preg x p) j
  let pick (b : Bool) (y : FVal) : FVal := if b then y else zeroV
  match bits (plyFunctR w) 0 2 with
  | 0 => (List.range 32).map (fun j => pick (on (plyPred w) j) (val a 0 j))
  | 1 => (List.range 32).map (fun j =>
      if j < 16 then pick (on (plyPred w) j) (val a 0 j)
      else pick (on (plyPred w + 1) (j - 16)) (val (vreg x (plySrc2 w)) 0 (j - 16)))
  | 2 => (List.range 32).map (fun j => if j < 16 then pick (on (plyPred w) j) (val a 0 j) else zeroV)
  | _ => (List.range 32).map (fun j =>
      reduceOp (bits (plyFunctR w) 2 2)
        (pick (on (plyPred w) (2 * j)) (val a (vtag x (plySrc1 w)) (2 * j)))
        (pick (on (plyPred w) (2 * j + 1)) (val a (vtag x (plySrc1 w)) (2 * j + 1))))

/-- REDUCE: the tree's result in lane 0 of a 32-bit register, the other lanes +0 (R191). -/
def reduceEffect (w : Word) (x : Context) : Context :=
  let r := tree32 (reduceOp (bits (plyFunctR w) 2 2)) (treeInputs w x)
  setVreg x (plyDst w) (ofLanes 2 (encodeRne singleF r :: List.replicate 15 0)) 0

def execMov (c : CtxId) (w : Word) (s : State) : Out := registerStep s c w 0x01 (movEffect w)

/-- MOVI: IMM sign-extended. -/
def execMovi (c : CtxId) (w : Word) (s : State) : Out :=
  registerStep s c w 0x02 (fun x => setSreg x (plyDst w) (plySext w))

/-- MOVHI: bits 63:32 of scalar DST are IMM; bits 31:0 stay. -/
def execMovhi (c : CtxId) (w : Word) (s : State) : Out :=
  registerStep s c w 0x03 (fun x =>
    setSreg x (plyDst w) (BitVec.ofNat 64 (plyImm w * 2 ^ 32 + (sreg x (plyDst w)).toNat % 2 ^ 32)))

def execAlu (c : CtxId) (w : Word) (s : State) : Out := registerStep s c w 0x10 (aluRegEffect w)
def execAlui (c : CtxId) (w : Word) (s : State) : Out := registerStep s c w 0x11 (aluImmEffect w)
def execCmp (c : CtxId) (w : Word) (s : State) : Out := registerStep s c w 0x12 (cmpEffect w)
def execSel (c : CtxId) (w : Word) (s : State) : Out := registerStep s c w 0x13 (selEffect w)
def execFop (c : CtxId) (w : Word) (s : State) : Out := registerStep s c w 0x20 (fopEffect w)
def execWiden (c : CtxId) (w : Word) (s : State) : Out := registerStep s c w 0x21 (widenEffect w)
def execNarrow (c : CtxId) (w : Word) (s : State) : Out := registerStep s c w 0x22 (narrowEffect w)
def execBcast (c : CtxId) (w : Word) (s : State) : Out := registerStep s c w 0x23 (bcastEffect w)
def execReduce (c : CtxId) (w : Word) (s : State) : Out := registerStep s c w 0x24 (reduceEffect w)

/-- READCTR: REG = the value of COUNTER (R195). -/
def execReadctr (c : CtxId) (w : Word) (s : State) : Out :=
  registerStep s c w 0x52 (fun x => setSreg x (plyDst w) (BitVec.ofNat 64 (counterAt s c (plyByte3 w)).toNat))

end Sys2Proof.Machine
end

