-- ==== Sys2Proof/Machine/Trust.lean ====
section
/-! DEFINITION. The SPDM responder (R376 to R379), the Cyfaben module protocol (R380, R381), the job key (R382, R383, R362),
firmware update (R389) and debug unlock (R393, R394). -/

namespace Sys2Proof.Machine

/-! ### Transports -/

/-- The transport answers: the DOE mailbox once firmware or the recovery loader runs; MCTP from the closing of the input
switch, but not while THERM_TRIP_N is asserted (R406, R409). -/
def answers (s : State) (t : Transport) : Bool :=
  match t with
  | .doe => s.supply.corePower && (s.regs.ready || s.regs.recoveryLoader)
  | .mctp => s.supply.switchClosed && !s.supply.thermTrip

def connection (s : State) (t : Transport) : Spdm :=
  match t with
  | .doe => s.security.doe
  | .mctp => s.security.mctp

def setConnection (s : State) (t : Transport) (c : Spdm) : State :=
  match t with
  | .doe => s.setSecurity { s.security with doe := c }
  | .mctp => s.setSecurity { s.security with mctp := c }

def respond (s : State) (t : Transport) (r : Response) : State :=
  s.setSecurity { s.security with responses := s.security.responses ++ [(t, r)] }

/-- Answer a message on a transport that answers. -/
def onTransport (s : State) (t : Transport) (run : State → State) : Out := .next (if answers s t then run s else s)

/-! ### Measurements (R377, R379) -/

/-- SHA-384 of the running image, zeros in the recovery loader. -/
def measurement (s : State) : List Byte :=
  if s.regs.recoveryLoader then List.replicate 48 0 else s.security.running.hash

/-- The blocks of Table 15.3. -/
def measurementBlocks (s : State) : List (Nat × List Byte) :=
  [(1, Free.romHash), (2, measurement s),
   (3, leBytes 4 (if s.regs.recoveryLoader then 0 else s.security.running.version) ++
     leBytes 2 (if s.regs.recoveryLoader then 0 else s.security.running.secVersion)),
   (4, [if s.security.debugUnlocked then 1 else 0]), (5, leBytes 2 s.security.minSecVersion)]

/-! ### SPDM (R378); the order of messages is the SPDM standard's -/

/-- GET_VERSION starts the connection anew. -/
def execGetVersion (t : Transport) (s : State) : Out :=
  onTransport s t (fun s => respond (setConnection s t { Spdm.reset with version := true }) t .version)

def execGetCapabilities (t : Transport) (s : State) : Out :=
  onTransport s t (fun s =>
    let c := connection s t
    if c.version then respond (setConnection s t { c with caps := true }) t .capabilities else respond s t .error)

/-- The algorithms of Table 15.2; whether the requester accepts the extended signing algorithm stays with the
connection. -/
def execNegotiateAlgorithms (t : Transport) (acceptsBrainpool : Bool) (s : State) : Out :=
  onTransport s t (fun s =>
    let c := connection s t
    if c.caps then respond (setConnection s t { c with algs := true, brainpool := acceptsBrainpool }) t (.algorithms acceptsBrainpool)
    else respond s t .error)

/-- Slot 0 is the only certificate slot. -/
def execGetDigests (t : Transport) (s : State) : Out :=
  onTransport s t (fun s =>
    if (connection s t).algs then respond s t (.digests (sha384 (Free.certificateChain (measurement s)))) else respond s t .error)

/-- A portion of the chain of slot 0, and what remains (Table 15.1). -/
def execGetCertificate (t : Transport) (slot offset length : Nat) (s : State) : Out :=
  onTransport s t (fun s =>
    let chain := Free.certificateChain (measurement s)
    let part := (chain.drop offset).take length
    if (connection s t).algs && slot == 0 && decide (offset ≤ chain.length) then
      respond s t (.certificate part (chain.length - offset - part.length))
    else respond s t .error)

/-- The connection can be answered with a signature: algorithms agreed, the extended algorithm accepted. -/
def canSign (s : State) (t : Transport) : Bool := (connection s t).algs && (connection s t).brainpool

/-- CHALLENGE, signed with the alias key; the recovery loader does not support it. -/
def execChallenge (t : Transport) (slot : Nat) (nonce : List Byte) (s : State) : Out :=
  onTransport s t (fun s =>
    if canSign s t && slot == 0 && !s.regs.recoveryLoader then
      let d := drawBytes s 32
      let hash := sha384 (Free.certificateChain (measurement s))
      respond d.1 t (.challengeAuth hash (Free.aliasSignature (hash ++ nonce ++ d.2)))
    else respond s t .error)

/-- GET_MEASUREMENTS: index 0 asks for their number, 0xFF for all, another for one. A signature covers the blocks and both
nonces, and needs the extended algorithm. -/
def execGetMeasurements (t : Transport) (index : Nat) (signed : Bool) (nonce : List Byte) (s : State) : Out :=
  onTransport s t (fun s =>
    let blocks := if index = 0xFF then measurementBlocks s else (measurementBlocks s).filter (fun b => b.1 == index)
    if !(connection s t).algs || (signed && !canSign s t) || (index != 0 && blocks.isEmpty) then respond s t .error
    else if signed then
      let d := drawBytes s 32
      respond d.1 t (.measurements blocks (some (Free.aliasSignature (blocks.flatMap (fun b => b.2) ++ nonce ++ d.2))))
    else respond s t (.measurements blocks none))

/-- KEY_EXCHANGE: one session at most per transport, none in the recovery loader. -/
def execKeyExchange (t : Transport) (exchangeData : List Byte) (s : State) : Out :=
  onTransport s t (fun s =>
    let c := connection s t
    if canSign s t && c.session.isNone && !s.regs.recoveryLoader then
      let share := Free.exchangeShare s.freeCount
      let s := setConnection s.bump t { c with session := some false, updates := 0 }
      respond s t (.keyExchangeRsp share (Free.aliasSignature (exchangeData ++ share)))
    else respond s t .error)

/-- FINISH: verify data that fails ends the session. -/
def execFinish (t : Transport) (verifyData : List Byte) (s : State) : Out :=
  onTransport s t (fun s =>
    let c := connection s t
    if c.session = some false then
      if Free.finishVerifies verifyData then respond (setConnection s t { c with session := some true }) t .finishRsp
      else respond (setConnection s t { c with session := none }) t .error
    else respond s t .error)

def execHeartbeat (t : Transport) (s : State) : Out :=
  onTransport s t (fun s => respond s t (if (connection s t).session = some true then .heartbeatAck else .error))

/-- KEY_UPDATE: operations 1 and 2 update keys, 3 verifies the new one. -/
def execKeyUpdate (t : Transport) (operation : Nat) (s : State) : Out :=
  onTransport s t (fun s =>
    let c := connection s t
    if c.session = some true ∧ 1 ≤ operation ∧ operation ≤ 3 then
      respond (setConnection s t { c with updates := if operation = 3 then c.updates else c.updates + 1 }) t (.keyUpdateAck operation)
    else respond s t .error)

def execEndSession (t : Transport) (s : State) : Out :=
  onTransport s t (fun s =>
    let c := connection s t
    if c.session = some true then respond (setConnection s t { c with session := none, updates := 0 }) t .endSessionAck
    else respond s t .error)

/-! ### The module protocol (R380, R381) -/

/-- Results of Table 15.5. -/
abbrev resMalformed : Nat := 1
abbrev resSequence : Nat := 9
abbrev resBusy : Nat := 10

/-- Answer a module command with a result and no fields. -/
def answer (s : State) (t : Transport) (command result : Nat) : State := respond s t (.module command result [])

/-- LENGTH is right for a command whose field bytes lie between two bounds, and the reserved byte is zero. -/
def payloadOk (payload : List Byte) (low high : Nat) : Bool :=
  decide (4 ≤ payload.length) && leAt payload 1 1 == 0 && leAt payload 2 2 == payload.length - 4 &&
  decide (low ≤ payload.length - 4 ∧ payload.length - 4 ≤ high)

/-- Run a module command: its payload must spell it; a command that the recovery loader does not take gets an SPDM error
from it; MALFORMED comes first. -/
def moduleCommand (s : State) (t : Transport) (payload : List Byte) (command low high : Nat) (inLoader : Bool)
    (run : List Byte → State → State) : Out :=
  if leAt payload 0 1 ≠ command ∨ payload.isEmpty then .next s
  else
    onTransport s t (fun s =>
      if s.regs.recoveryLoader && !inLoader then respond s t .error
      else if !payloadOk payload low high then answer s t command resMalformed
      else run (payload.drop 4) s)

/-! ### The job key (R382, R383, R362) -/

/-- JOB_BLOCK_DIGEST of the committed job block. -/
def jobBlockDigest (s : State) : List Byte :=
  sha384 (leBytes 2 s.regs.memberNumber ++ leBytes 2 s.regs.memberCount ++ leBytes 8 s.regs.jobSeed.toNat ++
    s.regs.members.flatMap (leBytes 2))

/-- Flash state of another job is treated as absent and reclaimed (R362). -/
def claimFlash (s : State) (jobId : List Byte) : State :=
  if s.security.flashOwner = some jobId then s
  else
    let s := s.setSecuring { s.securing with hanks := [], mirrors := [], failR := 0, failO := 0 }
    (s.setTables { s.tables with older := [] }).setSecurity { s.security with flashOwner := some jobId }

/-- Ports that FAILED for want of a job key, or under another one, try again (R382, Table 12.2). -/
def retryPorts (s : State) : State :=
  (List.range 16).foldl (fun s n =>
    if (portAt s n).link == .failed && decide (4 ≤ (portAt s n).reason ∧ (portAt s n).reason ≤ 8) then startTraining s n else s) s

/-- INSTALL_JOB_KEY: the first condition of R382 that fails, as a result code. -/
def installRefusal (s : State) (t : Transport) (inSession : Bool) (digest : List Byte) : Option Nat :=
  if !(inSession && (connection s t).session == some true) then some 2
  else if !s.regs.jobSet then some 3
  else if s.security.jobKey.isSome then some 4
  else if s.regs.meshFault || s.security.debugUnlocked then some 6
  else if digest ≠ jobBlockDigest s then some 5
  else none

def installKey (s : State) (key : List Byte) : State :=
  let id := jobIdentifier key
  let s := s.setSecurity { s.security with jobKey := some key, jobId := id }
  retryPorts (claimFlash s id)

def execInstallJobKey (t : Transport) (inSession : Bool) (payload : List Byte) (s : State) : Out :=
  moduleCommand s t payload 0x01 96 96 false (fun f s =>
    match installRefusal s t inSession (f.drop 48) with
    | some r => answer s t 0x01 r
    | none =>
      let s := installKey s (f.take 48)
      respond s t (.module 0x01 0 s.security.jobId))

/-- QUERY_STATE. -/
def execQueryState (t : Transport) (payload : List Byte) (s : State) : Out :=
  moduleCommand s t payload 0x02 0 0 true (fun _ s =>
    let bit (b : Bool) : List Byte := [if b then 1 else 0]
    respond s t (.module 0x02 0
      (bit s.security.jobKey.isSome ++ (if s.security.jobKey.isSome then s.security.jobId else List.replicate 16 0) ++
        bit s.security.debugUnlocked ++ bit s.security.transfer.isSome)))

/-! ### Firmware (R389, R391) -/

/-- A firmware command; the recovery loader takes images through the DOE mailbox only. -/
def firmwareCommand (s : State) (t : Transport) (payload : List Byte) (command low high : Nat)
    (run : List Byte → State → State) : Out :=
  moduleCommand s t payload command low high (t == .doe) run

/-- The open transfer, for a command that needs one from this transport: SEQUENCE with none open, BUSY where the other
transport opened it. -/
def transferFor (s : State) (t : Transport) : Except Nat Transfer :=
  match s.security.transfer with
  | none => .error resSequence
  | some x => if x.transport = t then .ok x else .error resBusy

def setTransfer (s : State) (x : Option Transfer) : State := s.setSecurity { s.security with transfer := x }

def execFirmwareBegin (t : Transport) (payload : List Byte) (s : State) : Out :=
  firmwareCommand s t payload 0x10 52 52 (fun f s =>
    let n := leAt f 0 4
    if s.security.transfer.isSome then answer s t 0x10 resBusy
    else if n < 64 ∨ 32 * 2 ^ 20 < n then answer s t 0x10 resMalformed
    else answer (setTransfer s (some { transport := t, length := n, hash := f.drop 4, bytes := [] })) t 0x10 0)

def execFirmwareData (t : Transport) (payload : List Byte) (s : State) : Out :=
  firmwareCommand s t payload 0x11 5 4100 (fun f s =>
    match transferFor s t with
    | .error r => answer s t 0x11 r
    | .ok x =>
      if leAt f 0 4 ≠ x.bytes.length then answer s t 0x11 resSequence
      else if x.length < x.bytes.length + (f.length - 4) then answer s t 0x11 resMalformed
      else answer (setTransfer s (some { x with bytes := x.bytes ++ f.drop 4 })) t 0x11 0)

/-- The image in boot flash after FIRMWARE_END; it runs after the next reset. -/
def bootImage (bytes : List Byte) : Firmware :=
  { version := Free.imageVersion bytes % 2 ^ 32, secVersion := Free.imageSecurityVersion bytes % 64, hash := sha384 bytes,
    valid := true }

def execFirmwareEnd (t : Transport) (payload : List Byte) (s : State) : Out :=
  firmwareCommand s t payload 0x12 0 0 (fun _ s =>
    match transferFor s t with
    | .error r => answer s t 0x12 r
    | .ok x =>
      let image := bootImage x.bytes
      if image.hash ≠ x.hash ∨ Free.imageVerifies x.bytes = false then answer s t 0x12 7
      else if image.secVersion < s.security.minSecVersion then answer s t 0x12 8
      else
        let s := s.setSecurity { s.security with boot := image, transfer := none }
        respond s t (.module 0x12 0 (leBytes 2 image.secVersion)))

def execFirmwareAbort (t : Transport) (payload : List Byte) (s : State) : Out :=
  firmwareCommand s t payload 0x13 0 0 (fun _ s =>
    match transferFor s t with
    | .error r => answer s t 0x13 r
    | .ok _ => answer (setTransfer s none) t 0x13 0)

/-! ### Debug unlock (R393, R394) -/

/-- DEBUG_CHALLENGE: a fresh nonce replaces the one before. -/
def execDebugChallenge (t : Transport) (payload : List Byte) (s : State) : Out :=
  moduleCommand s t payload 0x20 0 0 false (fun _ s =>
    let d := drawBytes s 32
    let s := d.1.setSecurity { d.1.security with nonce := some d.2 }
    respond s t (.module 0x20 0 d.2))

/-- Commands that wait for work which an unlock ends: steps and evaluations, exports, loads, unloads, restores, waiting ENDs
and operations of the delta stream. -/
def endedSubs (s : State) : List Sub :=
  (s.steps.admitted.filter (fun a => !a.answered)).map AdmStep.sub ++ s.steps.evals.map EvalReq.sub ++
  s.outputs.exports.map ExportJob.sub ++ s.outputs.deltaPending.map (·.1) ++
  s.programs.waiting.map Load.sub ++ s.programs.images.filterMap Image.load ++ s.programs.unloads.map (·.1) ++
  s.tables.versions.flatMap Version.ending ++ (s.securing.restoring.map Restore.sub).toList

/-- Spindles once SRAM is cleared: sync counters and queue counts stay, since only a reset sets them (R199, R201). -/
def clearedSpindles (s : State) : Spindles :=
  { Spindles.reset with
    counters := s.spindles.counters, issued := s.spindles.issued, breaks := s.spindles.breaks, stopped := s.spindles.stopped,
    queues := s.spindles.queues.map (fun q => (q.1, { q.2 with cmds := [], offers := [] })) }

/-- What SRAM, GDDR7 and CXL memory held is gone. Flash, its log and its wear stay. DESIGN CHOICE (log 90): the commands that
waited for what is gone complete with REJECTED_CONFIG, as those that a restore abandons; every accepted command completes
(R244), and R394 does not say how. -/
def eraseMemories (s : State) : State :=
  let subs := endedSubs s
  let tables := { Tables.reset (flashVersions s) with wear := s.tables.wear, spareLow := s.tables.spareLow }
  let s := ((s.setWindow []).setTensors []).setSpindles (clearedSpindles s)
  let s := (s.setSteps { Steps.reset with a := s.steps.a, c := s.steps.c, lost := true }).setSecuring
    { keptSecuring s with lastSched := s.securing.lastSched }
  let s := (s.setTables tables).setLattices []
  let s := s.setPrograms { images := [], waiting := [], unloads := [] }
  let s := s.setOwners { Owners.reset with era := s.owners.era + 1 }
  let s := (s.setDense { nodes := [], replicas := [], slots := [], granted := [] }).setOutputs
    { s.outputs with exports := [], deltaPending := [] }
  subs.foldl (fun s x => finish s x .rejectedConfig) s

/-- The job key goes, and with it every derived key: every port that is not OFF fails with reason 4 (R383). -/
def eraseJobKey (s : State) : State :=
  let s := s.setSecurity { s.security with jobKey := none, jobId := List.replicate 16 0 }
  (List.range 16).foldl (fun s n => if (portAt s n).link == .off then s else failPort s n 4) s

/-- The unlock, in the order of R394. -/
def unlockDebug (s : State) (scope : List Byte) : State :=
  let s := eraseJobKey s
  let s := s.setSecurity { s.security with keyGeneration := s.security.keyGeneration + 1 }
  let s := eraseMemories s
  s.setSecurity { s.security with debugUnlocked := true, debugScope := scope, nonce := none }

/-- DEBUG_UNLOCK: a nonce is used once, whatever the result. -/
def execDebugUnlock (t : Transport) (payload : List Byte) (s : State) : Out :=
  moduleCommand s t payload 0x21 0 65535 false (fun token s =>
    match s.security.nonce with
    | none => answer s t 0x21 (if s.security.transfer.isSome then resBusy else resSequence)
    | some nonce =>
      let used := s.setSecurity { s.security with nonce := none }
      if s.security.transfer.isSome then answer used t 0x21 resBusy
      else if !Free.tokenVerifies token (measurement s) || Free.tokenNonce token != nonce then answer used t 0x21 7
      else answer (unlockDebug s (Free.tokenScope token)) t 0x21 0)

end Sys2Proof.Machine
end

