-- ==== Sys2Proof/Machine/Dispatch.lean ====
section
/-! DEFINITION. One arm per command: a call of its meaning. -/

namespace Sys2Proof.Machine

def exec (i : Instr) (s : State) : Host.Outcome State Fault Refusal :=
  match i with
  | .doorbell ring producer descs stores => Sys2Proof.Machine.execDoorbell ring producer descs stores s
  | .commandAcceptanceResume consumer => Sys2Proof.Machine.execCommandAcceptanceResume consumer s
  | .unknownOpcodeDescriptor d => Sys2Proof.Machine.execUnknownOpcodeDescriptor d s
  | .submitLattice d => Sys2Proof.Machine.execSubmitLattice d s
  | .submitLatticeRemove d => Sys2Proof.Machine.execSubmitLatticeRemove d s
  | .loadProgram d => Sys2Proof.Machine.execLoadProgram d s
  | .loadProgramSlotTaken slot => Sys2Proof.Machine.execLoadProgramSlotTaken slot s
  | .translationEnd handle => Sys2Proof.Machine.execTranslationEnd handle s
  | .unloadProgram d => Sys2Proof.Machine.execUnloadProgram d s
  | .stepInput d => Sys2Proof.Machine.execStepInput d s
  | .stepInputBlocksRead step units => Sys2Proof.Machine.execStepInputBlocksRead step units s
  | .evalRequest d => Sys2Proof.Machine.execEvalRequest d s
  | .evalBlocksRead boundary handle units => Sys2Proof.Machine.execEvalBlocksRead boundary handle units s
  | .evalComplete boundary handle => Sys2Proof.Machine.execEvalComplete boundary handle s
  | .loadTableVersionBegin d => Sys2Proof.Machine.execLoadTableVersionBegin d s
  | .loadTableVersionData d => Sys2Proof.Machine.execLoadTableVersionData d s
  | .loadTableVersionEnd d => Sys2Proof.Machine.execLoadTableVersionEnd d s
  | .retireTableVersion d => Sys2Proof.Machine.execRetireTableVersion d s
  | .stageConfig d => Sys2Proof.Machine.execStageConfig d s
  | .commitConfig d => Sys2Proof.Machine.execCommitConfig d s
  | .discardConfig d => Sys2Proof.Machine.execDiscardConfig d s
  | .secureNow d => Sys2Proof.Machine.execSecureNow d s
  | .restoreFromHank d read newest => Sys2Proof.Machine.execRestoreFromHank d read newest s
  | .restoreEnd => Sys2Proof.Machine.execRestoreEnd s
  | .reportFailure d => Sys2Proof.Machine.execReportFailure d s
  | .exportSkein d => Sys2Proof.Machine.execExportSkein d s
  | .exportChunk ring index rows => Sys2Proof.Machine.execExportChunk ring index rows s
  | .deltaControlStart d => Sys2Proof.Machine.execDeltaControlStart d s
  | .deltaControlStop d => Sys2Proof.Machine.execDeltaControlStop d s
  | .telemetrySnapshot d => Sys2Proof.Machine.execTelemetrySnapshot d s
  | .debugBreakArm d => Sys2Proof.Machine.execDebugBreakArm d s
  | .debugBreakClear d => Sys2Proof.Machine.execDebugBreakClear d s
  | .debugResume d => Sys2Proof.Machine.execDebugResume d s
  | .registerReset value => Sys2Proof.Machine.execRegisterReset value s
  | .jobCommit list => Sys2Proof.Machine.execJobCommit list s
  | .unitEnable unit => Sys2Proof.Machine.execUnitEnable unit s
  | .unitDisable unit => Sys2Proof.Machine.execUnitDisable unit s
  | .ringEnable ring value producer consumer descs => Sys2Proof.Machine.execRingEnable ring value producer consumer descs s
  | .ringDisable ring => Sys2Proof.Machine.execRingDisable ring s
  | .ringRearm ring producer descs => Sys2Proof.Machine.execRingRearm ring producer descs s
  | .energyCountLowRead => Sys2Proof.Machine.execEnergyCountLowRead s
  | .registerWrite offset wide value => Sys2Proof.Machine.execRegisterWrite offset wide value s
  | .installJobKey t inSession payload => Sys2Proof.Machine.execInstallJobKey t inSession payload s
  | .queryState t payload => Sys2Proof.Machine.execQueryState t payload s
  | .firmwareBegin t payload => Sys2Proof.Machine.execFirmwareBegin t payload s
  | .firmwareData t payload => Sys2Proof.Machine.execFirmwareData t payload s
  | .firmwareEnd t payload => Sys2Proof.Machine.execFirmwareEnd t payload s
  | .firmwareAbort t payload => Sys2Proof.Machine.execFirmwareAbort t payload s
  | .debugChallenge t payload => Sys2Proof.Machine.execDebugChallenge t payload s
  | .debugUnlock t payload => Sys2Proof.Machine.execDebugUnlock t payload s
  | .getVersion t => Sys2Proof.Machine.execGetVersion t s
  | .getCapabilities t => Sys2Proof.Machine.execGetCapabilities t s
  | .negotiateAlgorithms t acceptsBrainpool => Sys2Proof.Machine.execNegotiateAlgorithms t acceptsBrainpool s
  | .getDigests t => Sys2Proof.Machine.execGetDigests t s
  | .getCertificate t slot offset length => Sys2Proof.Machine.execGetCertificate t slot offset length s
  | .challenge t slot nonce => Sys2Proof.Machine.execChallenge t slot nonce s
  | .getMeasurements t index signed nonce => Sys2Proof.Machine.execGetMeasurements t index signed nonce s
  | .keyExchange t exchangeData => Sys2Proof.Machine.execKeyExchange t exchangeData s
  | .finish t verifyData => Sys2Proof.Machine.execFinish t verifyData s
  | .heartbeat t => Sys2Proof.Machine.execHeartbeat t s
  | .keyUpdate t operation => Sys2Proof.Machine.execKeyUpdate t operation s
  | .endSession t => Sys2Proof.Machine.execEndSession t s
  | .inputSwitchClose => Sys2Proof.Machine.execInputSwitchClose s
  | .powerOnReset => Sys2Proof.Machine.execPowerOnReset s
  | .perstNAsserted nanoseconds => Sys2Proof.Machine.execPerstNAsserted nanoseconds s
  | .perstNDeasserted => Sys2Proof.Machine.execPerstNDeasserted s
  | .linkReset => Sys2Proof.Machine.execLinkReset s
  | .functionLevelReset => Sys2Proof.Machine.execFunctionLevelReset s
  | .resetSequenceEnd found => Sys2Proof.Machine.execResetSequenceEnd found s
  | .inputOvervoltage => Sys2Proof.Machine.execInputOvervoltage s
  | .inputOvercurrent => Sys2Proof.Machine.execInputOvercurrent s
  | .overcurrentRetry => Sys2Proof.Machine.execOvercurrentRetry s
  | .mateSenseReleased => Sys2Proof.Machine.execMateSenseReleased s
  | .lossOfInput => Sys2Proof.Machine.execLossOfInput s
  | .brakeEntered nanoseconds => Sys2Proof.Machine.execBrakeEntered nanoseconds s
  | .pwrBrakeNDeasserted => Sys2Proof.Machine.execPwrBrakeNDeasserted s
  | .brakeEnd => Sys2Proof.Machine.execBrakeEnd s
  | .grantRound readings => Sys2Proof.Machine.execGrantRound readings s
  | .thermTripClear => Sys2Proof.Machine.execThermTripClear s
  | .wearBudgetAccrual => Sys2Proof.Machine.execWearBudgetAccrual s
  | .diePark die => Sys2Proof.Machine.execDiePark die s
  | .nandChannelIdle channel => Sys2Proof.Machine.execNandChannelIdle channel s
  | .unitDrainEnd unit => Sys2Proof.Machine.execUnitDrainEnd unit s
  | .unitWakeEnd unit expander => Sys2Proof.Machine.execUnitWakeEnd unit expander s
  | .portTrainingEnd port signal trained locked => Sys2Proof.Machine.execPortTrainingEnd port signal trained locked s
  | .portRetry port => Sys2Proof.Machine.execPortRetry port s
  | .keepaliveSend port => Sys2Proof.Machine.execKeepaliveSend port s
  | .livenessLost port => Sys2Proof.Machine.execLivenessLost port s
  | .laneFailure port lane => Sys2Proof.Machine.execLaneFailure port lane s
  | .hello port jobId member peerPort salt => Sys2Proof.Machine.execHello port jobId member peerPort salt s
  | .confirmation port senderSalt receiverSalt tagValid => Sys2Proof.Machine.execConfirmation port senderSalt receiverSalt tagValid s
  | .creditAdvertisement port sizes => Sys2Proof.Machine.execCreditAdvertisement port sizes s
  | .keepalive port => Sys2Proof.Machine.execKeepalive port s
  | .replayRequest port seq => Sys2Proof.Machine.execReplayRequest port seq s
  | .reStripe port failedLane mask seq => Sys2Proof.Machine.execReStripe port failedLane mask seq s
  | .frameDiscard port badTag => Sys2Proof.Machine.execFrameDiscard port badTag s
  | .frameForward port dest source cls stream hops epoch kind length flow => Sys2Proof.Machine.execFrameForward port dest source cls stream hops epoch kind length flow s
  | .rowRequest rx f => Sys2Proof.Machine.execRowRequest rx f s
  | .rowRequestServe source step table pass => Sys2Proof.Machine.execRowRequestServe source step table pass s
  | .rowData rx f => Sys2Proof.Machine.execRowData rx f s
  | .partialSum rx f => Sys2Proof.Machine.execPartialSum rx f s
  | .streamData rx f => Sys2Proof.Machine.execStreamData rx f s
  | .streamEnd rx f => Sys2Proof.Machine.execStreamEnd rx f s
  | .skeinTransfer rx f => Sys2Proof.Machine.execSkeinTransfer rx f s
  | .treeBlock rx f => Sys2Proof.Machine.execTreeBlock rx f s
  | .sliceData rx f => Sys2Proof.Machine.execSliceData rx f s
  | .digest rx f => Sys2Proof.Machine.execDigest rx f s
  | .hankData rx f => Sys2Proof.Machine.execHankData rx f s
  | .commitReport rx f => Sys2Proof.Machine.execCommitReport rx f s
  | .commitDecision rx f => Sys2Proof.Machine.execCommitDecision rx f s
  | .securingReport rx f => Sys2Proof.Machine.execSecuringReport rx f s
  | .securingDecision rx f => Sys2Proof.Machine.execSecuringDecision rx f s
  | .halt rx f => Sys2Proof.Machine.execHalt rx f s
  | .grant rx grants => Sys2Proof.Machine.execGrant rx grants s
  | .credit rx ack units => Sys2Proof.Machine.execCredit rx ack units s
  | .commitReportSend => Sys2Proof.Machine.execCommitReportSend s
  | .sliverColumnTest die sliver pass => Sys2Proof.Machine.execSliverColumnTest die sliver pass s
  | .cardingPassEnd inst table pass => Sys2Proof.Machine.execCardingPassEnd inst table pass s
  | .placementMove page dest => Sys2Proof.Machine.execPlacementMove page dest s
  | .pageMoveEnd page => Sys2Proof.Machine.execPageMoveEnd page s
  | .flashRereadEnd page => Sys2Proof.Machine.execFlashRereadEnd page s
  | .backgroundScrub corrected bad badRows => Sys2Proof.Machine.execBackgroundScrub corrected bad badRows s
  | .flashReclaim => Sys2Proof.Machine.execFlashReclaim s
  | .memoryPortFailure port => Sys2Proof.Machine.execMemoryPortFailure port s
  | .chordModuleFailure chord => Sys2Proof.Machine.execChordModuleFailure chord s
  | .parkedEntryApply table row => Sys2Proof.Machine.execParkedEntryApply table row s
  | .updateKernelInvocation target units at_ => Sys2Proof.Machine.execUpdateKernelInvocation target units at_ s
  | .treeBlockForward treeId block => Sys2Proof.Machine.execTreeBlockForward treeId block s
  | .denseBlockUpdate treeId block => Sys2Proof.Machine.execDenseBlockUpdate treeId block s
  | .weightGradientTileDrain queue tileRow tileCol width => Sys2Proof.Machine.execWeightGradientTileDrain queue tileRow tileCol width s
  | .vertexDispatch inst vertices at_ => Sys2Proof.Machine.execVertexDispatch inst vertices at_ s
  | .waitSatisfied c => Sys2Proof.Machine.execWaitSatisfied c s
  | .queueAccept q => Sys2Proof.Machine.execQueueAccept q s
  | .queueCommandComplete q => Sys2Proof.Machine.execQueueCommandComplete q s
  | .loopEnd c => Sys2Proof.Machine.execLoopEnd c s
  | .mov c w => Sys2Proof.Machine.execMov c w s
  | .movi c w => Sys2Proof.Machine.execMovi c w s
  | .movhi c w => Sys2Proof.Machine.execMovhi c w s
  | .alu c w => Sys2Proof.Machine.execAlu c w s
  | .alui c w => Sys2Proof.Machine.execAlui c w s
  | .cmp c w => Sys2Proof.Machine.execCmp c w s
  | .sel c w => Sys2Proof.Machine.execSel c w s
  | .fop c w => Sys2Proof.Machine.execFop c w s
  | .widen c w => Sys2Proof.Machine.execWiden c w s
  | .narrow c w => Sys2Proof.Machine.execNarrow c w s
  | .bcast c w => Sys2Proof.Machine.execBcast c w s
  | .reduce c w => Sys2Proof.Machine.execReduce c w s
  | .tload c w => Sys2Proof.Machine.execTload c w s
  | .tstore c w => Sys2Proof.Machine.execTstore c w s
  | .tmove c w => Sys2Proof.Machine.execTmove c w s
  | .tile c w => Sys2Proof.Machine.execTile c w s
  | .product c w => Sys2Proof.Machine.execProduct c w s
  | .layer c w => Sys2Proof.Machine.execLayer c w s
  | .signal c w => Sys2Proof.Machine.execSignal c w s
  | .wait c w => Sys2Proof.Machine.execWait c w s
  | .readctr c w => Sys2Proof.Machine.execReadctr c w s
  | .br c w => Sys2Proof.Machine.execBr c w s
  | .brc c w => Sys2Proof.Machine.execBrc c w s
  | .loop c w => Sys2Proof.Machine.execLoop c w s
  | .call c w => Sys2Proof.Machine.execCall c w s
  | .ret c w => Sys2Proof.Machine.execRet c w s
  | .retire c w => Sys2Proof.Machine.execRetire c w s
  | .query c w => Sys2Proof.Machine.execQuery c w s
  | .hankPageCopy boundary page => Sys2Proof.Machine.execHankPageCopy boundary page s
  | .securingHoldEnd boundary => Sys2Proof.Machine.execSecuringHoldEnd boundary s
  | .hankSeal boundary => Sys2Proof.Machine.execHankSeal boundary s
  | .heldEventPost consumer => Sys2Proof.Machine.execHeldEventPost consumer s
  | .routeTableFree => Sys2Proof.Machine.execRouteTableFree s
  | .reservedFrameKind rx kind => Sys2Proof.Machine.execReservedFrameKind rx kind s
  | .overvoltageReclose => Sys2Proof.Machine.execOvervoltageReclose s
  | .recordsReachedTier table version => Sys2Proof.Machine.execRecordsReachedTier table version s

end Sys2Proof.Machine
end

