-- ==== Sys2Proof/WellFormed.lean ====
section
/-! DEFINITION. Well-formed commands: every operand within the range that the hardware gives it. A command whose fields the
spec itself checks (a descriptor's body, a payload's LENGTH) is well formed whatever they hold: its meaning answers. -/

namespace Sys2Proof

/-- A submission ring is 0 to 7 (Table 10.1). -/
def subOk (d : Sub) : Bool := decide (d.ring < 8)

/-- A store lies in the 4 GiB window (R341). -/
def storeOk (w : Store) : Bool := decide (w.offset + w.bytes.length ≤ 4294967296)

/-- Compute dies C0 to C39, spindles 0 to 63, contexts 0 to 3 (R177). -/
def ctxOk (c : CtxId) : Bool := decide (c.die < 40 ∧ c.spindle < 64 ∧ c.ctx < 4)

def queueOk (q : QueueId) : Bool := decide (q.die < 40 ∧ q.spindle < 64)

/-- A received frame's header (Table 12.3). -/
def rxOk (rx : Rx) : Bool :=
  decide (rx.port < 16 ∧ rx.source < 4096 ∧ rx.hops < 4 ∧ rx.length % 16 = 0 ∧ 16 ≤ rx.length ∧ rx.length ≤ 4096)

/-- A page of one of 4,096 tables (R97). -/
def pageOk (p : PageRef) : Bool := decide (p.table < 4096)

/-- Readings of the 64 dies, the 42 meters and the 40 budget units (R271, R277, R281). -/
def readingsOk (r : RoundReadings) : Bool :=
  decide (r.junctions.length = 64 ∧ r.metered.length = 42 ∧ r.idleDrawn.length = 40)

/-- 112 chords of 5 modules; cells of 40 dies, 512 columns and 128 rows; four parts of 64 slivers a die (R172, R313). -/
def selfTestOk (t : SelfTest) : Bool :=
  decide (t.chords.length = 112) && t.chords.all (· ≤ 5) &&
  t.cells.all (fun x => decide (x.1 < 40 ∧ x.2.1 < 512 ∧ x.2.2 < 128)) &&
  t.parts.all (fun x => decide (x.1 < 40 ∧ x.2.1 < 64 ∧ x.2.2 < 4))

/-- Lanes and rate code of a memory port (Table 14.15). -/
def expanderOk (e : Expander) : Bool := decide (e.lanes ≤ 16 ∧ 1 ≤ e.rate ∧ e.rate ≤ 2)

/-- The word's opcode is the instruction's (R216). -/
def opOk (w : Word) (op : Nat) : Bool := decide (w.toNat % 256 = op)

/-- Every operand of a command is in range. -/
def wellFormed (i : Instr) : Bool :=
  match i with
  | .doorbell ring _ descs stores => stores.all storeOk && decide (ring < 12 ∧ descs.length ≤ 65536)
  | .commandAcceptanceResume _ => true
  | .unknownOpcodeDescriptor d => subOk d
  | .submitLattice d => subOk d
  | .submitLatticeRemove d => subOk d
  | .loadProgram d => subOk d
  | .loadProgramSlotTaken slot => decide (slot < 16)
  | .translationEnd _ => true
  | .unloadProgram d => subOk d
  | .stepInput d => subOk d
  | .stepInputBlocksRead _ _ => true
  | .evalRequest d => subOk d
  | .evalBlocksRead _ _ _ => true
  | .evalComplete _ _ => true
  | .loadTableVersionBegin d => subOk d
  | .loadTableVersionData d => subOk d
  | .loadTableVersionEnd d => subOk d
  | .retireTableVersion d => subOk d
  | .stageConfig d => subOk d
  | .commitConfig d => subOk d
  | .discardConfig d => subOk d
  | .secureNow d => subOk d
  | .restoreFromHank d _ _ => subOk d
  | .restoreEnd => true
  | .reportFailure d => subOk d
  | .exportSkein d => subOk d
  | .exportChunk ring _ _ => decide (ring < 8)
  | .deltaControlStart d => subOk d
  | .deltaControlStop d => subOk d
  | .telemetrySnapshot d => subOk d
  | .debugBreakArm d => subOk d
  | .debugBreakClear d => subOk d
  | .debugResume d => subOk d
  | .registerReset _ => true
  | .jobCommit list => decide (list.length ≤ 8191 ∧ list.all (· < 65536) = true)
  | .unitEnable unit => decide (unit < 256)
  | .unitDisable unit => decide (unit < 256)
  | .ringEnable ring _ _ _ descs => decide (ring < 12 ∧ descs.length ≤ 65536)
  | .ringDisable ring => decide (ring < 12)
  | .ringRearm ring _ descs => decide (ring < 12 ∧ descs.length ≤ 65536)
  | .energyCountLowRead => true
  | .registerWrite offset _ _ => decide (offset < 1048576)
  | .installJobKey _ _ payload => decide (payload.length ≤ 65539)
  | .queryState _ payload => decide (payload.length ≤ 65539)
  | .firmwareBegin _ payload => decide (payload.length ≤ 65539)
  | .firmwareData _ payload => decide (payload.length ≤ 65539)
  | .firmwareEnd _ payload => decide (payload.length ≤ 65539)
  | .firmwareAbort _ payload => decide (payload.length ≤ 65539)
  | .debugChallenge _ payload => decide (payload.length ≤ 65539)
  | .debugUnlock _ payload => decide (payload.length ≤ 65539)
  | .getVersion _ => true
  | .getCapabilities _ => true
  | .negotiateAlgorithms _ _ => true
  | .getDigests _ => true
  | .getCertificate _ slot _ _ => decide (slot < 8)
  | .challenge _ slot nonce => decide (slot < 8 ∧ nonce.length = 32)
  | .getMeasurements _ index _ nonce => decide (index < 256 ∧ nonce.length = 32)
  | .keyExchange _ _ => true
  | .finish _ _ => true
  | .heartbeat _ => true
  | .keyUpdate _ operation => decide (operation < 256)
  | .endSession _ => true
  | .inputSwitchClose => true
  | .powerOnReset => true
  | .perstNAsserted _ => true
  | .perstNDeasserted => true
  | .linkReset => true
  | .functionLevelReset => true
  | .resetSequenceEnd found => selfTestOk found
  | .inputOvervoltage => true
  | .inputOvercurrent => true
  | .overcurrentRetry => true
  | .mateSenseReleased => true
  | .lossOfInput => true
  | .brakeEntered _ => true
  | .pwrBrakeNDeasserted => true
  | .brakeEnd => true
  | .grantRound readings => readingsOk readings
  | .thermTripClear => true
  | .wearBudgetAccrual => true
  | .diePark die => decide (die < 40)
  | .nandChannelIdle channel => decide (channel < 16)
  | .unitDrainEnd unit => decide (unit < 74)
  | .unitWakeEnd unit expander => expander.all expanderOk && decide (unit < 74)
  | .portTrainingEnd port _ trained locked => decide (port < 16 ∧ trained.all (· < 4) = true ∧ locked.all (· < 4) = true)
  | .portRetry port => decide (port < 16)
  | .keepaliveSend port => decide (port < 16)
  | .livenessLost port => decide (port < 16)
  | .laneFailure port lane => decide (port < 16 ∧ lane < 4)
  | .hello port jobId member peerPort salt => decide (port < 16 ∧ jobId.length = 16 ∧ member < 4096 ∧ peerPort < 16 ∧ salt.length = 16)
  | .confirmation port senderSalt receiverSalt _ => decide (port < 16 ∧ senderSalt.length = 16 ∧ receiverSalt.length = 16)
  | .creditAdvertisement port sizes => decide (port < 16 ∧ sizes.length = 24)
  | .keepalive port => decide (port < 16)
  | .replayRequest port _ => decide (port < 16)
  | .reStripe port failedLane mask _ => decide (port < 16 ∧ failedLane < 4 ∧ mask < 16)
  | .frameDiscard port _ => decide (port < 16)
  | .frameForward port dest source cls _ hops _ kind length _ => decide (port < 16 ∧ dest < 4096 ∧ source < 4096 ∧ cls < 5 ∧ hops < 4 ∧ kind < 256 ∧ length % 16 = 0 ∧ 16 ≤ length ∧ length ≤ 4096)
  | .rowRequest rx _ => rxOk rx
  | .rowRequestServe source _ table _ => decide (source < 4096 ∧ table < 4096)
  | .rowData rx _ => rxOk rx
  | .partialSum rx _ => rxOk rx
  | .streamData rx _ => rxOk rx
  | .streamEnd rx _ => rxOk rx
  | .skeinTransfer rx _ => rxOk rx
  | .treeBlock rx _ => rxOk rx
  | .sliceData rx _ => rxOk rx
  | .digest rx _ => rxOk rx
  | .hankData rx _ => rxOk rx
  | .commitReport rx _ => rxOk rx
  | .commitDecision rx _ => rxOk rx
  | .securingReport rx _ => rxOk rx
  | .securingDecision rx _ => rxOk rx
  | .halt rx _ => rxOk rx
  | .grant rx _ => rxOk rx
  | .credit rx _ units => rxOk rx && decide (units.length = 24)
  | .commitReportSend => true
  | .sliverColumnTest die sliver _ => decide (die < 40 ∧ sliver < 64)
  | .cardingPassEnd _ table _ => decide (table < 4096)
  | .placementMove page _ => pageOk page
  | .pageMoveEnd e => pageOk e.page
  | .flashRereadEnd e => pageOk e.page
  | .backgroundScrub _ bad line => bad.all pageOk && line.reader.all (fun r => decide (r.1 < 8))
  | .flashReclaim => true
  | .memoryPortFailure port => decide (port < 2)
  | .chordModuleFailure chord => decide (chord < 112)
  | .parkedEntryApply table _ => decide (table < 4096)
  | .updateKernelInvocation _ _ at_ => ctxOk at_
  | .treeBlockForward _ _ => true
  | .denseBlockUpdate _ _ => true
  | .weightGradientTileDrain queue _ _ width => queueOk queue && decide (width ≤ 256)
  | .vertexDispatch _ _ at_ => at_.all ctxOk
  | .waitSatisfied c => ctxOk c
  | .queueAccept q => queueOk q
  | .queueCommandComplete q => queueOk q
  | .loopEnd c => ctxOk c
  | .mov c w => ctxOk c && opOk w 0x01
  | .movi c w => ctxOk c && opOk w 0x02
  | .movhi c w => ctxOk c && opOk w 0x03
  | .alu c w => ctxOk c && opOk w 0x10
  | .alui c w => ctxOk c && opOk w 0x11
  | .cmp c w => ctxOk c && opOk w 0x12
  | .sel c w => ctxOk c && opOk w 0x13
  | .fop c w => ctxOk c && opOk w 0x20
  | .widen c w => ctxOk c && opOk w 0x21
  | .narrow c w => ctxOk c && opOk w 0x22
  | .bcast c w => ctxOk c && opOk w 0x23
  | .reduce c w => ctxOk c && opOk w 0x24
  | .tload c w => ctxOk c && opOk w 0x30
  | .tstore c w => ctxOk c && opOk w 0x31
  | .tmove c w => ctxOk c && opOk w 0x32
  | .tile c w => ctxOk c && opOk w 0x33
  | .product c w => ctxOk c && opOk w 0x40
  | .layer c w => ctxOk c && opOk w 0x41
  | .signal c w => ctxOk c && opOk w 0x50
  | .wait c w => ctxOk c && opOk w 0x51
  | .readctr c w => ctxOk c && opOk w 0x52
  | .br c w => ctxOk c && opOk w 0x60
  | .brc c w => ctxOk c && opOk w 0x61
  | .loop c w => ctxOk c && opOk w 0x62
  | .call c w => ctxOk c && opOk w 0x63
  | .ret c w => ctxOk c && opOk w 0x64
  | .retire c w => ctxOk c && opOk w 0x6F
  | .query c w => ctxOk c && opOk w 0x70
  | .hankPageCopy _ page => pageOk page
  | .securingHoldEnd _ => true
  | .hankSeal _ => true
  | .heldEventPost _ => true
  | .routeTableFree => true
  | .reservedFrameKind rx k => rxOk rx && decide (k.cls < 8 ∧ k.kind < 256)
  | .overvoltageReclose => true
  | .recordsReachedTier table _ => decide (table < 4096)

end Sys2Proof
end

