-- ==== Sys2Proof/Safety.lean ====
section
/-! DEFINITION. What counts as a safe state and a safe run, in the terms that the claims use. -/

namespace Sys2Proof.Safety

open Sys2Proof.Machine

/-- A context after a vector write: lane `j` of register `dst` takes `new j` where the predicate selects it or there is
none, and keeps its bits elsewhere; the register's scale tag is `tag` (R187, R188). -/
def lanesWritten (x : Context) (w : Word) (dst view : Nat) (new : Nat → Nat) (tag : Word32) : Context :=
  { x with
    vregs := x.vregs.set dst (ofLanes view ((List.range (laneCount view)).map (fun j =>
      if plyPredicated w && !predLane view (preg x (plyPred w)) j then lane view (vreg x dst) j else new j))),
    tags := x.tags.set dst tag }

/-- Every byte memory of the machine is in canonical form: the window, the tensors, the local SRAM of every spindle and the
optimiser state of owned shards. -/
def memoriesOk (s : State) : Bool :=
  memWf s.window && s.tensors.all (fun t => memWf t.2) && s.spindles.sram.all (fun t => memWf t.2) &&
  s.dense.slots.all (fun t => memWf t.2)

/-- The groups of state: the fields of State beside the queue of commands. -/
inductive Group where
  | supply
  | regs
  | rings
  | cfg
  | steps
  | tables
  | programs
  | lattices
  | window
  | tensors
  | spindles
  | owners
  | dense
  | links
  | power
  | securing
  | outputs
  | security
  | telemetry
  | sequences
  | freeCount
  deriving DecidableEq, Repr

/-- The groups that work may change once it can go on: what progress delivers, pools, merges, sends and posts. -/
def work : List Group :=
  [.rings, .steps, .tables, .tensors, .owners, .dense, .links, .power, .securing, .outputs, .telemetry, .sequences]

/-- The groups that a frame sent or received may change, a lost member posted among them. -/
def frames : List Group := [.rings, .links, .securing, .sequences]

/-- The groups that a reset may change: all but the free values and the queue of commands. -/
def everything : List Group :=
  [.supply, .regs, .rings, .cfg, .steps, .tables, .programs, .lattices, .window, .tensors, .spindles, .owners, .dense, .links,
   .power, .securing, .outputs, .security, .telemetry, .sequences]

/-- The groups of state that a command may change. -/
def reach : Instr → List Group
  | .doorbell _ _ _ _ | .telemetrySnapshot _ =>
    [.rings, .window]
  | .commandAcceptanceResume _ | .unknownOpcodeDescriptor _ | .ringEnable _ _ _ _ _ | .ringDisable _
  | .ringRearm _ _ _ | .heldEventPost _ =>
    [.rings]
  | .submitLattice _ =>
    frames ++ [.lattices, .tensors, .dense]
  | .submitLatticeRemove _ =>
    [.rings, .lattices, .dense]
  | .loadProgram _ | .unloadProgram _ =>
    [.rings, .programs]
  | .loadProgramSlotTaken _ =>
    [.programs]
  | .translationEnd _ =>
    work ++ [.programs]
  | .stepInput _ | .stepInputBlocksRead _ _ | .evalBlocksRead _ _ _ | .rowRequestServe _ _ _ _ | .rowData _ _
  | .partialSum _ _ | .skeinTransfer _ _ | .sliceData _ _ | .digest _ _ | .sliverColumnTest _ _ _
  | .cardingPassEnd _ _ _ | .pageMoveEnd _ | .flashRereadEnd _ | .denseBlockUpdate _ _ | .hankPageCopy _ _
  | .securingHoldEnd _ =>
    work
  | .evalRequest _ =>
    [.rings, .steps]
  | .evalComplete _ _ | .exportChunk _ _ _ =>
    work ++ [.window]
  | .loadTableVersionBegin _ | .loadTableVersionEnd _ | .retireTableVersion _ =>
    [.rings, .tables]
  | .loadTableVersionData _ =>
    [.rings, .tables, .power]
  | .stageConfig _ | .commitDecision _ _ | .routeTableFree =>
    work ++ [.cfg]
  | .commitConfig _ =>
    [.rings, .cfg, .steps, .tables, .securing]
  | .discardConfig _ =>
    [.rings, .cfg]
  | .secureNow _ | .reportFailure _ =>
    [.rings, .securing]
  | .restoreFromHank _ _ _ =>
    [.rings, .cfg, .steps, .tables, .programs, .spindles, .owners, .dense, .links, .power, .securing, .outputs]
  | .restoreEnd =>
    work ++ [.cfg, .programs, .spindles]
  | .exportSkein _ | .deltaControlStart _ | .deltaControlStop _ =>
    [.rings, .outputs]
  | .debugBreakArm _ | .debugBreakClear _ =>
    [.rings, .spindles]
  | .debugResume _ =>
    work ++ [.spindles]
  | .registerReset _ | .inputSwitchClose | .powerOnReset | .linkReset | .functionLevelReset | .overcurrentRetry
  | .overvoltageReclose =>
    everything
  | .jobCommit _ | .energyCountLowRead =>
    [.regs]
  | .unitEnable _ | .unitDrainEnd _ | .unitWakeEnd _ _ =>
    [.regs, .links, .power]
  | .unitDisable _ =>
    [.regs, .power]
  | .registerWrite _ _ _ =>
    [.regs, .rings]
  | .installJobKey _ _ _ =>
    [.tables, .links, .securing, .security]
  | .queryState _ _ | .firmwareBegin _ _ | .firmwareData _ _ | .firmwareEnd _ _ | .firmwareAbort _ _ | .getVersion _
  | .getCapabilities _ | .negotiateAlgorithms _ _ | .getDigests _ | .getCertificate _ _ _ _ | .finish _ _
  | .heartbeat _ | .keyUpdate _ _ | .endSession _ =>
    [.security]
  | .debugChallenge _ _ | .challenge _ _ _ | .getMeasurements _ _ _ _ | .keyExchange _ _ =>
    [.security, .freeCount]
  | .debugUnlock _ _ =>
    frames ++ [.steps, .tables, .programs, .lattices, .window, .tensors, .spindles, .owners, .dense, .outputs, .security]
  | .perstNAsserted _ =>
    everything ++ [.freeCount]
  | .perstNDeasserted =>
    [.supply, .rings, .power, .securing, .sequences]
  | .resetSequenceEnd _ =>
    [.supply, .regs, .security]
  | .inputOvervoltage | .inputOvercurrent | .mateSenseReleased | .lossOfInput | .thermTripClear =>
    [.supply]
  | .brakeEntered _ =>
    [.supply, .rings, .power, .securing, .sequences, .freeCount]
  | .pwrBrakeNDeasserted =>
    [.supply, .power]
  | .brakeEnd =>
    [.rings, .power]
  | .grantRound _ =>
    [.supply, .regs, .rings, .spindles, .power, .securing, .security, .telemetry, .sequences]
  | .wearBudgetAccrual =>
    [.tables]
  | .diePark _ | .nandChannelIdle _ =>
    [.power]
  | .portTrainingEnd _ _ _ _ | .securingReport _ _ =>
    frames ++ [.freeCount]
  | .portRetry _ | .keepaliveSend _ | .keepalive _ | .replayRequest _ _ | .credit _ _ _ =>
    [.links]
  | .livenessLost _ | .laneFailure _ _ | .hello _ _ _ _ _ | .confirmation _ _ _ _ | .creditAdvertisement _ _
  | .reStripe _ _ _ _ | .frameDiscard _ _ | .frameForward _ _ _ _ _ _ _ _ _ _ | .securingDecision _ _
  | .reservedFrameKind _ _ =>
    frames
  | .rowRequest _ _ | .streamData _ _ | .streamEnd _ _ | .grant _ _ | .parkedEntryApply _ _ =>
    frames ++ [.steps, .tables, .owners, .power, .outputs, .telemetry]
  | .treeBlock _ _ | .treeBlockForward _ _ =>
    frames ++ [.steps, .tensors, .dense]
  | .hankData _ _ =>
    frames ++ [.telemetry]
  | .commitReport _ _ | .halt _ _ | .commitReportSend =>
    frames ++ [.steps]
  | .placementMove _ _ =>
    [.tables, .power]
  | .backgroundScrub _ _ _ =>
    [.rings, .steps, .tables, .power, .securing, .outputs, .telemetry, .sequences]
  | .flashReclaim =>
    [.tables, .power, .telemetry, .freeCount]
  | .memoryPortFailure _ =>
    work ++ [.regs]
  | .chordModuleFailure _ =>
    [.rings, .steps, .securing, .sequences]
  | .updateKernelInvocation _ _ _ | .waitSatisfied _ | .loopEnd _ | .mov _ _ | .movi _ _ | .movhi _ _ | .alu _ _
  | .alui _ _ | .cmp _ _ | .sel _ _ | .fop _ _ | .widen _ _ | .narrow _ _ | .bcast _ _ | .reduce _ _ | .signal _ _
  | .wait _ _ | .readctr _ _ | .br _ _ | .brc _ _ | .loop _ _ | .call _ _ | .ret _ _ | .query _ _ =>
    [.spindles]
  | .weightGradientTileDrain _ _ _ _ =>
    [.spindles, .dense, .telemetry]
  | .vertexDispatch _ _ _ =>
    [.steps, .tensors, .spindles, .power]
  | .queueAccept _ | .tmove _ _ | .product _ _ =>
    [.rings, .spindles, .securing, .sequences]
  | .queueCommandComplete _ | .retire _ _ =>
    work ++ [.programs, .spindles]
  | .tload _ _ =>
    [.spindles, .telemetry]
  | .tstore _ _ | .tile _ _ | .layer _ _ =>
    [.tensors, .spindles, .telemetry]
  | .hankSeal _ =>
    frames ++ [.telemetry, .freeCount]
  | .recordsReachedTier _ _ =>
    [.rings, .tables, .power, .telemetry]

/-- The frame of a command: `t` has the queue of `s` and every group of `s` but those listed. -/
def SameBut (gs : List Group) (s t : State) : Prop :=
  t.pending = s.pending ∧
  (.supply ∈ gs ∨ t.supply = s.supply) ∧
  (.regs ∈ gs ∨ t.regs = s.regs) ∧
  (.rings ∈ gs ∨ t.rings = s.rings) ∧
  (.cfg ∈ gs ∨ t.cfg = s.cfg) ∧
  (.steps ∈ gs ∨ t.steps = s.steps) ∧
  (.tables ∈ gs ∨ t.tables = s.tables) ∧
  (.programs ∈ gs ∨ t.programs = s.programs) ∧
  (.lattices ∈ gs ∨ t.lattices = s.lattices) ∧
  (.window ∈ gs ∨ t.window = s.window) ∧
  (.tensors ∈ gs ∨ t.tensors = s.tensors) ∧
  (.spindles ∈ gs ∨ t.spindles = s.spindles) ∧
  (.owners ∈ gs ∨ t.owners = s.owners) ∧
  (.dense ∈ gs ∨ t.dense = s.dense) ∧
  (.links ∈ gs ∨ t.links = s.links) ∧
  (.power ∈ gs ∨ t.power = s.power) ∧
  (.securing ∈ gs ∨ t.securing = s.securing) ∧
  (.outputs ∈ gs ∨ t.outputs = s.outputs) ∧
  (.security ∈ gs ∨ t.security = s.security) ∧
  (.telemetry ∈ gs ∨ t.telemetry = s.telemetry) ∧
  (.sequences ∈ gs ∨ t.sequences = s.sequences) ∧
  (.freeCount ∈ gs ∨ t.freeCount = s.freeCount)

/-- What every reset leaves in `t` of the state `s` before it (Table 14.24), the energy counter apart: registers, rings,
engines, images, lattices, steps, configuration, links and units at their reset values; the window and the tensors empty;
table versions and page maps gone, flash homes and their log kept; sealed hanks, mirrors and the failure record kept; the
firmware, the identity and the fused minimum kept, the job key gone, the ephemeral keys made anew; the latch of
THERM_TRIP_N kept. -/
def ResetLeaves (s t : State) : Prop :=
  t.pending = s.pending ∧ t.regs = { State.reset.regs with energyCount := t.regs.energyCount } ∧ t.rings = State.reset.rings ∧
  t.cfg = State.reset.cfg ∧ t.steps = State.reset.steps ∧ t.programs = State.reset.programs ∧ t.lattices = [] ∧
  t.window = [] ∧ t.tensors = [] ∧ t.spindles = State.reset.spindles ∧ t.owners = State.reset.owners ∧
  t.dense = State.reset.dense ∧ t.links = State.reset.links ∧ t.power = State.reset.power ∧ t.outputs = State.reset.outputs ∧
  t.telemetry = State.reset.telemetry ∧ t.sequences = State.reset.sequences ∧
  t.tables.versions = [] ∧ t.tables.pages = [] ∧ t.tables.wear = State.reset.tables.wear ∧
  (∀ p ∈ s.tables.pages, p.home = .flash → (p.ref, p.logSeq) ∈ t.tables.older) ∧
  (∀ p ∈ s.tables.older, p ∈ t.tables.older) ∧
  t.securing.hanks = s.securing.hanks.filter (fun h => h.sealedLoss.isSome) ∧ t.securing.mirrors = s.securing.mirrors ∧
  t.securing.failR = s.securing.failR ∧ t.securing.failO = s.securing.failO ∧
  t.security.jobKey = none ∧ t.security.running = s.security.running ∧ t.security.boot = s.security.boot ∧
  t.security.minSecVersion = s.security.minSecVersion ∧ t.security.flashOwner = s.security.flashOwner ∧
  t.security.debugUnlocked = false ∧ t.security.transfer = none ∧
  t.security.keyGeneration = s.security.keyGeneration + 1 ∧
  t.supply.inReset = true ∧ t.supply.thermTrip = s.supply.thermTrip

/-- An event stands among the records written to ring 9 or, while that ring is full or not in use, among those held, where
the kinds of R251 merge into one record (Table 10.8). -/
def EventPosted (t : State) (die : Nat) (body : EventBody) : Prop :=
  (∃ r ∈ t.rings.events, r.2.body = body ∧ r.2.die = die) ∨ (∃ e ∈ t.rings.heldEvents, e.body = body ∧ e.die = die)

/-- A received frame keeps to the header's rules and has the length of its payload (Tables 12.3 and 12.8). -/
abbrev Framed (rx : Rx) (b : MsgBody) : Prop := headerOk rx = true ∧ rx.length = bodyLength b

/-- A completion record stands among those written to ring 8 or those held back (Table 10.4); its PHASE is the ring's. -/
def Answered (t : State) (d : Sub) (status : Status) (error : Nat) (d0 d1 : Word) : Prop :=
  ∃ c : Completion, ((∃ r ∈ t.rings.completions, r.2 = c) ∨ c ∈ t.rings.heldDone) ∧ c.opcode = d.opcode ∧ c.status = status ∧
    c.commandId = d.commandId ∧ c.submitIndex = d.index ∧ c.ring = d.ring ∧ c.errorCode = error ∧ c.detail0 = d0 ∧ c.detail1 = d1

/-- A command's turn has come (R241) and the checks of R243 and R349 before its own pass. -/
abbrev Turn (s : State) (d : Sub) (opcode : Nat) : Prop := canBegin s d = true ∧ d.opcode = opcode ∧ entryStatus s d = none

/-- The next instruction of a running context whose turn it is on its spindle is this word, with the row's opcode, and no
loop end is due (R179, R180, R266). -/
abbrev Issues (s : State) (c : CtxId) (w : Word) (opcode : Nat) (x : Context) (img : Image) : Prop :=
  s.running = true ∧ s.spindles.stopped = false ∧ ctxAt s c = some x ∧ imageAt s x.image = some img ∧
  x.state = .running ∧ x.retiring = false ∧ atLoopEnd x = false ∧ img.ply.code[x.pc]? = some w ∧ plyOp w = opcode ∧
  nextIssue s c.die c.spindle = some c.ctx

/-- The state after an instruction that leaves its context as `y` and changes nothing besides: the context has had its
turn (R180). -/
abbrev ran (s : State) (c : CtxId) (y : Context) : State := markIssued (setCtx s c y) c

end Sys2Proof.Safety
end

