-- ==== Sys2Proof/Certificates/Slice0/Obligations.lean ====
section
/-! DEFINITION. The statements for the provers. Where a rule of the spec is named, it is the rule whose words the statement
puts into Lean; a clause that rests on a choice of the model names its log entry. -/

open Sys2Proof Sys2Proof.Machine Sys2Proof.Safety

/-- A step runs the command at the front of the queue on the machine with the queue's rest. With an empty queue the block
idles. The model's own choice (log entry 3): the spec gives the block no tick. -/
def Obligations.StepRunsFrontCommand : Prop :=
  (∀ (c : Instr) (rest : List Instr) (s : State), s.pending = c :: rest → step s = exec c { s with pending := rest }) ∧
  (∀ s : State, s.pending = [] → step s = .next s)

/-- Right after a reset, before any command: the values of Table 14.24 and the reset columns of Tables 14.4 to 14.19, the wear
budget of R112 and the sequence numbers of R19. Every byte memory then has its canonical form. -/
def Obligations.ResetValues : Prop :=
  (State.reset.sequences = List.replicate 64 1 ∧ State.reset.telemetry.metered = List.replicate 42 0 ∧
  State.reset.power.balance = List.replicate 40 0 ∧ State.reset.power.levels = List.replicate 64 4 ∧
  State.reset.spindles.breaks = [none, none, none, none] ∧ State.reset.spindles.contexts = [] ∧
  State.reset.tables.wear = 12 * 10 ^ 12 ∧ State.reset.regs.ready = false ∧ State.reset.regs.jobSet = false ∧
  State.reset.regs.commitStatus = 0xFF ∧ State.reset.regs.requestStatus = 0xFF ∧ State.reset.security.jobKey = none ∧
  State.reset.cfg.capWatts = 600 ∧ State.reset.cfg.maxLevel = 7 ∧ State.reset.window = [] ∧
  State.reset.rings.ring.all (fun r => !r.active && !r.halted && r.setupStatus == 0xFF) = true ∧
  State.reset.power.units.take 18 = List.replicate 18 { state := .waking, recorded := false } ∧
  State.reset.steps.a = 0 ∧ State.reset.steps.c = 0) ∧
  (memoriesOk State.reset = true)

/-- Every command ends in a next state, except a DOORBELL that reports a host store past the window's 4 GiB (R341): the one
fault. No command is refused. -/
def Obligations.EveryCommandAnswers : Prop :=
  ∀ (i : Instr) (s : State), (∃ t, exec i s = .next t) ∨
    (∃ ring producer descs stores w, i = .doorbell ring producer descs stores ∧ w ∈ stores ∧
      2 ^ 32 < w.offset + w.bytes.length ∧ exec i s = .fault (.windowRange w.offset))

/-- What each command changes (its rules of the spec, file by file): when a command answers a next state, the queue of
commands and every group of state that the command does not reach are as before. A Ply instruction on registers reaches the
spindles only, a load the telemetry counter besides, a store the tensors; no command but the free values' own draws on them.
-/
def Obligations.CommandsReachOnlyTheirGroups : Prop :=
  ∀ (i : Instr) (s t : State), exec i s = .next t → SameBut (reach i) s t

/-- The byte memories keep their canonical form: addresses rise strictly and no listed byte is what an unlisted one reads as.
-/
def Obligations.StepKeepsMemoriesCanonical : Prop :=
  ∀ s t : State, memoriesOk s = true → step s = .next t → memoriesOk t = true

/-- R390. The ROM raises the fused minimum to the version of the image it starts, the minimum never decreases over any step,
and no image below it starts. -/
def Obligations.FusedMinimumNeverDecreases : Prop :=
  ∀ s t : State, step s = .next t →
    s.security.minSecVersion ≤ t.security.minSecVersion ∧
    (s.regs.ready = false → t.regs.ready = true →
      t.security.running = s.security.boot ∧ s.security.minSecVersion ≤ t.security.running.secVersion ∧
      t.security.minSecVersion = max s.security.minSecVersion t.security.running.secVersion)

/-- R383 and R382. A step keeps a held job key, or erases it with a reset (READY is then 0), a thermal trip (core power is
then off) or a debug unlock; it never replaces it. A key comes only with INSTALL_JOB_KEY, and only once JOB_SET is 1. -/
def Obligations.JobKeyHeldUntilErased : Prop :=
  ∀ s t : State, step s = .next t →
    (∀ k, s.security.jobKey = some k →
      t.security.jobKey = some k ∨
      t.security.jobKey = none ∧
        (t.regs.ready = false ∧ t.supply.inReset = true ∨ t.supply.thermTrip = true ∧ t.supply.corePower = false ∨
          t.security.debugUnlocked = true)) ∧
    (∀ k, s.security.jobKey = none → t.security.jobKey = some k →
      s.regs.jobSet = true ∧ ∃ tr inSession payload, s.pending.head? = some (.installJobKey tr inSession payload))

/-- R348. Writing COMMIT checks the member list and the job block: COMMIT_STATUS is MALFORMED for a count of 0 or above 4,096,
an entry above 4095 or entries not strictly ascending, REJECTED_CONFIG where this member is not in the list or the fabric
window is too long, and OK otherwise, when JOB_SET becomes 1. A commit after OK has no effect. Once JOB_SET is 1 the job block
and the member list stay as they are over every step of the machine, until a reset clears them. The list is the MEMBER_COUNT
entries the module reads. -/
def Obligations.JobBlockCommitsAndLocks : Prop :=
  (∀ (s : State) (list : List Nat), s.running = true → list.length = s.regs.memberCount →
    let sized := 1 ≤ s.regs.memberCount ∧ s.regs.memberCount ≤ 4096 ∧ (∀ m ∈ list, m ≤ 4095) ∧ list.Pairwise (· < ·)
    let sound := s.regs.memberNumber ∈ list ∧ s.regs.fabricLength.toNat ≤ 16 * 10 ^ 12
    (s.regs.jobSet = false →
      (sized → sound → exec (.jobCommit list) s = .next { s with regs := { s.regs with
        commitStatus := 0x00, jobSet := true, members := list } }) ∧
      (sized → ¬ sound → exec (.jobCommit list) s = .next { s with regs := { s.regs with commitStatus := 0x03 } }) ∧
      (¬ sized → exec (.jobCommit list) s = .next { s with regs := { s.regs with commitStatus := 0x08 } })) ∧
    (s.regs.jobSet = true → exec (.jobCommit list) s = .next s)) ∧
  (∀ s t : State, s.regs.jobSet = true → step s = .next t →
    (t.regs.jobSet = true ∧ t.regs.memberCount = s.regs.memberCount ∧ t.regs.memberNumber = s.regs.memberNumber ∧
      t.regs.jobSeed = s.regs.jobSeed ∧ t.regs.listAddress = s.regs.listAddress ∧ t.regs.fabricBase = s.regs.fabricBase ∧
      t.regs.fabricLength = s.regs.fabricLength ∧ t.regs.members = s.regs.members) ∨
    (t.regs.jobSet = false ∧ t.regs.ready = false ∧ t.supply.inReset = true))

/-- Over every step the highest committed step stays, or rises by one on a commit decision that commits, or becomes the
boundary of a hank at the end of its restore, or returns to 0 with a reset. Apart from the withdrawal of a step whose blocks
are refused and from a restore, the highest admitted step rises only on STEP_INPUT, by one, and no further than two beyond the
committed (R28, R31, R32). -/
def Obligations.CommitsAdvanceByOne : Prop :=
  ∀ (s t : State) (i : Instr) (rest : List Instr), s.pending = i :: rest → step s = .next t →
    (t.steps.c = s.steps.c ∨
      ((∃ rx f, i = .commitDecision rx f ∧ f.committed = true ∧ f.step = s.steps.c + 1) ∧ t.steps.c = s.steps.c + 1) ∨
      (i = .restoreEnd ∧ ∃ r, s.securing.restoring = some r ∧ t.steps.c = r.image.boundary ∧ t.steps.a = r.image.boundary) ∨
      (t.steps.c = 0 ∧ t.steps.a = 0 ∧ t.regs.ready = false ∧ t.supply.inReset = true)) ∧
    (s.steps.a < t.steps.a →
      ((∃ d, i = .stepInput d) ∧ t.steps.a = s.steps.a + 1 ∧ t.steps.a ≤ t.steps.c + 2) ∨ (∃ st us, i = .stepInputBlocksRead st us) ∨
      i = .restoreEnd)

/-- R306. The frames of a flow never pass one another: sending whatever can leave keeps, for each flow, the order in which its
frames were sent and wait. -/
def Obligations.FlowOrderKept : Prop :=
  ∀ (s : State) (f : OutFrame),
    let ofFlow (t : State) : List OutFrame :=
      ((t.links.sent.map (·.2) ++ t.links.waiting).filter (sameFlow f)).map
        (fun g => { g with hops := 0, seq := 0, keyEpoch := false })
    ofFlow (pump s) = ofFlow s

/-- R403, R404, R408. An overvoltage, an overcurrent, the release of MATE_SENSE, a loss of input and the clearing of the
thermal latch each open the input switch and remove core power, and change nothing else. R403, R404, R359. The switch closes
again after an overvoltage, an overcurrent, a release or a loss of input: a power-on reset has come, the energy counter
restarts at 0, and core power is on unless the thermal latch holds. The first closing brings no second reset. -/
def Obligations.InputSwitchOpensAndCloses : Prop :=
  (∀ s : State,
    (s.supply.switchClosed = true →
      exec .inputOvervoltage s = .next { s with supply := { s.supply with
        switchClosed := false, openCause := .overvoltage, corePower := false } } ∧
      exec .inputOvercurrent s = .next { s with supply := { s.supply with
        switchClosed := false, openCause := .overcurrent, corePower := false } }) ∧
    (s.supply.mateJoined = true →
      exec .mateSenseReleased s = .next { s with supply := { s.supply with
        switchClosed := false, openCause := .mateReleased, corePower := false, mateJoined := false } }) ∧
    (s.supply.inputPresent = true →
      exec .lossOfInput s = .next { s with supply := { s.supply with
        switchClosed := false, openCause := .lossOfInput, corePower := false, inputPresent := false } }) ∧
    (s.supply.thermTrip = true →
      exec .thermTripClear s = .next { s with supply := { s.supply with
        switchClosed := false, openCause := .lossOfInput, corePower := false, inputPresent := false, thermTrip := false } })) ∧
  (∀ s : State, s.supply.brakePin = false → s.supply.inputPresent = true →
    (∀ i : Instr,
      (i = .overvoltageReclose ∧ s.supply.mateJoined = true ∧ s.supply.openCause = .overvoltage ∨
       i = .overcurrentRetry ∧ s.supply.mateJoined = true ∧ s.supply.openCause = .overcurrent ∨
       i = .inputSwitchClose ∧ s.supply.switchClosed = false ∧
        (s.supply.openCause = .mateReleased ∨ s.supply.openCause = .lossOfInput)) →
      ∃ t, exec i s = .next t ∧ ResetLeaves s t ∧ t.regs.energyCount = 0 ∧ t.supply.lastReset = 1 ∧
        t.supply.switchClosed = true ∧ t.supply.mateJoined = true ∧ t.supply.corePower = !s.supply.thermTrip ∧
        t.supply.causes = (if s.supply.perst then [2] else [])) ∧
    (s.supply.openCause = .none → s.supply.switchClosed = false →
      exec .inputSwitchClose s = .next { s with supply := { s.supply with
        mateJoined := true, switchClosed := true, corePower := !s.supply.thermTrip,
        causes := s.supply.causes.filter (· != 1) } }))

/-- R359, R360, R406. Each reset leaves the state of Table 14.24. The energy counter restarts only at a power-on reset;
LAST_RESET takes the code of Table 14.23, or stays where a reset is in progress already (R409). R361, R388, R390, R406.
PERST_N deasserted ends its cause. At the end of the sequence firmware that verifies runs and READY is 1, chords and slivers
standing as the self-test found them; with firmware that does not verify the recovery loader runs. -/
def Obligations.ResetsAndResetSequence : Prop :=
  (∀ s : State, s.supply.brakePin = false →
    (s.supply.inputPresent = false →
      ∃ t, exec .powerOnReset s = .next t ∧ ResetLeaves s t ∧ t.regs.energyCount = 0 ∧ t.supply.lastReset = 1 ∧
        t.supply.inputPresent = true ∧ t.supply.corePower = false) ∧
    (∀ (i : Instr) (code : Nat),
      (i = .linkReset ∧ code = 3 ∧ s.supply.corePower = true ∨
       i = .functionLevelReset ∧ code = 4 ∧ s.supply.corePower = true ∨
       i = .registerReset 0xB0640001 ∧ code = 5 ∧ s.running = true ∨
       (∃ ns, i = .perstNAsserted ns ∧ 10000 ≤ ns ∧ code = 2 ∧ s.supply.corePower = true ∧ s.supply.perst = false)) →
      ∃ t, exec i s = .next t ∧ ResetLeaves s t ∧ t.regs.energyCount = s.regs.energyCount ∧
        t.supply.corePower = s.supply.corePower ∧ (code = 2 → t.supply.perst = true ∧ 2 ∈ t.supply.causes) ∧
        (s.supply.inReset = false → t.supply.lastReset = code) ∧
        (s.supply.inReset = true → s.regs.recoveryLoader = false → t.supply.lastReset = s.supply.lastReset)) ∧
    (∀ value, value ≠ 0xB0640001 → exec (.registerReset value) s = .next s) ∧
    (∀ ns, ns < 1000 → exec (.perstNAsserted ns) s = .next s)) ∧
  (∀ s : State,
    (s.supply.perst = true → s.supply.brakePin = false →
      exec .perstNDeasserted s = .next { s with supply := { s.supply with
        perst := false, causes := s.supply.causes.filter (· != 2) } }) ∧
    (s.supply.corePower = true → s.supply.inReset = true → s.supply.causes = [] → s.regs.recoveryLoader = false →
      ∀ found : SelfTest,
        (found.firmwareOk = true → s.security.boot.valid = true → s.security.minSecVersion ≤ s.security.boot.secVersion →
          exec (.resetSequenceEnd found) s = .next { s with
            security := { s.security with
              running := s.security.boot, minSecVersion := s.security.boot.secVersion },
            regs := { s.regs with
              ready := true, chords := found.chords, bypass := bypassOf found, widths := widthsOf (bypassOf found),
                meshFault := found.chords.any (· == 0) },
            supply := { s.supply with inReset := false } }) ∧
        (found.firmwareOk = false ∨ s.security.boot.secVersion < s.security.minSecVersion →
          exec (.resetSequenceEnd found) s = .next { s with regs := { s.regs with recoveryLoader := true } })))

/-- R278, R279, R407, R409. An assertion of PWR_BRAKE_N for 2 µs on a powered module with no reset cause enters the brake:
every domain is at level 0 and BRAKE_ENTERED carries the energy counter; below 0.5 µs it is ignored. The brake outlasts the
deassertion by its hysteresis, and its end posts nothing. R271, R275, R277, R281, R283, R408. With core power on, a grant
round counts the energy drawn. A reading of 118 °C or above latches THERM_TRIP_N, removes core power, erases the job key and
posts nothing, in reset and in the recovery loader too; with neither, nothing else changes there. While firmware runs the
round also meters and reads the junctions: a die at or above 110 °C holds the module at the brake floor until every die reads
below 107. -/
def Obligations.BrakeAndGrantRound : Prop :=
  (∀ s : State,
    (∀ ns, ns < 500 → exec (.brakeEntered ns) s = .next s) ∧
    (∀ ns, 2000 ≤ ns → s.supply.corePower = true → s.supply.causes = [] → s.power.braked = false →
      ∃ t, exec (.brakeEntered ns) s = .next t ∧ t.supply = { s.supply with brakePin := true } ∧
        t.power = { s.power with braked := true, hysteresis := false, levels := List.replicate 64 0 } ∧
        EventPosted t 47 (.brakeEntered s.regs.energyCount) ∧
        t.sequences = modifyAt s.sequences 47 (· + 1) ∧ SameBut [.supply, .power, .rings, .sequences] s t) ∧
    (s.supply.brakePin = true → s.power.braked = true →
      exec .pwrBrakeNDeasserted s = .next { s with
        supply := { s.supply with brakePin := false }, power := { s.power with hysteresis := true } }) ∧
    (s.power.braked = true → s.power.hysteresis = true → (ringAt s 9).setupStatus = 0 →
      exec .brakeEnd s = .next { s with power := { s.power with braked := false, hysteresis := false } })) ∧
  (∀ (s : State) (r : RoundReadings), s.supply.corePower = true →
    ∃ t, exec (.grantRound r) s = .next t ∧
      t.regs = { s.regs with energyCount := s.regs.energyCount + BitVec.ofNat 64 r.moduleDrawn } ∧
      t.power.braked = s.power.braked ∧ t.power.units = s.power.units ∧
      ((∃ j ∈ r.junctions, 118 ≤ j) →
        t.supply = { s.supply with thermTrip := true, corePower := false } ∧ t.security = { s.security with jobKey := none } ∧
        t.rings = s.rings ∧ t.sequences = s.sequences) ∧
      ((∀ j ∈ r.junctions, j < 118) → t.supply = s.supply ∧ t.security = s.security) ∧
      (s.running = false → t.power = s.power ∧ t.telemetry = s.telemetry ∧ t.rings = s.rings ∧ t.spindles = s.spindles) ∧
      (s.running = true →
        t.power.junctions = r.junctions ∧
        t.telemetry = { s.telemetry with
          metered := s.telemetry.metered.mapIdx (fun i x => x + nth r.metered i 0 + (if i < 40 then nth r.idleDrawn i 0 else 0)) } ∧
        t.power.hotFloor = (r.junctions.any (fun j => decide (110 ≤ j)) ||
          (s.power.hotFloor && r.junctions.any (fun j => decide (107 ≤ j)))) ∧
        ((∀ j ∈ r.junctions, j < 118) → t.power.hotFloor = true → t.power.levels = List.replicate 64 0)) ∧
      SameBut [.supply, .regs, .rings, .spindles, .power, .securing, .security, .telemetry, .sequences] s t)

/-- R285. REQUEST_STATUS answers a write of UNIT_POWER_CONTROL at once: MALFORMED above unit 73, REJECTED_CONFIG for a unit
that only the module switches and for a disable of a port in use; a request that a transition defers is recorded and answered
ACCEPTED_DEFERRED; a request for the state a unit is in changes nothing else. R284. A drain ends in OFF, or in WAKING at once
where an enable was recorded; a wake ends in ON, or in DRAINING where a disable was recorded. No unit is left half on, and no
other unit changes. R284, R286. A compute die with no ready and no running vertex is parked, and an idle NAND channel is
switched off, by way of DRAINING; a die keeps the level it held. -/
def Obligations.UnitsChangePower : Prop :=
  (∀ (s : State) (u : Nat), s.running = true →
    let answered (code : Byte) : State := { s with regs := { s.regs with requestStatus := code } }
    (73 < u → exec (.unitEnable u) s = .next (answered 0x08) ∧ exec (.unitDisable u) s = .next (answered 0x08)) ∧
    (18 ≤ u → u ≤ 73 → exec (.unitEnable u) s = .next (answered 0x03) ∧ exec (.unitDisable u) s = .next (answered 0x03)) ∧
    (u < 16 → routeUses s u = true → exec (.unitDisable u) s = .next (answered 0x03)) ∧
    ((u = 16 ∨ u = 17) → holdsHomes s (u - 16) = true → exec (.unitDisable u) s = .next (answered 0x03)) ∧
    (u < 18 → s.power.units[u]? = some { state := .draining, recorded := false } →
      exec (.unitEnable u) s = .next { answered 0x01 with power := { s.power with
        units := s.power.units.set u { state := .draining, recorded := true } } }) ∧
    (u < 18 → unitState s u = .waking → exec (.unitEnable u) s = .next (answered 0x00)) ∧
    ((u = 16 ∨ u = 17) → unitState s u = .on → exec (.unitEnable u) s = .next (answered 0x00)) ∧
    (u < 18 → unitState s u = .off →
      ∃ t, exec (.unitEnable u) s = .next t ∧ t.regs = (answered 0x00).regs ∧
        t.power = { s.power with units := s.power.units.set u { state := .waking, recorded := false } } ∧
        (16 ≤ u → t.links = s.links) ∧ SameBut [.regs, .power, .links] s t) ∧
    ((u < 16 ∧ routeUses s u = false ∨ (u = 16 ∨ u = 17) ∧ holdsHomes s (u - 16) = false) →
      (unitState s u = .on →
        exec (.unitDisable u) s = .next { answered 0x00 with power := { s.power with
          units := s.power.units.set u { state := .draining, recorded := false } } }) ∧
      (unitState s u = .waking →
        exec (.unitDisable u) s = .next { answered 0x01 with power := { s.power with
          units := s.power.units.set u { state := .waking, recorded := true } } }) ∧
      (unitState s u = .off ∨ unitState s u = .draining → exec (.unitDisable u) s = .next (answered 0x00)))) ∧
  (∀ (s : State) (u : Nat) (recorded : Bool), s.running = true → u < s.power.units.length →
    (s.power.units[u]? = some { state := .draining, recorded := recorded } → drained s u = true →
      ∃ t, exec (.unitDrainEnd u) s = .next t ∧ SameBut [.regs, .power, .links] s t ∧
        t.power.units = s.power.units.set u { state := if recorded then .waking else .off, recorded := false } ∧
        (34 ≤ u → t.power = { s.power with units := t.power.units } ∧ t.links = s.links ∧ t.regs = s.regs)) ∧
    (∀ expander, s.power.units[u]? = some { state := .waking, recorded := recorded } →
      (16 ≤ u ∨ (portAt s u).link = .up ∨ (portAt s u).link = .failed) →
      ∃ t, exec (.unitWakeEnd u expander) s = .next t ∧ SameBut [.regs, .power, .links] s t ∧
        t.power.units = s.power.units.set u { state := if recorded then .draining else .on, recorded := false } ∧
        (u = 16 ∨ u = 17 → t.regs = { s.regs with memPorts := s.regs.memPorts.set (u - 16) (trainedPort expander) }))) ∧
  (∀ s : State, s.running = true →
    (∀ die, die < 40 → unitState s (34 + die) = .on → (readyOn s die).isEmpty = true →
      s.spindles.contexts.all (fun c => c.1.die != die) = true →
      exec (.diePark die) s = .next { s with power := { s.power with
        units := s.power.units.set (34 + die) { state := .draining, recorded := false },
        parkLevels := s.power.parkLevels.set die (nth s.power.levels die 4) } }) ∧
    (∀ channel, channel < 16 → unitState s (18 + channel) = .on → channelIdle s channel = true →
      exec (.nandChannelIdle channel) s = .next { s with power := { s.power with
        units := s.power.units.set (18 + channel) { state := .draining, recorded := false } } }))

/-- R289, R290, Tables 12.1 and 12.2. Training ends in FAILED with reason 1 without a signal, 2 with fewer than three trained
lanes, 3 with fewer than three locked lanes and 4 without a job key; otherwise the port says hello. A peer's hello fails the
port with reason 5, 6 or 7, or is confirmed; a confirmation that does not verify fails it with reason 8, and one that does is
answered with the buffer sizes. Their own advertisement takes the port UP. -/
def Obligations.LinkBringUp : Prop :=
  ∀ (s : State) (port : Nat) (p : Port), port < 16 → s.links.ports[port]? = some p → s.supply.corePower = true →
    let failed (t : State) (reason : Nat) : Prop :=
      t = { s with links := { s.links with ports := s.links.ports.set port { p with link := .failed, reason := reason } } }
    (p.link = .training →
      (∀ trained locked, ∃ t, exec (.portTrainingEnd port false trained locked) s = .next t ∧ failed t 1) ∧
      (∀ trained locked, ((List.range 4).filter (fun l => trained.contains l)).length < 3 →
        ∃ t, exec (.portTrainingEnd port true trained locked) s = .next t ∧ failed t 2) ∧
      (∀ trained locked, 3 ≤ ((List.range 4).filter (fun l => trained.contains l)).length →
        ((List.range 4).filter (fun l => trained.contains l && locked.contains l)).length < 3 →
        ∃ t, exec (.portTrainingEnd port true trained locked) s = .next t ∧ failed t 3) ∧
      (∀ trained locked, 3 ≤ ((List.range 4).filter (fun l => trained.contains l && locked.contains l)).length →
        (s.security.jobKey = none → ∃ t, exec (.portTrainingEnd port true trained locked) s = .next t ∧ failed t 4) ∧
        (s.security.jobKey ≠ none →
          ∃ t salt, exec (.portTrainingEnd port true trained locked) s = .next t ∧ (portAt t port).link = .confirming ∧
            (portAt t port).lanes = (List.range 4).filter (fun l => trained.contains l && locked.contains l) ∧
            (portAt t port).control = p.control ++ [.hello s.security.jobId s.member port salt] ∧
            (∀ q, q ≠ port → portAt t q = portAt s q) ∧ SameBut [.links, .freeCount] s t))) ∧
    (p.link = .failed → 1 ≤ p.reason → p.reason ≤ 3 →
      ∃ t, exec (.portRetry port) s = .next t ∧ (portAt t port).link = .training ∧ (∀ q, q ≠ port → portAt t q = portAt s q) ∧
        SameBut [.links] s t) ∧
    (p.link = .confirming → p.hello = none → ∀ jobId member peerPort salt,
      (jobId ≠ s.security.jobId → ∃ t, exec (.hello port jobId member peerPort salt) s = .next t ∧ failed t 5) ∧
      (jobId = s.security.jobId → member ∉ s.members →
        ∃ t, exec (.hello port jobId member peerPort salt) s = .next t ∧ failed t 6) ∧
      (jobId = s.security.jobId → member ∈ s.members → member = s.member →
        ∃ t, exec (.hello port jobId member peerPort salt) s = .next t ∧ failed t 7) ∧
      (jobId = s.security.jobId → member ∈ s.members → member ≠ s.member →
        ∃ t, exec (.hello port jobId member peerPort salt) s = .next t ∧
          (portAt t port).hello = some (member, peerPort, salt) ∧ (portAt t port).link = .confirming ∧
          (portAt t port).control = p.control ++ [.confirmation p.salt salt] ∧ (portAt t port).txCount = p.txCount + 1 ∧
          (∀ q, q ≠ port → portAt t q = portAt s q) ∧ SameBut [.links] s t)) ∧
    (∀ member peerPort salt, p.link = .confirming → p.confirmed = false → p.hello = some (member, peerPort, salt) →
      (∀ a b tagValid, (tagValid = false ∨ a ≠ salt ∨ b ≠ p.salt) →
        ∃ t, exec (.confirmation port a b tagValid) s = .next t ∧ failed t 8) ∧
      (∃ t, exec (.confirmation port salt p.salt true) s = .next t ∧ (portAt t port).confirmed = true ∧
        (portAt t port).peer = some (member, peerPort) ∧
        (portAt t port).control = p.control ++ [.creditAdvertisement bufferSizes] ∧
        (∀ q, q ≠ port → portAt t q = portAt s q) ∧ SameBut [.links] s t)) ∧
    (p.link = .confirming → p.confirmed = true → ∀ sizes,
      ∃ t, exec (.creditAdvertisement port sizes) s = .next (pump t) ∧ (portAt t port).link = .up ∧ (portAt t port).credits = sizes ∧
        (∀ q, q ≠ port → portAt t q = portAt s q) ∧
        (∀ l, l < 4 → p.lanes = (List.range 4).filter (· != l) → EventPosted t (48 + port) (.laneDegraded port l 3)) ∧
        (p.lanes = [0, 1, 2, 3] → t.rings = s.rings) ∧ SameBut [.links, .rings, .sequences] s t)

/-- R296, R298, R299, R300, R310. On an UP port a keep-alive is sent, and one is taken; a replay request has every
unacknowledged frame from the one it names on sent again, link control among them; a codeword or a tag that fails asks for
replay of the first frame not yet taken; a CREDIT frame in sequence gives credit back and drops what it acknowledges, after
which waiting frames may leave. A valid frame takes its frame counter and ends a run of failed tags. -/
def Obligations.LinkServiceFrames : Prop :=
  ∀ (s : State) (port : Nat) (p : Port), s.links.ports[port]? = some p → p.link = .up →
    exec (.keepaliveSend port) s = .next (setPort s port { p with
      control := p.control ++ [.keepalive], txCount := p.txCount + 1, counters := modifyAt p.counters 0 (· + 1),
      controlSeq := p.controlSeq ++ [(BitVec.ofNat 32 p.txCount, bitAt p.txCount 32)],
      controlOut := p.controlOut ++ [(BitVec.ofNat 32 p.txCount, .keepalive)] }) ∧
    exec (.keepalive port) s = .next (setPort s port { p with
      rxCount := p.rxCount + 1, badTags := 0, counters := modifyAt p.counters 1 (· + 1) }) ∧
    (∀ seq : Word32, ∃ (t : State) (q : Port), exec (.replayRequest port seq) s = .next t ∧ SameBut [.links] s t ∧
      t.links.ports = s.links.ports.set port q ∧ q.rxCount = p.rxCount + 1 ∧ q.badTags = 0 ∧ q.link = .up ∧
      q.txCount = p.txCount ∧ q.replay = p.replay ∧ q.controlOut = p.controlOut ∧
      q.counters = modifyAt (modifyAt p.counters 1 (· + 1)) 7 (· + 1) ∧
      q.control = p.control ++ (p.controlOut.filter (fun r => decide ((r.1 - seq).toNat < 2 ^ 31))).map (·.2) ∧
      t.links.sent = s.links.sent ++
        (p.replay.filter (fun r => decide ((r.1 - seq).toNat < 2 ^ 31))).map (fun r => (port, r.2)) ∧
      t.links.waiting = s.links.waiting) ∧
    (∀ badTag, p.badTags + (if badTag then 1 else 0) < 16 →
      ∃ q : Port,
        exec (.frameDiscard port badTag) s = .next (setPort s port q) ∧
        q.control = p.control ++ [.replayRequest (BitVec.ofNat 32 p.rxCount)] ∧ q.txCount = p.txCount + 1 ∧
        q.rxCount = p.rxCount ∧ q.link = .up ∧ q.lanes = p.lanes ∧ q.credits = p.credits ∧
        q.badTags = p.badTags + (if badTag then 1 else 0) ∧ q.replay = p.replay ∧
        q.counters = modifyAt (modifyAt p.counters (if badTag then 6 else 5) (· + 1)) 0 (· + 1)) ∧
    (∀ (rx : Rx) (ack : Word32) (units : List Nat), rx.port = port → rx.seq = BitVec.ofNat 32 p.rxCount →
      rx.keyEpoch = bitAt p.rxCount 32 →
      exec (.credit rx ack units) s = .next (pump (setPort s port { p with
        rxCount := p.rxCount + 1, badTags := 0, counters := modifyAt p.counters 1 (· + 1),
        credits := List.zipWith (· + ·) p.credits units,
        replay := p.replay.filter (fun r => !decide ((ack - r.1).toNat < 2 ^ 31)),
        controlOut := p.controlOut.filter (fun r => !decide ((ack - r.1).toNat < 2 ^ 31)) })))

/-- R289, R296, R308, R309, R310, Table 12.2. A port without a valid frame for its time fails with reason 9, the sixteenth
failed tag in a row fails it with reason 10, and a lane failure or a striping that leaves fewer than three lanes posts
LANE_DEGRADED and fails it with reason 11; a frame in flight then names the peer lost with reason 8, and waiting frames look
for another port. R308. A lane fails and three go on: the end that sees it pauses, announces the new striping and asks for
replay of the first frame it has not taken; the other end takes the striping and answers in kind, and an announcement that
meets a paused end lets it resume. Each end posts one LANE_DEGRADED, and waiting frames may then leave. -/
def Obligations.PortsFailAndReStripe : Prop :=
  (∀ (s : State) (port : Nat) (p : Port), port < 16 → s.links.ports[port]? = some p → p.link = .up →
    let failed (b : State) (reason : Nat) : Prop :=
      (portAt b port).link = .failed ∧ (portAt b port).reason = reason ∧ (portAt b port).replay = p.replay ∧
        (∀ q, q ≠ port → portAt b q = portAt s q) ∧ b.links.waiting = s.links.waiting ∧ b.links.sent = s.links.sent ∧
        (p.replay ≠ [] → EventPosted b 47 (.memberLost (p.peer.map (·.1)) 8)) ∧
        SameBut [.rings, .links, .sequences, .securing] s b
    (∃ b, exec (.livenessLost port) s = .next (pump b) ∧ failed b 9) ∧
    (15 ≤ p.badTags → ∃ b, exec (.frameDiscard port true) s = .next (pump b) ∧ failed b 10) ∧
    (∀ lane, lane ∈ p.lanes → (p.lanes.filter (· != lane)).length < 3 →
      ∃ b, exec (.laneFailure port lane) s = .next (pump b) ∧ failed b 11 ∧
        EventPosted b (48 + port) (.laneDegraded port lane (p.lanes.filter (· != lane)).length)) ∧
    (∀ lane bits seq, ((List.range 4).filter (fun l => bitAt bits l)).length < 3 →
      ∃ b, exec (.reStripe port lane bits seq) s = .next (pump b) ∧ failed b 11 ∧
        EventPosted b (48 + port) (.laneDegraded port lane ((List.range 4).filter (fun l => bitAt bits l)).length))) ∧
  (∀ (s : State) (port : Nat) (p : Port), port < 16 → s.links.ports[port]? = some p → p.link = .up →
    let announced (lane : Nat) (lanes : List Nat) (q : Port) : Prop :=
      q.lanes = lanes ∧ q.link = .up ∧ q.replay = p.replay ∧ q.txCount = p.txCount + 2 ∧
      q.control = p.control ++
        [.reStripe lane (sumOf (lanes.map (2 ^ ·))) (BitVec.ofNat 32 p.txCount), .replayRequest (BitVec.ofNat 32 q.rxCount)]
    (∀ lane, lane ∈ p.lanes → 3 ≤ (p.lanes.filter (· != lane)).length →
      ∃ t, exec (.laneFailure port lane) s = .next t ∧ announced lane (p.lanes.filter (· != lane)) (portAt t port) ∧
        (portAt t port).paused = true ∧ (portAt t port).rxCount = p.rxCount ∧ (∀ q, q ≠ port → portAt t q = portAt s q) ∧
        EventPosted t (48 + port) (.laneDegraded port lane (p.lanes.filter (· != lane)).length) ∧
        SameBut [.rings, .links, .sequences] s t) ∧
    (∀ lane bits seq, 3 ≤ ((List.range 4).filter (fun l => bitAt bits l)).length →
      (p.paused = false →
        ∃ t, exec (.reStripe port lane bits seq) s = .next (pump t) ∧
          announced lane ((List.range 4).filter (fun l => bitAt bits l)) (portAt t port) ∧ (portAt t port).rxCount = p.rxCount + 1 ∧
          (∀ q, q ≠ port → portAt t q = portAt s q) ∧ t.links.waiting = s.links.waiting ∧
          EventPosted t (48 + port) (.laneDegraded port lane ((List.range 4).filter (fun l => bitAt bits l)).length) ∧
          SameBut [.rings, .links, .sequences] s t) ∧
      (p.paused = true →
        exec (.reStripe port lane bits seq) s = .next (pump (setPort s port { p with
          lanes := (List.range 4).filter (fun l => bitAt bits l), paused := false, rxCount := p.rxCount + 1, badTags := 0,
          counters := modifyAt p.counters 1 (· + 1) })))))

/-- R295, R300. A frame is taken when its port is UP and its SEQUENCE and KEY_EPOCH are those of the next counter; its room is
given back and acknowledged at once, with no credit while the port drains. Any other frame changes nothing. -/
def Obligations.FramesTakenInOrder : Prop :=
  ∀ (s : State) (rx : Rx) (cls : Nat) (stream : Bool),
    ((portAt s rx.port).link ≠ .up ∨ rx.seq ≠ BitVec.ofNat 32 (portAt s rx.port).rxCount ∨
        rx.keyEpoch ≠ bitAt (portAt s rx.port).rxCount 32 →
      acceptFrame s rx cls stream = none) ∧
    (∀ p, s.links.ports[rx.port]? = some p → p.link = .up → rx.seq = BitVec.ofNat 32 p.rxCount →
      rx.keyEpoch = bitAt p.rxCount 32 →
      ∃ (q : Port) (units : List Nat),
        acceptFrame s rx cls stream =
          some { s with links := { s.links with ports := s.links.ports.set rx.port q } } ∧
        q.rxCount = p.rxCount + 1 ∧ q.badTags = 0 ∧ q.control = p.control ++ [.credit rx.seq units] ∧ q.txCount = p.txCount + 1 ∧
        q.link = .up ∧ q.credits = p.credits ∧ q.replay = p.replay ∧ units.length = 24 ∧
        (∀ i, i < 24 → units[i]? = some
          (if i = poolIndex cls stream (3 - rx.hops) ∧ unitState s rx.port ≠ .draining then (rx.length + 32 + 63) / 64 else 0)))

/-- R294, R298, R304, R305. A frame for another member is taken and waits to leave with HOPS one less than this member's own
distance. With a kind that is not of its class or does not travel, with a header that breaks Table 12.3, without a route, with
no hops left or with fewer hops than the distance, it names its source lost with reason 8 and is not forwarded. A frame of a
reserved kind is discarded and names its source lost in the same way. R307. Once no frame of the previous epoch waits or is
unacknowledged here and no stream that began under it goes on, the previous route table is freed; a boundary that waited
behind it is then passed. -/
def Obligations.FramesForwarded : Prop :=
  (∀ (s a : State) (rx : Rx) (dest cls kind : Nat) (stream : Bool),
    rx.seq = BitVec.ofNat 32 (portAt s rx.port).rxCount → rx.keyEpoch = bitAt (portAt s rx.port).rxCount 32 →
    acceptFrame s rx cls stream = some a →
    (dest ≠ s.member →
      ((travels cls stream kind = false ∨ headerOk rx = false ∨ routeFor a rx.epoch dest = none ∨ rx.hops = 0 ∨
          (∃ r, routeFor a rx.epoch dest = some r ∧ rx.hops < r.1)) →
        ∃ t, exec (.frameForward rx.port dest rx.source cls stream rx.hops rx.epoch kind rx.length rx.flow) s = .next t ∧
          EventPosted t 47 (.memberLost (some rx.source) 8) ∧
          t.links = a.links ∧ SameBut [.rings, .links, .securing, .sequences] s t) ∧
      (∀ dist mask, travels cls stream kind = true → headerOk rx = true → routeFor a rx.epoch dest = some (dist, mask) →
        1 ≤ rx.hops → dist ≤ rx.hops →
        ∃ b, (b = a ∨ b = memberLost a (some dest) 8 (stepNow a)) ∧
          exec (.frameForward rx.port dest rx.source cls stream rx.hops rx.epoch kind rx.length rx.flow) s =
            .next (pump { b with links := { b.links with waiting := b.links.waiting ++
              [{ dest := dest, source := rx.source, cls := cls, stream := stream, hops := dist - 1, epoch := rx.epoch, kind := kind,
                 length := rx.length, flow := rx.flow, body := .forwarded kind, granted := true, seq := 0,
                 keyEpoch := false }] } }))) ∧
    (∃ t, exec (.reservedFrameKind rx ⟨cls, stream, kind⟩) s = .next t ∧ EventPosted t 47 (.memberLost (some rx.source) 8) ∧
      t.links = a.links ∧ SameBut [.rings, .links, .securing, .sequences] s t)) ∧
  (∀ s : State, s.running = true → s.cfg.prevRoutes.isSome = true → oldEpochGone s = true →
    (s.cfg.routeDue = none →
      exec .routeTableFree s = .next (pump { s with cfg := { s.cfg with prevRoutes := none } })) ∧
    (∀ f, s.cfg.routeDue = some f →
      exec .routeTableFree s =
        .next (pump (passBoundary { s with cfg := { s.cfg with prevRoutes := none, routeDue := none } } f))))

/-- R300, R301, R302, R305, R306. A frame leaves only by an UP port of its destination's mask that is not paused and not
draining, only with credit for its hop pool, only within the replay buffer, and under a grant where its kind needs one; it
takes the distance of the table less one as its hops, and passes no frame of its flow and no frame of its class that stands in
the port's queue. R127, R302. Each entry of a GRANT adds its units to what the flow holds; waiting frames that can leave then
leave, and the member's own merges go on. -/
def Obligations.FramesLeaveUnderCredit : Prop :=
  (∀ (s : State) (f g : OutFrame) (n : Nat), leavesBy s f = some (n, g) →
    let p := portAt s n
    let units := frameUnits f.length
    p.link = .up ∧ p.paused = false ∧ unitState s n ≠ .draining ∧ n < 16 ∧
    (∃ dist mask, routeFor s f.epoch f.dest = some (dist, mask) ∧ bitAt mask n = true ∧
      g = { f with hops := dist - 1 }) ∧
    units ≤ nth p.credits (poolIndex f.cls f.stream (3 - g.hops)) 0 ∧
    sumOf (p.replay.map (fun r => r.2.length + 32)) + (f.length + 32) ≤ 262144 ∧
    (f.granted = false → f.kind ≤ 0x30 →
      units ≤ (aGet s.links.grants (f.cls, if f.stream then 1 else 0, f.flow.toNat)).getD 0) ∧
    (∀ w ∈ s.links.waiting, w.cls = f.cls → queuedAt s n w = false) ∧
    (∀ w ∈ s.links.waiting, ¬ (w.source = f.source ∧ w.dest = f.dest ∧ w.cls = f.cls ∧ w.flow = f.flow))) ∧
  ((∀ (s a : State) (rx : Rx) (gs : List GrantF), acceptFrame s rx 4 false = some a → Framed rx (.grant gs) →
    grantsOk gs = true →
    exec (.grant rx gs) s = .next (ownersGo (pump (gs.foldl (fun b g => takeGrant b rx.source g) a)))) ∧
  (∀ (b : State) (source : Nat) (g : GrantF), g.cls ≠ 2 →
    takeGrant b source g = { b with links := { b.links with
      grants := aPut b.links.grants (g.cls, g.pool, g.flow.toNat)
        ((aGet b.links.grants (g.cls, g.pool, g.flow.toNat)).getD 0 + g.units) } }) ∧
  (∀ (b : State) (source : Nat) (g : GrantF), g.cls = 2 →
    takeGrant b source g = sliceGranted { b with links := { b.links with
      grants := aPut b.links.grants (g.cls, g.pool, g.flow.toNat)
        ((aGet b.links.grants (g.cls, g.pool, g.flow.toNat)).getD 0 + g.units) } } source g))

/-- R84 to R89, R94, R298. A valid row request is kept for its flow and its room granted again: a whole request stands among
those to be answered, with its rows and bag groups. Rows and partial sums that come back are handed to the look-up they
answer. A payload that breaks its layout names its source lost with reason 8. -/
def Obligations.RowFramesTaken : Prop :=
  ∀ (s a : State) (rx : Rx), acceptFrame s rx 0 false = some a →
    let lost (i : Instr) : Prop :=
      ∃ t, exec i s = .next t ∧ EventPosted t 47 (.memberLost (some rx.source) 8) ∧ t.links = a.links ∧
        SameBut [.rings, .links, .securing, .sequences] s t
    (∀ f : RowRequestF,
      (Framed rx (.rowRequest f) → rowRequestOk f = true →
        ∃ b, exec (.rowRequest rx f) s = .next (replenish (ownersGo b) rx 0x01) ∧
          SameBut [.rings, .tables, .owners, .links, .power, .securing, .sequences] s b ∧
          ((∀ q ∈ s.owners.requests, ¬ (q.source = rx.source ∧ q.step = f.step ∧ q.table = f.table ∧ q.pass = f.pass ∧
              q.flow = rx.flow ∧ q.complete = false)) →
            b.owners.requests = s.owners.requests ++
              [{ source := rx.source, step := f.step, table := f.table, pass := f.pass, pool := f.pool, noGradient := f.noGradient,
                 eval := arrivesEval a rx.source f, flow := rx.flow, complete := f.last, rows := f.rows, groups := f.groups }])) ∧
      (¬ Framed rx (.rowRequest f) ∨ rowRequestOk f = false → lost (.rowRequest rx f))) ∧
    (∀ f : RowDataF,
      (Framed rx (.rowData f) → rowDataOk f = true →
        exec (.rowData rx f) s = .next (replenish (progress (deliverRows a f)) rx 0x02)) ∧
      (¬ Framed rx (.rowData f) ∨ rowDataOk f = false → lost (.rowData rx f))) ∧
    (∀ f : PartialSumF,
      (Framed rx (.partialSum f) → partialSumOk f = true →
        exec (.partialSum rx f) s = .next (replenish (progress (deliverSums a rx.source f)) rx 0x03)) ∧
      (¬ Framed rx (.partialSum f) ∨ partialSumOk f = false → lost (.partialSum rx f)))

/-- R127, R129, R132, R142. A stream's data folds into the entries of its rows; a stream for no admitted step, an end marker
whose count is not the rows received, and an end marker for rows that still expect the stream name its member lost with reason
1, and the member withholds its reports. A merge always grants the next contributor of its lowest incomplete row; while a die
withholds credit, a row with no entry gets none. -/
def Obligations.StreamFramesTaken : Prop :=
  (∀ (s a : State) (rx : Rx), acceptFrame s rx 0 true = some a →
    let faulted (b : State) : Prop := b.steps.halted = true ∧ EventPosted b 47 (.memberLost (some rx.source) 1)
    (∀ f : StreamDataF, Framed rx (.streamData f) → (stepAt s f.step = none ∨ streamLayout a rx f = true) →
      exec (.streamData rx f) s = .next (ownersGo (takeStream a rx.source rx.flow f)) ∧
      (stepAt s f.step = none → faulted (takeStream a rx.source rx.flow f))) ∧
    (∀ f : StreamEndF, Framed rx (.streamEnd f) →
      exec (.streamEnd rx f) s = .next (ownersGo (takeStreamEnd a rx.source rx.flow f)) ∧
      (∀ x, findStream s f.step f.table rx.source f.pass = some x → x.faulty = false →
        (stepAt s f.step = none ∨ x.ended = true ∨ x.part ≠ none ∨ x.count ≠ f.rowCount ∨
          x.count ≠ (streamRows s f.step f.table rx.source f.pass).length → faulted (takeStreamEnd a rx.source rx.flow f)) ∧
        (stepAt s f.step ≠ none → x.ended = false → x.part = none → x.count = f.rowCount →
          x.count = (streamRows s f.step f.table rx.source f.pass).length →
          takeStreamEnd a rx.source rx.flow f = putStream a { x with ended := true })))) ∧
  (∀ (s : State) (table : Nat) (e : Entry) (rest : List Entry) (x : Nat × Nat),
    openEntries s table = e :: rest → e.next = some x →
    isGranted (grantReserve s table) e x.1 = true ∨ (aGet e.held x.1).isSome = true) ∧
  (∀ (s : State) (die use : Nat) (x : Entry × Nat × Nat) (rest : List (Entry × Nat × Nat)) (stopped : List (Nat × Nat × Nat)),
    s.owners.withheld.contains die = true → entrySlots s x.1 = 0 →
    ∃ now, grantRest die (x :: rest) use stopped s = grantRest die rest use now s)

/-- R130. Contributions to a row fold in ascending member number, the addend of each taken from what that member sent: with
every expected contribution held, the accumulator is the binary32 sum from +0 in that order, and nothing is folded past a
member whose contribution is missing. -/
def Obligations.ContributionsFoldInOrder : Prop :=
  ∀ (e : Entry) (vals : Nat → List Word32) (n : Nat),
    e.acc = [] → e.folded = [] → (e.expected.map (·.1)).Nodup → (∀ m, (vals m).length = n) → 0 < n →
    let order := e.expected.map (·.1)
    let r := foldTurns (e.expected.length + 1) e
    ((∀ m ∈ order, aGet e.held m = some (vals m)) →
      r.folded = order ∧
      (order ≠ [] →
        r.acc = order.foldl (fun acc m => List.zipWith (fun x y => to32 ((of32 x).add (of32 y))) acc (vals m)) (List.replicate n 0))) ∧
    (∀ first rest, order = first :: rest → aGet e.held first = none → r = e)

/-- R76, R77, R84, R86, R87. A pass of a section is sorted once: its distinct rows, their inverse and counts are kept, and its
requests go to the owners of its rows. At the owner a whole request whose step is there is answered once its rows can be
served; one that breaks the map that governs its step, or the binding, names its source lost with reason 2 and is served none
of its rows. R119, R131, R132, R140, R142. A parked entry whose row is ready in the step's update phase is applied, or skipped
where its row is poisoned, with poisoned skips counted; where an update kernel updates the table, what its invocation computed
is written, or the entry waits for it. No entry of a stream that broke R132 is applied (log entry 16). Its die may then grant
credit again. -/
def Obligations.PassesCardedAndServed : Prop :=
  (∀ s : State, s.running = true →
    (∀ (inst : InstRef) (table pass : Nat) (c : Section) (v : Version) (p : Nat × Nat),
      sectionAt s inst table = some c → instVersion s inst table = some v → c.passes[pass]? = some p →
      let k := c.cardOf v pass p
      (c.isCarded pass = true → exec (.cardingPassEnd inst table pass) s = .next s) ∧
      (c.isCarded pass = false →
        (∀ n, inst = .step n → (stepAt s n).any AdmStep.read = true) →
        (∀ b h, inst = .eval b h → (evalAt s b h).any EvalReq.running = true) →
        exec (.cardingPassEnd inst table pass) s =
          .next (progress (sendRequests (setSection s inst { c with cards := c.cards ++ [k] }) inst c v p k)) ∧
        SameBut [.rings, .tables, .owners, .links, .power, .securing, .sequences] s (sendRequests s inst c v p k))) ∧
    (∀ (source step table pass : Nat) (q : OwnReq),
      s.owners.requests.find? (fun q => q.source == source && q.step == step && q.table == table && q.pass == pass && q.complete) =
        some q → s.spindles.stopped = false →
      let rest : State := { s with owners := { s.owners with requests := s.owners.requests.erase q } }
      (requestDue s q = false → exec (.rowRequestServe source step table pass) s = .next s) ∧
      (requestDue s q = true → requestFault s q = true →
        ∃ t, exec (.rowRequestServe source step table pass) s = .next t ∧ EventPosted t 47 (.memberLost (some source) 2) ∧
          t.owners = rest.owners ∧ SameBut [.rings, .owners, .securing, .sequences] s t) ∧
      (requestDue s q = true → requestFault s q = false → ∀ v, servedVersion s q = some v →
        (rowsServable s q v = true → exec (.rowRequestServe source step table pass) s = .next (progress (serveRequest rest q v))) ∧
        (rowsServable s q v = false → exec (.rowRequestServe source step table pass) s = .next s)))) ∧
  (∀ (s : State) (table row : Nat) (e : Entry) (v : Version) (p : Page), s.running = true →
    s.owners.entries.find? (fun e => e.table == table && e.row == row && e.state == .parked) = some e →
    (stepAt s e.step).bind (fun a => boundVersion s a e.table) = some v → pageOfRow s table v.number row = some p →
    (updateGate s e.step = false ∨ entryFaulty s e = true ∨ pageReady s p = false →
      exec (.parkedEntryApply table row) s = .next s) ∧
    (updateGate s e.step = true → entryFaulty s e = false → pageReady s p = true →
      (row ∈ v.poisoned → exec (.parkedEntryApply table row) s = .next (ownersGo (releaseCredit
        (setEntry { s with telemetry := { s.telemetry with poisonSkips := s.telemetry.poisonSkips + 1 } }
          { e with state := .done }) (mergeDieOf s table)))) ∧
      (row ∉ v.poisoned → ∀ bs, e.result = some bs → exec (.parkedEntryApply table row) s =
        .next (ownersGo (releaseCredit (writeResult s v e bs) (mergeDieOf s table)))) ∧
      (row ∉ v.poisoned → e.result = none → v.optimiser = 5 → exec (.parkedEntryApply table row) s =
        .next (ownersGo (releaseCredit (setEntry s { e with state := .complete }) (mergeDieOf s table)))) ∧
      (row ∉ v.poisoned → e.result = none → v.optimiser ≠ 5 →
        exec (.parkedEntryApply table row) s =
          .next (ownersGo (releaseCredit (setEntry (applyRow s v e) { e with state := .done }) (mergeDieOf s table))) ∧
        (let g := e.acc.map (fun x => unscale s.steps.exponent (of32 x))
         let u := optimise v.optimiser (optParamsOf s (tableTensor e.table)) g (rowUnit v (v.record e.row))
         u.finite = false → applyRow s v e = skipRow s e.step v.table e.row))) ∧
    (∀ die, s.owners.withheld.contains die = false ∨ parkLimit s die * 3 ≤ parkedOn s die * 4 → releaseCredit s die = s))

/-- R144, R146. A child's values of an update block that its window has granted stand at their elements in the node of this
member, the left child's apart from the right child's; what comes under no grant changes no node. A payload past the block, or
that breaks its layout, names its source lost with reason 8. R144, R146. A node with every value of a block in its window
combines them element by element, its own value first, then the left child's, then the right child's, each sum rounded to
binary32; the root keeps the sums for the update, and another member sends them to its parent under the parent's credit and
waits without it. -/
def Obligations.TreeBlocksCombine : Prop :=
  (∀ (s a : State) (rx : Rx) (f : TreeBlockF), acceptFrame s rx 1 false = some a →
    let room := (aGet s.dense.granted (f.step, f.treeId, rx.source)).getD 0
    (Framed rx (.treeBlock f) → treeBlockOk a f = true →
      exec (.treeBlock rx f) s = .next (treesGo (takeTreeBlock a rx.source rx.flow f)) ∧
      (room ≤ f.block → (takeTreeBlock a rx.source rx.flow f).dense = s.dense) ∧
      (f.block < room → treeLeft s.members f.treeId s.member = some rx.source → ∀ k v, f.values[k]? = some v →
        ∃ x, findNode (takeTreeBlock a rx.source rx.flow f) f.step f.treeId f.block = some x ∧
          aGet x.leftVals (f.first + k) = some v) ∧
      (f.block < room → treeLeft s.members f.treeId s.member ≠ some rx.source →
        treeRight s.members f.treeId s.member = some rx.source → ∀ k v, f.values[k]? = some v →
        ∃ x, findNode (takeTreeBlock a rx.source rx.flow f) f.step f.treeId f.block = some x ∧
          aGet x.rightVals (f.first + k) = some v)) ∧
    (¬ Framed rx (.treeBlock f) ∨ treeBlockOk a f = false →
      ∃ t, exec (.treeBlock rx f) s = .next t ∧ EventPosted t 47 (.memberLost (some rx.source) 8) ∧ t.links = a.links ∧
        SameBut [.rings, .links, .securing, .sequences] s t)) ∧
  (∀ (s : State) (treeId block : Nat) (x : TreeNode) (d : TensorDecl), s.running = true →
    s.dense.nodes.find? (fun y => y.treeId == treeId && y.block == block && !y.done && y.sum.isEmpty) = some x →
    parameterDecl s (treeTensor treeId) = some d → 0 < blockLength d block → nodeReady s x (blockLength d block) = true →
    inWindow s x.step d (2048 * block) = true →
    (∀ i, let l := (aGet x.localVals i).getD 0
      let a := (aGet x.leftVals i).getD 0
      let b := (aGet x.rightVals i).getD 0
      (treeLeft s.members treeId s.member = none → treeRight s.members treeId s.member = none →
        nodeValue s x i = to32 (of32 l)) ∧
      (treeLeft s.members treeId s.member ≠ none → treeRight s.members treeId s.member = none →
        nodeValue s x i = to32 (r32 ((of32 l).add (of32 a)))) ∧
      (treeLeft s.members treeId s.member ≠ none → treeRight s.members treeId s.member ≠ none →
        nodeValue s x i = to32 (r32 ((r32 ((of32 l).add (of32 a))).add (of32 b))))) ∧
    (treeParent s.members treeId s.member = none →
      exec (.treeBlockForward treeId block) s = .next (treesGo (putNode s { x with
        sum := (List.range (blockLength d block)).map (nodeValue s x), localVals := [], leftVals := [], rightVals := [] }))) ∧
    (∀ p, treeParent s.members treeId s.member = some p →
      let credit := creditFor (flowFor s [0x10, p, treeId]).1 1 0 p (flowFor s [0x10, p, treeId]).2
      (blockUnits (blockLength d block) ≤ credit →
        ∃ b, exec (.treeBlockForward treeId block) s = .next (treesGo b) ∧
          b.dense = (putNode s { x with done := true, localVals := [], leftVals := [], rightVals := [] }).dense ∧
          SameBut [.rings, .dense, .links, .securing, .sequences] s b) ∧
      (credit < blockUnits (blockLength d block) → exec (.treeBlockForward treeId block) s = .next s)))

/-- R163, R164. A finished tile of a weight-gradient product leaves for the trees when every earlier band has drained and its
elements lie inside the tensor window: each element's bits reach the node of its block, and no result is written to memory. -/
def Obligations.GradientTilesDrain : Prop :=
  ∀ (s : State) (queue : QueueId) (q : QCmd) (rest : List QCmd) (slot band col width : Nat) (d : TensorDecl),
    let p := nth q.ply.products slot default
    let rows := (List.range 128).filterMap (fun r =>
      if q.arg1 ≤ 128 * band + r ∧ 128 * band + r < p.inn then some (128 * band + r) else none)
    let cells := rows.flatMap (fun i => (List.range width).map (fun c => (i, col + c)))
    s.running = true → (queueAt s queue).cmds = q :: rest → q.body = .product slot → p.arrangement = 2 → q.held = false →
    testDue s queue q = false → parameterDecl s (tensorAt q.ply p.out).id = some d → 1 ≤ width → col + width ≤ p.outpos → band ∈ productBands q p →
    (∀ t ∈ q.drained, t.1 = band → ¬ (t.2.1 < col + width ∧ col < t.2.1 + t.2.2)) →
    (∀ b ∈ productBands q p, b < band → bandDrained q p.outpos b = true) →
    (∀ x ∈ cells, inWindow s (instStep q.inst) d (x.1 * d.cols + x.2) = true) →
    ∃ t, exec (.weightGradientTileDrain queue band col width) s = .next t ∧ SameBut [.spindles, .dense, .telemetry] s t ∧
      t.dense = (cells.foldl (fun u x =>
        putLocal u (instStep q.inst) d (x.1 * d.cols + x.2) (to32 (productElem s q p x.1 x.2))) s).dense ∧
      (queueAt t queue).cmds = { q with drained := q.drained ++ [(band, col, width)] } :: rest ∧
      t.spindles.contexts = s.spindles.contexts ∧ t.spindles.counters = s.spindles.counters

/-- R68, R69, R137, R147, R165. At the root, once the step's update phase runs and the last read of the block has ended: a sum
that is not finite skips the block as an overflow; otherwise the built-in optimiser is applied to the sum divided by the loss
scale. The block is then done, and a block of an update kernel waits for its invocation. -/
def Obligations.DenseBlocksUpdate : Prop :=
  ∀ (s : State) (treeId block : Nat) (x : TreeNode) (d : TensorDecl), s.running = true →
    s.dense.nodes.find? (fun y => y.treeId == treeId && y.block == block && !y.done && !y.sum.isEmpty) = some x →
    parameterDecl s (treeTensor treeId) = some d → updateGate s x.step = true →
    readsOver s x.step d.id (2048 * block) (2048 * block + blockLength d block) = true →
    ((∃ v ∈ x.sum, (of32 v).finite = false) →
      exec (.denseBlockUpdate treeId block) s = .next (progress (finishBlock (skipBlock s x.step d.id block) d x))) ∧
    ((∀ v ∈ x.sum, (of32 v).finite = true) → d.optimiser ≠ 5 →
      let g := x.sum.map (fun v => unscale s.steps.exponent (of32 v))
      let u := optimise d.optimiser (optParamsOf s d.id) g (blockUnit s d block)
      exec (.denseBlockUpdate treeId block) s = .next (progress (finishBlock
        (if u.finite then writeBlock s d block x.step u else skipBlock s x.step d.id block) d x))) ∧
    ((∀ v ∈ x.sum, (of32 v).finite = true) → d.optimiser = 5 → exec (.denseBlockUpdate treeId block) s = .next s) ∧
    (∀ a tensor, stepAt s x.step = some a →
      skipBlock s x.step tensor block = setStep s { a with
        skipBlocks := a.skipBlocks + 1, lowBlock := lowerPair a.lowBlock (tensor, block) })

/-- R149, R150. A digest that an owner publishes is noted, and acted on once this member has passed its boundary: one that is
that of the bits held passes the check, and one that differs starts the fetch of the slice. Slice data is gathered for the
slice in progress, and what comes for no fetch is dropped. -/
def Obligations.DigestsAndSlices : Prop :=
  (∀ (s a : State) (rx : Rx), acceptFrame s rx 2 false = some a →
    (∀ f : DigestF, Framed rx (.digest f) → (f.kind = .recomputeRequest → f.digest = 0) →
      exec (.digest rx f) s = .next (replenish (progress (takeDigest a rx f)) rx 0x21) ∧
      (∀ r d, findReplica s f.treeId = some r → parameterDecl s (treeTensor f.treeId) = some d → f.kind = .published →
        takeDigest a rx f = dueDigests (setReplica
          { a with links := { a.links with flows := aPut a.links.flows [0x1020, rx.source, f.treeId] rx.flow } }
          { r with due := some (f.step, f.digest) }))) ∧
    (∀ f : SliceDataF, Framed rx (.sliceData f) → sliceOk a f = true →
      exec (.sliceData rx f) s = .next (progress (takeSlice a f)) ∧
      ((∀ r, findReplica s f.treeId = some r → r.fetching ≠ some f.step) → takeSlice a f = a))) ∧
  (∀ s : State, (∀ r ∈ s.dense.replicas, ∀ p, r.due = some p → s.steps.c < p.1) → dueDigests s = s) ∧
  (∀ (s : State) (r : Replica) (n : Nat) (digest : Word),
    (r.held = some digest →
      actDigest s r n digest = setReplica s { r with published := some (n, digest), due := none, checked := n }) ∧
    (∀ d, r.held ≠ some digest → parameterDecl s (treeTensor r.treeId) = some d →
      (actDigest s r n digest).dense = (setReplica s { r with
        published := some (n, digest), due := none, fetching := some n, buffer := [], mismatches := 0 }).dense))

/-- R141, R286, R322 to R325, R329, R365. A page that a hank or an export waits for is copied while hank staging has room, and
then waits for no copy; the copy leaves staging for flash with its NAND channels ON. The securing hold ends when staging has
room for the dense state and no two other hanks are being taken, and the update phase may then run. A hank whose targets are
complete and whose next decision is known seals once, with HANK_SEALED, and hanks beyond those kept are released. R326, R330.
A buddy stores the mirror lines that it is sent unchanged, and keeps a seal with them; then only mirrors of hanks no longer
kept are released, an unsealed one of its origin never. -/
def Obligations.HanksCopyHoldSeal : Prop :=
  (∀ (s : State) (boundary : Nat), s.running = true →
    (∀ page,
      let waits := (∃ h ∈ s.securing.hanks, h.boundary = boundary ∧ page ∈ h.uncopied) ∨
          (∃ e ∈ s.outputs.exports, e.started = true ∧ e.boundary = boundary ∧ page ∈ e.pinned)
      let mayCopy := stagingRoom s 65536 = true ∧ ∀ p, pageAt s page = some p → p.unsettled = false
      (waits → mayCopy → exec (.hankPageCopy boundary page) s = .next (progress (settleHanks (copyPage s page)))) ∧
      (waits → ¬ mayCopy → exec (.hankPageCopy boundary page) s = .next s) ∧
      (¬ waits → (∃ h ∈ s.securing.hanks, h.boundary = boundary ∧ page ∈ h.staged) →
        channelsOn s (pageChannels page) = true →
        exec (.hankPageCopy boundary page) s = .next (progress (settleHanks (writeCopy s page)))) ∧
      (∀ h ∈ (copyPage s page).securing.hanks, page ∉ h.uncopied) ∧ (∀ e ∈ (copyPage s page).outputs.exports, page ∉ e.pinned) ∧
      (∀ h ∈ (writeCopy s page).securing.hanks, page ∉ h.staged) ∧
      SameBut [.securing, .outputs, .power] s (copyPage s page) ∧
      (copyPage s page).securing.hanks.map Hank.boundary = s.securing.hanks.map Hank.boundary) ∧
    (s.securing.hold = some boundary →
      let others := s.securing.hanks.filter (fun h => !h.localDone && h.boundary != boundary)
      (others.length < 2 → stagingRoom s (ownedDense s) = true →
        exec (.securingHoldEnd boundary) s = .next (progress (settleHanks { s with
          securing := { s.securing with hold := none, hanks := s.securing.hanks.map (fun h =>
            if h.boundary = boundary then { h with denseDone := true } else h) } }))) ∧
      (2 ≤ others.length ∨ stagingRoom s (ownedDense s) = false → exec (.securingHoldEnd boundary) s = .next s)) ∧
    (s.securing.hold ≠ some boundary → exec (.securingHoldEnd boundary) s = .next s) ∧
    (∀ (h : Hank) loss, s.securing.hanks.find? (fun h => h.boundary == boundary) = some h → h.nextLoss = some loss →
      let targets := hankTargets s h
      (h.localDone = false ∨ h.sealedLoss ≠ none ∨ h.unusable = true ∨
          targets = 1 ∧ (s.jobSize ≠ 1 ∨ s.cfg.secure.fabric = true) → exec (.hankSeal boundary) s = .next s) ∧
      (h.localDone = true → h.sealedLoss = none → h.unusable = false →
          targets ≠ 1 ∨ s.jobSize = 1 ∧ s.cfg.secure.fabric = false →
        let sealed : State := { s with
          securing := { s.securing with hanks := s.securing.hanks.map (fun k =>
            if k.boundary = boundary then { k with sealedLoss := some loss, buddyDone := bitAt targets 1 } else k) },
          telemetry := { s.telemetry with hanksSealed := s.telemetry.hanksSealed + 1 } }
        (buddyOf s s.cfg.buddies s.member = none →
          exec (.hankSeal boundary) s = .next (tryRound (releaseMirrors (releaseHanks
            (postEvent sealed 47 (stepNow s) (.hankSealed boundary loss targets)) s.cfg.secure.hanksKept)))) ∧
        (∀ m, buddyOf s s.cfg.buddies s.member = some m →
          let sent := if bitAt targets 1 then sendTo sealed m [boundary] (.hankData
            { boundary := boundary, origin := s.member, part := 3, position := 0, firstLine := 0, sealedLoss := loss, lines := [] })
            else sealed
          exec (.hankSeal boundary) s = .next (tryRound (releaseMirrors (releaseHanks
            (postEvent sent 47 (stepNow s) (.hankSealed boundary loss targets)) s.cfg.secure.hanksKept))))))) ∧
  (∀ (s a : State) (rx : Rx) (f : HankDataF), acceptFrame s rx 3 false = some a → Framed rx (.hankData f) →
    f.lines.length ≤ 56 → f.part ≤ 3 → (∀ l ∈ f.lines, l.1.length = 64) →
    exec (.hankData rx f) s = .next (replenish (takeHankData a f) rx 0x30) ∧
    ∃ u, takeHankData a f = releaseMirrors u ∧
      (∃ m ∈ u.securing.mirrors, m.origin = f.origin ∧ m.boundary = f.boundary ∧
        (f.part ≠ 3 → f ∈ m.data) ∧ (f.part = 3 → m.sealedLoss = some f.sealedLoss)) ∧
      (∀ m ∈ s.securing.mirrors, ¬ (m.origin = f.origin ∧ m.boundary = f.boundary) → m ∈ u.securing.mirrors) ∧
      u.telemetry.securedBytes = s.telemetry.securedBytes + 64 * f.lines.length ∧
      ((∀ m ∈ u.securing.mirrors, mirrorOver u m = false) → releaseMirrors u = u) ∧
      (∀ m, buddyOf u u.cfg.buddies m.origin = some u.member → m.sealedLoss = none → mirrorOver u m = false))

/-- R319. A child's securing report is kept for the round; the parent's securing decision sets the next scheduled boundary
while the schedule is adaptive and the decision is about the last scheduled hank. Any other source changes nothing of the
schedule. R319. Young's rule: the interval that the root decides lies within 50 and 1,000,000 whatever it is computed from. -/
def Obligations.SecuringRound : Prop :=
  (∀ (s a : State) (rx : Rx), acceptFrame s rx 4 false = some a →
    (∀ f : SecuringReportF, Framed rx (.securingReport f) →
      (rx.source ∈ commitChildren s →
        ∃ t, exec (.securingReport rx f) s = .next t ∧
          t = tryRound { a with securing := { a.securing with reports := a.securing.reports ++ [(rx.source, f)] } }) ∧
      (rx.source ∉ commitChildren s → exec (.securingReport rx f) s = .next a)) ∧
    (∀ f : SecuringDecisionF, Framed rx (.securingDecision f) →
      (treeParent s.members 0 s.member = some rx.source →
        ∃ t, exec (.securingDecision rx f) s = .next t ∧ SameBut [.rings, .links, .securing, .sequences] s t ∧
          (s.cfg.secure.mode = 0 → f.hank = s.securing.lastSched →
            t.securing.nextSched = some f.next ∧ t.securing.decided = true)) ∧
      (treeParent s.members 0 s.member ≠ some rx.source → exec (.securingDecision rx f) s = .next a))) ∧
  (∀ eSecure eStep r o c prior : Nat,
    50 ≤ youngInterval eSecure eStep r o c prior ∧ youngInterval eSecure eStep r o c prior ≤ 1000000)

/-- R31, R134. A member that may report for its step in progress reports: OVERFLOW_SKIP comes first where the step has skipped
a unit, and the step is marked reported. Without both children's reports nothing is sent yet; with them, a member below the
root sends their combination to its parent and the root takes its decision, which commits when the counts are equal. R31,
R298. A COMMIT_REPORT of a child is kept for its step, and one of another member is dropped; a HALT makes the member withhold
its own report. -/
def Obligations.CommitReports : Prop :=
  (∀ (s : State) (a : AdmStep), stepAt s (s.steps.c + 1) = some a → mayReport s a = true →
    (a.skipRows = 0 → a.skipBlocks = 0 →
      exec .commitReportSend s = .next (tryReport (setStep s { a with reported := true }) { a with reported := true })) ∧
    (0 < a.skipRows + a.skipBlocks → a.skipPosted = false →
      ∃ t, exec .commitReportSend s = .next t ∧
        EventPosted t 47 (.overflowSkip a.skipRows a.skipBlocks a.lowRow a.lowBlock)) ∧
    (∀ b : AdmStep, childReports s b.n = none → tryReport s b = s) ∧
    (∀ (b : AdmStep) got, childReports s b.n = some got → treeParent s.members 0 s.member = none →
      let f := got.foldl joinReports (ownReport s b)
      let proven := ∀ p, s.securing.toProve = some p → p.1 + 1 = f.step → p.2 = f.loss
      ∃ d, (tryReport s b).steps.decision = some d ∧ d.step = f.step ∧ d.overflow = f.overflow ∧ d.loss = f.loss ∧
        d.evals = f.evals ∧ (d.committed = true ↔ f.expected = f.applied ∧ proven)) ∧
    (∀ x y : CommitReportF, (joinReports x y).overflow = (x.overflow || y.overflow) ∧
      (joinReports x y).expected = x.expected + y.expected ∧ (joinReports x y).applied = x.applied + y.applied ∧
      (joinReports x y).loss = to32 ((of32 x.loss).add (of32 y.loss)))) ∧
  (∀ (s a : State) (rx : Rx), acceptFrame s rx 4 false = some a →
    (∀ f : CommitReportF, Framed rx (.commitReport f) → rising f.evals = true →
      (rx.source ∉ commitChildren s → exec (.commitReport rx f) s = .next a) ∧
      (rx.source ∈ commitChildren s →
        let kept : State := { a with steps := { a.steps with reports := a.steps.reports ++ [(rx.source, f)] } }
        ((∀ x, stepAt s f.step = some x → x.reported = false) → exec (.commitReport rx f) s = .next kept) ∧
        (∀ x, stepAt kept f.step = some x → x.reported = true → f.step = s.steps.c + 1 → s.steps.halted = false →
          s.steps.decision = none → exec (.commitReport rx f) s = .next (tryReport kept x)))) ∧
    (∀ f : HaltF, Framed rx (.halt f) → ∃ t, exec (.halt rx f) s = .next t ∧ t.steps = { s.steps with halted := true } ∧
      SameBut [.rings, .steps, .links, .securing, .sequences] s t))

/-- R31, R32, R307, R336. The root applies the decision it has taken, and another member the one its parent sends for a step
it has reported: a decision that commits passes the boundary, unless a route table is due and the one before the last is still
held; one that does not halts the member, passes no boundary and posts MEMBER_LOST with no member and reason 3, and a hank
that the step had to prove is no longer kept. That the whole boundary waits for the route table is the model's choice (log
entry 85). R65. The loss-scale rule at a boundary. -/
def Obligations.CommitDecisionsApply : Prop :=
  (∀ (s : State) (f : CommitDecisionF), f.step = s.steps.c + 1 →
    (∀ rx, treeParent s.members 0 s.member = none → s.running = true → s.steps.decision = some f →
      exec (.commitDecision rx f) s = .next (applyDecision s f)) ∧
    (∀ rx a, treeParent s.members 0 s.member = some rx.source → acceptFrame s rx 4 false = some a →
      Framed rx (.commitDecision f) → rising f.evals = true → s.cfg.routeDue = none →
      (stepAt s f.step).any AdmStep.reported = true →
      exec (.commitDecision rx f) s = .next (applyDecision (sendDecision a f) f)) ∧
    (f.committed = false → applyDecision s f = refuseCommit s f) ∧
    (f.committed = true → (s.cfg.prevRoutes = none ∨ routesDue s f.step = false) → applyDecision s f = passBoundary s f) ∧
    (f.committed = true → s.cfg.prevRoutes ≠ none → routesDue s f.step = true →
      applyDecision s f = { s with
        steps := { s.steps with decision := none }, cfg := { s.cfg with routeDue := some f } }) ∧
    ((passBoundary s f).steps.c = f.step) ∧
    ((refuseCommit s f).steps.halted = true ∧ (refuseCommit s f).steps.c = s.steps.c ∧
      EventPosted (refuseCommit s f) 47 (.memberLost none 3) ∧
      (∀ p, s.securing.toProve = some p → p.1 + 1 = f.step → ∀ h ∈ (refuseCommit s f).securing.hanks, h.boundary ≠ p.1))) ∧
  (∀ (s : State) (overflow : Bool),
    let p := s.cfg.lossPolicy
    let with_ (e clean : Nat) : State := { s with steps := { s.steps with exponent := e, clean := clean } }
    (p.fixed = true → passLossScale s overflow = s) ∧
    (p.fixed = false →
      (overflow = true → passLossScale s overflow = with_ (max (s.steps.exponent - 1) p.minExponent) 0) ∧
      (overflow = false → s.steps.clean + 1 = p.growth →
        passLossScale s overflow = with_ (min (s.steps.exponent + 1) p.maxExponent) 0) ∧
      (overflow = false → s.steps.clean + 1 ≠ p.growth →
        passLossScale s overflow = with_ s.steps.exponent (s.steps.clean + 1))))

/-- R85, R101. A frame of a skein that moves to this member puts its rows, or its bytes, into the page it names; the last
frame ends the wait for the skein. A payload that breaks the layout names its source lost with reason 8. -/
def Obligations.SkeinsLand : Prop :=
  ∀ (s a : State) (rx : Rx) (f : SkeinTransferF), acceptFrame s rx 0 false = some a →
    (Framed rx (.skeinTransfer f) → transferOk f = true →
      exec (.skeinTransfer rx f) s = .next (replenish (takeTransfer a f) rx 0x06) ∧
      (∀ v p, findVersion s f.table f.version = some v →
        pageAt s { table := f.table, version := f.version, skein := f.skein, page := f.page } = some p → f.last = false →
        (f.rowList = true → takeTransfer a f =
          setPage (setVersion a { v with poisoned := v.poisoned ++ (f.rows.filter (·.2)).map (·.1) })
            { p with rows := p.rows ++ f.rows.map (·.1) }) ∧
        (f.rowList = false →
          (takeTransfer a f).tables = (setVersion a (patchPage v p f.offset f.bytes)).tables)) ∧
      (∃ w, landSkein a f = progress (settleHanks (exportLanded w f.boundary f.table f.skein)) ∧
        ∀ x ∈ w.tables.arriving, ¬ (x.1 = f.boundary ∧ x.2.1 = f.table ∧ x.2.2.1 = f.skein))) ∧
    (¬ Framed rx (.skeinTransfer f) ∨ transferOk f = false →
      ∃ t, exec (.skeinTransfer rx f) s = .next t ∧ EventPosted t 47 (.memberLost (some rx.source) 8) ∧ t.links = a.links)

/-- R175, R298, R314. A column test that passes is noted for its sliver; one that fails loses the member with reason 4, drops
the hank of the boundary before that has not sealed, and withholds the commit report. A chord module that fails beyond repair
loses the member with reason 8 and it admits no further step. R117 to R120. Corrected lines are counted. An uncorrectable line
of a clean page homed in flash has the page read again and counted, and poisons no row; one of any other page outside SRAM
poisons the rows that share a byte with it, each with one ROW_POISONED that names the command whose reading found it; one
outside table rows ends the member's participation with reason 5, and so does a memory port that fails with rows homed on it
(that reason is the model's choice, log entry 87). -/
def Obligations.HardwareFaults : Prop :=
  (∀ s : State, s.running = true →
    (∀ (a : AdmStep) (die sliver : Nat), stepAt s (s.steps.c + 1) = some a → die < 40 → sliver < 64 →
      bitAt a.tested (64 * die + sliver) = false →
      arrayWorkOver s a { die := die, spindle := sliver, kind := .array } = true →
      exec (.sliverColumnTest die sliver true) s =
        .next (progress (setStep s { a with tested := a.tested ||| 2 ^ (64 * die + sliver) })) ∧
      ∃ t, exec (.sliverColumnTest die sliver false) s = .next t ∧ t.steps = { s.steps with halted := true } ∧
        EventPosted t 47 (.memberLost (some s.member) 4) ∧
        (∀ h ∈ t.securing.hanks, h.boundary = s.steps.c → h.sealedLoss ≠ none)) ∧
    (∀ chord, chord < 112 →
      ∃ t, exec (.chordModuleFailure chord) s = .next t ∧ t.steps = { s.steps with halted := true, lost := true } ∧
        EventPosted t 47 (.memberLost (some s.member) 8) ∧ t.sequences = modifyAt s.sequences 47 (· + 1) ∧
        SameBut [.rings, .steps, .securing, .sequences] s t)) ∧
  (∀ (s : State) (corrected : Nat) (rows : List Nat) (reader : Option (Nat × Word32)), s.running = true →
    let counted : State := { s with telemetry := { s.telemetry with correctedLines := s.telemetry.correctedLines + corrected } }
    exec (.backgroundScrub corrected none ⟨rows, reader⟩) s = .next counted ∧
    (∀ r, pageAt s r = none →
      ∃ t, exec (.backgroundScrub corrected (some r) ⟨rows, reader⟩) s = .next t ∧
        t.steps = { s.steps with halted := true, lost := true } ∧ EventPosted t 47 (.memberLost (some s.member) 5)) ∧
    (∀ r p, pageAt s r = some p →
      (p.tier = .sram ∨ p.rereading = true → exec (.backgroundScrub corrected (some r) ⟨rows, reader⟩) s = .next counted) ∧
      (p.tier ≠ .sram → p.rereading = false →
        (p.dirty = false → p.home = .flash → p.tier ≠ .flash →
          ∃ t, exec (.backgroundScrub corrected (some r) ⟨rows, reader⟩) s = .next t ∧ SameBut [.tables, .power, .telemetry] s t ∧
            t.tables.versions = s.tables.versions ∧ pageAt t r = some { p with rereading := true } ∧
            t.telemetry.rereadLines = s.telemetry.rereadLines + 1) ∧
        (p.dirty = true ∨ p.home ≠ .flash ∨ p.tier = .flash → ∀ v, findVersion s r.table r.version = some v →
          exec (.backgroundScrub corrected (some r) ⟨rows, reader⟩) s = .next ((rows.filter p.rows.contains).foldl
            (fun u row => poisonRow u v p.tier (readingCommand s reader) row) counted)))) ∧
    (∀ (v w : Version) tier cause row, findVersion s v.table v.number = some w →
      (row ∈ w.poisoned → poisonRow s v tier cause row = s) ∧
      (row ∉ w.poisoned → row < w.rowCount →
        EventPosted (poisonRow s v tier cause row) 47 (.rowPoisoned v.table v.number row (tierCode tier)) ∧
        findVersion (poisonRow s v tier cause row) v.table v.number = some { w with poisoned := w.poisoned ++ [row] } ∧
        (poisonRow s v tier cause row).telemetry.rowsPoisoned = s.telemetry.rowsPoisoned + 1)) ∧
    (∀ port m, s.regs.memPorts[port]? = some m → m.present = true → m.failed = false →
      let on := s.tables.pages.filter (fun p => p.tier == .cxlPort && p.port == port)
      let failed : State := { s with regs := { s.regs with memPorts := s.regs.memPorts.set port { m with failed := true } } }
      ((∀ p ∈ on, cxlTier p.home = false) →
        exec (.memoryPortFailure port) s = .next (progress (s.tables.pages.foldl (losePage port) failed))) ∧
      ((∃ p ∈ on, cxlTier p.home = true) →
        ∃ t, exec (.memoryPortFailure port) s = .next t ∧ t.steps = { s.steps with halted := true, lost := true } ∧
          t.regs = failed.regs ∧ EventPosted t 47 (.memberLost (some s.member) 5))))

/-- R105 to R108, R117, R118, R286. A move that placement allows starts, and the page keeps its tier until it ends; at its
end, for a move over flash once the page's NAND channels are ON, the page lies in its new tier with its bits unchanged but for
lines that the old copy did not give, and one that landed in flash while wanted is promoted. A page being moved starts no
second move. A page read again from flash is then as before. R110, R112, R113, R286. The wear budget gains 0.5 TB an hour up
to 12 TB, and a write takes its bytes off the balance, below zero too, where they count as overdraw. Reclamation lets go of
the older page versions that no hank and no export in progress names and keeps the others; what it moves is the module's own,
and it waits for its NAND channels. -/
def Obligations.PagesMove : Prop :=
  (∀ (s : State) (page : PageRef) (p : Page), s.running = true → pageAt s page = some p →
    (∀ dest,
      (moveAllowed s p dest = true →
        ∃ t q, exec (.placementMove page dest) s = .next t ∧ SameBut [.tables, .power] s t ∧ t.tables.versions = s.tables.versions ∧
          pageAt t page = some q ∧ q = { p with moving := some dest, toPort := q.toPort } ∧
          ∀ r, r ≠ page → pageAt t r = pageAt s r) ∧
      (moveAllowed s p dest = false → exec (.placementMove page dest) s = .next s) ∧
      (p.moving ≠ none ∨ (dest = p.tier ∧ dest ≠ .cxlPort) ∨ tierRoom s dest = false → moveAllowed s p dest = false)) ∧
    (p.moving = none → ∀ lost, exec (.pageMoveEnd ⟨page, lost⟩) s = .next s) ∧
    (∀ dest lost, p.moving = some dest →
      let landed := landPage s p dest
      let moved := lostInMove landed p dest lost
      (movesFlash p dest = true → channelsOn s (pageChannels page) = false → exec (.pageMoveEnd ⟨page, lost⟩) s = .next s) ∧
      (movesFlash p dest = false ∨ channelsOn s (pageChannels page) = true →
        ((∀ q, pageAt moved page = some q → p.wanted = false ∨ q.tier ≠ .flash) →
          exec (.pageMoveEnd ⟨page, lost⟩) s = .next (progress (settleHanks moved))) ∧
        (∀ q, pageAt moved page = some q → p.wanted = true → q.tier = .flash →
          exec (.pageMoveEnd ⟨page, lost⟩) s = .next (progress (settleHanks (wantPage moved q))))) ∧
      (lost = [] → moved = landed) ∧
      (∃ q, pageAt landed page = some q ∧ q.tier = dest ∧ q.moving = none ∧ q.rows = p.rows ∧ q.heat = p.heat) ∧
      landed.tables.versions = s.tables.versions ∧
      (∀ r, r ≠ page → pageAt landed r = pageAt s r) ∧
      (dest = .flash → p.dirty = true → landed.tables.wear = s.tables.wear - 65536) ∧
      (dest ≠ .flash ∨ p.dirty = false → landed.tables.wear = s.tables.wear)) ∧
    (∀ lost,
      (p.rereading = true → channelsOn s (pageChannels page) = true → exec (.flashRereadEnd ⟨page, lost⟩) s =
        .next (progress (poisonRows (setPage s { p with rereading := false }) { p with tier := .flash } none lost))) ∧
      (p.rereading = false ∨ channelsOn s (pageChannels page) = false → exec (.flashRereadEnd ⟨page, lost⟩) s = .next s))) ∧
  (∀ s : State,
    (s.supply.corePower = true →
      exec .wearBudgetAccrual s = .next { s with tables := { s.tables with
        wear := if 12 * 10 ^ 12 < s.tables.wear + 5 * 10 ^ 11 then 12 * 10 ^ 12 else s.tables.wear + 5 * 10 ^ 11 } }) ∧
    (s.supply.corePower = false → exec .wearBudgetAccrual s = .next s) ∧
    (∀ n, (drawWear s n).tables.wear = s.tables.wear - n ∧ SameBut [.tables, .telemetry] s (drawWear s n) ∧
      (n ≤ s.tables.wear → (drawWear s n).telemetry.wearOverdraw = s.telemetry.wearOverdraw) ∧
      (s.tables.wear < 0 → (drawWear s n).telemetry.wearOverdraw = s.telemetry.wearOverdraw + n) ∧
      (0 ≤ s.tables.wear → s.tables.wear < n →
        ((drawWear s n).telemetry.wearOverdraw : Int) = s.telemetry.wearOverdraw + (n - s.tables.wear))) ∧
    (s.running = true →
      (channelsOn s (List.range 16) = true →
        ∃ t n, exec .flashReclaim s = .next t ∧ SameBut [.tables, .telemetry, .freeCount] s t ∧
          (∀ x, x ∈ t.tables.older ↔ x ∈ s.tables.older ∧
            ((∃ h ∈ s.securing.hanks, x ∈ h.names) ∨ ∃ e ∈ s.outputs.exports, x ∈ e.names)) ∧
          t.tables.pages = s.tables.pages ∧ t.tables.versions = s.tables.versions ∧ t.tables.wear = s.tables.wear - 65536 * n) ∧
      (channelsOn s (List.range 16) = false → ∃ t, exec .flashReclaim s = .next t ∧ SameBut [.power] s t)))

/-- R349. A command is answered MALFORMED for its header first, whatever JOB_SET and JOB_KEY hold, then REJECTED_CONFIG while
JOB_SET is 0 unless it is one of the five that need no job, then SECURITY while no job key is held and it is one of the five
that need one, before any check of its own. A descriptor whose opcode is unknown, or whose header breaks its rules, is
answered MALFORMED. -/
def Obligations.EntryChecksAnswer : Prop :=
  ∀ (s : State) (d : Sub), canBegin s d = true →
    (entryStatus s d = some .malformed ↔ d.headerOk = false) ∧
    (d.headerOk = true → (entryStatus s d = some .rejectedConfig ↔
      s.regs.jobSet = false ∧ d.opcode ∉ [0x0002, 0x0003, 0x0060, 0x0070, 0x0071])) ∧
    (d.headerOk = true → (s.regs.jobSet = true ∨ d.opcode ∈ [0x0002, 0x0003, 0x0060, 0x0070, 0x0071]) →
      (entryStatus s d = some .security ↔
        s.security.jobKey = none ∧ d.opcode ∈ [0x0020, 0x0010, 0x0011, 0x0050, 0x0041])) ∧
    (∀ (i : Instr) (opcode : Nat) (mine : Bool) (status : Status), d.opcode = opcode → mine = true → entryStatus s d = some status →
      ((i, opcode, mine) ∈ [(.submitLattice d, 0x0001, d.body 4 1 != 1), (.submitLatticeRemove d, 0x0001, d.body 4 1 == 1),
          (.loadProgram d, 0x0002, true), (.unloadProgram d, 0x0003, true), (.stepInput d, 0x0010, true),
          (.evalRequest d, 0x0011, true), (.loadTableVersionBegin d, 0x0020, loadPhase d != 1 && loadPhase d != 2),
          (.loadTableVersionData d, 0x0020, loadPhase d == 1), (.loadTableVersionEnd d, 0x0020, loadPhase d == 2),
          (.retireTableVersion d, 0x0021, true), (.stageConfig d, 0x0030, true), (.commitConfig d, 0x0031, true),
          (.discardConfig d, 0x0032, true), (.secureNow d, 0x0040, true), (.reportFailure d, 0x0042, true),
          (.exportSkein d, 0x0050, true), (.deltaControlStart d, 0x0051, d.body 0 1 != 0),
          (.deltaControlStop d, 0x0051, d.body 0 1 == 0), (.telemetrySnapshot d, 0x0060, true),
          (.debugBreakArm d, 0x0070, d.body 1 1 != 0), (.debugBreakClear d, 0x0070, d.body 1 1 == 0),
          (.debugResume d, 0x0071, true)] ∨
        ∃ read newest, i = .restoreFromHank d read newest ∧ opcode = 0x0041) →
      ∃ d0 d1, exec i s = .next (finishWith (markBegun s d) d status 0 d0 d1)) ∧
    (d.opcode ∉ [0x0001, 0x0002, 0x0003, 0x0010, 0x0011, 0x0020, 0x0021, 0x0030, 0x0031, 0x0032, 0x0040, 0x0041, 0x0042, 0x0050,
        0x0051, 0x0060, 0x0070, 0x0071] ∨ d.headerOk = false →
      exec (.unknownOpcodeDescriptor d) s =
        .next (finishWith (markBegun s d) d .malformed 0 (headerDetail d) (headerDetail d)))

/-- R241. Of the commands of one ring the one that begins is the earliest that has not begun, ORDERED ones that must wait
aside; an ORDERED command begins only when every earlier command of its ring has completed, STEP_INPUT and EVAL_REQUEST aside,
whose acceptance their rows stand for (R28, R43). A command whose turn has not come, or whose descriptor spells another row,
changes nothing: the model's own way of ordering what comes from outside (log entry 4). R244 to R248. A completion carries the
opcode, the command identifier, the ring and the index of its command; it is written to ring 8 with the ring's PHASE, or held
back while that ring is full or not in use or an event that the command caused is held. -/
def Obligations.CommandsBeginAndComplete : Prop :=
  (∀ (s : State) (d : Sub),
    (canBegin s d = true →
      ∃ before a after, s.rings.accepted = before ++ a :: after ∧ a.begun = false ∧ sameSub a.sub d = true ∧
        (a.sub.ordered = true → takenAtAcceptance a.sub = false → ∀ b ∈ before, b.sub.ring ≠ a.sub.ring) ∧
        (∀ pre b post, before = pre ++ b :: post → b.sub.ring = d.ring → b.begun = false →
          b.sub.ordered = true ∧ takenAtAcceptance b.sub = false ∧ ∃ c ∈ pre, c.sub.ring = b.sub.ring)) ∧
    (∀ (i : Instr) (opcode : Nat), canBegin s d = false ∨ d.opcode ≠ opcode →
      (i, opcode) ∈ [(.submitLattice d, 0x0001), (.submitLatticeRemove d, 0x0001), (.loadProgram d, 0x0002),
        (.unloadProgram d, 0x0003), (.stepInput d, 0x0010), (.evalRequest d, 0x0011), (.loadTableVersionBegin d, 0x0020),
        (.loadTableVersionData d, 0x0020), (.loadTableVersionEnd d, 0x0020), (.retireTableVersion d, 0x0021),
        (.stageConfig d, 0x0030), (.commitConfig d, 0x0031), (.discardConfig d, 0x0032), (.secureNow d, 0x0040),
        (.reportFailure d, 0x0042), (.exportSkein d, 0x0050), (.deltaControlStart d, 0x0051), (.deltaControlStop d, 0x0051),
        (.telemetrySnapshot d, 0x0060), (.debugBreakArm d, 0x0070), (.debugBreakClear d, 0x0070), (.debugResume d, 0x0071)] →
      exec i s = .next s)) ∧
  (∀ (s : State) (d : Sub) (status : Status) (error d0 d1 : Nat),
    let t := finishWith s d status error d0 d1
    Answered t d status error (BitVec.ofNat 64 d0) (BitVec.ofNat 64 d1) ∧ SameBut [.rings] s t ∧
    ((ringAt s 8).active = true → (ringAt s 8).used < (ringAt s 8).size → s.rings.ring.length = 12 →
      (∀ e ∈ s.rings.heldEvents, e.cause ≠ some (d.ring, d.index)) →
      (ringAt t 8).producer = (ringAt s 8).producer + 1 ∧ t.rings.heldDone = s.rings.heldDone ∧
      ∃ c, t.rings.completions = s.rings.completions ++ [((ringAt s 8).producer, c)] ∧
        c.phase = !bitAt (ringAt s 8).producer.toNat (ringAt s 8).sizeLog2 ∧
        (d.opcode ≠ 0 → ∀ a ∈ t.rings.accepted, ¬ (a.sub.ring = d.ring ∧ a.sub.index = d.index))) ∧
    ((ringAt s 8).active = false ∨ (ringAt s 8).size ≤ (ringAt s 8).used →
      t.rings.completions = s.rings.completions ∧ t.rings.heldDone.length = s.rings.heldDone.length + 1))

/-- R238 to R240, R247, R342. At a doorbell the host's stores into the window are visible first. A submission ring in use then
halts where the producer index names more than its size, reading no descriptor, and otherwise reads what lies between the
indices, from the consumer index up; a ring not in use or halted reads nothing. Acceptance never passes 4,096 commands in the
module. R247, R248, R251. A consumer index that software stores frees the ring 8 or ring 9 entries up to it: completions held
back are then written and acceptance goes on, or held events are written in order and the completions that waited for them
follow. An index past the producer's names nothing. -/
def Obligations.DoorbellsAndConsumerLines : Prop :=
  (∀ (s : State) (ring : Nat) (producer : Word32) (descs : List Wide) (stores : List Store),
    s.running = true → (∀ w ∈ stores, w.offset + w.bytes.length ≤ 2 ^ 32) →
    let u : State := { s with window := stores.foldl (fun m w => memWrites m w.offset w.bytes) s.window }
    let r := ringAt s ring
    let count := (producer - r.consumer).toNat
    (ring < 8 →
      (r.active = false ∨ r.halted = true → exec (.doorbell ring producer descs stores) s = .next u) ∧
      (r.active = true → r.halted = false → r.size < count →
        exec (.doorbell ring producer descs stores) s =
          .next (postDone (setRing u ring { r with halted := true, unaccepted := [] }) (haltRecord ring producer))) ∧
      (r.active = true → r.halted = false → count ≤ r.size →
        exec (.doorbell ring producer descs stores) s = .next (acceptAll (setRing u ring { r with
          producer := producer,
          unaccepted := (List.range count).map (fun i => (r.consumer + BitVec.ofNat 32 i, nth descs i 0)) })))) ∧
    (∀ v : State, v.rings.accepted.length ≤ 4096 → (acceptAll v).rings.accepted.length ≤ 4096 ∧
      v.rings.accepted <+: (acceptAll v).rings.accepted ∧ SameBut [.rings] v (acceptAll v))) ∧
  (∀ (s : State) (consumer : Word32), s.running = true →
    let moved (ring : Nat) : State := setRing s ring { ringAt s ring with consumer := consumer }
    let fits (ring : Nat) : Prop := (ringAt s ring).active = true ∧
      (consumer - (ringAt s ring).consumer).toNat ≤ (ringAt s ring).used
    (fits 8 → exec (.commandAcceptanceResume consumer) s = .next (acceptAll (flushDone (moved 8)))) ∧
    (¬ fits 8 → exec (.commandAcceptanceResume consumer) s = .next (acceptAll (flushDone s))) ∧
    (fits 9 → exec (.heldEventPost consumer) s = .next (flushEvents (moved 9))) ∧
    (¬ fits 9 → exec (.heldEventPost consumer) s = .next (flushEvents s)) ∧
    (∀ (v : State) (e : Event) rest, v.rings.heldEvents = e :: rest → eventRoom v = true → v.rings.ring.length = 12 →
      ∃ later, (flushEvents v).rings.events = v.rings.events ++
        ((ringAt v 9).producer, { e with phase := (ringAt v 9).phase (ringAt v 9).producer }) :: later))

/-- R350, R351, Table 14.19. ENABLE is taken with SIZE_LOG2 from 6 to 16 and, for a ring other than 8 and 9, only with those
two in use: SETUP_STATUS is 0 and the ring is in use from its control lines; otherwise SETUP_STATUS says why and the ring
stays out of use. A ring is not disabled while its users need it. HALTED cleared, a ring reads its producer line again. -/
def Obligations.RingsSetUp : Prop :=
  ∀ (s : State) (ring : Nat) (producer consumer : Word32) (descs : List Wide), s.running = true → ring < 12 →
    let r := ringAt s ring
    (∀ value : Word, r.enable = false →
      let size := value.toNat / 2 ^ 8 % 2 ^ 5
      let keptHalted := r.halted && !bitAt value.toNat 1
      let two := (ringAt s 8).active = true ∧ (ringAt s 9).active = true
      (size < 6 ∨ 16 < size → exec (.ringEnable ring value producer consumer descs) s =
        .next (setRing s ring { r with sizeLog2 := size, setupStatus := 0x08, halted := keptHalted })) ∧
      (6 ≤ size → size ≤ 16 → ring ≠ 8 → ring ≠ 9 → ¬ two → exec (.ringEnable ring value producer consumer descs) s =
        .next (setRing s ring { r with sizeLog2 := size, setupStatus := 0x03, halted := keptHalted })) ∧
      (6 ≤ size → size ≤ 16 → ring < 8 → two → producer = consumer → exec (.ringEnable ring value producer consumer descs) s =
        .next (setRing s ring { r with
          sizeLog2 := size, setupStatus := 0x00, halted := keptHalted, enable := true, active := true, producer := consumer,
          consumer := consumer, unaccepted := [] })) ∧
      (6 ≤ size → size ≤ 16 → 8 ≤ ring → ring = 8 ∨ ring = 9 ∨ two → exec (.ringEnable ring value producer consumer descs) s =
        .next (acceptAll (flushEvents (flushDone (setRing s ring { r with
          sizeLog2 := size, setupStatus := 0x00, halted := keptHalted, enable := true, active := true, producer := producer,
          consumer := consumer, unaccepted := [] })))))) ∧
    (r.enable = true → disableIgnored s ring = false →
      exec (.ringDisable ring) s = .next (setRing s ring { r with enable := false, active := false, unaccepted := [] })) ∧
    (disableIgnored s ring = true → exec (.ringDisable ring) s = .next s) ∧
    (r.halted = true →
      (r.active = false → exec (.ringRearm ring producer descs) s = .next (setRing s ring { r with halted := false })) ∧
      (r.active = true →
        exec (.ringRearm ring producer descs) s = .next (readProducer (setRing s ring { r with halted := false }) ring producer descs)))

/-- R9, R345, R348, R351, Tables 14.6 to 14.19. A 64-bit write of a job-block register stores its field while JOB_SET is 0,
low bits that a field lacks dropped; a write of a ring's registers stores its field while ENABLE is 0; every other offset, and
every access not aligned, is ignored. A 32-bit read of the energy counter's low half latches the high half of the same count
(R276). -/
def Obligations.RegisterWritesStore : Prop :=
  ∀ (s : State) (value : Word), s.running = true →
    let low (n : Nat) : Word := BitVec.ofNat 64 (value.toNat / 2 ^ n * 2 ^ n)
    (s.regs.jobSet = false →
      exec (.registerWrite 0x100 true value) s = .next { s with regs := { s.regs with
        memberCount := value.toNat / 2 ^ 16 % 2 ^ 13, memberNumber := value.toNat % 2 ^ 12 } } ∧
      exec (.registerWrite 0x108 true value) s = .next { s with regs := { s.regs with jobSeed := value } } ∧
      exec (.registerWrite 0x110 true value) s = .next { s with regs := { s.regs with listAddress := low 6 } } ∧
      exec (.registerWrite 0x118 true value) s = .next { s with regs := { s.regs with fabricBase := low 16 } } ∧
      exec (.registerWrite 0x120 true value) s = .next { s with regs := { s.regs with fabricLength := low 16 } }) ∧
    (s.regs.jobSet = true → ∀ off wide, 0x100 ≤ off → off < 0x128 → exec (.registerWrite off wide value) s = .next s) ∧
    (∀ n, n < 12 →
      ((ringAt s n).enable = false →
        exec (.registerWrite (0x2000 + 0x20 * n) true value) s = .next (setRing s n { ringAt s n with base := low 6 }) ∧
        exec (.registerWrite (0x2008 + 0x20 * n) true value) s = .next (setRing s n { ringAt s n with lineBase := low 7 }) ∧
        (value.toNat % 2 = 0 → exec (.registerWrite (0x2018 + 0x20 * n) true value) s =
          .next (setRing s n { ringAt s n with sizeLog2 := value.toNat / 2 ^ 8 % 2 ^ 5 }))) ∧
      ((ringAt s n).enable = true → ∀ off wide, 0x2000 + 0x20 * n ≤ off → off < 0x2020 + 0x20 * n →
        exec (.registerWrite off wide value) s = .next s)) ∧
    (∀ off wide, off % (if wide then 8 else 4) ≠ 0 ∨ off < 0x100 ∨ (0x128 ≤ off ∧ off < 0x2000) ∨ 0x2180 ≤ off →
      exec (.registerWrite off wide value) s = .next s) ∧
    exec .energyCountLowRead s = .next { s with regs := { s.regs with
      energyLatch := some (BitVec.ofNat 32 (s.regs.energyCount.toNat >>> 32)),
      energyRead := BitVec.ofNat 32 s.regs.energyCount.toNat } }

/-- R256 to R258, R145. A lattice that passes the checks of Table 10.13 becomes resident with the handle the command names,
and a step lattice brings its replicas; one that fails is refused with the details of the first failing check. Removal takes a
resident lattice away unless steps or accepted evaluation requests still use it. -/
def Obligations.LatticesSubmitted : Prop :=
  ∀ (s : State) (d : Sub), Turn s d 0x0001 →
    let m := markBegun s d
    let handle := d.body 0 4
    (d.body 4 1 ≠ 1 →
      (∀ f, checkLattice m d = .error f → exec (.submitLattice d) s = .next (finishWith m d f.1 0 f.2.1 f.2.2)) ∧
      (∀ l, checkLattice m d = .ok l →
        ∃ t, exec (.submitLattice d) s = .next t ∧ Answered t d .ok 0 0 0 ∧ t.lattices = s.lattices ++ [l] ∧ l.handle = handle ∧
          latticeAt s handle = none ∧ (l.isEval = false → stepLattice s = none) ∧
          SameBut [.rings, .lattices, .tensors, .dense, .links, .securing, .sequences] s t)) ∧
    (d.body 4 1 = 1 → handle ≠ 0 → d.body 5 1 = 0 → d.body 6 2 = 0 → d.body 8 8 = 0 → d.zeroFrom 0x10 = true →
      (latticeAt s handle = none →
        exec (.submitLatticeRemove d) s = .next (finishWith m d .rejectedConfig 0 notApplicable notApplicable)) ∧
      (∀ l, latticeAt s handle = some l →
        let busy := if l.isEval then namedByEval m handle else s.steps.a != s.steps.c
        (busy = true →
          exec (.submitLatticeRemove d) s = .next (finishWith m d .rejectedConfig 0 notApplicable notApplicable)) ∧
        (busy = false →
          ∃ t, exec (.submitLatticeRemove d) s = .next t ∧ Answered t d .ok 0 0 0 ∧ latticeAt t handle = none ∧
            (∀ h, h ≠ handle → latticeAt t h = latticeAt s h) ∧ SameBut [.rings, .lattices, .dense] s t)))

/-- R227 to R234. A Ply module that passes the checks waits for a slot; one that fails is refused with the first violation's
code and place. The load accepted first takes a free slot with room for its granules and is LOADING; at the end of its
translation the image is CURRENT, the one before it DRAINING, and the load is answered. A program is unloaded unless a lattice
names it, after the loads that the command met. -/
def Obligations.ProgramsLoad : Prop :=
  ∀ s : State,
    (∀ d, Turn s d 0x0002 → d.body 4 4 = 0 → d.zeroFrom 0x10 = true → d.body 0 4 ≠ 0 →
      blockOk (d.body 8 4) (d.body 0xC 4) = true → 64 ≤ d.body 0xC 4 → d.body 0xC 4 ≤ 64 * 2 ^ 20 →
      let m := markBegun s d
      let bytes := windowBytes s (d.body 8 4) (d.body 0xC 4)
      let g := imageGranules bytes
      (∀ v, loadViolation m (d.body 0 4) bytes = some v →
        exec (.loadProgram d) s = .next (finishWith m d (errStatus v.code) v.code v.offset (v.func.getD notApplicable))) ∧
      (loadViolation m (d.body 0 4) bytes = none →
        (Constants.granules < g → exec (.loadProgram d) s = .next (finishWith m d .rejectedLimit errImage 0 notApplicable)) ∧
        (g ≤ Constants.granules → noRoom m g = true → exec (.loadProgram d) s = .next (finish m d .noSpace)) ∧
        (g ≤ Constants.granules → noRoom m g = false → exec (.loadProgram d) s = .next { m with programs := { m.programs with
          waiting := m.programs.waiting ++
            [{ sub := d, handle := d.body 0 4, granules := g, ply := readModule bytes }] } }))) ∧
    (∀ l, nextLoad s = some l → l ∈ s.programs.waiting ∧ ∃ before a after, s.rings.accepted = before ++ a :: after ∧
      a.sub = l.sub ∧ ∀ b ∈ before, loadWaits s b.sub = false) ∧
    (∀ slot l, s.running = true → nextLoad s = some l → slot < Constants.imageSlots →
      (∀ i ∈ s.programs.images, i.slot ≠ slot ∧ ¬ (i.handle = l.handle ∧ i.state = .loading)) →
      granulesOf s.programs.images + l.granules ≤ Constants.granules →
      exec (.loadProgramSlotTaken slot) s = .next { s with programs := { s.programs with
        waiting := s.programs.waiting.filter (fun x => x.sub != l.sub),
        images := s.programs.images ++
          [{ slot := slot, handle := l.handle, state := .loading, granules := l.granules, ply := l.ply, load := some l.sub }] } }) ∧
    (∀ img d, s.running = true → img.load = some d →
      s.programs.images.find? (fun i => i.handle == img.handle && i.state == .loading) = some img →
      let u := finish (freeDrained { s with programs := { s.programs with
        images := s.programs.images.map (fun i =>
          if i.slot == img.slot then { i with state := .current, load := none }
          else if i.handle == img.handle && i.state == .current then { i with state := .draining } else i) } }) d .ok
      let left := s.programs.unloads.map (fun x => (x.1, x.2.filter (fun e => e != d)))
      Answered u d .ok 0 0 0 ∧
      exec (.translationEnd img.handle) s = .next (progress
        ((left.filter (fun x => x.2.isEmpty)).foldl (fun v x => unload v x.1 (x.1.body 0 4))
          { u with programs := { u.programs with unloads := left.filter (fun x => !x.2.isEmpty) } }))) ∧
    (∀ d, Turn s d 0x0003 → d.body 0 4 ≠ 0 → d.zeroFrom 4 = true →
      let m := markBegun s d
      (loadsInProgress s (d.body 0 4) ≠ [] →
        exec (.unloadProgram d) s = .next { m with programs := { m.programs with
          unloads := m.programs.unloads ++ [(d, loadsInProgress s (d.body 0 4))] } }) ∧
      (loadsInProgress s (d.body 0 4) = [] →
        (currentImage s (d.body 0 4) = none ∨ isReferenced s (d.body 0 4) = true →
          exec (.unloadProgram d) s = .next (finish m d .rejectedConfig)) ∧
        (∀ img, currentImage s (d.body 0 4) = some img → isReferenced s (d.body 0 4) = false →
          (slotFetched s img.slot = true →
            ∃ t, exec (.unloadProgram d) s = .next t ∧ Answered t d .acceptedDeferred 0 0 0 ∧
              (∀ i ∈ t.programs.images, i.slot = img.slot → i.state = .draining)) ∧
          (slotFetched s img.slot = false →
            ∃ t, exec (.unloadProgram d) s = .next t ∧ Answered t d .ok 0 0 0 ∧
              t.programs.images = s.programs.images.filter (fun i => i.slot != img.slot)))))

/-- R27 to R29, R241. A step input is admitted at acceptance as step a + 1 unless a row of Table 2.3 refuses it, and waits for
its blocks, an ORDERED one until every earlier command of its ring has completed; with blocks that pass their checks the step
stays admitted and is answered, and otherwise it is withdrawn: a becomes the step before and later steps are answered
REJECTED_LIMIT. -/
def Obligations.StepInputsAdmit : Prop :=
  ∀ s : State,
    (∀ d, Turn s d 0x0010 →
      let m := markBegun s d
      (∀ st, stepRefusal m d = some st → exec (.stepInput d) s = .next (finish m d st)) ∧
      (stepRefusal m d = none →
        d.body 0 8 = s.steps.a + 1 ∧ d.body 0 8 ≤ s.steps.c + 2 ∧
        ∃ l, stepLattice s = some l ∧ exec (.stepInput d) s = .next (progress { m with steps := { m.steps with
          a := s.steps.a + 1, admitted := m.steps.admitted ++ [newStep m d l] } }))) ∧
    (∀ a units, nextToRead s = some a → heldByOrder s a.sub = true → exec (.stepInputBlocksRead a.n units) s = .next s) ∧
    (∀ a l units, s.running = true → nextToRead s = some a → stepLattice s = some l → heldByOrder s a.sub = false →
      (∀ b, readStep s a l units = .ok b →
        exec (.stepInputBlocksRead a.n units) s = .next (progress (finish (setStep s b) b.sub .ok)) ∧ b.read = true ∧ b.sub = a.sub ∧
          b.n = a.n) ∧
      (∀ f, readStep s a l units = .error f →
        exec (.stepInputBlocksRead a.n units) s = .next (progress (withdrawStep s a.n f)))) ∧
    (∀ a f, stepAt s a.n = some a →
      (withdrawStep s a.n f).steps = { s.steps with
        a := a.n - 1, admitted := s.steps.admitted.filter (fun x => decide (x.n < a.n)) } ∧
      SameBut [.rings, .steps] s (withdrawStep s a.n f) ∧
      Answered (withdrawStep s a.n f) a.sub f.1 0 (BitVec.ofNat 64 f.2.1) (BitVec.ofNat 64 f.2.2) ∧
      (∀ x ∈ s.steps.admitted, a.n < x.n → Answered (withdrawStep s a.n f) x.sub .rejectedLimit 0 0 0))

/-- R42 to R44. An evaluation request is held for its boundary unless a row refuses it; its blocks are read once, and a
request that fails its checks is answered and gone. When every vertex has retired the output block is written and the request
is answered. -/
def Obligations.EvaluationsHeld : Prop :=
  ∀ s : State,
    (∀ d, Turn s d 0x0011 →
      let m := markBegun s d
      (∀ st, evalRefusal m d = some st → exec (.evalRequest d) s = .next (finish m d st)) ∧
      (evalRefusal m d = none → exec (.evalRequest d) s = .next { m with steps := { m.steps with
        evals := m.steps.evals ++
          [{ boundary := d.body 0 8, handle := d.body 8 4, sub := d, read := false, sections := [], dense := [], delivered := false,
             reserve := 0, bindings := [], agreed := false, running := false,
             inst := Inst.fresh (.eval (d.body 0 8) (d.body 8 4)) (d.body 8 4) }] } })) ∧
    (∀ e l units, s.running = true → latticeAt s e.handle = some l →
      s.steps.evals.find? (fun x => x.boundary == e.boundary && x.handle == e.handle && !x.read) = some e →
      (heldByOrder s e.sub = true → exec (.evalBlocksRead e.boundary e.handle units) s = .next s) ∧
      (heldByOrder s e.sub = false →
        (∀ e', readEval s e l units = .ok e' → exec (.evalBlocksRead e.boundary e.handle units) s = .next (setEval s e')) ∧
        (∀ f, readEval s e l units = .error f →
          exec (.evalBlocksRead e.boundary e.handle units) s =
            .next (progress (finishWith (dropEval s e) e.sub f.1 0 f.2.1 f.2.2))))) ∧
    (∀ e l, s.running = true → latticeAt s e.handle = some l →
      s.steps.evals.find? (fun x => x.boundary == e.boundary && x.handle == e.handle && x.running) = some e →
      instDone s e.inst = true → e.delivered = true →
      exec (.evalComplete e.boundary e.handle) s =
        .next (progress (startEvals (finish (dropEval (writeOutputs s e l) e) e.sub .ok))))

/-- R99 to R102, R40. BEGIN makes a version that is not yet loaded, with a page for every owned page of it; DATA writes the
records it carries, each poison mark cleared; END answers once every record lies in its tier, those of flash with their NAND
channels ON, and the table's first version takes effect. A version is retired at once, or later where something refers to it.
-/
def Obligations.TableVersionsLoad : Prop :=
  ∀ s : State,
    (∀ d, Turn s d 0x0020 → loadMalformed d = false →
      let m := markBegun s d
      (loadPhase d = 0 →
        let hints := (windowBytes s (d.body 0x20 4) (d.body 0x24 4)).map BitVec.toNat
        let v := describedVersion d hints
        v.table < 4096 → layoutBad v = false → findVersion s v.table v.number = none →
        d.body 0x24 4 = 0 ∨ d.body 0x24 4 = 2 ^ v.skeinLog2 → hints.any hintBad = false → v.rowCount ≤ 2 ^ 40 →
        (s.tables.versions.filter (fun u => u.table == v.table)).length < 4 →
        let w : State := { m with tables := { m.tables with versions := m.tables.versions ++ [v] } }
        let fits := pagesFit w (w.tables.pages ++ newPages v (ownedSkeins w v))
        (fits = true → exec (.loadTableVersionBegin d) s = .next (finish (installPages w v (ownedSkeins w v)) d .ok)) ∧
        (fits = false → exec (.loadTableVersionBegin d) s = .next (finish m d .noSpace))) ∧
      (loadPhase d = 1 → ∀ v, findVersion s (d.body 0 2) (d.body 4 4) = some v →
        (v.loaded = true → exec (.loadTableVersionData d) s =
          .next (finishWith m d .rejectedConfig 0 notApplicable notApplicable)) ∧
        (v.loaded = false → d.body 0x24 4 % (8 + v.recordSize) = 0 →
          let entries := dataEntries v (windowBytes s (d.body 0x20 4) (d.body 0x24 4))
          (∀ f, dataFault m v entries = some f → exec (.loadTableVersionData d) s = .next (finishWith m d f.1 0 f.2.1 f.2.2)) ∧
          (dataFault m v entries = none →
            ∃ t, exec (.loadTableVersionData d) s = .next t ∧ Answered t d .ok 0 0 0 ∧
              t.tables.versions = (setVersion s (entries.foldl loadRecord v)).tables.versions ∧
              SameBut [.rings, .tables, .power] s t))) ∧
      (loadPhase d = 2 → ∀ v, findVersion s (d.body 0 2) (d.body 4 4) = some v →
        (v.loaded = true → exec (.loadTableVersionEnd d) s = .next (finish m d .rejectedConfig)) ∧
        (v.loaded = false →
          (unsettledPages s v ≠ [] → exec (.loadTableVersionEnd d) s = .next (setVersion m { v with ending := v.ending ++ [d] })) ∧
          (unsettledPages s v = [] →
            ∃ t, exec (.loadTableVersionEnd d) s = .next t ∧ Answered t d .ok 0 0 0 ∧
              ∃ w, findVersion t v.table v.number = some w ∧ w.loaded = true ∧ w.ending = [] ∧ w.rows = v.rows ∧
                w.inEffect =
                  (v.inEffect || s.tables.versions.all (fun u => u.table != v.table || u.number == v.number || !u.inEffect)))))) ∧
    (∀ table version v, s.running = true → findVersion s table version = some v →
      (∀ p ∈ unsettledPages s v, p.tier = .flash → channelsOn s (pageChannels p.ref) = true) →
      ∃ t, exec (.recordsReachedTier table version) s = .next t ∧ (∀ d ∈ v.ending, Answered t d .ok 0 0 0) ∧
        SameBut [.rings, .tables, .power, .telemetry] s t) ∧
    (∀ d, Turn s d 0x0021 → d.body 2 2 = 0 → d.zeroFrom 8 = true → d.body 0 2 < 4096 →
      let m := markBegun s d
      (findVersion s (d.body 0 2) (d.body 4 4) = none → exec (.retireTableVersion d) s = .next (finish m d .versionUnknown)) ∧
      (∀ v, findVersion s (d.body 0 2) (d.body 4 4) = some v →
        (v.inEffect = true ∨ namedInSets s (d.body 0 2) v.number = true →
          exec (.retireTableVersion d) s = .next (finish m d .rejectedConfig)) ∧
        (v.inEffect = false → namedInSets s (d.body 0 2) v.number = false →
          (versionUsed s v = true →
            exec (.retireTableVersion d) s = .next (finish (setVersion m { v with retiring := true }) d .acceptedDeferred)) ∧
          (versionUsed s v = false → exec (.retireTableVersion d) s = .next (finish (dropVersion m v) d .ok)))))

/-- R33, R353 to R358. A set whose items pass their checks is held under its identifier; a held set is committed for a
boundary that is still to come, its items checked again against the state that earlier sets will leave, and takes its place in
the order of acceptance; a set that is not committed is discarded. A failing item is named by its number and key. -/
def Obligations.ConfigurationSets : Prop :=
  ∀ s : State,
    (∀ d, Turn s d 0x0030 → d.body 4 1 ≤ 1 → d.body 5 3 = 0 → d.zeroFrom 0x10 = true → d.body 0 4 ≠ 0 →
      blockOk (d.body 8 4) (d.body 12 4) = true → 8 ≤ d.body 12 4 → d.body 12 4 ≤ 16 * 2 ^ 20 →
      let m := markBegun s d
      ∀ items, parseItems (d.body 12 4) 0 (windowBytes s (d.body 8 4) (d.body 12 4)) = some items →
        (∀ i ∈ items, knownKey i.2.1 = true ∧ itemReserved i.2.1 i.2.2 = false) → (∀ x ∈ s.cfg.sets, x.id ≠ d.body 0 4) →
        allDistinct ((items.filter (fun i => i.2.1 != 1)).map (fun i => i.2.1)) = true →
        (d.body 4 1 = 0 → s.cfg.sets.length < 8 →
          (checkItems m s.steps.c [] (itemOrder items) = none → exec (.stageConfig d) s =
            .next (finish { m with cfg := { m.cfg with
              sets := m.cfg.sets ++ [{ id := d.body 0 4, items := items.map (fun i => i.2), boundary := none }] } } d .ok)) ∧
          (∀ f, checkItems m s.steps.c [] (itemOrder items) = some f →
            exec (.stageConfig d) s = .next (finishWith m d f.1 0 f.2.1 f.2.2))) ∧
        (d.body 4 1 = 0 → 8 ≤ s.cfg.sets.length →
          exec (.stageConfig d) s = .next (finishWith m d .noSpace 0 notApplicable notApplicable)) ∧
        (d.body 4 1 = 1 → s.steps.a ≠ s.steps.c ∨ s.securing.restoring ≠ none →
          exec (.stageConfig d) s = .next (finishWith m d .rejectedConfig 0 notApplicable notApplicable)) ∧
        (d.body 4 1 = 1 → s.steps.a = s.steps.c → s.securing.restoring = none →
          checkItems m s.steps.c [] (itemOrder items) = none → exec (.stageConfig d) s =
            .next (finish (progress ((itemOrder items).foldl (fun u i => applyItem u u.steps.c i.2.1 i.2.2) m)) d .ok))) ∧
    (∀ d, Turn s d 0x0031 → d.body 4 4 = 0 → d.zeroFrom 0x10 = true → d.body 0 4 ≠ 0 →
      let m := markBegun s d
      let b := d.body 8 8
      let held := s.cfg.sets.find? (fun x => x.id == d.body 0 4 && x.boundary.isNone)
      (held = none ∨ b ≤ s.steps.c ∨ b + 1 ≤ s.steps.a →
        exec (.commitConfig d) s = .next (finishWith m d .rejectedConfig 0 notApplicable notApplicable)) ∧
      (∀ x, held = some x → s.steps.c < b → s.steps.a ≤ b →
        (∀ f, checkItems (afterSets m b) b [] (setItems x) = some f →
          exec (.commitConfig d) s = .next (finishWith m d f.1 0 f.2.1 f.2.2)) ∧
        (checkItems (afterSets m b) b [] (setItems x) = none → exec (.commitConfig d) s =
          .next (finish { m with cfg := { m.cfg with
            sets := m.cfg.sets.map (fun y => if y.id == d.body 0 4 then { y with boundary := some b } else y),
            commitOrder := commitPlace m d (d.body 0 4),
            commitBehind := aPut m.cfg.commitBehind (d.body 0 4) (commitsAhead m d) } } d .ok)))) ∧
    (∀ d, Turn s d 0x0032 → d.body 0 4 ≠ 0 → d.zeroFrom 4 = true →
      let m := markBegun s d
      (s.cfg.sets.any (fun x => x.id == d.body 0 4 && x.boundary.isNone) = true → exec (.discardConfig d) s =
        .next (finish { m with cfg := { m.cfg with sets := m.cfg.sets.filter (fun x => x.id != d.body 0 4) } } d .ok)) ∧
      (s.cfg.sets.any (fun x => x.id == d.body 0 4 && x.boundary.isNone) = false →
        exec (.discardConfig d) s = .next (finish m d .rejectedConfig)))

/-- R320, R321. A requested boundary that is still to come is secured, once however often it is requested; reported failures
add to the failure record. Other values are refused and change nothing. R369, R372, R373. The delta stream starts and stops at
the next boundary; a start needs ring 11. A telemetry snapshot writes its 3,056 bytes into the host's buffer, and no byte of
the window besides. R266, R267. A break slot is armed with its condition or cleared; the held commands are released and the
contexts go on when the stop is resumed, and a resume with no stop is refused. -/
def Obligations.SecuringDeltaDebugCommands : Prop :=
  (∀ (s : State) (d : Sub),
    let m := markBegun s d
    (Turn s d 0x0040 →
      let b := d.body 0 8
      (d.zeroFrom 8 = false ∨ b = 0 → exec (.secureNow d) s = .next (finish m d .malformed)) ∧
      (d.zeroFrom 8 = true → b ≠ 0 →
        (b ≤ s.steps.c ∨ b < s.steps.a → exec (.secureNow d) s = .next (finish m d .rejectedConfig)) ∧
        (s.steps.c < b → s.steps.a ≤ b →
          (b ∈ s.securing.requested → exec (.secureNow d) s = .next (finish m d .ok)) ∧
          (b ∉ s.securing.requested → exec (.secureNow d) s = .next (finish { m with
            securing := { m.securing with requested := m.securing.requested ++ [b] } } d .ok))))) ∧
    (Turn s d 0x0042 →
      let n := d.body 0 2
      let who := d.body 2 2
      let sound := n ≠ 0 ∧ d.zeroFrom 4 = true ∧ (who = 0xFFFF ∨ who ∈ s.members)
      (sound → exec (.reportFailure d) s = .next (finish { m with
        securing := { m.securing with failR := m.securing.failR + n } } d .ok)) ∧
      (¬ sound → exec (.reportFailure d) s = .next (finish m d .malformed)))) ∧
  (∀ (s : State) (d : Sub),
    let m := markBegun s d
    let waits (start : Bool) : State := { m with outputs := { m.outputs with
      deltaPending := m.outputs.deltaPending ++ [(d, start)] } }
    (Turn s d 0x0051 →
      (d.body 0 1 = 1 → d.zeroFrom 1 = true →
        ((ringAt s 11).active = true → exec (.deltaControlStart d) s = .next (waits true)) ∧
        ((ringAt s 11).active = false → exec (.deltaControlStart d) s = .next (finish m d .rejectedConfig))) ∧
      (d.body 0 1 = 0 → d.zeroFrom 1 = true → exec (.deltaControlStop d) s = .next (waits false)) ∧
      (1 < d.body 0 1 → exec (.deltaControlStart d) s = .next (finish m d .malformed))) ∧
    (Turn s d 0x0060 → d.zeroFrom 8 = true → blockOk (d.body 0 4) (d.body 4 4) = true →
      (d.body 4 4 < 4096 → exec (.telemetrySnapshot d) s = .next (finish m d .rejectedLimit)) ∧
      (4096 ≤ d.body 4 4 →
        ∃ t, exec (.telemetrySnapshot d) s = .next t ∧ Answered t d .ok 0 3056 0 ∧
          t.window = memWrites s.window (d.body 0 4) (snapshotBytes s) ∧ SameBut [.rings, .window] s t ∧
          (s.links.ports.length = 16 → s.telemetry.metered.length = 42 → s.telemetry.tiers.length = 4 → s.regs.chords.length = 112 →
            (∀ p ∈ s.links.ports, p.counters.length = 10) → (∀ r ∈ s.telemetry.tiers, r.length = 6) →
            (snapshotBytes s).length = 3056 ∧
            ∀ a, a < d.body 0 4 ∨ d.body 0 4 + 3056 ≤ a → memRead t.window a = memRead s.window a)))) ∧
  (∀ (s : State) (d : Sub),
    let m := markBegun s d
    (Turn s d 0x0070 →
      (breakMalformed d = true →
        (d.body 1 1 ≠ 0 → exec (.debugBreakArm d) s = .next (finish m d .malformed)) ∧
        (d.body 1 1 = 0 → exec (.debugBreakClear d) s = .next (finish m d .malformed))) ∧
      (breakMalformed d = false →
        (d.body 1 1 = 1 → exec (.debugBreakArm d) s = .next (finish { m with spindles := { m.spindles with
          breaks := m.spindles.breaks.set (d.body 0 1) (some (breakSlot d)) } } d .ok)) ∧
        (d.body 1 1 = 0 → exec (.debugBreakClear d) s = .next (finish { m with spindles := { m.spindles with
          breaks := m.spindles.breaks.set (d.body 0 1) none } } d .ok)))) ∧
    (Turn s d 0x0071 → d.zeroFrom 0 = true →
      (s.spindles.stopped = false → exec (.debugResume d) s = .next (finish m d .rejectedConfig)) ∧
      (s.spindles.stopped = true →
        exec (.debugResume d) s = .next (finish (progress (releaseStop m)) d .ok) ∧ (releaseStop m).spindles.stopped = false ∧
        (∀ q ∈ (releaseStop m).spindles.queues, ∀ c ∈ q.2.cmds, c.held = false))))

/-- R332, R333, R334, R336, Table 13.5. A restore that no row of the table refuses abandons the work in progress, wakes the
NAND channels and holds the hank until it is in place, which waits for those channels; then the highest committed and admitted
steps are the hank's boundary, the member takes part again, and the next step has to give the sealed loss. A refused restore
changes nothing and names the newest usable boundary. -/
def Obligations.RestoresFromHanks : Prop :=
  ∀ s : State,
    (∀ d read newest, canBegin s d = true → d.opcode = 0x0041 →
      let m := markBegun s d
      let best := newestUsable s d newest
      (∀ st, entryStatus m d = some st →
        exec (.restoreFromHank d read newest) s = .next (finishWith m d st 0 best notApplicable)) ∧
      (entryStatus m d = none →
        (∀ f, restoreRefusal m d read = some f →
          exec (.restoreFromHank d read newest) s = .next (finishWith m d f.1 0 best f.2)) ∧
        (restoreRefusal m d read = none →
          ∃ h, sourceHank m d read = some h ∧ h.members = s.members ∧ h.seed = s.regs.jobSeed ∧
            (let u := wakeChannels (abandon m h (restoreSet d)) (List.range 16)
             exec (.restoreFromHank d read newest) s = .next { u with
               securing := { u.securing with
                 restoring := some { sub := d, image := h, source := restoreSource d, setId := restoreSet d, newest := best } } }) ∧
            (abandon m h (restoreSet d)).steps.admitted = [] ∧ (abandon m h (restoreSet d)).spindles.contexts = []))) ∧
    (∀ r, s.running = true → s.securing.restoring = some r →
      (channelsOn s (List.range 16) = false → exec .restoreEnd s = .next s) ∧
      (channelsOn s (List.range 16) = true →
        ∃ t, exec .restoreEnd s = .next t ∧ t.steps.c = r.image.boundary ∧ t.steps.a = r.image.boundary ∧
          SameBut [.rings, .cfg, .steps, .tables, .programs, .tensors, .spindles, .owners, .dense, .links, .power, .securing,
            .outputs, .telemetry, .sequences] s t))

/-- R363 to R366. An accepted export waits for its boundary. A chunk is whole entries of one skein, written to the staging
range and announced on ring 10; after the last row comes the end record, and the command is answered with the rows written and
the rows poisoned. -/
def Obligations.ExportsWrite : Prop :=
  ∀ s : State,
    (∀ d, Turn s d 0x0050 →
      let m := markBegun s d
      (∀ st, exportRefusal m d = some st → exec (.exportSkein d) s = .next (finish m d st)) ∧
      (exportRefusal m d = none →
        exec (.exportSkein d) s = .next { m with outputs := { m.outputs with exports := m.outputs.exports ++ [newExport d] } })) ∧
    (∀ (e : ExportJob) (v : Version), s.running = true → (ringAt s 10).active = true → (ringAt s 10).free ≠ 0 →
      s.outputs.exports.find? (fun x => x.sub.ring == e.sub.ring && x.sub.index == e.sub.index && x.started) = some e →
      findVersion s e.table e.version = some v →
      (e.todo = [] → (∀ i, i < e.count → exportWaits s e (e.first + i) = false) →
        ∃ u, exec (.exportChunk e.sub.ring e.sub.index 0) s = .next (progress (finishWith u e.sub .ok 0 e.written e.poisoned)) ∧
          u.outputs.exports = s.outputs.exports.filter (fun x => !sameSub x.sub e.sub) ∧
          ∃ x, u.rings.exports = s.rings.exports ++ [((ringAt s 10).producer, x)] ∧ x.isEnd = true ∧ x.entries = e.written ∧
            x.poisoned = e.poisoned ∧ x.commandId = e.sub.commandId) ∧
      (∀ rows first rest, e.todo = first :: rest → 1 ≤ rows → rows ≤ e.todo.length →
        let now := e.todo.take rows
        let bytes := now.flatMap (exportEntry s e v)
        let place := chunkPlace e bytes.length
        (∀ x ∈ now, x.1 = first.1) → bytes.length ≤ 2 ^ 20 → (∀ i, i < first.1 - e.first → exportWaits s e (e.first + i) = false) →
        (∀ c ∈ liveChunks s e, c.2.1 + c.2.2 ≤ place ∨ place + bytes.length ≤ c.2.1) →
        ∃ t, exec (.exportChunk e.sub.ring e.sub.index rows) s = .next t ∧
          t.window = memWrites s.window (e.stagingOffset + place) bytes ∧
          (∃ x, t.rings.exports = s.rings.exports ++ [((ringAt s 10).producer, x)] ∧ x.isEnd = false ∧ x.skein = first.1 ∧
            x.entries = rows ∧ x.chunkOffset = e.stagingOffset + place ∧ x.chunkLength = bytes.length ∧
            x.poisoned = (now.filter (fun r => r.2.2.2)).length) ∧
          (∃ y ∈ t.outputs.exports, sameSub y.sub e.sub = true ∧ y.todo = e.todo.drop rows ∧ y.written = e.written + rows)))

/-- R376, R378, Tables 15.1 and 15.2. The SPDM connection of a transport: GET_VERSION starts it anew; capabilities, then
algorithms follow; digests and certificate portions need the algorithms, and a signed answer needs the extended algorithm
accepted. Out of that order the answer is an SPDM error. A transport that does not answer changes nothing. R378, Table 15.1.
One session of a transport: a key exchange opens it, verify data that is right completes it and verify data that is wrong ends
it; heartbeats, key updates and the end of the session are answered within a completed session only. -/
def Obligations.SpdmResponder : Prop :=
  (∀ (s : State) (tr : Transport), answers s tr = true →
    let c := connection s tr
    let told (u : State) (r : Response) : State :=
      { u with security := { u.security with responses := u.security.responses ++ [(tr, r)] } }
    let chain := Free.certificateChain (measurement s)
    exec (.getVersion tr) s = .next (told (setConnection s tr { Spdm.reset with version := true }) .version) ∧
    (c.version = true → exec (.getCapabilities tr) s = .next (told (setConnection s tr { c with caps := true }) .capabilities)) ∧
    (c.version = false → exec (.getCapabilities tr) s = .next (told s .error)) ∧
    (∀ ext, (c.caps = true → exec (.negotiateAlgorithms tr ext) s =
        .next (told (setConnection s tr { c with algs := true, brainpool := ext }) (.algorithms ext))) ∧
      (c.caps = false → exec (.negotiateAlgorithms tr ext) s = .next (told s .error))) ∧
    (c.algs = true → exec (.getDigests tr) s = .next (told s (.digests (sha384 chain)))) ∧
    (c.algs = false → exec (.getDigests tr) s = .next (told s .error)) ∧
    (∀ slot offset length, (c.algs = true → slot = 0 → offset ≤ chain.length → exec (.getCertificate tr slot offset length) s =
        .next (told s (.certificate ((chain.drop offset).take length)
          (chain.length - offset - ((chain.drop offset).take length).length)))) ∧
      (c.algs = false ∨ slot ≠ 0 → exec (.getCertificate tr slot offset length) s = .next (told s .error))) ∧
    (∀ slot nonce,
      (c.algs = true → c.brainpool = true → slot = 0 → s.regs.recoveryLoader = false →
        ∃ signature, exec (.challenge tr slot nonce) s = .next (told { s with freeCount := s.freeCount + 1 }
          (.challengeAuth (sha384 chain) signature))) ∧
      (c.brainpool = false ∨ s.regs.recoveryLoader = true → exec (.challenge tr slot nonce) s = .next (told s .error))) ∧
    (∀ index nonce, c.algs = true →
      let blocks := if index = 0xFF then measurementBlocks s else (measurementBlocks s).filter (fun b => b.1 == index)
      (index = 0 ∨ blocks ≠ [] →
        exec (.getMeasurements tr index false nonce) s = .next (told s (.measurements blocks none)) ∧
        (c.brainpool = true → ∃ signature, exec (.getMeasurements tr index true nonce) s =
          .next (told { s with freeCount := s.freeCount + 1 } (.measurements blocks (some signature))))) ∧
      (c.brainpool = false → exec (.getMeasurements tr index true nonce) s = .next (told s .error)))) ∧
  (∀ (s : State) (tr : Transport), answers s tr = true →
    let c := connection s tr
    let told (u : State) (r : Response) : State :=
      { u with security := { u.security with responses := u.security.responses ++ [(tr, r)] } }
    (∀ exchange,
      (c.algs = true → c.brainpool = true → c.session = none → s.regs.recoveryLoader = false →
        ∃ share signature, exec (.keyExchange tr exchange) s =
          .next (told (setConnection { s with freeCount := s.freeCount + 1 } tr { c with session := some false, updates := 0 })
            (.keyExchangeRsp share signature))) ∧
      (c.session ≠ none → exec (.keyExchange tr exchange) s = .next (told s .error))) ∧
    (∀ verify,
      (c.session = some false → Free.finishVerifies verify = true →
        exec (.finish tr verify) s = .next (told (setConnection s tr { c with session := some true }) .finishRsp)) ∧
      (c.session = some false → Free.finishVerifies verify = false →
        exec (.finish tr verify) s = .next (told (setConnection s tr { c with session := none }) .error)) ∧
      (c.session ≠ some false → exec (.finish tr verify) s = .next (told s .error))) ∧
    (c.session = some true →
      exec (.heartbeat tr) s = .next (told s .heartbeatAck) ∧
      (∀ op, 1 ≤ op → op ≤ 3 → ∃ n, exec (.keyUpdate tr op) s =
        .next (told (setConnection s tr { c with updates := n }) (.keyUpdateAck op)) ∧
          n = (if op = 3 then c.updates else c.updates + 1)) ∧
      exec (.endSession tr) s = .next (told (setConnection s tr { c with session := none, updates := 0 }) .endSessionAck)) ∧
    (c.session ≠ some true →
      exec (.heartbeat tr) s = .next (told s .error) ∧ exec (.endSession tr) s = .next (told s .error) ∧
      (∀ op, exec (.keyUpdate tr op) s = .next (told s .error))))

/-- R380 to R383, R393, R394. A job key is installed in a completed session, with the job block committed, no key held, the
mesh and the debug state sound and the digest of the committed block, and the first condition that fails is the result.
QUERY_STATE says whether a key is held, the debug state and whether a transfer is open. A debug challenge gives a fresh nonce;
an unlock uses the nonce whatever its result, and one that verifies erases the job key and the memories before debug access
opens; sync counters and queue counts stay, since only a reset sets them (R199, R201). R389, R391. A firmware transfer: BEGIN
opens it with the image's length and hash, DATA follows without a gap, END verifies the whole image and puts it into the boot
flash for the next reset, ABORT ends it. Only one transfer is open; an image that does not verify, or lies below the fused
minimum, leaves the boot image as it is. -/
def Obligations.ModuleProtocol : Prop :=
  (∀ (s : State) (tr : Transport), answers s tr = true → s.regs.recoveryLoader = false →
    let told (u : State) (r : Response) : State :=
      { u with security := { u.security with responses := u.security.responses ++ [(tr, r)] } }
    (∀ payload inSession, leAt payload 0 1 = 0x01 → payloadOk payload 96 96 = true →
      let fields := payload.drop 4
      (∀ r, installRefusal s tr inSession (fields.drop 48) = some r →
        exec (.installJobKey tr inSession payload) s = .next (told s (.module 0x01 r []))) ∧
      (installRefusal s tr inSession (fields.drop 48) = none →
        ∃ t, exec (.installJobKey tr inSession payload) s = .next t ∧ t.security.jobKey = some (fields.take 48) ∧
          t.security.jobId = jobIdentifier (fields.take 48) ∧
          t.security.responses = s.security.responses ++ [(tr, .module 0x01 0 (jobIdentifier (fields.take 48)))] ∧
          SameBut [.tables, .links, .securing, .security] s t)) ∧
    (∀ payload, leAt payload 0 1 = 0x02 → payloadOk payload 0 0 = true →
      exec (.queryState tr payload) s = .next (told s (.module 0x02 0
        ([if s.security.jobKey.isSome then 1 else 0] ++
          (if s.security.jobKey.isSome then s.security.jobId else List.replicate 16 0) ++
          [if s.security.debugUnlocked then 1 else 0] ++ [if s.security.transfer.isSome then 1 else 0])))) ∧
    (∀ payload, leAt payload 0 1 = 0x20 → payloadOk payload 0 0 = true →
      ∃ nonce, nonce.length = 32 ∧ exec (.debugChallenge tr payload) s =
        .next (told { s with freeCount := s.freeCount + 1, security := { s.security with nonce := some nonce } }
          (.module 0x20 0 nonce))) ∧
    (∀ payload, leAt payload 0 1 = 0x21 → payloadOk payload 0 65535 = true →
      let token := payload.drop 4
      (s.security.nonce = none → s.security.transfer = none →
        exec (.debugUnlock tr payload) s = .next (told s (.module 0x21 9 []))) ∧
      (∀ nonce, s.security.nonce = some nonce → s.security.transfer = none →
        (Free.tokenVerifies token (measurement s) = false ∨ Free.tokenNonce token ≠ nonce →
          exec (.debugUnlock tr payload) s =
            .next (told { s with security := { s.security with nonce := none } } (.module 0x21 7 []))) ∧
        (Free.tokenVerifies token (measurement s) = true → Free.tokenNonce token = nonce →
          ∃ t, exec (.debugUnlock tr payload) s = .next t ∧ t.security.jobKey = none ∧ t.security.nonce = none ∧
            t.security.debugUnlocked = true ∧ t.security.debugScope = Free.tokenScope token ∧ t.window = [] ∧ t.tensors = [] ∧
            t.lattices = [] ∧ t.tables.versions = [] ∧ t.programs.images = [] ∧ t.spindles.contexts = [] ∧ t.spindles.sram = [] ∧
            t.spindles.counters = s.spindles.counters ∧
            (∀ q, (queueAt t q).cmds = [] ∧ (queueAt t q).count = (queueAt s q).count) ∧
            t.regs = s.regs ∧ t.supply = s.supply)))) ∧
  (∀ (s : State) (tr : Transport) (payload : List Byte), answers s tr = true → s.regs.recoveryLoader = false ∨ tr = .doe →
    let told (u : State) (r : Response) : State :=
      { u with security := { u.security with responses := u.security.responses ++ [(tr, r)] } }
    let transfer (x : Option Transfer) : State := { s with security := { s.security with transfer := x } }
    let fields := payload.drop 4
    (leAt payload 0 1 = 0x10 → payloadOk payload 52 52 = true →
      (s.security.transfer ≠ none → exec (.firmwareBegin tr payload) s = .next (told s (.module 0x10 10 []))) ∧
      (s.security.transfer = none →
        (64 ≤ leAt fields 0 4 → leAt fields 0 4 ≤ 32 * 2 ^ 20 → exec (.firmwareBegin tr payload) s =
          .next (told (transfer (some { transport := tr, length := leAt fields 0 4, hash := fields.drop 4, bytes := [] }))
            (.module 0x10 0 []))) ∧
        (leAt fields 0 4 < 64 ∨ 32 * 2 ^ 20 < leAt fields 0 4 →
          exec (.firmwareBegin tr payload) s = .next (told s (.module 0x10 1 []))))) ∧
    (∀ code (i : Instr), (code = 0x11 ∧ i = .firmwareData tr payload ∧ payloadOk payload 5 4100 = true ∨
        code = 0x12 ∧ i = .firmwareEnd tr payload ∧ payloadOk payload 0 0 = true ∨
        code = 0x13 ∧ i = .firmwareAbort tr payload ∧ payloadOk payload 0 0 = true) → leAt payload 0 1 = code →
      (s.security.transfer = none → exec i s = .next (told s (.module code 9 []))) ∧
      (∀ x, s.security.transfer = some x → x.transport ≠ tr → exec i s = .next (told s (.module code 10 [])))) ∧
    (∀ x, s.security.transfer = some x → x.transport = tr →
      (leAt payload 0 1 = 0x11 → payloadOk payload 5 4100 = true →
        (leAt fields 0 4 ≠ x.bytes.length → exec (.firmwareData tr payload) s = .next (told s (.module 0x11 9 []))) ∧
        (leAt fields 0 4 = x.bytes.length → x.bytes.length + (fields.length - 4) ≤ x.length →
          exec (.firmwareData tr payload) s =
            .next (told (transfer (some { x with bytes := x.bytes ++ fields.drop 4 })) (.module 0x11 0 [])))) ∧
      (leAt payload 0 1 = 0x12 → payloadOk payload 0 0 = true →
        let image := bootImage x.bytes
        (image.hash ≠ x.hash ∨ Free.imageVerifies x.bytes = false →
          exec (.firmwareEnd tr payload) s = .next (told s (.module 0x12 7 []))) ∧
        (image.hash = x.hash → Free.imageVerifies x.bytes = true →
          (image.secVersion < s.security.minSecVersion →
            exec (.firmwareEnd tr payload) s = .next (told s (.module 0x12 8 []))) ∧
          (s.security.minSecVersion ≤ image.secVersion →
            exec (.firmwareEnd tr payload) s = .next (told { s with security := { s.security with
              boot := image, transfer := none } } (.module 0x12 0 (leBytes 2 image.secVersion)))))) ∧
      (leAt payload 0 1 = 0x13 → payloadOk payload 0 0 = true →
        exec (.firmwareAbort tr payload) s = .next (told (transfer none) (.module 0x13 0 [])))))

/-- R186, R188. A register made from lanes reads back as those lanes in its view, and predicate bits as those flags, each flag
in every bit that the view assigns to the lane; lanes of one view cut the register without gap or overlap. R189, Table 8.4.
Integer lanes at width n: sums, differences and products wrap, a shift by the width or more gives 0, and every bit the sign
for sar; minimum, maximum and comparisons come signed and unsigned. -/
def Obligations.LanesAndIntegers : Prop :=
  (∀ view : Nat, view ≤ 2 →
    (∀ l : List Nat, l.length = laneCount view →
      ∀ j, j < laneCount view → lane view (ofLanes view l) j = nth l j 0 % 2 ^ laneWidth view) ∧
    (∀ v : Wide, ofLanes view (lanesOf view v) = v) ∧
    (∀ l : List Bool, l.length = laneCount view →
      (∀ j, j < laneCount view → predLane view (ofPred view l) j = nth l j false) ∧
      (∀ k, k < 64 → (ofPred view l).getLsbD k = nth l (k / 2 ^ view) false))) ∧
  (∀ (n : Nat) (a b : BitVec n), 0 < n →
    let r (funct : Nat) : BitVec n := BitVec.ofNat n (aluLane n funct a.toNat b.toNat)
    let c (funct : Nat) : Bool := cmpInt n funct a.toNat b.toNat
    (∀ funct, aluLane n funct a.toNat b.toNat < 2 ^ n) ∧
    r 0 = a + b ∧ r 1 = a - b ∧ r 2 = a * b ∧ r 3 = a &&& b ∧ r 4 = a ||| b ∧ r 5 = a ^^^ b ∧
    r 6 = a <<< b.toNat ∧ r 7 = a >>> b.toNat ∧ r 8 = a.sshiftRight b.toNat ∧
    (n ≤ b.toNat → r 6 = 0 ∧ r 7 = 0 ∧ r 8 = if a.msb then BitVec.allOnes n else 0) ∧
    r 9 = (if a.slt b then a else b) ∧ r 10 = (if a.slt b then b else a) ∧
    r 11 = (if a.ult b then a else b) ∧ r 12 = (if a.ult b then b else a) ∧
    c 0 = (a == b) ∧ c 1 = (a != b) ∧ c 2 = a.slt b ∧ c 3 = a.sle b ∧ c 4 = a.ult b ∧ c 5 = a.ule b)

/-- Table 9.10, R187, R217. MOV, MOVI, MOVHI, SEL and BCAST write their one destination register and move on. A vector MOV
writes the selected lanes; SEL writes every lane. Table 9.10, R188, R189. ALU and ALUI write the integer result of each
selected lane, or of the scalar; FOP the floating result rounded to nearest even in the lane's format; CMP a scalar 0 or 1, or
every bit of a predicate that the view assigns to a selected lane, the other bits staying. Nothing else of the context changes
but its place. -/
def Obligations.RegistersWritten : Prop :=
  (∀ (s : State) (c : CtxId) (w : Word) (x : Context) (img : Image),
    let scalar (v : Word) : Host.Outcome State Fault Refusal :=
      .next (ran s c { x with pc := x.pc + 1, sregs := x.sregs.set (plyDst w) v })
    let vector (new : Nat → Nat) (tag : Word32) : Host.Outcome State Fault Refusal :=
      .next (ran s c { lanesWritten x w (plyDst w) (plyView w) new tag with pc := x.pc + 1 })
    (Issues s c w 0x01 x img → plyView w = 3 → exec (.mov c w) s = scalar (sreg x (plySrc1 w))) ∧
    (Issues s c w 0x01 x img → plyView w ≠ 3 →
      ∃ tag, exec (.mov c w) s = vector (lane (plyView w) (vreg x (plySrc1 w))) tag ∧ (plyView w ≠ 0 → tag = 0) ∧
        (plyView w = 0 → plyPredicated w = false → tag = vtag x (plySrc1 w))) ∧
    (Issues s c w 0x02 x img →
      exec (.movi c w) s = scalar (BitVec.ofInt 64 (BitVec.ofNat 32 (w.toNat / 2 ^ 32)).toInt)) ∧
    (Issues s c w 0x03 x img →
      exec (.movhi c w) s = scalar (BitVec.ofNat 64 (w.toNat / 2 ^ 32 * 2 ^ 32 + (sreg x (plyDst w)).toNat % 2 ^ 32))) ∧
    (Issues s c w 0x13 x img → plyView w ≠ 3 →
      ∃ tag, (plyView w ≠ 0 → tag = 0) ∧ exec (.sel c w) s = .next (ran s c { x with
        pc := x.pc + 1, tags := x.tags.set (plyDst w) tag,
        vregs := x.vregs.set (plyDst w) (ofLanes (plyView w) ((List.range (laneCount (plyView w))).map (fun j =>
          if predLane (plyView w) (preg x (plyPred w)) j then lane (plyView w) (vreg x (plySrc1 w)) j
          else lane (plyView w) (vreg x (plySrc2 w)) j))) })) ∧
    (Issues s c w 0x23 x img → plyView w ≠ 3 →
      exec (.bcast c w) s = vector (fun _ => (sreg x (plySrc1 w)).toNat % 2 ^ laneWidth (plyView w))
        (if plyView w = 0 then vtag x (plyDst w) else 0)) ∧
    (∀ i ∈ [Instr.mov c w, .movi c w, .movhi c w, .sel c w, .bcast c w, .alu c w, .alui c w, .cmp c w, .fop c w, .widen c w,
        .narrow c w, .reduce c w, .tload c w, .tstore c w, .tile c w, .layer c w, .tmove c w, .product c w, .signal c w,
        .wait c w, .readctr c w, .br c w, .brc c w, .loop c w, .call c w, .ret c w, .retire c w, .query c w],
      s.running = false ∨ s.spindles.stopped = true ∨ ctxAt s c = none ∨ (ctxAt s c = some x ∧ x.state ≠ .running) →
      exec i s = .next s)) ∧
  (∀ (s : State) (c : CtxId) (w : Word) (x : Context) (img : Image),
    let v := plyView w
    let a := vreg x (plySrc1 w)
    let b := vreg x (plySrc2 w)
    let scalar (r : Word) : Host.Outcome State Fault Refusal :=
      .next (ran s c { x with pc := x.pc + 1, sregs := x.sregs.set (plyDst w) r })
    let vector (new : Nat → Nat) : Host.Outcome State Fault Refusal :=
      .next (ran s c { lanesWritten x w (plyDst w) v new (if v = 0 then vtag x (plyDst w) else 0) with pc := x.pc + 1 })
    let imm : Word := BitVec.ofInt 64 (BitVec.ofNat 32 (w.toNat / 2 ^ 32)).toInt
    (Issues s c w 0x10 x img →
      (v = 3 → exec (.alu c w) s =
        scalar (BitVec.ofNat 64 (aluLane 64 (plyFunctR w) (sreg x (plySrc1 w)).toNat (sreg x (plySrc2 w)).toNat))) ∧
      (v ≠ 3 → exec (.alu c w) s = vector (fun j => aluLane (laneWidth v) (plyFunctR w) (lane v a j) (lane v b j)))) ∧
    (Issues s c w 0x11 x img →
      (v = 3 → exec (.alui c w) s = scalar (BitVec.ofNat 64 (aluLane 64 (plyByte3 w) (sreg x (plySrc1 w)).toNat imm.toNat))) ∧
      (v ≠ 3 → exec (.alui c w) s =
        vector (fun j => aluLane (laneWidth v) (plyByte3 w) (lane v a j) (imm.toNat % 2 ^ laneWidth v)))) ∧
    (Issues s c w 0x12 x img →
      (v = 3 → exec (.cmp c w) s =
        scalar (if cmpInt 64 (plyFunctR w) (sreg x (plySrc1 w)).toNat (sreg x (plySrc2 w)).toNat then 1 else 0)) ∧
      (v ≠ 3 → ∃ p : Word, exec (.cmp c w) s = .next (ran s c { x with pc := x.pc + 1, preds := x.preds.set (plyDst w) p }) ∧
        ∀ k, k < 64 →
          let j := k / 2 ^ v
          p.getLsbD k =
            if plyPredicated w && !predLane v (preg x (plyPred w)) j then (preg x (plyDst w)).getLsbD k
            else if plyFunctR w ≤ 5 then cmpInt (laneWidth v) (plyFunctR w) (lane v a j) (lane v b j)
            else cmpFloat (plyFunctR w) (laneValue v (plyFmt w) a (vtag x (plySrc1 w)) j)
              (laneValue v (plyFmt w) b (vtag x (plySrc2 w)) j))) ∧
    (Issues s c w 0x20 x img → v = 1 ∨ v = 2 →
      let value (n j : Nat) : FVal := laneValue v (plyFmt w) (vreg x n) (vtag x n) j
      exec (.fop c w) s = vector (fun j => encodeRne (fmtOf (laneFormat v (plyFmt w)))
        (fopLane (plyFunctR w) (value (plySrc1 w) j) (value (plySrc2 w) j) (value (plySrc3 w) j)))) ∧
    (∀ y z : FVal, fopLane 0 y z zeroV = y.add z ∧ fopLane 1 y z zeroV = y.sub z ∧ fopLane 2 y z zeroV = y.mul z))

/-- Table 9.10, R187, R189, R191. WIDEN of an unpredicated register fills DST and the registers after it in lane order; NARROW
puts the lanes of SRC1 and then SRC2, rounded to nearest even, into one 16-bit register; REDUCE puts the tree's result into
lane 0 of a 32-bit register and +0 into the others. -/
def Obligations.WidenNarrowReduce : Prop :=
  ∀ (s : State) (c : CtxId) (w : Word) (x : Context) (img : Image), x.vregs.length = 32 → x.tags.length = 32 →
    (Issues s c w 0x21 x img →
      let v := plyView w
      let t := plyFunctR w
      v < t → t ≤ 2 → plyDst w + 2 ^ (t - v) ≤ 32 →
      ∃ y, exec (.widen c w) s = .next (ran s c { y with pc := x.pc + 1 }) ∧
        y = { x with vregs := y.vregs, tags := y.tags } ∧ y.vregs.length = 32 ∧ y.tags.length = 32 ∧
        (∀ r, r < plyDst w ∨ plyDst w + 2 ^ (t - v) ≤ r → vreg y r = vreg x r ∧ vtag y r = vtag x r) ∧
        (plyPredicated w = false → ∀ k j, k < 2 ^ (t - v) → j < laneCount t →
          vtag y (plyDst w + k) = 0 ∧
          lane t (vreg y (plyDst w + k)) j = encodeRne (fmtOf (laneFormat t (plyTfmt w)))
            (laneValue v (plyFmt w) (vreg x (plySrc1 w)) (vtag x (plySrc1 w)) (k * laneCount t + j)) % 2 ^ laneWidth t)) ∧
    (Issues s c w 0x22 x img →
      exec (.narrow c w) s = .next (ran s c { lanesWritten x w (plyDst w) 1 (fun j =>
        encodeRne (fmtOf (laneFormat 1 (plyTfmt w)))
          (elemValue 6 (if j < 16 then lane 2 (vreg x (plySrc1 w)) j else lane 2 (vreg x (plySrc2 w)) (j - 16)))) 0 with
        pc := x.pc + 1 })) ∧
    (Issues s c w 0x24 x img →
      let op := reduceOp (plyFunctR w / 4 % 4)
      exec (.reduce c w) s = .next (ran s c { x with
        pc := x.pc + 1, tags := x.tags.set (plyDst w) 0,
        vregs := x.vregs.set (plyDst w) (ofLanes 2 (encodeRne singleF (tree32 op (treeInputs w x)) :: List.replicate 15 0)) }) ∧
      (plyPredicated w = false → plyView w = 1 → plyFunctR w % 4 = 0 →
        treeInputs w x = (List.range 32).map (laneValue 1 (plyFmt w) (vreg x (plySrc1 w)) 0)) ∧
      (plyPredicated w = false → plyView w = 2 → plyFunctR w % 4 = 1 →
        treeInputs w x = (List.range 16).map (laneValue 2 (plyFmt w) (vreg x (plySrc1 w)) 0) ++
          (List.range 16).map (laneValue 2 (plyFmt w) (vreg x (plySrc2 w)) 0)) ∧
      (plyPredicated w = false → plyView w = 2 → plyFunctR w % 4 = 2 →
        treeInputs w x = (List.range 16).map (laneValue 2 (plyFmt w) (vreg x (plySrc1 w)) 0) ++ List.replicate 16 zeroV))

/-- Table 9.10, R187, R188, R213, R215, R218. TLOAD puts the elements at INDEX into the selected lanes of one register, 0 for
each outside the read footprints, and counts one out-of-footprint access where a selected one lies outside; a blocked tensor's
64 codes come with a tag byte for each 16 lanes, and an index that is no multiple of 16 reads nothing. No other register
changes, and no tensor. Table 9.10, R59, R139, R187, R213, R215, R218. TSTORE writes the selected lanes of one register at
INDEX inside the write footprints: every element written holds its lane's bits, every other element and every other tensor
stays, and one access is counted where a selected lane falls outside; a blocked tensor is stored at a multiple of 16, or of B
where the store converts, else nothing is written. A kernel's store to its UNIT waits in the context with its purpose, lane by
lane or a whole block. The stored address is INDEX of the tensor that SLOT names; the memories of the state are canonical. -/
def Obligations.TensorLoadsAndStores : Prop :=
  (∀ (s : State) (c : CtxId) (w : Word) (x : Context) (img : Image), Issues s c w 0x30 x img →
    let slot := plySlot w
    let d := tensorAt img.ply slot
    let m := ctxTensor s x d
    let i := (sreg x (plySrc1 w)).toNat
    let v := plyView w
    let inside (j : Nat) : Bool := inRange (ctxRanges s x img) 1 slot (i + j)
    let picked (j : Nat) : Bool := !plyPredicated w || predLane v (preg x (plyPred w)) j
    let after (y : Context) (k : Nat) : State := { ran s c { y with pc := x.pc + 1 } with
      telemetry := { s.telemetry with outOfFootprint := s.telemetry.outOfFootprint + k } }
    (d.role ≠ 9 ∨ x.target = 0 → m = tensorMem s d.id) ∧
    (∃ y k, exec (.tload c w) s = .next (after y k) ∧ k ≤ 1 ∧ y = { x with vregs := y.vregs, tags := y.tags } ∧
      (∀ r, r ≠ plyDst w → vreg y r = vreg x r ∧ vtag y r = vtag x r)) ∧
    ((v = 1 ∧ (d.format = 4 ∨ d.format = 5) ∨ v = 2 ∧ d.format = 6) →
      exec (.tload c w) s = .next (after
        (lanesWritten x w (plyDst w) v (fun j => if inside j then readElem m d.format (i + j) else 0) 0)
        (if (List.range (laneCount v)).any (fun j => picked j && !inside j) then 1 else 0))) ∧
    (v = 0 → isBlocked d.format = true → i % 16 = 0 →
      ∃ tag, exec (.tload c w) s = .next (after
          (lanesWritten x w (plyDst w) 0
            (fun j => if inside j then loadCode d.format (readElem m d.format (i + j)) else 0) tag)
          (if (List.range 64).any (fun j => picked j && !inside j) then 1 else 0)) ∧
        ∀ g, g < 4 → tagByte tag (16 * g) =
          (if blockInRange (ctxRanges s x img) 1 slot d.block (i + 16 * g) then readScale m d (i + 16 * g) else 0) % 256) ∧
    (v = 0 → isBlocked d.format = true → i % 16 ≠ 0 →
      exec (.tload c w) s = .next (after (lanesWritten x w (plyDst w) 0 (fun _ => 0) 0) 1))) ∧
  (∀ (s : State) (c : CtxId) (w : Word) (x : Context) (img : Image), Issues s c w 0x31 x img → memoriesOk s = true →
    let slot := plySlot w
    let d := tensorAt img.ply slot
    let i := (sreg x (plySrc1 w)).toNat
    let v := plyView w
    let inside (j : Nat) : Bool := inRange (ctxRanges s x img) 2 slot (i + j)
    let picked (j : Nat) : Bool := !plyPredicated w || predLane v (preg x (plyPred w)) j
    let moved : State := ran s c { x with pc := x.pc + 1 }
    let misses (k : Nat) : Prop := k ≤ 1 ∧ (k = 1 ↔ ∃ j, j < laneCount v ∧ picked j = true ∧ inside j = false)
    let block := i % d.block = 0 ∧ blockInRange (ctxRanges s x img) 2 slot d.block i = true
    let counted (u : State) (k : Nat) : State := { u with
      telemetry := { s.telemetry with outOfFootprint := s.telemetry.outOfFootprint + k } }
    (d.role = 9 → x.target ≠ 0 →
      ∃ l k, exec (.tstore c w) s = .next (counted (ran s c { x with pc := x.pc + 1, staged := x.staged ++ l }) k) ∧
        (∀ e ∈ l, e.2.2.2.1 = plyByte3 w) ∧
        (isBlocked d.format = false → misses k ∧
          l.length = ((List.range (laneCount v)).filter (fun j => picked j && inside j)).length ∧
          ∀ e ∈ l, e.2.2.2.2.length = 1) ∧
        (isBlocked d.format = true → block → k = 0 ∧ ∃ e, l = [e] ∧ e.2.2.2.2.length = d.block) ∧
        (isBlocked d.format = true → ¬ block → k = 1 ∧ l = [])) ∧
    (d.role ≠ 9 ∨ x.target = 0 →
      ∃ m k, k ≤ 1 ∧ exec (.tstore c w) s = .next (counted (setTensor moved d.id m) k) ∧
        (plyByte3 w = 0 → (v = 1 ∧ (d.format = 4 ∨ d.format = 5) ∨ v = 2 ∧ d.format = 6) →
          misses k ∧
          (∀ j, j < laneCount v → picked j = true → inside j = true →
            readElem m d.format (i + j) = lane v (vreg x (plyDst w)) j) ∧
          (∀ e, (e < i ∨ i + laneCount v ≤ e ∨ picked (e - i) = false ∨ inside (e - i) = false) →
            readElem m d.format e = readElem (tensorMem s d.id) d.format e) ∧
          (∀ a, (a < 2 ^ v * i ∨ 2 ^ v * (i + laneCount v) ≤ a) → memRead m a = memRead (tensorMem s d.id) a)) ∧
        (isBlocked d.format = true → (plyByte3 w = 0 → i % 16 ≠ 0) → (plyByte3 w ≠ 0 → ¬ block) →
          k = 1 ∧ m = tensorMem s d.id) ∧
        (plyByte3 w ≠ 0 → d.format = 4 ∨ d.format = 5 →
          ∀ a, (a < 2 * i ∨ 2 * (i + laneCount v) ≤ a) → memRead m a = memRead (tensorMem s d.id) a) ∧
        (∀ id, id ≠ d.id → tensorMem (counted (setTensor moved d.id m) k) id = tensorMem s id)))

/-- Table 9.10, R169, R184, R192, R193, R223, R224. TILE and LAYER run their descriptor in the context: tensors other than
their destination, and what lies outside the write footprints, stay; at the end their counter, if they name one, rises by 1. A
tile reduction writes registers and no tensor. A recomputation writes its vertex's scratch in local SRAM and nothing past it
(the form and the place of its rows are the model's: logs 77, 81). The memories of the state are canonical. -/
def Obligations.TilesAndLayersRun : Prop :=
  ∀ (s : State) (c : CtxId) (w : Word) (x : Context) (img : Image), memoriesOk s = true →
    let signalled (u : State) : State := if plyByte3 w = 0xFF then u else signalCounter u c (plyByte3 w) 1
    let ended (u : State) (y : Context) (k : Nat) : State :=
      let t := signalled (setCtx u c { y with pc := x.pc + 1 })
      markIssued { t with telemetry := { t.telemetry with outOfFootprint := t.telemetry.outOfFootprint + k } } c
    (Issues s c w 0x33 x img →
      let d := nth img.ply.tiles (plySlot w) default
      let l := laneCount d.view
      let a2 := (sreg x (plySrc1 w)).toNat
      let out := tensorAt img.ply d.dst
      (d.op < 8 →
        ∃ m k, k ≤ 1 ∧ exec (.tile c w) s = .next (ended (setTensor s out.id m) x k) ∧
          (out.format = 4 ∨ out.format = 5 ∨ out.format = 6 → ∀ e,
            (e < a2 ∨ a2 + d.rows * l ≤ e ∨ inRange (ctxRanges s x img) 2 d.dst e = false) →
              readElem m out.format e = readElem (tensorMem s out.id) out.format e)) ∧
      (8 ≤ d.op →
        ∃ y k, k ≤ 1 ∧ exec (.tile c w) s = .next (ended s y k) ∧
          y = { x with vregs := y.vregs, tags := y.tags } ∧ (∀ r, r < d.q → vreg y r = vreg x r))) ∧
    (Issues s c w 0x41 x img →
      let d := nth img.ply.layers (plySlot w) default
      let out := tensorAt img.ply d.outSlot
      let first := (sreg x (plyDst w)).toNat
      let place := x.scratchAt + (sreg x (plySrc1 w)).toNat
      ∃ u k, k ≤ 1 ∧ exec (.layer c w) s = .next (ended u x k) ∧
        (d.mode = 0 → SameBut [.tensors] s u ∧ (∀ id, id ≠ out.id → tensorMem u id = tensorMem s id) ∧
          (out.format = 4 ∨ out.format = 5 ∨ out.format = 6 → ∀ e,
            (e < first * d.rowLength ∨ (first + d.rows) * d.rowLength ≤ e ∨
              inRange (ctxRanges s x img) 2 d.outSlot e = false) →
              readElem (tensorMem u out.id) out.format e = readElem (tensorMem s out.id) out.format e)) ∧
        (d.mode ≠ 0 → u = { s with spindles := { s.spindles with sram := u.spindles.sram } } ∧
          (∀ p, p ≠ (c.die, c.spindle) → sramOf u p.1 p.2 = sramOf s p.1 p.2) ∧
          ∀ a, (a < place ∨ place + 4 * d.rows * d.rowLength ≤ a ∨ x.scratchAt + (entryFunc s x).scratch ≤ a) →
            memRead (sramOf u c.die c.spindle) a = memRead (sramOf s c.die c.spindle) a))

/-- R179, R200, R201. TMOVE and PRODUCT offer their command to a queue of the spindle: with room and no offer before it the
command is accepted behind those before it, the queue's count rises by 1 and the context goes on; otherwise the context stalls
with the command and its offer waits behind the earlier ones. When the queue has room it accepts the first offer. R63, R160,
R175, R201, R224, R266. The command at the front of a queue completes: a move copies its elements unchanged where the memories
are canonical, a product writes its rows, a weight-gradient product ends with its last tile; then it leaves the queue and
signals its counter by 1, and what it held back goes on. A command that a debug break holds waits, and so does an array
product whose sliver is not yet tested. -/
def Obligations.QueuesAcceptAndComplete : Prop :=
  (∀ (s : State) (c : CtxId) (w : Word) (x : Context) (img : Image),
    let command (body : CmdBody) : QCmd :=
      { body := body, owner := c, inst := x.inst, ply := img.ply, ranges := ctxRanges s x img,
        units := if x.target = 0 then [] else unitBytes s x, arg1 := (sreg x (plyDst w)).toNat,
        arg2 := (sreg x (plySrc1 w)).toNat, counter := if plyByte3 w = 0xFF then none else some (plyByte3 w), held := false,
        drained := [] }
    let offers (i : Instr) (kind : QueueKind) (depth : Nat) (cmd : QCmd) : Prop :=
      let q : QueueId := { die := c.die, spindle := c.spindle, kind := kind }
      let old := queueAt s q
      let taken := acceptCommand (setCtx s c { x with pc := x.pc + 1 }) q cmd
      (depth ≤ old.cmds.length ∨ old.offers ≠ [] → exec i s = .next (markIssued (setQueue (setCtx s c { x with
        pc := x.pc + 1, state := .stalled, heldCmd := some cmd }) q { old with offers := old.offers ++ [c] }) c)) ∧
      (old.cmds.length < depth → old.offers = [] → exec i s = .next (markIssued taken c) ∧
        (s.spindles.breaks.all Option.isNone = true →
          (queueAt taken q).cmds = old.cmds ++ [cmd] ∧ (queueAt taken q).count = old.count + 1 ∧
          SameBut [.spindles] s taken ∧ ∀ p, p ≠ q → queueAt taken p = queueAt s p))
    (Issues s c w 0x32 x img →
      offers (.tmove c w) .move Constants.moveQueueDepth (command (.move (plySlot w)))) ∧
    (Issues s c w 0x40 x img →
      offers (.product c w) .array Constants.arrayQueueDepth (command (.product (plySlot w)))) ∧
    (∀ (q : QueueId) (d : CtxId) (y : Context) (cmd : QCmd) (later : List CtxId), s.running = true →
      (queueAt s q).offers = d :: later → ctxAt s d = some y → y.state = .stalled → y.heldCmd = some cmd →
      cmdQueue cmd = q.kind → d.die = q.die → d.spindle = q.spindle →
      (queueDepth q.kind ≤ (queueAt s q).cmds.length → exec (.queueAccept q) s = .next s) ∧
      ((queueAt s q).cmds.length < queueDepth q.kind →
        exec (.queueAccept q) s = .next (acceptCommand (setQueue (setCtx s d { y with state := .running, heldCmd := none }) q
          { queueAt s q with offers := later }) q cmd)))) ∧
  (∀ (s : State) (q : QueueId) (k : QCmd) (rest : List QCmd), (queueAt s q).cmds = k :: rest → s.running = true →
    let leave (u : State) : Host.Outcome State Fault Refusal :=
      let popped := setQueue u q { queueAt u q with cmds := rest }
      let signalled := match k.counter with
        | some n => signalCounter popped k.owner n 1
        | none => popped
      .next (releaseHeld (progress signalled) q)
    (k.held = true ∨ testDue s q k = true → exec (.queueCommandComplete q) s = .next s) ∧
    (k.held = false → testDue s q k = false →
      (∀ slot, k.body = .move slot → exec (.queueCommandComplete q) s = leave (runMove s k slot)) ∧
      (∀ slot, k.body = .product slot →
        let p := nth k.ply.products slot default
        (p.arrangement ≠ 2 → exec (.queueCommandComplete q) s = leave (runProduct s q k slot)) ∧
        (p.arrangement = 2 → (∀ b ∈ productBands k p, bandDrained k p.outpos b = true) →
          exec (.queueCommandComplete q) s = leave s) ∧
        (p.arrangement = 2 → (∃ b ∈ productBands k p, bandDrained k p.outpos b = false) →
          exec (.queueCommandComplete q) s = .next s))) ∧
    (memoriesOk s = true → ∀ slot,
      let md := nth k.ply.moves slot default
      let a := tensorAt k.ply md.src
      let b := tensorAt k.ply md.dst
      let m := tensorMem (runMove s k slot) b.id
      (a.format = 4 ∨ a.format = 5 ∨ a.format = 6) → b.format = a.format → a.id ≠ b.id →
        (∀ j, j < md.elements → inRange k.ranges 2 md.dst (k.arg2 + j) = true → readElem m b.format (k.arg2 + j) =
          if inRange k.ranges 1 md.src (k.arg1 + j) then readElem (cmdTensor s k a) a.format (k.arg1 + j) else 0) ∧
        (∀ e, (e < k.arg2 ∨ k.arg2 + md.elements ≤ e ∨ inRange k.ranges 2 md.dst e = false) →
          readElem m b.format e = readElem (tensorMem s b.id) b.format e) ∧
        (∀ id, id ≠ b.id → tensorMem (runMove s k slot) id = tensorMem s id)))

/-- R182, R195, R197, R198, R217. SIGNAL adds to one counter of its spindle, or of a spindle of its co-dispatch group, modulo
2^32 and changes no other; a WAIT goes on when (value - t) modulo 2^32 is below 2^31 and otherwise leaves its context WAITING,
which runs again once the counter meets the target; READCTR reads the value. QUERY answers with a value of the vertex's
instance, and waits where the loss-scale exponent is not yet decided. -/
def Obligations.CountersSignalAndWait : Prop :=
  ∀ (s : State) (c : CtxId) (w : Word) (x : Context) (img : Image),
    let n := plyByte3 w
    let value := counterAt s c n
    let t : Word32 := BitVec.ofNat 32 (sreg x (plyDst w)).toNat
    let met (v t : Word32) : Prop := (v - t).toNat < 2 ^ 31
    let on (y : Context) : Host.Outcome State Fault Refusal := .next (ran s c { y with pc := x.pc + 1 })
    (Issues s c w 0x50 x img →
      let g := signalTarget s c x n
      ∃ u, exec (.signal c w) s = .next u ∧ ctxAt u c = some { x with pc := x.pc + 1 } ∧ SameBut [.spindles] s u ∧
        g.die = c.die ∧ g.spindle ∈ groupSpindles s c x n ∧ (groupSpindles s c x n = [c.spindle] → g.spindle = c.spindle) ∧
        counterAt u g n = counterAt s g n + BitVec.ofNat 32 (w.toNat / 2 ^ 32) ∧
        (∀ (e : CtxId) k, (e.die, e.spindle, k) ≠ (g.die, g.spindle, n) → counterAt u e k = counterAt s e k) ∧
        (∀ e, e ≠ c → ctxAt u e = ctxAt s e)) ∧
    (Issues s c w 0x51 x img →
      (met value t → exec (.wait c w) s = on x) ∧
      (¬ met value t → exec (.wait c w) s = on { x with state := .waiting, waitOn := some (n, t) })) ∧
    (Issues s c w 0x52 x img →
      exec (.readctr c w) s = on { x with sregs := x.sregs.set (plyDst w) (value.setWidth 64) }) ∧
    (Issues s c w 0x70 x img →
      (n ≠ 1 ∨ exponentKnown s x.inst = true →
        ∃ v, exec (.query c w) s = on { x with sregs := x.sregs.set (plyDst w) v } ∧
          (n = 0 → v = BitVec.ofNat 64 (instStep x.inst)) ∧ (n = 2 → v = BitVec.ofNat 64 s.member) ∧
          (n = 3 → v = BitVec.ofNat 64 s.jobSize) ∧ (n = 5 → v = BitVec.ofNat 64 x.units.length) ∧
          (n = 1 → ∀ e, instExponent s x.inst = some e → v = BitVec.ofNat 64 e)) ∧
      (n = 1 → exponentKnown s x.inst = false →
        exec (.query c w) s = .next (ran s c { x with state := .waiting, waitE := true }))) ∧
    (s.running = true → s.spindles.stopped = false → ctxAt s c = some x → x.state = .waiting →
      (x.waitE = true →
        (exponentKnown s x.inst = true → exec (.waitSatisfied c) s = .next (setCtx s c { x with state := .running, waitE := false })) ∧
        (exponentKnown s x.inst = false → exec (.waitSatisfied c) s = .next s)) ∧
      (x.waitE = false → ∀ k u, x.waitOn = some (k, u) →
        (met (counterAt s c k) u → exec (.waitSatisfied c) s = .next (setCtx s c { x with state := .running, waitOn := none })) ∧
        (¬ met (counterAt s c k) u → exec (.waitSatisfied c) s = .next s)))

/-- R194, R216, R217. BR and BRC count TARGET from their own slot; LOOP skips its body for a count of 0 and otherwise opens a
level with the count latched, as many runs remaining and the index 0; the end of a body runs it again while more than one run
remains, else frees the level; a branch out of a body frees its level and those inside it. CALL goes to its subroutine's first
instruction and RET to the instruction after the call. No register changes. -/
def Obligations.ControlFlow : Prop :=
  ∀ (s : State) (c : CtxId) (w : Word) (x : Context) (img : Image),
    let go (y : Context) : Host.Outcome State Fault Refusal := .next (ran s c y)
    let slot := ((x.pc : Int) + (BitVec.ofNat 32 (w.toNat / 2 ^ 32)).toInt).toNat
    let jumped : Context := { x with pc := slot, loops := leaveLoops x.calls.length slot x.loops }
    let imm := w.toNat / 2 ^ 32
    (Issues s c w 0x60 x img → exec (.br c w) s = go jumped) ∧
    (Issues s c w 0x61 x img →
      (sreg x (plyDst w) = 0 → exec (.brc c w) s = go { x with pc := x.pc + 1 }) ∧
      (sreg x (plyDst w) ≠ 0 → exec (.brc c w) s = go jumped)) ∧
    (∀ depth pc l (r : List LoopLevel),
      (leaveLoops depth pc (l :: r) =
        if l.depth = depth ∧ (pc < l.first ∨ l.last ≤ pc) then leaveLoops depth pc r else l :: r) ∧
      (skipLoops depth pc (l :: r) =
        if l.depth = depth ∧ (pc < l.first ∨ l.last < pc) then skipLoops depth pc r else l :: r) ∧
      (l.depth = depth → l.last = pc → dueLevel depth pc [] (l :: r) = some ([], l, r))) ∧
    (Issues s c w 0x62 x img →
      let count := (sreg x (plyDst w)).toNat % 2 ^ 32
      (count = 0 → exec (.loop c w) s = go { x with
        pc := x.pc + 1 + imm, loops := skipLoops x.calls.length (x.pc + 1 + imm) x.loops }) ∧
      (count ≠ 0 → exec (.loop c w) s = go { x with
        pc := x.pc + 1,
        loops :=
          { first := x.pc + 1, last := x.pc + 1 + imm, count := count, remaining := count, index := 0, depth := x.calls.length } ::
            x.loops })) ∧
    (∀ inner l r, s.running = true → s.spindles.stopped = false → ctxAt s c = some x → x.state = .running →
      dueLevel x.calls.length x.pc [] x.loops = some (inner, l, r) →
      (1 < l.remaining → exec (.loopEnd c) s = .next (setCtx s c { x with
        pc := l.first, loops := { l with index := l.index + 1, remaining := l.remaining - 1 } :: r })) ∧
      (l.remaining ≤ 1 → exec (.loopEnd c) s = .next (setCtx s c { x with loops := inner ++ r }))) ∧
    (Issues s c w 0x63 x img → exec (.call c w) s = go { x with
      pc := (funcAt img.ply imm).codeFirst, func := imm, calls := (x.func, x.pc + 1) :: x.calls }) ∧
    (Issues s c w 0x64 x img → ∀ f pc r, x.calls = (f, pc) :: r → exec (.ret c w) s = go { x with
      pc := pc, func := f, calls := r, loops := x.loops.filter (fun l => decide (l.depth ≤ r.length)) })

/-- R139, R181, R184, R185, R199, R259 to R263. A ready vertex that the energy gate of an enabled die lets through starts on
the context that the rule gives, its estimate off the die's balance; a batch of units of an update kernel starts on a free
context. A context starts with its arguments in s0 upwards and its other registers zero, and its scratch holds what was there
before. RETIRE is held while a command that names a counter is outstanding, else the context is free and its energy
reconciled. -/
def Obligations.VerticesStartAndRetire : Prop :=
  ∀ s : State,
    (∀ (i : Inst) (l : Lattice) (v : Nat) (c : CtxId) (img : Image), s.running = true → s.spindles.stopped = false →
      instAt s i.ref = some i → instLattice s i.ref = some l → groupOf l v = [v] → vertexReady s i v = true →
      unitState s (dieUnit c.die) = .on →
      let home := readyOn s c.die
      let queue := if home.isEmpty then (stealable s).take 1 else home
      let x := vertexOf l v
      energyGate s c.die queue i.ref [v] = true → currentImage s x.program = some img →
      let f := funcAt img.ply x.function
      placeVertex s c.die img.ply x.function [v] i.ref = some c →
      ∃ t y, exec (.vertexDispatch i.ref [v] [c]) s = .next t ∧ SameBut [.steps, .tensors, .spindles, .power] s t ∧
        ctxAt t c = some y ∧ y.state = .running ∧ y.inst = i.ref ∧ y.vertex = v ∧ y.pc = f.codeFirst ∧
        y.sregs = (x.args.take f.argWords ++ List.replicate 32 0).take 32 ∧
        y.vregs = List.replicate 32 0 ∧ y.tags = List.replicate 32 0 ∧ y.preds = List.replicate 8 0 ∧ y.loops = [] ∧
        y.reserved = charged x.estimate ∧ scratchPlace s c.die c.spindle f.scratch = some y.scratchAt ∧
        t.power.balance = modifyAt s.power.balance c.die (· - (charged x.estimate : Int)) ∧
        (∀ e, e ≠ c → ctxAt t e = ctxAt s e) ∧ t.spindles.counters = s.spindles.counters ∧
        t.spindles.sram = s.spindles.sram) ∧
    (∀ (target : Nat) (units : List Nat) (c : CtxId) (k : Kernel) (img : Image), s.running = true →
      kernelFor s target = some k → currentImage s k.program = some img → updateGate s (s.steps.c + 1) = true →
      units ≠ [] → allDistinct units = true → (∀ u ∈ units, unitTaken s target u = false) →
      (isTableTarget target = true → units.length ≤ 256 ∧
        ∀ u ∈ units, rowUnitReady s (s.steps.c + 1) (targetTable target) u = true) →
      (isTableTarget target = false → units.length ≤ 16 ∧
        ∃ d, parameterDecl s target = some d ∧ ∀ u ∈ units, blockUnitReady s (s.steps.c + 1) d u = true) →
      unitState s (dieUnit c.die) = .on → ctxFree s c = true → c.ctx < 4 → c.spindle < 64 → c.die < 40 →
      let f := funcAt img.ply k.function
      spindleFits s c.die c.spindle img.ply k.function [] (.step (s.steps.c + 1)) = true →
      ∃ at_, scratchPlace s c.die c.spindle f.scratch = some at_ ∧
      exec (.updateKernelInvocation target units c) s = .next (startCtx s c
        { state := .running, inst := .step (s.steps.c + 1), vertex := 0, image := img.slot, func := k.function,
          entry := k.function, pc := f.codeFirst, calls := [], loops := [], sregs := List.replicate 32 0,
          vregs := List.replicate 32 0, tags := List.replicate 32 0, preds := List.replicate 8 0, waitOn := none,
          waitE := false, heldCmd := none, retiring := false, reserved := 0, metered := 0, units := units, target := target,
          staged := [], scratchAt := at_ })) ∧
    (∀ (c : CtxId) (w : Word) (x : Context) (img : Image), Issues s c w 0x6F x img →
      (outstanding s c = true → exec (.retire c w) s = .next (ran s c { x with retiring := true })) ∧
      (outstanding s c = false → x.target = 0 → ∀ i, instAt s x.inst = some i →
        let freed : State := { s with
          spindles := { s.spindles with contexts := aDel s.spindles.contexts c, idle := aPut s.spindles.idle c x },
          power := { s.power with balance := modifyAt s.power.balance c.die (· + ((x.reserved : Int) - (x.metered : Int))) } }
        exec (.retire c w) s = .next (markIssued (progress (freeDrained (setInst freed { i with
          running := i.running.filter (· != x.vertex), retired := i.retired ++ [x.vertex] }))) c)) ∧
      (outstanding s c = true ↔ ∃ q ∈ s.spindles.queues, ∃ k ∈ q.2.cmds, k.owner = c ∧ k.counter ≠ none))
end

