-- ==== Sys2Proof/Laws/State.lean ====
section
/-! SUPPORT. What each update of State changes and leaves: one lemma per field and update. -/

namespace Sys2Proof.Machine

@[simp] theorem State.setSupply_pending (s : State) (v : Supply) : (s.setSupply v).pending = s.pending := rfl
@[simp] theorem State.setSupply_supply (s : State) (v : Supply) : (s.setSupply v).supply = v := rfl
@[simp] theorem State.setSupply_regs (s : State) (v : Supply) : (s.setSupply v).regs = s.regs := rfl
@[simp] theorem State.setSupply_rings (s : State) (v : Supply) : (s.setSupply v).rings = s.rings := rfl
@[simp] theorem State.setSupply_cfg (s : State) (v : Supply) : (s.setSupply v).cfg = s.cfg := rfl
@[simp] theorem State.setSupply_steps (s : State) (v : Supply) : (s.setSupply v).steps = s.steps := rfl
@[simp] theorem State.setSupply_tables (s : State) (v : Supply) : (s.setSupply v).tables = s.tables := rfl
@[simp] theorem State.setSupply_programs (s : State) (v : Supply) : (s.setSupply v).programs = s.programs := rfl
@[simp] theorem State.setSupply_lattices (s : State) (v : Supply) : (s.setSupply v).lattices = s.lattices := rfl
@[simp] theorem State.setSupply_window (s : State) (v : Supply) : (s.setSupply v).window = s.window := rfl
@[simp] theorem State.setSupply_tensors (s : State) (v : Supply) : (s.setSupply v).tensors = s.tensors := rfl
@[simp] theorem State.setSupply_spindles (s : State) (v : Supply) : (s.setSupply v).spindles = s.spindles := rfl
@[simp] theorem State.setSupply_owners (s : State) (v : Supply) : (s.setSupply v).owners = s.owners := rfl
@[simp] theorem State.setSupply_dense (s : State) (v : Supply) : (s.setSupply v).dense = s.dense := rfl
@[simp] theorem State.setSupply_links (s : State) (v : Supply) : (s.setSupply v).links = s.links := rfl
@[simp] theorem State.setSupply_power (s : State) (v : Supply) : (s.setSupply v).power = s.power := rfl
@[simp] theorem State.setSupply_securing (s : State) (v : Supply) : (s.setSupply v).securing = s.securing := rfl
@[simp] theorem State.setSupply_outputs (s : State) (v : Supply) : (s.setSupply v).outputs = s.outputs := rfl
@[simp] theorem State.setSupply_security (s : State) (v : Supply) : (s.setSupply v).security = s.security := rfl
@[simp] theorem State.setSupply_telemetry (s : State) (v : Supply) : (s.setSupply v).telemetry = s.telemetry := rfl
@[simp] theorem State.setSupply_sequences (s : State) (v : Supply) : (s.setSupply v).sequences = s.sequences := rfl
@[simp] theorem State.setSupply_freeCount (s : State) (v : Supply) : (s.setSupply v).freeCount = s.freeCount := rfl
@[simp] theorem State.setRegs_pending (s : State) (v : Regs) : (s.setRegs v).pending = s.pending := rfl
@[simp] theorem State.setRegs_supply (s : State) (v : Regs) : (s.setRegs v).supply = s.supply := rfl
@[simp] theorem State.setRegs_regs (s : State) (v : Regs) : (s.setRegs v).regs = v := rfl
@[simp] theorem State.setRegs_rings (s : State) (v : Regs) : (s.setRegs v).rings = s.rings := rfl
@[simp] theorem State.setRegs_cfg (s : State) (v : Regs) : (s.setRegs v).cfg = s.cfg := rfl
@[simp] theorem State.setRegs_steps (s : State) (v : Regs) : (s.setRegs v).steps = s.steps := rfl
@[simp] theorem State.setRegs_tables (s : State) (v : Regs) : (s.setRegs v).tables = s.tables := rfl
@[simp] theorem State.setRegs_programs (s : State) (v : Regs) : (s.setRegs v).programs = s.programs := rfl
@[simp] theorem State.setRegs_lattices (s : State) (v : Regs) : (s.setRegs v).lattices = s.lattices := rfl
@[simp] theorem State.setRegs_window (s : State) (v : Regs) : (s.setRegs v).window = s.window := rfl
@[simp] theorem State.setRegs_tensors (s : State) (v : Regs) : (s.setRegs v).tensors = s.tensors := rfl
@[simp] theorem State.setRegs_spindles (s : State) (v : Regs) : (s.setRegs v).spindles = s.spindles := rfl
@[simp] theorem State.setRegs_owners (s : State) (v : Regs) : (s.setRegs v).owners = s.owners := rfl
@[simp] theorem State.setRegs_dense (s : State) (v : Regs) : (s.setRegs v).dense = s.dense := rfl
@[simp] theorem State.setRegs_links (s : State) (v : Regs) : (s.setRegs v).links = s.links := rfl
@[simp] theorem State.setRegs_power (s : State) (v : Regs) : (s.setRegs v).power = s.power := rfl
@[simp] theorem State.setRegs_securing (s : State) (v : Regs) : (s.setRegs v).securing = s.securing := rfl
@[simp] theorem State.setRegs_outputs (s : State) (v : Regs) : (s.setRegs v).outputs = s.outputs := rfl
@[simp] theorem State.setRegs_security (s : State) (v : Regs) : (s.setRegs v).security = s.security := rfl
@[simp] theorem State.setRegs_telemetry (s : State) (v : Regs) : (s.setRegs v).telemetry = s.telemetry := rfl
@[simp] theorem State.setRegs_sequences (s : State) (v : Regs) : (s.setRegs v).sequences = s.sequences := rfl
@[simp] theorem State.setRegs_freeCount (s : State) (v : Regs) : (s.setRegs v).freeCount = s.freeCount := rfl
@[simp] theorem State.setRings_pending (s : State) (v : Rings) : (s.setRings v).pending = s.pending := rfl
@[simp] theorem State.setRings_supply (s : State) (v : Rings) : (s.setRings v).supply = s.supply := rfl
@[simp] theorem State.setRings_regs (s : State) (v : Rings) : (s.setRings v).regs = s.regs := rfl
@[simp] theorem State.setRings_rings (s : State) (v : Rings) : (s.setRings v).rings = v := rfl
@[simp] theorem State.setRings_cfg (s : State) (v : Rings) : (s.setRings v).cfg = s.cfg := rfl
@[simp] theorem State.setRings_steps (s : State) (v : Rings) : (s.setRings v).steps = s.steps := rfl
@[simp] theorem State.setRings_tables (s : State) (v : Rings) : (s.setRings v).tables = s.tables := rfl
@[simp] theorem State.setRings_programs (s : State) (v : Rings) : (s.setRings v).programs = s.programs := rfl
@[simp] theorem State.setRings_lattices (s : State) (v : Rings) : (s.setRings v).lattices = s.lattices := rfl
@[simp] theorem State.setRings_window (s : State) (v : Rings) : (s.setRings v).window = s.window := rfl
@[simp] theorem State.setRings_tensors (s : State) (v : Rings) : (s.setRings v).tensors = s.tensors := rfl
@[simp] theorem State.setRings_spindles (s : State) (v : Rings) : (s.setRings v).spindles = s.spindles := rfl
@[simp] theorem State.setRings_owners (s : State) (v : Rings) : (s.setRings v).owners = s.owners := rfl
@[simp] theorem State.setRings_dense (s : State) (v : Rings) : (s.setRings v).dense = s.dense := rfl
@[simp] theorem State.setRings_links (s : State) (v : Rings) : (s.setRings v).links = s.links := rfl
@[simp] theorem State.setRings_power (s : State) (v : Rings) : (s.setRings v).power = s.power := rfl
@[simp] theorem State.setRings_securing (s : State) (v : Rings) : (s.setRings v).securing = s.securing := rfl
@[simp] theorem State.setRings_outputs (s : State) (v : Rings) : (s.setRings v).outputs = s.outputs := rfl
@[simp] theorem State.setRings_security (s : State) (v : Rings) : (s.setRings v).security = s.security := rfl
@[simp] theorem State.setRings_telemetry (s : State) (v : Rings) : (s.setRings v).telemetry = s.telemetry := rfl
@[simp] theorem State.setRings_sequences (s : State) (v : Rings) : (s.setRings v).sequences = s.sequences := rfl
@[simp] theorem State.setRings_freeCount (s : State) (v : Rings) : (s.setRings v).freeCount = s.freeCount := rfl
@[simp] theorem State.setCfg_pending (s : State) (v : Config) : (s.setCfg v).pending = s.pending := rfl
@[simp] theorem State.setCfg_supply (s : State) (v : Config) : (s.setCfg v).supply = s.supply := rfl
@[simp] theorem State.setCfg_regs (s : State) (v : Config) : (s.setCfg v).regs = s.regs := rfl
@[simp] theorem State.setCfg_rings (s : State) (v : Config) : (s.setCfg v).rings = s.rings := rfl
@[simp] theorem State.setCfg_cfg (s : State) (v : Config) : (s.setCfg v).cfg = v := rfl
@[simp] theorem State.setCfg_steps (s : State) (v : Config) : (s.setCfg v).steps = s.steps := rfl
@[simp] theorem State.setCfg_tables (s : State) (v : Config) : (s.setCfg v).tables = s.tables := rfl
@[simp] theorem State.setCfg_programs (s : State) (v : Config) : (s.setCfg v).programs = s.programs := rfl
@[simp] theorem State.setCfg_lattices (s : State) (v : Config) : (s.setCfg v).lattices = s.lattices := rfl
@[simp] theorem State.setCfg_window (s : State) (v : Config) : (s.setCfg v).window = s.window := rfl
@[simp] theorem State.setCfg_tensors (s : State) (v : Config) : (s.setCfg v).tensors = s.tensors := rfl
@[simp] theorem State.setCfg_spindles (s : State) (v : Config) : (s.setCfg v).spindles = s.spindles := rfl
@[simp] theorem State.setCfg_owners (s : State) (v : Config) : (s.setCfg v).owners = s.owners := rfl
@[simp] theorem State.setCfg_dense (s : State) (v : Config) : (s.setCfg v).dense = s.dense := rfl
@[simp] theorem State.setCfg_links (s : State) (v : Config) : (s.setCfg v).links = s.links := rfl
@[simp] theorem State.setCfg_power (s : State) (v : Config) : (s.setCfg v).power = s.power := rfl
@[simp] theorem State.setCfg_securing (s : State) (v : Config) : (s.setCfg v).securing = s.securing := rfl
@[simp] theorem State.setCfg_outputs (s : State) (v : Config) : (s.setCfg v).outputs = s.outputs := rfl
@[simp] theorem State.setCfg_security (s : State) (v : Config) : (s.setCfg v).security = s.security := rfl
@[simp] theorem State.setCfg_telemetry (s : State) (v : Config) : (s.setCfg v).telemetry = s.telemetry := rfl
@[simp] theorem State.setCfg_sequences (s : State) (v : Config) : (s.setCfg v).sequences = s.sequences := rfl
@[simp] theorem State.setCfg_freeCount (s : State) (v : Config) : (s.setCfg v).freeCount = s.freeCount := rfl
@[simp] theorem State.setSteps_pending (s : State) (v : Steps) : (s.setSteps v).pending = s.pending := rfl
@[simp] theorem State.setSteps_supply (s : State) (v : Steps) : (s.setSteps v).supply = s.supply := rfl
@[simp] theorem State.setSteps_regs (s : State) (v : Steps) : (s.setSteps v).regs = s.regs := rfl
@[simp] theorem State.setSteps_rings (s : State) (v : Steps) : (s.setSteps v).rings = s.rings := rfl
@[simp] theorem State.setSteps_cfg (s : State) (v : Steps) : (s.setSteps v).cfg = s.cfg := rfl
@[simp] theorem State.setSteps_steps (s : State) (v : Steps) : (s.setSteps v).steps = v := rfl
@[simp] theorem State.setSteps_tables (s : State) (v : Steps) : (s.setSteps v).tables = s.tables := rfl
@[simp] theorem State.setSteps_programs (s : State) (v : Steps) : (s.setSteps v).programs = s.programs := rfl
@[simp] theorem State.setSteps_lattices (s : State) (v : Steps) : (s.setSteps v).lattices = s.lattices := rfl
@[simp] theorem State.setSteps_window (s : State) (v : Steps) : (s.setSteps v).window = s.window := rfl
@[simp] theorem State.setSteps_tensors (s : State) (v : Steps) : (s.setSteps v).tensors = s.tensors := rfl
@[simp] theorem State.setSteps_spindles (s : State) (v : Steps) : (s.setSteps v).spindles = s.spindles := rfl
@[simp] theorem State.setSteps_owners (s : State) (v : Steps) : (s.setSteps v).owners = s.owners := rfl
@[simp] theorem State.setSteps_dense (s : State) (v : Steps) : (s.setSteps v).dense = s.dense := rfl
@[simp] theorem State.setSteps_links (s : State) (v : Steps) : (s.setSteps v).links = s.links := rfl
@[simp] theorem State.setSteps_power (s : State) (v : Steps) : (s.setSteps v).power = s.power := rfl
@[simp] theorem State.setSteps_securing (s : State) (v : Steps) : (s.setSteps v).securing = s.securing := rfl
@[simp] theorem State.setSteps_outputs (s : State) (v : Steps) : (s.setSteps v).outputs = s.outputs := rfl
@[simp] theorem State.setSteps_security (s : State) (v : Steps) : (s.setSteps v).security = s.security := rfl
@[simp] theorem State.setSteps_telemetry (s : State) (v : Steps) : (s.setSteps v).telemetry = s.telemetry := rfl
@[simp] theorem State.setSteps_sequences (s : State) (v : Steps) : (s.setSteps v).sequences = s.sequences := rfl
@[simp] theorem State.setSteps_freeCount (s : State) (v : Steps) : (s.setSteps v).freeCount = s.freeCount := rfl
@[simp] theorem State.setTables_pending (s : State) (v : Tables) : (s.setTables v).pending = s.pending := rfl
@[simp] theorem State.setTables_supply (s : State) (v : Tables) : (s.setTables v).supply = s.supply := rfl
@[simp] theorem State.setTables_regs (s : State) (v : Tables) : (s.setTables v).regs = s.regs := rfl
@[simp] theorem State.setTables_rings (s : State) (v : Tables) : (s.setTables v).rings = s.rings := rfl
@[simp] theorem State.setTables_cfg (s : State) (v : Tables) : (s.setTables v).cfg = s.cfg := rfl
@[simp] theorem State.setTables_steps (s : State) (v : Tables) : (s.setTables v).steps = s.steps := rfl
@[simp] theorem State.setTables_tables (s : State) (v : Tables) : (s.setTables v).tables = v := rfl
@[simp] theorem State.setTables_programs (s : State) (v : Tables) : (s.setTables v).programs = s.programs := rfl
@[simp] theorem State.setTables_lattices (s : State) (v : Tables) : (s.setTables v).lattices = s.lattices := rfl
@[simp] theorem State.setTables_window (s : State) (v : Tables) : (s.setTables v).window = s.window := rfl
@[simp] theorem State.setTables_tensors (s : State) (v : Tables) : (s.setTables v).tensors = s.tensors := rfl
@[simp] theorem State.setTables_spindles (s : State) (v : Tables) : (s.setTables v).spindles = s.spindles := rfl
@[simp] theorem State.setTables_owners (s : State) (v : Tables) : (s.setTables v).owners = s.owners := rfl
@[simp] theorem State.setTables_dense (s : State) (v : Tables) : (s.setTables v).dense = s.dense := rfl
@[simp] theorem State.setTables_links (s : State) (v : Tables) : (s.setTables v).links = s.links := rfl
@[simp] theorem State.setTables_power (s : State) (v : Tables) : (s.setTables v).power = s.power := rfl
@[simp] theorem State.setTables_securing (s : State) (v : Tables) : (s.setTables v).securing = s.securing := rfl
@[simp] theorem State.setTables_outputs (s : State) (v : Tables) : (s.setTables v).outputs = s.outputs := rfl
@[simp] theorem State.setTables_security (s : State) (v : Tables) : (s.setTables v).security = s.security := rfl
@[simp] theorem State.setTables_telemetry (s : State) (v : Tables) : (s.setTables v).telemetry = s.telemetry := rfl
@[simp] theorem State.setTables_sequences (s : State) (v : Tables) : (s.setTables v).sequences = s.sequences := rfl
@[simp] theorem State.setTables_freeCount (s : State) (v : Tables) : (s.setTables v).freeCount = s.freeCount := rfl
@[simp] theorem State.setPrograms_pending (s : State) (v : Programs) : (s.setPrograms v).pending = s.pending := rfl
@[simp] theorem State.setPrograms_supply (s : State) (v : Programs) : (s.setPrograms v).supply = s.supply := rfl
@[simp] theorem State.setPrograms_regs (s : State) (v : Programs) : (s.setPrograms v).regs = s.regs := rfl
@[simp] theorem State.setPrograms_rings (s : State) (v : Programs) : (s.setPrograms v).rings = s.rings := rfl
@[simp] theorem State.setPrograms_cfg (s : State) (v : Programs) : (s.setPrograms v).cfg = s.cfg := rfl
@[simp] theorem State.setPrograms_steps (s : State) (v : Programs) : (s.setPrograms v).steps = s.steps := rfl
@[simp] theorem State.setPrograms_tables (s : State) (v : Programs) : (s.setPrograms v).tables = s.tables := rfl
@[simp] theorem State.setPrograms_programs (s : State) (v : Programs) : (s.setPrograms v).programs = v := rfl
@[simp] theorem State.setPrograms_lattices (s : State) (v : Programs) : (s.setPrograms v).lattices = s.lattices := rfl
@[simp] theorem State.setPrograms_window (s : State) (v : Programs) : (s.setPrograms v).window = s.window := rfl
@[simp] theorem State.setPrograms_tensors (s : State) (v : Programs) : (s.setPrograms v).tensors = s.tensors := rfl
@[simp] theorem State.setPrograms_spindles (s : State) (v : Programs) : (s.setPrograms v).spindles = s.spindles := rfl
@[simp] theorem State.setPrograms_owners (s : State) (v : Programs) : (s.setPrograms v).owners = s.owners := rfl
@[simp] theorem State.setPrograms_dense (s : State) (v : Programs) : (s.setPrograms v).dense = s.dense := rfl
@[simp] theorem State.setPrograms_links (s : State) (v : Programs) : (s.setPrograms v).links = s.links := rfl
@[simp] theorem State.setPrograms_power (s : State) (v : Programs) : (s.setPrograms v).power = s.power := rfl
@[simp] theorem State.setPrograms_securing (s : State) (v : Programs) : (s.setPrograms v).securing = s.securing := rfl
@[simp] theorem State.setPrograms_outputs (s : State) (v : Programs) : (s.setPrograms v).outputs = s.outputs := rfl
@[simp] theorem State.setPrograms_security (s : State) (v : Programs) : (s.setPrograms v).security = s.security := rfl
@[simp] theorem State.setPrograms_telemetry (s : State) (v : Programs) : (s.setPrograms v).telemetry = s.telemetry := rfl
@[simp] theorem State.setPrograms_sequences (s : State) (v : Programs) : (s.setPrograms v).sequences = s.sequences := rfl
@[simp] theorem State.setPrograms_freeCount (s : State) (v : Programs) : (s.setPrograms v).freeCount = s.freeCount := rfl
@[simp] theorem State.setLattices_pending (s : State) (v : List Lattice) : (s.setLattices v).pending = s.pending := rfl
@[simp] theorem State.setLattices_supply (s : State) (v : List Lattice) : (s.setLattices v).supply = s.supply := rfl
@[simp] theorem State.setLattices_regs (s : State) (v : List Lattice) : (s.setLattices v).regs = s.regs := rfl
@[simp] theorem State.setLattices_rings (s : State) (v : List Lattice) : (s.setLattices v).rings = s.rings := rfl
@[simp] theorem State.setLattices_cfg (s : State) (v : List Lattice) : (s.setLattices v).cfg = s.cfg := rfl
@[simp] theorem State.setLattices_steps (s : State) (v : List Lattice) : (s.setLattices v).steps = s.steps := rfl
@[simp] theorem State.setLattices_tables (s : State) (v : List Lattice) : (s.setLattices v).tables = s.tables := rfl
@[simp] theorem State.setLattices_programs (s : State) (v : List Lattice) : (s.setLattices v).programs = s.programs := rfl
@[simp] theorem State.setLattices_lattices (s : State) (v : List Lattice) : (s.setLattices v).lattices = v := rfl
@[simp] theorem State.setLattices_window (s : State) (v : List Lattice) : (s.setLattices v).window = s.window := rfl
@[simp] theorem State.setLattices_tensors (s : State) (v : List Lattice) : (s.setLattices v).tensors = s.tensors := rfl
@[simp] theorem State.setLattices_spindles (s : State) (v : List Lattice) : (s.setLattices v).spindles = s.spindles := rfl
@[simp] theorem State.setLattices_owners (s : State) (v : List Lattice) : (s.setLattices v).owners = s.owners := rfl
@[simp] theorem State.setLattices_dense (s : State) (v : List Lattice) : (s.setLattices v).dense = s.dense := rfl
@[simp] theorem State.setLattices_links (s : State) (v : List Lattice) : (s.setLattices v).links = s.links := rfl
@[simp] theorem State.setLattices_power (s : State) (v : List Lattice) : (s.setLattices v).power = s.power := rfl
@[simp] theorem State.setLattices_securing (s : State) (v : List Lattice) : (s.setLattices v).securing = s.securing := rfl
@[simp] theorem State.setLattices_outputs (s : State) (v : List Lattice) : (s.setLattices v).outputs = s.outputs := rfl
@[simp] theorem State.setLattices_security (s : State) (v : List Lattice) : (s.setLattices v).security = s.security := rfl
@[simp] theorem State.setLattices_telemetry (s : State) (v : List Lattice) : (s.setLattices v).telemetry = s.telemetry := rfl
@[simp] theorem State.setLattices_sequences (s : State) (v : List Lattice) : (s.setLattices v).sequences = s.sequences := rfl
@[simp] theorem State.setLattices_freeCount (s : State) (v : List Lattice) : (s.setLattices v).freeCount = s.freeCount := rfl
@[simp] theorem State.setWindow_pending (s : State) (v : Mem) : (s.setWindow v).pending = s.pending := rfl
@[simp] theorem State.setWindow_supply (s : State) (v : Mem) : (s.setWindow v).supply = s.supply := rfl
@[simp] theorem State.setWindow_regs (s : State) (v : Mem) : (s.setWindow v).regs = s.regs := rfl
@[simp] theorem State.setWindow_rings (s : State) (v : Mem) : (s.setWindow v).rings = s.rings := rfl
@[simp] theorem State.setWindow_cfg (s : State) (v : Mem) : (s.setWindow v).cfg = s.cfg := rfl
@[simp] theorem State.setWindow_steps (s : State) (v : Mem) : (s.setWindow v).steps = s.steps := rfl
@[simp] theorem State.setWindow_tables (s : State) (v : Mem) : (s.setWindow v).tables = s.tables := rfl
@[simp] theorem State.setWindow_programs (s : State) (v : Mem) : (s.setWindow v).programs = s.programs := rfl
@[simp] theorem State.setWindow_lattices (s : State) (v : Mem) : (s.setWindow v).lattices = s.lattices := rfl
@[simp] theorem State.setWindow_window (s : State) (v : Mem) : (s.setWindow v).window = v := rfl
@[simp] theorem State.setWindow_tensors (s : State) (v : Mem) : (s.setWindow v).tensors = s.tensors := rfl
@[simp] theorem State.setWindow_spindles (s : State) (v : Mem) : (s.setWindow v).spindles = s.spindles := rfl
@[simp] theorem State.setWindow_owners (s : State) (v : Mem) : (s.setWindow v).owners = s.owners := rfl
@[simp] theorem State.setWindow_dense (s : State) (v : Mem) : (s.setWindow v).dense = s.dense := rfl
@[simp] theorem State.setWindow_links (s : State) (v : Mem) : (s.setWindow v).links = s.links := rfl
@[simp] theorem State.setWindow_power (s : State) (v : Mem) : (s.setWindow v).power = s.power := rfl
@[simp] theorem State.setWindow_securing (s : State) (v : Mem) : (s.setWindow v).securing = s.securing := rfl
@[simp] theorem State.setWindow_outputs (s : State) (v : Mem) : (s.setWindow v).outputs = s.outputs := rfl
@[simp] theorem State.setWindow_security (s : State) (v : Mem) : (s.setWindow v).security = s.security := rfl
@[simp] theorem State.setWindow_telemetry (s : State) (v : Mem) : (s.setWindow v).telemetry = s.telemetry := rfl
@[simp] theorem State.setWindow_sequences (s : State) (v : Mem) : (s.setWindow v).sequences = s.sequences := rfl
@[simp] theorem State.setWindow_freeCount (s : State) (v : Mem) : (s.setWindow v).freeCount = s.freeCount := rfl
@[simp] theorem State.setTensors_pending (s : State) (v : Assoc Nat Mem) : (s.setTensors v).pending = s.pending := rfl
@[simp] theorem State.setTensors_supply (s : State) (v : Assoc Nat Mem) : (s.setTensors v).supply = s.supply := rfl
@[simp] theorem State.setTensors_regs (s : State) (v : Assoc Nat Mem) : (s.setTensors v).regs = s.regs := rfl
@[simp] theorem State.setTensors_rings (s : State) (v : Assoc Nat Mem) : (s.setTensors v).rings = s.rings := rfl
@[simp] theorem State.setTensors_cfg (s : State) (v : Assoc Nat Mem) : (s.setTensors v).cfg = s.cfg := rfl
@[simp] theorem State.setTensors_steps (s : State) (v : Assoc Nat Mem) : (s.setTensors v).steps = s.steps := rfl
@[simp] theorem State.setTensors_tables (s : State) (v : Assoc Nat Mem) : (s.setTensors v).tables = s.tables := rfl
@[simp] theorem State.setTensors_programs (s : State) (v : Assoc Nat Mem) : (s.setTensors v).programs = s.programs := rfl
@[simp] theorem State.setTensors_lattices (s : State) (v : Assoc Nat Mem) : (s.setTensors v).lattices = s.lattices := rfl
@[simp] theorem State.setTensors_window (s : State) (v : Assoc Nat Mem) : (s.setTensors v).window = s.window := rfl
@[simp] theorem State.setTensors_tensors (s : State) (v : Assoc Nat Mem) : (s.setTensors v).tensors = v := rfl
@[simp] theorem State.setTensors_spindles (s : State) (v : Assoc Nat Mem) : (s.setTensors v).spindles = s.spindles := rfl
@[simp] theorem State.setTensors_owners (s : State) (v : Assoc Nat Mem) : (s.setTensors v).owners = s.owners := rfl
@[simp] theorem State.setTensors_dense (s : State) (v : Assoc Nat Mem) : (s.setTensors v).dense = s.dense := rfl
@[simp] theorem State.setTensors_links (s : State) (v : Assoc Nat Mem) : (s.setTensors v).links = s.links := rfl
@[simp] theorem State.setTensors_power (s : State) (v : Assoc Nat Mem) : (s.setTensors v).power = s.power := rfl
@[simp] theorem State.setTensors_securing (s : State) (v : Assoc Nat Mem) : (s.setTensors v).securing = s.securing := rfl
@[simp] theorem State.setTensors_outputs (s : State) (v : Assoc Nat Mem) : (s.setTensors v).outputs = s.outputs := rfl
@[simp] theorem State.setTensors_security (s : State) (v : Assoc Nat Mem) : (s.setTensors v).security = s.security := rfl
@[simp] theorem State.setTensors_telemetry (s : State) (v : Assoc Nat Mem) : (s.setTensors v).telemetry = s.telemetry := rfl
@[simp] theorem State.setTensors_sequences (s : State) (v : Assoc Nat Mem) : (s.setTensors v).sequences = s.sequences := rfl
@[simp] theorem State.setTensors_freeCount (s : State) (v : Assoc Nat Mem) : (s.setTensors v).freeCount = s.freeCount := rfl
@[simp] theorem State.setSpindles_pending (s : State) (v : Spindles) : (s.setSpindles v).pending = s.pending := rfl
@[simp] theorem State.setSpindles_supply (s : State) (v : Spindles) : (s.setSpindles v).supply = s.supply := rfl
@[simp] theorem State.setSpindles_regs (s : State) (v : Spindles) : (s.setSpindles v).regs = s.regs := rfl
@[simp] theorem State.setSpindles_rings (s : State) (v : Spindles) : (s.setSpindles v).rings = s.rings := rfl
@[simp] theorem State.setSpindles_cfg (s : State) (v : Spindles) : (s.setSpindles v).cfg = s.cfg := rfl
@[simp] theorem State.setSpindles_steps (s : State) (v : Spindles) : (s.setSpindles v).steps = s.steps := rfl
@[simp] theorem State.setSpindles_tables (s : State) (v : Spindles) : (s.setSpindles v).tables = s.tables := rfl
@[simp] theorem State.setSpindles_programs (s : State) (v : Spindles) : (s.setSpindles v).programs = s.programs := rfl
@[simp] theorem State.setSpindles_lattices (s : State) (v : Spindles) : (s.setSpindles v).lattices = s.lattices := rfl
@[simp] theorem State.setSpindles_window (s : State) (v : Spindles) : (s.setSpindles v).window = s.window := rfl
@[simp] theorem State.setSpindles_tensors (s : State) (v : Spindles) : (s.setSpindles v).tensors = s.tensors := rfl
@[simp] theorem State.setSpindles_spindles (s : State) (v : Spindles) : (s.setSpindles v).spindles = v := rfl
@[simp] theorem State.setSpindles_owners (s : State) (v : Spindles) : (s.setSpindles v).owners = s.owners := rfl
@[simp] theorem State.setSpindles_dense (s : State) (v : Spindles) : (s.setSpindles v).dense = s.dense := rfl
@[simp] theorem State.setSpindles_links (s : State) (v : Spindles) : (s.setSpindles v).links = s.links := rfl
@[simp] theorem State.setSpindles_power (s : State) (v : Spindles) : (s.setSpindles v).power = s.power := rfl
@[simp] theorem State.setSpindles_securing (s : State) (v : Spindles) : (s.setSpindles v).securing = s.securing := rfl
@[simp] theorem State.setSpindles_outputs (s : State) (v : Spindles) : (s.setSpindles v).outputs = s.outputs := rfl
@[simp] theorem State.setSpindles_security (s : State) (v : Spindles) : (s.setSpindles v).security = s.security := rfl
@[simp] theorem State.setSpindles_telemetry (s : State) (v : Spindles) : (s.setSpindles v).telemetry = s.telemetry := rfl
@[simp] theorem State.setSpindles_sequences (s : State) (v : Spindles) : (s.setSpindles v).sequences = s.sequences := rfl
@[simp] theorem State.setSpindles_freeCount (s : State) (v : Spindles) : (s.setSpindles v).freeCount = s.freeCount := rfl
@[simp] theorem State.setOwners_pending (s : State) (v : Owners) : (s.setOwners v).pending = s.pending := rfl
@[simp] theorem State.setOwners_supply (s : State) (v : Owners) : (s.setOwners v).supply = s.supply := rfl
@[simp] theorem State.setOwners_regs (s : State) (v : Owners) : (s.setOwners v).regs = s.regs := rfl
@[simp] theorem State.setOwners_rings (s : State) (v : Owners) : (s.setOwners v).rings = s.rings := rfl
@[simp] theorem State.setOwners_cfg (s : State) (v : Owners) : (s.setOwners v).cfg = s.cfg := rfl
@[simp] theorem State.setOwners_steps (s : State) (v : Owners) : (s.setOwners v).steps = s.steps := rfl
@[simp] theorem State.setOwners_tables (s : State) (v : Owners) : (s.setOwners v).tables = s.tables := rfl
@[simp] theorem State.setOwners_programs (s : State) (v : Owners) : (s.setOwners v).programs = s.programs := rfl
@[simp] theorem State.setOwners_lattices (s : State) (v : Owners) : (s.setOwners v).lattices = s.lattices := rfl
@[simp] theorem State.setOwners_window (s : State) (v : Owners) : (s.setOwners v).window = s.window := rfl
@[simp] theorem State.setOwners_tensors (s : State) (v : Owners) : (s.setOwners v).tensors = s.tensors := rfl
@[simp] theorem State.setOwners_spindles (s : State) (v : Owners) : (s.setOwners v).spindles = s.spindles := rfl
@[simp] theorem State.setOwners_owners (s : State) (v : Owners) : (s.setOwners v).owners = v := rfl
@[simp] theorem State.setOwners_dense (s : State) (v : Owners) : (s.setOwners v).dense = s.dense := rfl
@[simp] theorem State.setOwners_links (s : State) (v : Owners) : (s.setOwners v).links = s.links := rfl
@[simp] theorem State.setOwners_power (s : State) (v : Owners) : (s.setOwners v).power = s.power := rfl
@[simp] theorem State.setOwners_securing (s : State) (v : Owners) : (s.setOwners v).securing = s.securing := rfl
@[simp] theorem State.setOwners_outputs (s : State) (v : Owners) : (s.setOwners v).outputs = s.outputs := rfl
@[simp] theorem State.setOwners_security (s : State) (v : Owners) : (s.setOwners v).security = s.security := rfl
@[simp] theorem State.setOwners_telemetry (s : State) (v : Owners) : (s.setOwners v).telemetry = s.telemetry := rfl
@[simp] theorem State.setOwners_sequences (s : State) (v : Owners) : (s.setOwners v).sequences = s.sequences := rfl
@[simp] theorem State.setOwners_freeCount (s : State) (v : Owners) : (s.setOwners v).freeCount = s.freeCount := rfl
@[simp] theorem State.setDense_pending (s : State) (v : Dense) : (s.setDense v).pending = s.pending := rfl
@[simp] theorem State.setDense_supply (s : State) (v : Dense) : (s.setDense v).supply = s.supply := rfl
@[simp] theorem State.setDense_regs (s : State) (v : Dense) : (s.setDense v).regs = s.regs := rfl
@[simp] theorem State.setDense_rings (s : State) (v : Dense) : (s.setDense v).rings = s.rings := rfl
@[simp] theorem State.setDense_cfg (s : State) (v : Dense) : (s.setDense v).cfg = s.cfg := rfl
@[simp] theorem State.setDense_steps (s : State) (v : Dense) : (s.setDense v).steps = s.steps := rfl
@[simp] theorem State.setDense_tables (s : State) (v : Dense) : (s.setDense v).tables = s.tables := rfl
@[simp] theorem State.setDense_programs (s : State) (v : Dense) : (s.setDense v).programs = s.programs := rfl
@[simp] theorem State.setDense_lattices (s : State) (v : Dense) : (s.setDense v).lattices = s.lattices := rfl
@[simp] theorem State.setDense_window (s : State) (v : Dense) : (s.setDense v).window = s.window := rfl
@[simp] theorem State.setDense_tensors (s : State) (v : Dense) : (s.setDense v).tensors = s.tensors := rfl
@[simp] theorem State.setDense_spindles (s : State) (v : Dense) : (s.setDense v).spindles = s.spindles := rfl
@[simp] theorem State.setDense_owners (s : State) (v : Dense) : (s.setDense v).owners = s.owners := rfl
@[simp] theorem State.setDense_dense (s : State) (v : Dense) : (s.setDense v).dense = v := rfl
@[simp] theorem State.setDense_links (s : State) (v : Dense) : (s.setDense v).links = s.links := rfl
@[simp] theorem State.setDense_power (s : State) (v : Dense) : (s.setDense v).power = s.power := rfl
@[simp] theorem State.setDense_securing (s : State) (v : Dense) : (s.setDense v).securing = s.securing := rfl
@[simp] theorem State.setDense_outputs (s : State) (v : Dense) : (s.setDense v).outputs = s.outputs := rfl
@[simp] theorem State.setDense_security (s : State) (v : Dense) : (s.setDense v).security = s.security := rfl
@[simp] theorem State.setDense_telemetry (s : State) (v : Dense) : (s.setDense v).telemetry = s.telemetry := rfl
@[simp] theorem State.setDense_sequences (s : State) (v : Dense) : (s.setDense v).sequences = s.sequences := rfl
@[simp] theorem State.setDense_freeCount (s : State) (v : Dense) : (s.setDense v).freeCount = s.freeCount := rfl
@[simp] theorem State.setLinks_pending (s : State) (v : Links) : (s.setLinks v).pending = s.pending := rfl
@[simp] theorem State.setLinks_supply (s : State) (v : Links) : (s.setLinks v).supply = s.supply := rfl
@[simp] theorem State.setLinks_regs (s : State) (v : Links) : (s.setLinks v).regs = s.regs := rfl
@[simp] theorem State.setLinks_rings (s : State) (v : Links) : (s.setLinks v).rings = s.rings := rfl
@[simp] theorem State.setLinks_cfg (s : State) (v : Links) : (s.setLinks v).cfg = s.cfg := rfl
@[simp] theorem State.setLinks_steps (s : State) (v : Links) : (s.setLinks v).steps = s.steps := rfl
@[simp] theorem State.setLinks_tables (s : State) (v : Links) : (s.setLinks v).tables = s.tables := rfl
@[simp] theorem State.setLinks_programs (s : State) (v : Links) : (s.setLinks v).programs = s.programs := rfl
@[simp] theorem State.setLinks_lattices (s : State) (v : Links) : (s.setLinks v).lattices = s.lattices := rfl
@[simp] theorem State.setLinks_window (s : State) (v : Links) : (s.setLinks v).window = s.window := rfl
@[simp] theorem State.setLinks_tensors (s : State) (v : Links) : (s.setLinks v).tensors = s.tensors := rfl
@[simp] theorem State.setLinks_spindles (s : State) (v : Links) : (s.setLinks v).spindles = s.spindles := rfl
@[simp] theorem State.setLinks_owners (s : State) (v : Links) : (s.setLinks v).owners = s.owners := rfl
@[simp] theorem State.setLinks_dense (s : State) (v : Links) : (s.setLinks v).dense = s.dense := rfl
@[simp] theorem State.setLinks_links (s : State) (v : Links) : (s.setLinks v).links = v := rfl
@[simp] theorem State.setLinks_power (s : State) (v : Links) : (s.setLinks v).power = s.power := rfl
@[simp] theorem State.setLinks_securing (s : State) (v : Links) : (s.setLinks v).securing = s.securing := rfl
@[simp] theorem State.setLinks_outputs (s : State) (v : Links) : (s.setLinks v).outputs = s.outputs := rfl
@[simp] theorem State.setLinks_security (s : State) (v : Links) : (s.setLinks v).security = s.security := rfl
@[simp] theorem State.setLinks_telemetry (s : State) (v : Links) : (s.setLinks v).telemetry = s.telemetry := rfl
@[simp] theorem State.setLinks_sequences (s : State) (v : Links) : (s.setLinks v).sequences = s.sequences := rfl
@[simp] theorem State.setLinks_freeCount (s : State) (v : Links) : (s.setLinks v).freeCount = s.freeCount := rfl
@[simp] theorem State.setPower_pending (s : State) (v : Power) : (s.setPower v).pending = s.pending := rfl
@[simp] theorem State.setPower_supply (s : State) (v : Power) : (s.setPower v).supply = s.supply := rfl
@[simp] theorem State.setPower_regs (s : State) (v : Power) : (s.setPower v).regs = s.regs := rfl
@[simp] theorem State.setPower_rings (s : State) (v : Power) : (s.setPower v).rings = s.rings := rfl
@[simp] theorem State.setPower_cfg (s : State) (v : Power) : (s.setPower v).cfg = s.cfg := rfl
@[simp] theorem State.setPower_steps (s : State) (v : Power) : (s.setPower v).steps = s.steps := rfl
@[simp] theorem State.setPower_tables (s : State) (v : Power) : (s.setPower v).tables = s.tables := rfl
@[simp] theorem State.setPower_programs (s : State) (v : Power) : (s.setPower v).programs = s.programs := rfl
@[simp] theorem State.setPower_lattices (s : State) (v : Power) : (s.setPower v).lattices = s.lattices := rfl
@[simp] theorem State.setPower_window (s : State) (v : Power) : (s.setPower v).window = s.window := rfl
@[simp] theorem State.setPower_tensors (s : State) (v : Power) : (s.setPower v).tensors = s.tensors := rfl
@[simp] theorem State.setPower_spindles (s : State) (v : Power) : (s.setPower v).spindles = s.spindles := rfl
@[simp] theorem State.setPower_owners (s : State) (v : Power) : (s.setPower v).owners = s.owners := rfl
@[simp] theorem State.setPower_dense (s : State) (v : Power) : (s.setPower v).dense = s.dense := rfl
@[simp] theorem State.setPower_links (s : State) (v : Power) : (s.setPower v).links = s.links := rfl
@[simp] theorem State.setPower_power (s : State) (v : Power) : (s.setPower v).power = v := rfl
@[simp] theorem State.setPower_securing (s : State) (v : Power) : (s.setPower v).securing = s.securing := rfl
@[simp] theorem State.setPower_outputs (s : State) (v : Power) : (s.setPower v).outputs = s.outputs := rfl
@[simp] theorem State.setPower_security (s : State) (v : Power) : (s.setPower v).security = s.security := rfl
@[simp] theorem State.setPower_telemetry (s : State) (v : Power) : (s.setPower v).telemetry = s.telemetry := rfl
@[simp] theorem State.setPower_sequences (s : State) (v : Power) : (s.setPower v).sequences = s.sequences := rfl
@[simp] theorem State.setPower_freeCount (s : State) (v : Power) : (s.setPower v).freeCount = s.freeCount := rfl
@[simp] theorem State.setSecuring_pending (s : State) (v : Securing) : (s.setSecuring v).pending = s.pending := rfl
@[simp] theorem State.setSecuring_supply (s : State) (v : Securing) : (s.setSecuring v).supply = s.supply := rfl
@[simp] theorem State.setSecuring_regs (s : State) (v : Securing) : (s.setSecuring v).regs = s.regs := rfl
@[simp] theorem State.setSecuring_rings (s : State) (v : Securing) : (s.setSecuring v).rings = s.rings := rfl
@[simp] theorem State.setSecuring_cfg (s : State) (v : Securing) : (s.setSecuring v).cfg = s.cfg := rfl
@[simp] theorem State.setSecuring_steps (s : State) (v : Securing) : (s.setSecuring v).steps = s.steps := rfl
@[simp] theorem State.setSecuring_tables (s : State) (v : Securing) : (s.setSecuring v).tables = s.tables := rfl
@[simp] theorem State.setSecuring_programs (s : State) (v : Securing) : (s.setSecuring v).programs = s.programs := rfl
@[simp] theorem State.setSecuring_lattices (s : State) (v : Securing) : (s.setSecuring v).lattices = s.lattices := rfl
@[simp] theorem State.setSecuring_window (s : State) (v : Securing) : (s.setSecuring v).window = s.window := rfl
@[simp] theorem State.setSecuring_tensors (s : State) (v : Securing) : (s.setSecuring v).tensors = s.tensors := rfl
@[simp] theorem State.setSecuring_spindles (s : State) (v : Securing) : (s.setSecuring v).spindles = s.spindles := rfl
@[simp] theorem State.setSecuring_owners (s : State) (v : Securing) : (s.setSecuring v).owners = s.owners := rfl
@[simp] theorem State.setSecuring_dense (s : State) (v : Securing) : (s.setSecuring v).dense = s.dense := rfl
@[simp] theorem State.setSecuring_links (s : State) (v : Securing) : (s.setSecuring v).links = s.links := rfl
@[simp] theorem State.setSecuring_power (s : State) (v : Securing) : (s.setSecuring v).power = s.power := rfl
@[simp] theorem State.setSecuring_securing (s : State) (v : Securing) : (s.setSecuring v).securing = v := rfl
@[simp] theorem State.setSecuring_outputs (s : State) (v : Securing) : (s.setSecuring v).outputs = s.outputs := rfl
@[simp] theorem State.setSecuring_security (s : State) (v : Securing) : (s.setSecuring v).security = s.security := rfl
@[simp] theorem State.setSecuring_telemetry (s : State) (v : Securing) : (s.setSecuring v).telemetry = s.telemetry := rfl
@[simp] theorem State.setSecuring_sequences (s : State) (v : Securing) : (s.setSecuring v).sequences = s.sequences := rfl
@[simp] theorem State.setSecuring_freeCount (s : State) (v : Securing) : (s.setSecuring v).freeCount = s.freeCount := rfl
@[simp] theorem State.setOutputs_pending (s : State) (v : Outputs) : (s.setOutputs v).pending = s.pending := rfl
@[simp] theorem State.setOutputs_supply (s : State) (v : Outputs) : (s.setOutputs v).supply = s.supply := rfl
@[simp] theorem State.setOutputs_regs (s : State) (v : Outputs) : (s.setOutputs v).regs = s.regs := rfl
@[simp] theorem State.setOutputs_rings (s : State) (v : Outputs) : (s.setOutputs v).rings = s.rings := rfl
@[simp] theorem State.setOutputs_cfg (s : State) (v : Outputs) : (s.setOutputs v).cfg = s.cfg := rfl
@[simp] theorem State.setOutputs_steps (s : State) (v : Outputs) : (s.setOutputs v).steps = s.steps := rfl
@[simp] theorem State.setOutputs_tables (s : State) (v : Outputs) : (s.setOutputs v).tables = s.tables := rfl
@[simp] theorem State.setOutputs_programs (s : State) (v : Outputs) : (s.setOutputs v).programs = s.programs := rfl
@[simp] theorem State.setOutputs_lattices (s : State) (v : Outputs) : (s.setOutputs v).lattices = s.lattices := rfl
@[simp] theorem State.setOutputs_window (s : State) (v : Outputs) : (s.setOutputs v).window = s.window := rfl
@[simp] theorem State.setOutputs_tensors (s : State) (v : Outputs) : (s.setOutputs v).tensors = s.tensors := rfl
@[simp] theorem State.setOutputs_spindles (s : State) (v : Outputs) : (s.setOutputs v).spindles = s.spindles := rfl
@[simp] theorem State.setOutputs_owners (s : State) (v : Outputs) : (s.setOutputs v).owners = s.owners := rfl
@[simp] theorem State.setOutputs_dense (s : State) (v : Outputs) : (s.setOutputs v).dense = s.dense := rfl
@[simp] theorem State.setOutputs_links (s : State) (v : Outputs) : (s.setOutputs v).links = s.links := rfl
@[simp] theorem State.setOutputs_power (s : State) (v : Outputs) : (s.setOutputs v).power = s.power := rfl
@[simp] theorem State.setOutputs_securing (s : State) (v : Outputs) : (s.setOutputs v).securing = s.securing := rfl
@[simp] theorem State.setOutputs_outputs (s : State) (v : Outputs) : (s.setOutputs v).outputs = v := rfl
@[simp] theorem State.setOutputs_security (s : State) (v : Outputs) : (s.setOutputs v).security = s.security := rfl
@[simp] theorem State.setOutputs_telemetry (s : State) (v : Outputs) : (s.setOutputs v).telemetry = s.telemetry := rfl
@[simp] theorem State.setOutputs_sequences (s : State) (v : Outputs) : (s.setOutputs v).sequences = s.sequences := rfl
@[simp] theorem State.setOutputs_freeCount (s : State) (v : Outputs) : (s.setOutputs v).freeCount = s.freeCount := rfl
@[simp] theorem State.setSecurity_pending (s : State) (v : Security) : (s.setSecurity v).pending = s.pending := rfl
@[simp] theorem State.setSecurity_supply (s : State) (v : Security) : (s.setSecurity v).supply = s.supply := rfl
@[simp] theorem State.setSecurity_regs (s : State) (v : Security) : (s.setSecurity v).regs = s.regs := rfl
@[simp] theorem State.setSecurity_rings (s : State) (v : Security) : (s.setSecurity v).rings = s.rings := rfl
@[simp] theorem State.setSecurity_cfg (s : State) (v : Security) : (s.setSecurity v).cfg = s.cfg := rfl
@[simp] theorem State.setSecurity_steps (s : State) (v : Security) : (s.setSecurity v).steps = s.steps := rfl
@[simp] theorem State.setSecurity_tables (s : State) (v : Security) : (s.setSecurity v).tables = s.tables := rfl
@[simp] theorem State.setSecurity_programs (s : State) (v : Security) : (s.setSecurity v).programs = s.programs := rfl
@[simp] theorem State.setSecurity_lattices (s : State) (v : Security) : (s.setSecurity v).lattices = s.lattices := rfl
@[simp] theorem State.setSecurity_window (s : State) (v : Security) : (s.setSecurity v).window = s.window := rfl
@[simp] theorem State.setSecurity_tensors (s : State) (v : Security) : (s.setSecurity v).tensors = s.tensors := rfl
@[simp] theorem State.setSecurity_spindles (s : State) (v : Security) : (s.setSecurity v).spindles = s.spindles := rfl
@[simp] theorem State.setSecurity_owners (s : State) (v : Security) : (s.setSecurity v).owners = s.owners := rfl
@[simp] theorem State.setSecurity_dense (s : State) (v : Security) : (s.setSecurity v).dense = s.dense := rfl
@[simp] theorem State.setSecurity_links (s : State) (v : Security) : (s.setSecurity v).links = s.links := rfl
@[simp] theorem State.setSecurity_power (s : State) (v : Security) : (s.setSecurity v).power = s.power := rfl
@[simp] theorem State.setSecurity_securing (s : State) (v : Security) : (s.setSecurity v).securing = s.securing := rfl
@[simp] theorem State.setSecurity_outputs (s : State) (v : Security) : (s.setSecurity v).outputs = s.outputs := rfl
@[simp] theorem State.setSecurity_security (s : State) (v : Security) : (s.setSecurity v).security = v := rfl
@[simp] theorem State.setSecurity_telemetry (s : State) (v : Security) : (s.setSecurity v).telemetry = s.telemetry := rfl
@[simp] theorem State.setSecurity_sequences (s : State) (v : Security) : (s.setSecurity v).sequences = s.sequences := rfl
@[simp] theorem State.setSecurity_freeCount (s : State) (v : Security) : (s.setSecurity v).freeCount = s.freeCount := rfl
@[simp] theorem State.setTelemetry_pending (s : State) (v : Telemetry) : (s.setTelemetry v).pending = s.pending := rfl
@[simp] theorem State.setTelemetry_supply (s : State) (v : Telemetry) : (s.setTelemetry v).supply = s.supply := rfl
@[simp] theorem State.setTelemetry_regs (s : State) (v : Telemetry) : (s.setTelemetry v).regs = s.regs := rfl
@[simp] theorem State.setTelemetry_rings (s : State) (v : Telemetry) : (s.setTelemetry v).rings = s.rings := rfl
@[simp] theorem State.setTelemetry_cfg (s : State) (v : Telemetry) : (s.setTelemetry v).cfg = s.cfg := rfl
@[simp] theorem State.setTelemetry_steps (s : State) (v : Telemetry) : (s.setTelemetry v).steps = s.steps := rfl
@[simp] theorem State.setTelemetry_tables (s : State) (v : Telemetry) : (s.setTelemetry v).tables = s.tables := rfl
@[simp] theorem State.setTelemetry_programs (s : State) (v : Telemetry) : (s.setTelemetry v).programs = s.programs := rfl
@[simp] theorem State.setTelemetry_lattices (s : State) (v : Telemetry) : (s.setTelemetry v).lattices = s.lattices := rfl
@[simp] theorem State.setTelemetry_window (s : State) (v : Telemetry) : (s.setTelemetry v).window = s.window := rfl
@[simp] theorem State.setTelemetry_tensors (s : State) (v : Telemetry) : (s.setTelemetry v).tensors = s.tensors := rfl
@[simp] theorem State.setTelemetry_spindles (s : State) (v : Telemetry) : (s.setTelemetry v).spindles = s.spindles := rfl
@[simp] theorem State.setTelemetry_owners (s : State) (v : Telemetry) : (s.setTelemetry v).owners = s.owners := rfl
@[simp] theorem State.setTelemetry_dense (s : State) (v : Telemetry) : (s.setTelemetry v).dense = s.dense := rfl
@[simp] theorem State.setTelemetry_links (s : State) (v : Telemetry) : (s.setTelemetry v).links = s.links := rfl
@[simp] theorem State.setTelemetry_power (s : State) (v : Telemetry) : (s.setTelemetry v).power = s.power := rfl
@[simp] theorem State.setTelemetry_securing (s : State) (v : Telemetry) : (s.setTelemetry v).securing = s.securing := rfl
@[simp] theorem State.setTelemetry_outputs (s : State) (v : Telemetry) : (s.setTelemetry v).outputs = s.outputs := rfl
@[simp] theorem State.setTelemetry_security (s : State) (v : Telemetry) : (s.setTelemetry v).security = s.security := rfl
@[simp] theorem State.setTelemetry_telemetry (s : State) (v : Telemetry) : (s.setTelemetry v).telemetry = v := rfl
@[simp] theorem State.setTelemetry_sequences (s : State) (v : Telemetry) : (s.setTelemetry v).sequences = s.sequences := rfl
@[simp] theorem State.setTelemetry_freeCount (s : State) (v : Telemetry) : (s.setTelemetry v).freeCount = s.freeCount := rfl
@[simp] theorem State.setSequences_pending (s : State) (v : List Nat) : (s.setSequences v).pending = s.pending := rfl
@[simp] theorem State.setSequences_supply (s : State) (v : List Nat) : (s.setSequences v).supply = s.supply := rfl
@[simp] theorem State.setSequences_regs (s : State) (v : List Nat) : (s.setSequences v).regs = s.regs := rfl
@[simp] theorem State.setSequences_rings (s : State) (v : List Nat) : (s.setSequences v).rings = s.rings := rfl
@[simp] theorem State.setSequences_cfg (s : State) (v : List Nat) : (s.setSequences v).cfg = s.cfg := rfl
@[simp] theorem State.setSequences_steps (s : State) (v : List Nat) : (s.setSequences v).steps = s.steps := rfl
@[simp] theorem State.setSequences_tables (s : State) (v : List Nat) : (s.setSequences v).tables = s.tables := rfl
@[simp] theorem State.setSequences_programs (s : State) (v : List Nat) : (s.setSequences v).programs = s.programs := rfl
@[simp] theorem State.setSequences_lattices (s : State) (v : List Nat) : (s.setSequences v).lattices = s.lattices := rfl
@[simp] theorem State.setSequences_window (s : State) (v : List Nat) : (s.setSequences v).window = s.window := rfl
@[simp] theorem State.setSequences_tensors (s : State) (v : List Nat) : (s.setSequences v).tensors = s.tensors := rfl
@[simp] theorem State.setSequences_spindles (s : State) (v : List Nat) : (s.setSequences v).spindles = s.spindles := rfl
@[simp] theorem State.setSequences_owners (s : State) (v : List Nat) : (s.setSequences v).owners = s.owners := rfl
@[simp] theorem State.setSequences_dense (s : State) (v : List Nat) : (s.setSequences v).dense = s.dense := rfl
@[simp] theorem State.setSequences_links (s : State) (v : List Nat) : (s.setSequences v).links = s.links := rfl
@[simp] theorem State.setSequences_power (s : State) (v : List Nat) : (s.setSequences v).power = s.power := rfl
@[simp] theorem State.setSequences_securing (s : State) (v : List Nat) : (s.setSequences v).securing = s.securing := rfl
@[simp] theorem State.setSequences_outputs (s : State) (v : List Nat) : (s.setSequences v).outputs = s.outputs := rfl
@[simp] theorem State.setSequences_security (s : State) (v : List Nat) : (s.setSequences v).security = s.security := rfl
@[simp] theorem State.setSequences_telemetry (s : State) (v : List Nat) : (s.setSequences v).telemetry = s.telemetry := rfl
@[simp] theorem State.setSequences_sequences (s : State) (v : List Nat) : (s.setSequences v).sequences = v := rfl
@[simp] theorem State.setSequences_freeCount (s : State) (v : List Nat) : (s.setSequences v).freeCount = s.freeCount := rfl
@[simp] theorem State.setFreeCount_pending (s : State) (v : Nat) : (s.setFreeCount v).pending = s.pending := rfl
@[simp] theorem State.setFreeCount_supply (s : State) (v : Nat) : (s.setFreeCount v).supply = s.supply := rfl
@[simp] theorem State.setFreeCount_regs (s : State) (v : Nat) : (s.setFreeCount v).regs = s.regs := rfl
@[simp] theorem State.setFreeCount_rings (s : State) (v : Nat) : (s.setFreeCount v).rings = s.rings := rfl
@[simp] theorem State.setFreeCount_cfg (s : State) (v : Nat) : (s.setFreeCount v).cfg = s.cfg := rfl
@[simp] theorem State.setFreeCount_steps (s : State) (v : Nat) : (s.setFreeCount v).steps = s.steps := rfl
@[simp] theorem State.setFreeCount_tables (s : State) (v : Nat) : (s.setFreeCount v).tables = s.tables := rfl
@[simp] theorem State.setFreeCount_programs (s : State) (v : Nat) : (s.setFreeCount v).programs = s.programs := rfl
@[simp] theorem State.setFreeCount_lattices (s : State) (v : Nat) : (s.setFreeCount v).lattices = s.lattices := rfl
@[simp] theorem State.setFreeCount_window (s : State) (v : Nat) : (s.setFreeCount v).window = s.window := rfl
@[simp] theorem State.setFreeCount_tensors (s : State) (v : Nat) : (s.setFreeCount v).tensors = s.tensors := rfl
@[simp] theorem State.setFreeCount_spindles (s : State) (v : Nat) : (s.setFreeCount v).spindles = s.spindles := rfl
@[simp] theorem State.setFreeCount_owners (s : State) (v : Nat) : (s.setFreeCount v).owners = s.owners := rfl
@[simp] theorem State.setFreeCount_dense (s : State) (v : Nat) : (s.setFreeCount v).dense = s.dense := rfl
@[simp] theorem State.setFreeCount_links (s : State) (v : Nat) : (s.setFreeCount v).links = s.links := rfl
@[simp] theorem State.setFreeCount_power (s : State) (v : Nat) : (s.setFreeCount v).power = s.power := rfl
@[simp] theorem State.setFreeCount_securing (s : State) (v : Nat) : (s.setFreeCount v).securing = s.securing := rfl
@[simp] theorem State.setFreeCount_outputs (s : State) (v : Nat) : (s.setFreeCount v).outputs = s.outputs := rfl
@[simp] theorem State.setFreeCount_security (s : State) (v : Nat) : (s.setFreeCount v).security = s.security := rfl
@[simp] theorem State.setFreeCount_telemetry (s : State) (v : Nat) : (s.setFreeCount v).telemetry = s.telemetry := rfl
@[simp] theorem State.setFreeCount_sequences (s : State) (v : Nat) : (s.setFreeCount v).sequences = s.sequences := rfl
@[simp] theorem State.setFreeCount_freeCount (s : State) (v : Nat) : (s.setFreeCount v).freeCount = v := rfl

end Sys2Proof.Machine
end

