-- ==== Sys2Proof/Laws/Frame.lean ====
section
/-! SUPPORT. What a command can change, said by forgetting: `forget ks s` is s with the groups of state named in ks set
to a fixed value, so that `forget ks t = forget ks s` says that t and s differ in those groups only. The groups are
numbered in the order of the fields of State; of the registers READY is kept unless 26 is named too and the job block
(Tables 14.6 to 14.10) unless 25, of the
dense state the optimiser shards unless 24, of the steps the highest committed unless 27 and the highest admitted unless
28, of the spindles the local SRAM unless 29, of the security state the lowest security version unless 22 and the job key
unless 23. The queue of commands is never forgotten. -/

namespace Sys2Proof.Machine

def forgetRegs (ks : List Nat) (v : Regs) : Regs :=
  if 25 ∈ ks then { (default : Regs) with ready := if 26 ∈ ks then false else v.ready }
  else
    { (default : Regs) with
      ready := if 26 ∈ ks then false else v.ready, jobSet := v.jobSet, memberCount := v.memberCount, memberNumber := v.memberNumber, jobSeed := v.jobSeed,
      listAddress := v.listAddress, fabricBase := v.fabricBase, fabricLength := v.fabricLength, members := v.members }

def forgetDense (ks : List Nat) (v : Dense) : Dense := { (default : Dense) with slots := if 24 ∈ ks then [] else v.slots }

def forgetSecurity (ks : List Nat) (v : Security) : Security :=
  { (default : Security) with
    minSecVersion := if 22 ∈ ks then 0 else v.minSecVersion, jobKey := if 23 ∈ ks then none else v.jobKey }

def forgetSteps (ks : List Nat) (v : Steps) : Steps :=
  { (default : Steps) with c := if 27 ∈ ks then 0 else v.c, a := if 28 ∈ ks then 0 else v.a }

def forgetSpindles (ks : List Nat) (v : Spindles) : Spindles :=
  { (default : Spindles) with sram := if 29 ∈ ks then [] else v.sram }

def forget (ks : List Nat) (s : State) : State :=
  { pending := s.pending,
    supply := if 1 ∈ ks then default else s.supply,
    regs := if 2 ∈ ks then forgetRegs ks s.regs else s.regs,
    rings := if 3 ∈ ks then default else s.rings,
    cfg := if 4 ∈ ks then default else s.cfg,
    steps := if 5 ∈ ks then forgetSteps ks s.steps else s.steps,
    tables := if 6 ∈ ks then default else s.tables,
    programs := if 7 ∈ ks then default else s.programs,
    lattices := if 8 ∈ ks then default else s.lattices,
    window := if 9 ∈ ks then default else s.window,
    tensors := if 10 ∈ ks then default else s.tensors,
    spindles := if 11 ∈ ks then forgetSpindles ks s.spindles else s.spindles,
    owners := if 12 ∈ ks then default else s.owners,
    dense := if 13 ∈ ks then forgetDense ks s.dense else s.dense,
    links := if 14 ∈ ks then default else s.links,
    power := if 15 ∈ ks then default else s.power,
    securing := if 16 ∈ ks then default else s.securing,
    outputs := if 17 ∈ ks then default else s.outputs,
    security := if 18 ∈ ks then forgetSecurity ks s.security else s.security,
    telemetry := if 19 ∈ ks then default else s.telemetry,
    sequences := if 20 ∈ ks then default else s.sequences,
    freeCount := if 21 ∈ ks then default else s.freeCount }

/-- The state a command leaves: its next state, or the state before where it stops. -/
def endState (s : State) : Out → State
  | .next t => t
  | _ => s

theorem endState_next (s t : State) : endState s (.next t) = t := rfl
theorem endState_fault (s : State) (f : Fault) : endState s (.fault f) = s := rfl
theorem endState_ite (s : State) (c : Prop) [Decidable c] (a b : Out) :
    endState s (if c then a else b) = if c then endState s a else endState s b := by
  split <;> rfl

theorem forget_ite (ks : List Nat) (c : Prop) [Decidable c] (a b : State) :
    forget ks (if c then a else b) = if c then forget ks a else forget ks b := by
  split <;> rfl

theorem forget_foldl {α : Type} (ks : List Nat) (f : State → α → State) (h : ∀ s a, forget ks (f s a) = forget ks s)
    (xs : List α) (s : State) : forget ks (xs.foldl f s) = forget ks s := by
  induction xs generalizing s with
  | nil => rfl
  | cons x xs ih => rw [List.foldl_cons, ih, h]

theorem forgetRegs_eq (ks : List Nat) (v w : Regs) (r : 26 ∈ ks ∨ v.ready = w.ready)
    (h : 25 ∈ ks ∨ v.jobSet = w.jobSet ∧ v.memberCount = w.memberCount ∧ v.memberNumber = w.memberNumber ∧ v.jobSeed = w.jobSeed ∧
      v.listAddress = w.listAddress ∧ v.fabricBase = w.fabricBase ∧ v.fabricLength = w.fabricLength ∧ v.members = w.members) :
    forgetRegs ks v = forgetRegs ks w := by
  have hr : (if 26 ∈ ks then false else v.ready) = if 26 ∈ ks then false else w.ready := by
    rcases r with r | r <;> simp only [r, if_true]
  unfold forgetRegs
  by_cases k : 25 ∈ ks
  · simp only [k, hr, if_true]
  · obtain ⟨h1, h2, h3, h4, h5, h6, h7, h8⟩ := h.resolve_left k
    simp only [k, hr, if_false, h1, h2, h3, h4, h5, h6, h7, h8]

theorem forget_setRegs (ks : List Nat) (h : 2 ∈ ks) (s : State) (v : Regs) (r : 26 ∈ ks ∨ v.ready = s.regs.ready)
    (k : 25 ∈ ks ∨ v.jobSet = s.regs.jobSet ∧ v.memberCount = s.regs.memberCount ∧ v.memberNumber = s.regs.memberNumber ∧
      v.jobSeed = s.regs.jobSeed ∧ v.listAddress = s.regs.listAddress ∧ v.fabricBase = s.regs.fabricBase ∧
      v.fabricLength = s.regs.fabricLength ∧ v.members = s.regs.members) :
    forget ks (s.setRegs v) = forget ks s := by
  simp only [forget, State.setRegs, h, if_true, forgetRegs_eq ks v s.regs r k]

theorem forget_setDense (ks : List Nat) (h : 13 ∈ ks) (s : State) (v : Dense) (k : 24 ∈ ks ∨ v.slots = s.dense.slots) :
    forget ks (s.setDense v) = forget ks s := by
  rcases k with k | k <;> simp only [forget, State.setDense, forgetDense, h, k, if_true]

theorem forget_setSpindles (ks : List Nat) (h : 11 ∈ ks) (s : State) (v : Spindles) (k : 29 ∈ ks ∨ v.sram = s.spindles.sram) :
    forget ks (s.setSpindles v) = forget ks s := by
  rcases k with k | k <;> simp only [forget, State.setSpindles, forgetSpindles, h, k, if_true]

theorem forget_setSecurity (ks : List Nat) (h : 18 ∈ ks) (s : State) (v : Security)
    (k : 22 ∈ ks ∨ v.minSecVersion = s.security.minSecVersion) (l : 23 ∈ ks ∨ v.jobKey = s.security.jobKey) :
    forget ks (s.setSecurity v) = forget ks s := by
  rcases k with k | k <;> rcases l with l | l <;> simp only [forget, State.setSecurity, forgetSecurity, h, k, l, if_true]

theorem forget_setSteps (ks : List Nat) (h : 5 ∈ ks) (s : State) (v : Steps) (k : 27 ∈ ks ∨ v.c = s.steps.c)
    (l : 28 ∈ ks ∨ v.a = s.steps.a) : forget ks (s.setSteps v) = forget ks s := by
  rcases k with k | k <;> rcases l with l | l <;> simp only [forget, State.setSteps, forgetSteps, h, k, l, if_true]

theorem forget_setSupply (ks : List Nat) (h : 1 ∈ ks) (s : State) (v : Supply) : forget ks (s.setSupply v) = forget ks s := by
  simp only [forget, State.setSupply, h, if_true]

theorem forget_setRings (ks : List Nat) (h : 3 ∈ ks) (s : State) (v : Rings) : forget ks (s.setRings v) = forget ks s := by
  simp only [forget, State.setRings, h, if_true]

theorem forget_setCfg (ks : List Nat) (h : 4 ∈ ks) (s : State) (v : Config) : forget ks (s.setCfg v) = forget ks s := by
  simp only [forget, State.setCfg, h, if_true]

theorem forget_setTables (ks : List Nat) (h : 6 ∈ ks) (s : State) (v : Tables) : forget ks (s.setTables v) = forget ks s := by
  simp only [forget, State.setTables, h, if_true]

theorem forget_setPrograms (ks : List Nat) (h : 7 ∈ ks) (s : State) (v : Programs) : forget ks (s.setPrograms v) = forget ks s := by
  simp only [forget, State.setPrograms, h, if_true]

theorem forget_setLattices (ks : List Nat) (h : 8 ∈ ks) (s : State) (v : List Lattice) : forget ks (s.setLattices v) = forget ks s := by
  simp only [forget, State.setLattices, h, if_true]

theorem forget_setWindow (ks : List Nat) (h : 9 ∈ ks) (s : State) (v : Mem) : forget ks (s.setWindow v) = forget ks s := by
  simp only [forget, State.setWindow, h, if_true]

theorem forget_setTensors (ks : List Nat) (h : 10 ∈ ks) (s : State) (v : Assoc Nat Mem) : forget ks (s.setTensors v) = forget ks s := by
  simp only [forget, State.setTensors, h, if_true]

theorem forget_setOwners (ks : List Nat) (h : 12 ∈ ks) (s : State) (v : Owners) : forget ks (s.setOwners v) = forget ks s := by
  simp only [forget, State.setOwners, h, if_true]

theorem forget_setLinks (ks : List Nat) (h : 14 ∈ ks) (s : State) (v : Links) : forget ks (s.setLinks v) = forget ks s := by
  simp only [forget, State.setLinks, h, if_true]

theorem forget_setPower (ks : List Nat) (h : 15 ∈ ks) (s : State) (v : Power) : forget ks (s.setPower v) = forget ks s := by
  simp only [forget, State.setPower, h, if_true]

theorem forget_setSecuring (ks : List Nat) (h : 16 ∈ ks) (s : State) (v : Securing) : forget ks (s.setSecuring v) = forget ks s := by
  simp only [forget, State.setSecuring, h, if_true]

theorem forget_setOutputs (ks : List Nat) (h : 17 ∈ ks) (s : State) (v : Outputs) : forget ks (s.setOutputs v) = forget ks s := by
  simp only [forget, State.setOutputs, h, if_true]

theorem forget_setTelemetry (ks : List Nat) (h : 19 ∈ ks) (s : State) (v : Telemetry) : forget ks (s.setTelemetry v) = forget ks s := by
  simp only [forget, State.setTelemetry, h, if_true]

theorem forget_setSequences (ks : List Nat) (h : 20 ∈ ks) (s : State) (v : List Nat) : forget ks (s.setSequences v) = forget ks s := by
  simp only [forget, State.setSequences, h, if_true]

theorem forget_setFreeCount (ks : List Nat) (h : 21 ∈ ks) (s : State) (v : Nat) : forget ks (s.setFreeCount v) = forget ks s := by
  simp only [forget, State.setFreeCount, h, if_true]

end Sys2Proof.Machine
end

