-- ==== Sys2Proof/Laws/FrameOps.lean ====
section
/-! SUPPORT. The groups of state that a definition can change: the shared operations over completions, events, links and energy. -/

set_option maxRecDepth 4000
set_option linter.unusedSimpArgs false
set_option linter.unusedVariables false

namespace Sys2Proof.Machine

theorem forget_bump (ks : List Nat) (h21 : 21 ∈ ks)
    (s : State) :
    forget ks (State.bump s) = forget ks s := by
  unfold State.bump
  repeat' (first
    | with_reducible rfl
    | simp only [forget_ite, ite_self, true_or, or_true, and_self, forget_setFreeCount, h21]
    | split)

theorem forget_setRing (ks : List Nat) (h3 : 3 ∈ ks)
    (s : State) (n : Nat) (r : Ring) :
    forget ks (setRing s n r) = forget ks s := by
  unfold setRing
  repeat' (first
    | with_reducible rfl
    | simp only [forget_ite, ite_self, true_or, or_true, and_self, forget_setRings, h3]
    | split)

theorem forget_writeDone (ks : List Nat) (h3 : 3 ∈ ks)
    (s : State) (c : Completion) :
    forget ks (writeDone s c) = forget ks s := by
  unfold writeDone
  repeat' (first
    | with_reducible rfl
    | simp only [forget_ite, ite_self, true_or, or_true, and_self, forget_setRing, forget_setRings, h3]
    | split)

theorem forget_postDone (ks : List Nat) (h3 : 3 ∈ ks)
    (s : State) (c : Completion) :
    forget ks (postDone s c) = forget ks s := by
  unfold postDone
  repeat' (first
    | with_reducible rfl
    | simp only [forget_ite, ite_self, true_or, or_true, and_self, forget_setRings, forget_writeDone, h3]
    | split)

theorem forget_flushDone (ks : List Nat) (h3 : 3 ∈ ks)
    (s : State) :
    forget ks (flushDone s) = forget ks s := by
  unfold flushDone
  repeat' (first
    | with_reducible rfl
    | simp only [forget_ite, ite_self, true_or, or_true, and_self, forget_postDone, forget_setRings, h3]
    | split
    | (refine (forget_foldl ks _ ?_ _ _).trans ?_; intros))

theorem forget_writeEvent (ks : List Nat) (h3 : 3 ∈ ks)
    (s : State) (e : Event) :
    forget ks (writeEvent s e) = forget ks s := by
  unfold writeEvent
  repeat' (first
    | with_reducible rfl
    | simp only [forget_ite, ite_self, true_or, or_true, and_self, forget_setRing, forget_setRings, h3]
    | split)

theorem forget_holdEvent (ks : List Nat) (h3 : 3 ∈ ks)
    (s : State) (e : Event) :
    forget ks (holdEvent s e) = forget ks s := by
  unfold holdEvent
  repeat' (first
    | with_reducible rfl
    | simp only [forget_ite, ite_self, true_or, or_true, and_self, forget_setRings, h3]
    | split)

theorem forget_postEventFor (ks : List Nat) (h3 : 3 ∈ ks) (h16 : 16 ∈ ks) (h20 : 20 ∈ ks)
    (s : State) (die : Nat) (step : Nat) (body : EventBody) (cause : Option (Nat × Word32)) :
    forget ks (postEventFor s die step body cause) = forget ks s := by
  unfold postEventFor
  repeat' (first
    | with_reducible rfl
    | simp only [forget_ite, ite_self, true_or, or_true, and_self, forget_holdEvent, forget_setSecuring,
      forget_setSequences, forget_writeEvent, h3, h16, h20]
    | split)

theorem forget_postEvent (ks : List Nat) (h3 : 3 ∈ ks) (h16 : 16 ∈ ks) (h20 : 20 ∈ ks)
    (s : State) (die : Nat) (step : Nat) (body : EventBody) :
    forget ks (postEvent s die step body) = forget ks s := by
  unfold postEvent
  repeat' (first
    | with_reducible rfl
    | simp only [forget_ite, ite_self, true_or, or_true, and_self, forget_postEventFor, h3, h16, h20]
    | split)

theorem forget_flushEventsN (ks : List Nat) (h3 : 3 ∈ ks)
    (y0 : Nat) (y1 : State) :
    forget ks (flushEventsN y0 y1) = forget ks y1 := by
  induction y0 generalizing y1 with
  | zero => rfl
  | succ n ih =>
    unfold flushEventsN
    repeat' (first
      | with_reducible rfl
      | simp only [forget_ite, ite_self, ih, forget_writeEvent, forget_setRings, h3]
      | split)

theorem forget_flushEvents (ks : List Nat) (h3 : 3 ∈ ks)
    (s : State) :
    forget ks (flushEvents s) = forget ks s := by
  unfold flushEvents
  repeat' (first
    | with_reducible rfl
    | simp only [forget_ite, ite_self, true_or, or_true, and_self, forget_flushDone, forget_flushEventsN, h3]
    | split)

theorem forget_markBegun (ks : List Nat) (h3 : 3 ∈ ks)
    (s : State) (d : Sub) :
    forget ks (markBegun s d) = forget ks s := by
  unfold markBegun
  repeat' (first
    | with_reducible rfl
    | simp only [forget_ite, ite_self, true_or, or_true, and_self, forget_setRings, h3]
    | split)

theorem forget_finishWith (ks : List Nat) (h3 : 3 ∈ ks)
    (s : State) (d : Sub) (status : Status) (error : Nat) (d0 : Nat) (d1 : Nat) :
    forget ks (finishWith s d status error d0 d1) = forget ks s := by
  unfold finishWith
  repeat' (first
    | with_reducible rfl
    | simp only [forget_ite, ite_self, true_or, or_true, and_self, forget_postDone, h3]
    | split)

theorem forget_finish (ks : List Nat) (h3 : 3 ∈ ks)
    (s : State) (d : Sub) (status : Status) :
    forget ks (finish s d status) = forget ks s := by
  unfold finish
  repeat' (first
    | with_reducible rfl
    | simp only [forget_ite, ite_self, true_or, or_true, and_self, forget_finishWith, h3]
    | split)

theorem forget_beginCommand (ks : List Nat) (h3 : 3 ∈ ks)
    (s : State) (d : Sub) (mine : Bool) (na : Nat) (run : State → State) (hr : ∀ x, forget ks (run x) = forget ks x) :
    forget ks (endState s (beginCommand s d mine na run)) = forget ks s := by
  unfold beginCommand
  repeat' (first
    | with_reducible rfl
    | simp only [forget_ite, endState_next, endState_ite, endState_fault, ite_self, true_or, or_true, and_self,
      forget_finishWith, forget_markBegun, h3, hr]
    | split)

theorem forget_windowWrite (ks : List Nat) (h9 : 9 ∈ ks)
    (s : State) (off : Nat) (bs : List Byte) :
    forget ks (windowWrite s off bs) = forget ks s := by
  unfold windowWrite
  repeat' (first
    | with_reducible rfl
    | simp only [forget_ite, ite_self, true_or, or_true, and_self, forget_setWindow, h9]
    | split)

theorem forget_setTensor (ks : List Nat) (h10 : 10 ∈ ks)
    (s : State) (id : Nat) (m : Mem) :
    forget ks (setTensor s id m) = forget ks s := by
  unfold setTensor
  repeat' (first
    | with_reducible rfl
    | simp only [forget_ite, ite_self, true_or, or_true, and_self, forget_setTensors, h10]
    | split)

theorem forget_wakeChannels (ks : List Nat) (h15 : 15 ∈ ks)
    (s : State) (channels : List Nat) :
    forget ks (wakeChannels s channels) = forget ks s := by
  unfold wakeChannels
  repeat' (first
    | with_reducible rfl
    | simp only [forget_ite, ite_self, true_or, or_true, and_self, forget_setPower, h15]
    | split)

theorem forget_countOutOfFootprint (ks : List Nat) (h19 : 19 ∈ ks)
    (s : State) (n : Nat) :
    forget ks (countOutOfFootprint s n) = forget ks s := by
  unfold countOutOfFootprint
  repeat' (first
    | with_reducible rfl
    | simp only [forget_ite, ite_self, true_or, or_true, and_self, forget_setTelemetry, h19]
    | split)

theorem forget_countTier (ks : List Nat) (h19 : 19 ∈ ks)
    (s : State) (tier : Nat) (field : Nat) (n : Nat) :
    forget ks (countTier s tier field n) = forget ks s := by
  unfold countTier
  repeat' (first
    | with_reducible rfl
    | simp only [forget_ite, ite_self, true_or, or_true, and_self, forget_setTelemetry, h19]
    | split)

theorem forget_countPort (ks : List Nat) (h14 : 14 ∈ ks)
    (s : State) (port : Nat) (field : Nat) (n : Nat) :
    forget ks (countPort s port field n) = forget ks s := by
  unfold countPort
  repeat' (first
    | with_reducible rfl
    | simp only [forget_ite, ite_self, true_or, or_true, and_self, forget_setLinks, h14]
    | split)

theorem forget_setPort (ks : List Nat) (h14 : 14 ∈ ks)
    (s : State) (p : Nat) (v : Port) :
    forget ks (setPort s p v) = forget ks s := by
  unfold setPort
  repeat' (first
    | with_reducible rfl
    | simp only [forget_ite, ite_self, true_or, or_true, and_self, forget_setLinks, h14]
    | split)

theorem forget_emit (ks : List Nat) (h14 : 14 ∈ ks)
    (s : State) (n : Nat) (f : OutFrame) :
    forget ks (emit s n f) = forget ks s := by
  unfold emit
  repeat' (first
    | with_reducible rfl
    | simp only [forget_ite, ite_self, true_or, or_true, and_self, forget_setLinks, forget_setPort, h14]
    | split)

theorem forget_pumpOne (ks : List Nat) (h14 : 14 ∈ ks)
    (s : State) (f : OutFrame) :
    forget ks (pumpOne s f) = forget ks s := by
  unfold pumpOne
  repeat' (first
    | with_reducible rfl
    | simp only [forget_ite, ite_self, true_or, or_true, and_self, forget_emit, forget_setLinks, h14]
    | split)

theorem forget_pump (ks : List Nat) (h14 : 14 ∈ ks)
    (s : State) :
    forget ks (pump s) = forget ks s := by
  unfold pump
  repeat' (first
    | with_reducible rfl
    | simp only [forget_ite, ite_self, true_or, or_true, and_self, forget_pumpOne, forget_setLinks, h14]
    | split
    | (refine (forget_foldl ks _ ?_ _ _).trans ?_; intros))

theorem forget_memberLost (ks : List Nat) (h3 : 3 ∈ ks) (h16 : 16 ∈ ks) (h20 : 20 ∈ ks)
    (s : State) (named : Option Nat) (reason : Nat) (step : Nat) :
    forget ks (memberLost s named reason step) = forget ks s := by
  unfold memberLost
  repeat' (first
    | with_reducible rfl
    | simp only [forget_ite, ite_self, true_or, or_true, and_self, forget_postEvent, h3, h16, h20]
    | split)

theorem forget_flowFor (ks : List Nat) (h14 : 14 ∈ ks)
    (s : State) (key : List Nat) :
    forget ks (flowFor s key).1 = forget ks s := by
  unfold flowFor
  repeat' (first
    | with_reducible rfl
    | simp only [forget_ite, ite_self, true_or, or_true, and_self, forget_setLinks, h14]
    | split)

theorem forget_sendFlow (ks : List Nat) (h3 : 3 ∈ ks) (h14 : 14 ∈ ks) (h16 : 16 ∈ ks) (h20 : 20 ∈ ks)
    (s : State) (dest : Nat) (flow : Word32) (body : MsgBody) :
    forget ks (sendFlow s dest flow body) = forget ks s := by
  unfold sendFlow
  repeat' (first
    | with_reducible rfl
    | simp only [forget_ite, ite_self, true_or, or_true, and_self, forget_memberLost, forget_pump, forget_setLinks,
      h3, h14, h16, h20]
    | split)

theorem forget_sendTo (ks : List Nat) (h3 : 3 ∈ ks) (h14 : 14 ∈ ks) (h16 : 16 ∈ ks) (h20 : 20 ∈ ks)
    (s : State) (dest : Nat) (key : List Nat) (body : MsgBody) :
    forget ks (sendTo s dest key body) = forget ks s := by
  unfold sendTo
  repeat' (first
    | with_reducible rfl
    | simp only [forget_ite, ite_self, true_or, or_true, and_self, forget_flowFor, forget_sendFlow, h3, h14, h16, h20]
    | split)

theorem forget_sendControl (ks : List Nat) (h14 : 14 ∈ ks)
    (s : State) (n : Nat) (m : LinkMsg) (counted : Bool) :
    forget ks (sendControl s n m counted) = forget ks s := by
  unfold sendControl
  repeat' (first
    | with_reducible rfl
    | simp only [forget_ite, ite_self, true_or, or_true, and_self, forget_setPort, h14]
    | split)

theorem forget_drawBytes (ks : List Nat) (h21 : 21 ∈ ks)
    (s : State) (n : Nat) :
    forget ks (drawBytes s n).1 = forget ks s := by
  unfold drawBytes
  repeat' (first
    | with_reducible rfl
    | simp only [forget_ite, ite_self, true_or, or_true, and_self, forget_bump, h21]
    | split)

theorem forget_failPort (ks : List Nat) (h3 : 3 ∈ ks) (h14 : 14 ∈ ks) (h16 : 16 ∈ ks) (h20 : 20 ∈ ks)
    (s : State) (n : Nat) (reason : Nat) :
    forget ks (failPort s n reason) = forget ks s := by
  unfold failPort
  repeat' (first
    | with_reducible rfl
    | simp only [forget_ite, ite_self, true_or, or_true, and_self, forget_memberLost, forget_setPort, h3, h14, h16,
      h20]
    | split
    | (refine (forget_foldl ks _ ?_ _ _).trans ?_; intros))

theorem forget_startTraining (ks : List Nat) (h14 : 14 ∈ ks)
    (s : State) (n : Nat) :
    forget ks (startTraining s n) = forget ks s := by
  unfold startTraining
  repeat' (first
    | with_reducible rfl
    | simp only [forget_ite, ite_self, true_or, or_true, and_self, forget_setPort, h14]
    | split)

theorem forget_execPortTrainingEnd (ks : List Nat) (h3 : 3 ∈ ks) (h14 : 14 ∈ ks) (h16 : 16 ∈ ks) (h20 : 20 ∈ ks) (h21 : 21 ∈ ks)
    (port : Nat) (signal : Bool) (trained : List Nat) (locked : List Nat) (s : State) :
    forget ks (endState s (execPortTrainingEnd port signal trained locked s)) = forget ks s := by
  unfold execPortTrainingEnd
  repeat' (first
    | with_reducible rfl
    | simp only [forget_ite, endState_next, endState_ite, endState_fault, ite_self, true_or, or_true, and_self,
      forget_drawBytes, forget_failPort, forget_sendControl, forget_setPort, h3, h14, h16, h20, h21]
    | split)

theorem forget_execPortRetry (ks : List Nat) (h14 : 14 ∈ ks)
    (port : Nat) (s : State) :
    forget ks (endState s (execPortRetry port s)) = forget ks s := by
  unfold execPortRetry
  repeat' (first
    | with_reducible rfl
    | simp only [forget_ite, endState_next, endState_ite, endState_fault, ite_self, true_or, or_true, and_self,
      forget_startTraining, h14]
    | split)

theorem forget_execHello (ks : List Nat) (h3 : 3 ∈ ks) (h14 : 14 ∈ ks) (h16 : 16 ∈ ks) (h20 : 20 ∈ ks)
    (port : Nat) (jobId : List Byte) (member : Nat) (peerPort : Nat) (salt : List Byte) (s : State) :
    forget ks (endState s (execHello port jobId member peerPort salt s)) = forget ks s := by
  unfold execHello
  repeat' (first
    | with_reducible rfl
    | simp only [forget_ite, endState_next, endState_ite, endState_fault, ite_self, true_or, or_true, and_self,
      forget_failPort, forget_sendControl, forget_setPort, h3, h14, h16, h20]
    | split)

theorem forget_execConfirmation (ks : List Nat) (h3 : 3 ∈ ks) (h14 : 14 ∈ ks) (h16 : 16 ∈ ks) (h20 : 20 ∈ ks)
    (port : Nat) (senderSalt : List Byte) (receiverSalt : List Byte) (tagValid : Bool) (s : State) :
    forget ks (endState s (execConfirmation port senderSalt receiverSalt tagValid s)) = forget ks s := by
  unfold execConfirmation
  repeat' (first
    | with_reducible rfl
    | simp only [forget_ite, endState_next, endState_ite, endState_fault, ite_self, true_or, or_true, and_self,
      forget_failPort, forget_sendControl, forget_setPort, h3, h14, h16, h20]
    | split)

theorem forget_execCreditAdvertisement (ks : List Nat) (h3 : 3 ∈ ks) (h14 : 14 ∈ ks) (h16 : 16 ∈ ks) (h20 : 20 ∈ ks)
    (port : Nat) (sizes : List Nat) (s : State) :
    forget ks (endState s (execCreditAdvertisement port sizes s)) = forget ks s := by
  unfold execCreditAdvertisement
  repeat' (first
    | with_reducible rfl
    | simp only [forget_ite, endState_next, endState_ite, endState_fault, ite_self, true_or, or_true, and_self,
      forget_postEvent, forget_pump, forget_setPort, h3, h14, h16, h20]
    | split)

theorem forget_acceptFrame (ks : List Nat) (h14 : 14 ∈ ks)
    (s : State) (rx : Rx) (cls : Nat) (stream : Bool) :
    ∀ t, acceptFrame s rx cls stream = some t → forget ks t = forget ks s := by
  intro t h
  simp only [acceptFrame] at h
  split at h
  · cases h
    simp only [forget_ite, ite_self, true_or, or_true, and_self, forget_sendControl, forget_setPort, h14]
  · cases h

theorem forget_replenish (ks : List Nat) (h3 : 3 ∈ ks) (h14 : 14 ∈ ks) (h16 : 16 ∈ ks) (h20 : 20 ∈ ks)
    (s : State) (rx : Rx) (kind : Nat) :
    forget ks (replenish s rx kind) = forget ks s := by
  unfold replenish
  repeat' (first
    | with_reducible rfl
    | simp only [forget_ite, ite_self, true_or, or_true, and_self, forget_sendTo, h3, h14, h16, h20]
    | split)

theorem forget_execKeepaliveSend (ks : List Nat) (h14 : 14 ∈ ks)
    (port : Nat) (s : State) :
    forget ks (endState s (execKeepaliveSend port s)) = forget ks s := by
  unfold execKeepaliveSend
  repeat' (first
    | with_reducible rfl
    | simp only [forget_ite, endState_next, endState_ite, endState_fault, ite_self, true_or, or_true, and_self,
      forget_sendControl, h14]
    | split)

theorem forget_execKeepalive (ks : List Nat) (h14 : 14 ∈ ks)
    (port : Nat) (s : State) :
    forget ks (endState s (execKeepalive port s)) = forget ks s := by
  unfold execKeepalive
  repeat' (first
    | with_reducible rfl
    | simp only [forget_ite, endState_next, endState_ite, endState_fault, ite_self, true_or, or_true, and_self,
      forget_setPort, h14]
    | split)

theorem forget_execLivenessLost (ks : List Nat) (h3 : 3 ∈ ks) (h14 : 14 ∈ ks) (h16 : 16 ∈ ks) (h20 : 20 ∈ ks)
    (port : Nat) (s : State) :
    forget ks (endState s (execLivenessLost port s)) = forget ks s := by
  unfold execLivenessLost
  repeat' (first
    | with_reducible rfl
    | simp only [forget_ite, endState_next, endState_ite, endState_fault, ite_self, true_or, or_true, and_self,
      forget_failPort, forget_pump, h3, h14, h16, h20]
    | split)

theorem forget_announceStripe (ks : List Nat) (h14 : 14 ∈ ks)
    (s : State) (port : Nat) (lane : Nat) (lanes : List Nat) :
    forget ks (announceStripe s port lane lanes) = forget ks s := by
  unfold announceStripe
  repeat' (first
    | with_reducible rfl
    | simp only [forget_ite, ite_self, true_or, or_true, and_self, forget_sendControl, h14]
    | split)

theorem forget_execLaneFailure (ks : List Nat) (h3 : 3 ∈ ks) (h14 : 14 ∈ ks) (h16 : 16 ∈ ks) (h20 : 20 ∈ ks)
    (port : Nat) (lane : Nat) (s : State) :
    forget ks (endState s (execLaneFailure port lane s)) = forget ks s := by
  unfold execLaneFailure
  repeat' (first
    | with_reducible rfl
    | simp only [forget_ite, endState_next, endState_ite, endState_fault, ite_self, true_or, or_true, and_self,
      forget_announceStripe, forget_failPort, forget_postEvent, forget_pump, forget_setPort, h3, h14,
      h16, h20]
    | split)

theorem forget_resendFrom (ks : List Nat) (h14 : 14 ∈ ks)
    (s : State) (port : Nat) (seq : Word32) :
    forget ks (resendFrom s port seq) = forget ks s := by
  unfold resendFrom
  repeat' (first
    | with_reducible rfl
    | simp only [forget_ite, ite_self, true_or, or_true, and_self, forget_countPort, forget_setLinks,
      forget_setPort, h14]
    | split)

theorem forget_execReStripe (ks : List Nat) (h3 : 3 ∈ ks) (h14 : 14 ∈ ks) (h16 : 16 ∈ ks) (h20 : 20 ∈ ks)
    (port : Nat) (failedLane : Nat) (mask : Nat) (_seq : Word32) (s : State) :
    forget ks (endState s (execReStripe port failedLane mask _seq s)) = forget ks s := by
  unfold execReStripe
  repeat' (first
    | with_reducible rfl
    | simp only [forget_ite, endState_next, endState_ite, endState_fault, ite_self, true_or, or_true, and_self,
      forget_announceStripe, forget_failPort, forget_postEvent, forget_pump, forget_setPort, h3, h14,
      h16, h20]
    | split)

theorem forget_execReplayRequest (ks : List Nat) (h14 : 14 ∈ ks)
    (port : Nat) (seq : Word32) (s : State) :
    forget ks (endState s (execReplayRequest port seq s)) = forget ks s := by
  unfold execReplayRequest
  repeat' (first
    | with_reducible rfl
    | simp only [forget_ite, endState_next, endState_ite, endState_fault, ite_self, true_or, or_true, and_self,
      forget_resendFrom, forget_setPort, h14]
    | split)

theorem forget_execFrameDiscard (ks : List Nat) (h3 : 3 ∈ ks) (h14 : 14 ∈ ks) (h16 : 16 ∈ ks) (h20 : 20 ∈ ks)
    (port : Nat) (badTag : Bool) (s : State) :
    forget ks (endState s (execFrameDiscard port badTag s)) = forget ks s := by
  unfold execFrameDiscard
  repeat' (first
    | with_reducible rfl
    | simp only [forget_ite, endState_next, endState_ite, endState_fault, ite_self, true_or, or_true, and_self,
      forget_failPort, forget_pump, forget_sendControl, forget_setPort, h3, h14, h16, h20]
    | split)

theorem forget_execCredit (ks : List Nat) (h14 : 14 ∈ ks)
    (rx : Rx) (ack : Word32) (units : List Nat) (s : State) :
    forget ks (endState s (execCredit rx ack units s)) = forget ks s := by
  unfold execCredit
  repeat' (first
    | with_reducible rfl
    | simp only [forget_ite, endState_next, endState_ite, endState_fault, ite_self, true_or, or_true, and_self,
      forget_pump, forget_setPort, h14]
    | split)

theorem forget_execFrameForward (ks : List Nat) (h3 : 3 ∈ ks) (h14 : 14 ∈ ks) (h16 : 16 ∈ ks) (h20 : 20 ∈ ks)
    (port : Nat) (dest : Nat) (source : Nat) (cls : Nat) (stream : Bool) (hops : Nat) (epoch : Bool) (kind : Nat) (length : Nat) (flow : Word32) (s : State) :
    forget ks (endState s (execFrameForward port dest source cls stream hops epoch kind length flow s)) = forget ks s := by
  unfold execFrameForward
  repeat' (first
    | with_reducible rfl
    | simp only [forget_ite, endState_next, endState_ite, endState_fault, ite_self, true_or, or_true, and_self,
      forget_acceptFrame, forget_memberLost, forget_pump, forget_setLinks, h3, h14, h16, h20]
    | split
    | exact forget_acceptFrame ks (by assumption) _ _ _ _ _ ‹_›)

theorem forget_execReservedFrameKind (ks : List Nat) (h3 : 3 ∈ ks) (h14 : 14 ∈ ks) (h16 : 16 ∈ ks) (h20 : 20 ∈ ks)
    (rx : Rx) (kind : FrameKind) (s : State) :
    forget ks (endState s (execReservedFrameKind rx kind s)) = forget ks s := by
  unfold execReservedFrameKind
  repeat' (first
    | with_reducible rfl
    | simp only [forget_ite, endState_next, endState_ite, endState_fault, ite_self, true_or, or_true, and_self,
      forget_acceptFrame, forget_memberLost, h3, h14, h16, h20]
    | split
    | exact forget_acceptFrame ks (by assumption) _ _ _ _ _ ‹_›)

theorem forget_receive (ks : List Nat) (h3 : 3 ∈ ks) (h14 : 14 ∈ ks) (h16 : 16 ∈ ks) (h20 : 20 ∈ ks)
    (s : State) (rx : Rx) (kind : Nat) (body : MsgBody) (layoutOk : Bool) (run : State → State) (hr : ∀ x, forget ks (run x) = forget ks x) :
    forget ks (endState s (receive s rx kind body layoutOk run)) = forget ks s := by
  unfold receive
  repeat' (first
    | with_reducible rfl
    | simp only [forget_ite, endState_next, endState_ite, endState_fault, ite_self, true_or, or_true, and_self,
      forget_acceptFrame, forget_memberLost, forget_replenish, h3, h14, h16, h20, hr]
    | split
    | exact forget_acceptFrame ks (by assumption) _ _ _ _ _ ‹_›)

end Sys2Proof.Machine
end

