-- ==== Sys2Proof/Laws/FramePly.lean ====
section
/-! SUPPORT. The groups of state that a definition can change: the Ply instructions and what they are made of. -/

set_option maxRecDepth 4000
set_option linter.unusedSimpArgs false
set_option linter.unusedVariables false

namespace Sys2Proof.Machine

theorem forget_setCtx (ks : List Nat) (h11 : 11 ∈ ks)
    (s : State) (c : CtxId) (x : Context) :
    forget ks (setCtx s c x) = forget ks s := by
  unfold setCtx
  repeat' (first
    | with_reducible rfl
    | simp only [forget_ite, ite_self, true_or, or_true, and_self, forget_setSpindles, h11]
    | split)

theorem forget_setSram (ks : List Nat) (h11 : 11 ∈ ks) (h29 : 29 ∈ ks)
    (s : State) (die : Nat) (sp : Nat) (m : Mem) :
    forget ks (setSram s die sp m) = forget ks s := by
  unfold setSram
  repeat' (first
    | with_reducible rfl
    | simp only [forget_ite, ite_self, true_or, or_true, and_self, forget_setSpindles, h11, h29]
    | split)

theorem forget_storeValues (ks : List Nat) (h10 : 10 ∈ ks)
    (s : State) (rs : List (Nat × Nat × Nat × Nat)) (slot : Nat) (d : TensorDecl) (k : NoiseKey) (first : Nat) (vals : List FVal) (mask : Nat → Bool) :
    forget ks (storeValues s rs slot d k first vals mask) = forget ks s := by
  unfold storeValues
  repeat' (first
    | with_reducible rfl
    | simp only [forget_ite, ite_self, true_or, or_true, and_self, forget_setTensor, h10]
    | split
    | (refine (forget_foldl ks _ ?_ _ _).trans ?_; intros))

theorem forget_markIssued (ks : List Nat) (h11 : 11 ∈ ks)
    (s : State) (c : CtxId) :
    forget ks (markIssued s c) = forget ks s := by
  unfold markIssued
  repeat' (first
    | with_reducible rfl
    | simp only [forget_ite, ite_self, true_or, or_true, and_self, forget_setSpindles, h11]
    | split)

theorem forget_plyStep (ks : List Nat) (h11 : 11 ∈ ks)
    (s : State) (c : CtxId) (w : Word) (op : Nat) (run : Context → Image → FuncEntry → State) (hr : ∀ x y z, forget ks (run x y z) = forget ks s) :
    forget ks (endState s (plyStep s c w op run)) = forget ks s := by
  unfold plyStep
  repeat' (first
    | with_reducible rfl
    | simp only [forget_ite, endState_next, endState_ite, endState_fault, ite_self, true_or, or_true, and_self,
      forget_markIssued, h11, hr]
    | split)

theorem forget_signalCounter (ks : List Nat) (h11 : 11 ∈ ks)
    (s : State) (c : CtxId) (n : Nat) (amount : Nat) :
    forget ks (signalCounter s c n amount) = forget ks s := by
  unfold signalCounter
  repeat' (first
    | with_reducible rfl
    | simp only [forget_ite, ite_self, true_or, or_true, and_self, forget_setSpindles, h11]
    | split)

theorem forget_setQueue (ks : List Nat) (h11 : 11 ∈ ks)
    (s : State) (q : QueueId) (v : Queue) :
    forget ks (setQueue s q v) = forget ks s := by
  unfold setQueue
  repeat' (first
    | with_reducible rfl
    | simp only [forget_ite, ite_self, true_or, or_true, and_self, forget_setSpindles, h11]
    | split)

theorem forget_acceptCommand (ks : List Nat) (h3 : 3 ∈ ks) (h11 : 11 ∈ ks) (h16 : 16 ∈ ks) (h20 : 20 ∈ ks)
    (s : State) (q : QueueId) (cmd : QCmd) :
    forget ks (acceptCommand s q cmd) = forget ks s := by
  unfold acceptCommand
  repeat' (first
    | with_reducible rfl
    | simp only [forget_ite, ite_self, true_or, or_true, and_self, forget_postEvent, forget_setQueue,
      forget_setSpindles, h3, h11, h16, h20]
    | split
    | (refine (forget_foldl ks _ ?_ _ _).trans ?_; intros))

theorem forget_offerCommand (ks : List Nat) (h3 : 3 ∈ ks) (h11 : 11 ∈ ks) (h16 : 16 ∈ ks) (h20 : 20 ∈ ks)
    (s : State) (c : CtxId) (x : Context) (kind : QueueKind) (cmd : QCmd) :
    forget ks (offerCommand s c x kind cmd) = forget ks s := by
  unfold offerCommand
  repeat' (first
    | with_reducible rfl
    | simp only [forget_ite, ite_self, true_or, or_true, and_self, forget_acceptCommand, forget_setCtx,
      forget_setQueue, h3, h11, h16, h20]
    | split)

theorem forget_registerStep (ks : List Nat) (h11 : 11 ∈ ks)
    (s : State) (c : CtxId) (w : Word) (op : Nat) (f : Context → Context) :
    forget ks (endState s (registerStep s c w op f)) = forget ks s := by
  unfold registerStep
  repeat' (first
    | with_reducible rfl
    | simp only [forget_ite, endState_next, endState_ite, endState_fault, ite_self, true_or, or_true, and_self,
      forget_plyStep, forget_setCtx, h11]
    | split
    | (refine (forget_plyStep ks (by assumption) _ _ _ _ _ ?_).trans ?_; intro x y z))

theorem forget_execMov (ks : List Nat) (h11 : 11 ∈ ks)
    (c : CtxId) (w : Word) (s : State) :
    forget ks (endState s (execMov c w s)) = forget ks s := by
  unfold execMov
  repeat' (first
    | with_reducible rfl
    | simp only [forget_ite, endState_next, endState_ite, endState_fault, ite_self, true_or, or_true, and_self,
      forget_registerStep, h11]
    | split)

theorem forget_execMovi (ks : List Nat) (h11 : 11 ∈ ks)
    (c : CtxId) (w : Word) (s : State) :
    forget ks (endState s (execMovi c w s)) = forget ks s := by
  unfold execMovi
  repeat' (first
    | with_reducible rfl
    | simp only [forget_ite, endState_next, endState_ite, endState_fault, ite_self, true_or, or_true, and_self,
      forget_registerStep, h11]
    | split)

theorem forget_execMovhi (ks : List Nat) (h11 : 11 ∈ ks)
    (c : CtxId) (w : Word) (s : State) :
    forget ks (endState s (execMovhi c w s)) = forget ks s := by
  unfold execMovhi
  repeat' (first
    | with_reducible rfl
    | simp only [forget_ite, endState_next, endState_ite, endState_fault, ite_self, true_or, or_true, and_self,
      forget_registerStep, h11]
    | split)

theorem forget_execAlu (ks : List Nat) (h11 : 11 ∈ ks)
    (c : CtxId) (w : Word) (s : State) :
    forget ks (endState s (execAlu c w s)) = forget ks s := by
  unfold execAlu
  repeat' (first
    | with_reducible rfl
    | simp only [forget_ite, endState_next, endState_ite, endState_fault, ite_self, true_or, or_true, and_self,
      forget_registerStep, h11]
    | split)

theorem forget_execAlui (ks : List Nat) (h11 : 11 ∈ ks)
    (c : CtxId) (w : Word) (s : State) :
    forget ks (endState s (execAlui c w s)) = forget ks s := by
  unfold execAlui
  repeat' (first
    | with_reducible rfl
    | simp only [forget_ite, endState_next, endState_ite, endState_fault, ite_self, true_or, or_true, and_self,
      forget_registerStep, h11]
    | split)

theorem forget_execCmp (ks : List Nat) (h11 : 11 ∈ ks)
    (c : CtxId) (w : Word) (s : State) :
    forget ks (endState s (execCmp c w s)) = forget ks s := by
  unfold execCmp
  repeat' (first
    | with_reducible rfl
    | simp only [forget_ite, endState_next, endState_ite, endState_fault, ite_self, true_or, or_true, and_self,
      forget_registerStep, h11]
    | split)

theorem forget_execSel (ks : List Nat) (h11 : 11 ∈ ks)
    (c : CtxId) (w : Word) (s : State) :
    forget ks (endState s (execSel c w s)) = forget ks s := by
  unfold execSel
  repeat' (first
    | with_reducible rfl
    | simp only [forget_ite, endState_next, endState_ite, endState_fault, ite_self, true_or, or_true, and_self,
      forget_registerStep, h11]
    | split)

theorem forget_execFop (ks : List Nat) (h11 : 11 ∈ ks)
    (c : CtxId) (w : Word) (s : State) :
    forget ks (endState s (execFop c w s)) = forget ks s := by
  unfold execFop
  repeat' (first
    | with_reducible rfl
    | simp only [forget_ite, endState_next, endState_ite, endState_fault, ite_self, true_or, or_true, and_self,
      forget_registerStep, h11]
    | split)

theorem forget_execWiden (ks : List Nat) (h11 : 11 ∈ ks)
    (c : CtxId) (w : Word) (s : State) :
    forget ks (endState s (execWiden c w s)) = forget ks s := by
  unfold execWiden
  repeat' (first
    | with_reducible rfl
    | simp only [forget_ite, endState_next, endState_ite, endState_fault, ite_self, true_or, or_true, and_self,
      forget_registerStep, h11]
    | split)

theorem forget_execNarrow (ks : List Nat) (h11 : 11 ∈ ks)
    (c : CtxId) (w : Word) (s : State) :
    forget ks (endState s (execNarrow c w s)) = forget ks s := by
  unfold execNarrow
  repeat' (first
    | with_reducible rfl
    | simp only [forget_ite, endState_next, endState_ite, endState_fault, ite_self, true_or, or_true, and_self,
      forget_registerStep, h11]
    | split)

theorem forget_execBcast (ks : List Nat) (h11 : 11 ∈ ks)
    (c : CtxId) (w : Word) (s : State) :
    forget ks (endState s (execBcast c w s)) = forget ks s := by
  unfold execBcast
  repeat' (first
    | with_reducible rfl
    | simp only [forget_ite, endState_next, endState_ite, endState_fault, ite_self, true_or, or_true, and_self,
      forget_registerStep, h11]
    | split)

theorem forget_execReduce (ks : List Nat) (h11 : 11 ∈ ks)
    (c : CtxId) (w : Word) (s : State) :
    forget ks (endState s (execReduce c w s)) = forget ks s := by
  unfold execReduce
  repeat' (first
    | with_reducible rfl
    | simp only [forget_ite, endState_next, endState_ite, endState_fault, ite_self, true_or, or_true, and_self,
      forget_registerStep, h11]
    | split)

theorem forget_execReadctr (ks : List Nat) (h11 : 11 ∈ ks)
    (c : CtxId) (w : Word) (s : State) :
    forget ks (endState s (execReadctr c w s)) = forget ks s := by
  unfold execReadctr
  repeat' (first
    | with_reducible rfl
    | simp only [forget_ite, endState_next, endState_ite, endState_fault, ite_self, true_or, or_true, and_self,
      forget_registerStep, h11]
    | split)

theorem forget_execBr (ks : List Nat) (h11 : 11 ∈ ks)
    (c : CtxId) (w : Word) (s : State) :
    forget ks (endState s (execBr c w s)) = forget ks s := by
  unfold execBr
  repeat' (first
    | with_reducible rfl
    | simp only [forget_ite, endState_next, endState_ite, endState_fault, ite_self, true_or, or_true, and_self,
      forget_plyStep, forget_setCtx, h11]
    | split
    | (refine (forget_plyStep ks (by assumption) _ _ _ _ _ ?_).trans ?_; intro x y z))

theorem forget_execBrc (ks : List Nat) (h11 : 11 ∈ ks)
    (c : CtxId) (w : Word) (s : State) :
    forget ks (endState s (execBrc c w s)) = forget ks s := by
  unfold execBrc
  repeat' (first
    | with_reducible rfl
    | simp only [forget_ite, endState_next, endState_ite, endState_fault, ite_self, true_or, or_true, and_self,
      forget_plyStep, forget_setCtx, h11]
    | split
    | (refine (forget_plyStep ks (by assumption) _ _ _ _ _ ?_).trans ?_; intro x y z))

theorem forget_execLoop (ks : List Nat) (h11 : 11 ∈ ks)
    (c : CtxId) (w : Word) (s : State) :
    forget ks (endState s (execLoop c w s)) = forget ks s := by
  unfold execLoop
  repeat' (first
    | with_reducible rfl
    | simp only [forget_ite, endState_next, endState_ite, endState_fault, ite_self, true_or, or_true, and_self,
      forget_plyStep, forget_setCtx, h11]
    | split
    | (refine (forget_plyStep ks (by assumption) _ _ _ _ _ ?_).trans ?_; intro x y z))

theorem forget_execLoopEnd (ks : List Nat) (h11 : 11 ∈ ks)
    (c : CtxId) (s : State) :
    forget ks (endState s (execLoopEnd c s)) = forget ks s := by
  unfold execLoopEnd
  repeat' (first
    | with_reducible rfl
    | simp only [forget_ite, endState_next, endState_ite, endState_fault, ite_self, true_or, or_true, and_self,
      forget_setCtx, h11]
    | split)

theorem forget_execCall (ks : List Nat) (h11 : 11 ∈ ks)
    (c : CtxId) (w : Word) (s : State) :
    forget ks (endState s (execCall c w s)) = forget ks s := by
  unfold execCall
  repeat' (first
    | with_reducible rfl
    | simp only [forget_ite, endState_next, endState_ite, endState_fault, ite_self, true_or, or_true, and_self,
      forget_plyStep, forget_setCtx, h11]
    | split
    | (refine (forget_plyStep ks (by assumption) _ _ _ _ _ ?_).trans ?_; intro x y z))

theorem forget_execRet (ks : List Nat) (h11 : 11 ∈ ks)
    (c : CtxId) (w : Word) (s : State) :
    forget ks (endState s (execRet c w s)) = forget ks s := by
  unfold execRet
  repeat' (first
    | with_reducible rfl
    | simp only [forget_ite, endState_next, endState_ite, endState_fault, ite_self, true_or, or_true, and_self,
      forget_plyStep, forget_setCtx, h11]
    | split
    | (refine (forget_plyStep ks (by assumption) _ _ _ _ _ ?_).trans ?_; intro x y z))

theorem forget_execSignal (ks : List Nat) (h11 : 11 ∈ ks)
    (c : CtxId) (w : Word) (s : State) :
    forget ks (endState s (execSignal c w s)) = forget ks s := by
  unfold execSignal
  repeat' (first
    | with_reducible rfl
    | simp only [forget_ite, endState_next, endState_ite, endState_fault, ite_self, true_or, or_true, and_self,
      forget_plyStep, forget_setCtx, forget_signalCounter, h11]
    | split
    | (refine (forget_plyStep ks (by assumption) _ _ _ _ _ ?_).trans ?_; intro x y z))

theorem forget_execWait (ks : List Nat) (h11 : 11 ∈ ks)
    (c : CtxId) (w : Word) (s : State) :
    forget ks (endState s (execWait c w s)) = forget ks s := by
  unfold execWait
  repeat' (first
    | with_reducible rfl
    | simp only [forget_ite, endState_next, endState_ite, endState_fault, ite_self, true_or, or_true, and_self,
      forget_plyStep, forget_setCtx, h11]
    | split
    | (refine (forget_plyStep ks (by assumption) _ _ _ _ _ ?_).trans ?_; intro x y z))

theorem forget_execWaitSatisfied (ks : List Nat) (h11 : 11 ∈ ks)
    (c : CtxId) (s : State) :
    forget ks (endState s (execWaitSatisfied c s)) = forget ks s := by
  unfold execWaitSatisfied
  repeat' (first
    | with_reducible rfl
    | simp only [forget_ite, endState_next, endState_ite, endState_fault, ite_self, true_or, or_true, and_self,
      forget_setCtx, h11]
    | split)

theorem forget_execQuery (ks : List Nat) (h11 : 11 ∈ ks)
    (c : CtxId) (w : Word) (s : State) :
    forget ks (endState s (execQuery c w s)) = forget ks s := by
  unfold execQuery
  repeat' (first
    | with_reducible rfl
    | simp only [forget_ite, endState_next, endState_ite, endState_fault, ite_self, true_or, or_true, and_self,
      forget_plyStep, forget_setCtx, h11]
    | split
    | (refine (forget_plyStep ks (by assumption) _ _ _ _ _ ?_).trans ?_; intro x y z))

theorem forget_execQueueAccept (ks : List Nat) (h3 : 3 ∈ ks) (h11 : 11 ∈ ks) (h16 : 16 ∈ ks) (h20 : 20 ∈ ks)
    (q : QueueId) (s : State) :
    forget ks (endState s (execQueueAccept q s)) = forget ks s := by
  unfold execQueueAccept
  repeat' (first
    | with_reducible rfl
    | simp only [forget_ite, endState_next, endState_ite, endState_fault, ite_self, true_or, or_true, and_self,
      forget_acceptCommand, forget_setCtx, forget_setQueue, h3, h11, h16, h20]
    | split)

theorem forget_setVersion (ks : List Nat) (h6 : 6 ∈ ks)
    (s : State) (v : Version) :
    forget ks (setVersion s v) = forget ks s := by
  unfold setVersion
  repeat' (first
    | with_reducible rfl
    | simp only [forget_ite, ite_self, true_or, or_true, and_self, forget_setTables, h6]
    | split)

theorem forget_setPage (ks : List Nat) (h6 : 6 ∈ ks)
    (s : State) (p : Page) :
    forget ks (setPage s p) = forget ks s := by
  unfold setPage
  repeat' (first
    | with_reducible rfl
    | simp only [forget_ite, ite_self, true_or, or_true, and_self, forget_setTables, h6]
    | split)

theorem forget_setSlot (ks : List Nat) (h13 : 13 ∈ ks) (h24 : 24 ∈ ks)
    (s : State) (id : Nat) (k : Nat) (m : Mem) :
    forget ks (setSlot s id k m) = forget ks s := by
  unfold setSlot
  repeat' (first
    | with_reducible rfl
    | simp only [forget_ite, ite_self, true_or, or_true, and_self, forget_setDense, h13, h24]
    | split)

theorem forget_writeBlock (ks : List Nat) (h10 : 10 ∈ ks) (h13 : 13 ∈ ks) (h24 : 24 ∈ ks)
    (s : State) (d : TensorDecl) (block : Nat) (step : Nat) (u : UnitVals) :
    forget ks (writeBlock s d block step u) = forget ks s := by
  unfold writeBlock
  repeat' (first
    | with_reducible rfl
    | simp only [forget_ite, ite_self, true_or, or_true, and_self, forget_setSlot, forget_setTensor, h10, h13, h24]
    | split)

theorem forget_setStep (ks : List Nat) (h5 : 5 ∈ ks)
    (s : State) (x : AdmStep) :
    forget ks (setStep s x) = forget ks s := by
  unfold setStep
  repeat' (first
    | with_reducible rfl
    | simp only [forget_ite, ite_self, true_or, or_true, and_self, forget_setSteps, h5]
    | split)

theorem forget_setEval (ks : List Nat) (h5 : 5 ∈ ks)
    (s : State) (x : EvalReq) :
    forget ks (setEval s x) = forget ks s := by
  unfold setEval
  repeat' (first
    | with_reducible rfl
    | simp only [forget_ite, ite_self, true_or, or_true, and_self, forget_setSteps, h5]
    | split)

theorem forget_execTloadEffect (ks : List Nat) (h11 : 11 ∈ ks) (h19 : 19 ∈ ks)
    (s : State) (c : CtxId) (w : Word) (x : Context) (img : Image) :
    forget ks (execTloadEffect s c w x img) = forget ks s := by
  unfold execTloadEffect
  repeat' (first
    | with_reducible rfl
    | simp only [forget_ite, ite_self, true_or, or_true, and_self, forget_countOutOfFootprint, forget_setCtx, h11,
      h19]
    | split
    | (refine (forget_foldl ks _ ?_ _ _).trans ?_; intros))

theorem forget_execTload (ks : List Nat) (h11 : 11 ∈ ks) (h19 : 19 ∈ ks)
    (c : CtxId) (w : Word) (s : State) :
    forget ks (endState s (execTload c w s)) = forget ks s := by
  unfold execTload
  repeat' (first
    | with_reducible rfl
    | simp only [forget_ite, endState_next, endState_ite, endState_fault, ite_self, true_or, or_true, and_self,
      forget_execTloadEffect, forget_plyStep, h11, h19]
    | split
    | (refine (forget_plyStep ks (by assumption) _ _ _ _ _ ?_).trans ?_; intro x y z))

theorem forget_execTstoreEffect (ks : List Nat) (h10 : 10 ∈ ks) (h11 : 11 ∈ ks) (h19 : 19 ∈ ks)
    (s : State) (c : CtxId) (w : Word) (x : Context) (img : Image) :
    forget ks (execTstoreEffect s c w x img) = forget ks s := by
  unfold execTstoreEffect
  repeat' (first
    | with_reducible rfl
    | simp only [forget_ite, ite_self, true_or, or_true, and_self, forget_countOutOfFootprint, forget_setCtx,
      forget_setTensor, h10, h11, h19]
    | split)

theorem forget_execTstore (ks : List Nat) (h10 : 10 ∈ ks) (h11 : 11 ∈ ks) (h19 : 19 ∈ ks)
    (c : CtxId) (w : Word) (s : State) :
    forget ks (endState s (execTstore c w s)) = forget ks s := by
  unfold execTstore
  repeat' (first
    | with_reducible rfl
    | simp only [forget_ite, endState_next, endState_ite, endState_fault, ite_self, true_or, or_true, and_self,
      forget_execTstoreEffect, forget_plyStep, h10, h11, h19]
    | split
    | (refine (forget_plyStep ks (by assumption) _ _ _ _ _ ?_).trans ?_; intro x y z))

theorem forget_execTmove (ks : List Nat) (h3 : 3 ∈ ks) (h11 : 11 ∈ ks) (h16 : 16 ∈ ks) (h20 : 20 ∈ ks)
    (c : CtxId) (w : Word) (s : State) :
    forget ks (endState s (execTmove c w s)) = forget ks s := by
  unfold execTmove
  repeat' (first
    | with_reducible rfl
    | simp only [forget_ite, endState_next, endState_ite, endState_fault, ite_self, true_or, or_true, and_self,
      forget_offerCommand, forget_plyStep, h3, h11, h16, h20]
    | split
    | (refine (forget_plyStep ks (by assumption) _ _ _ _ _ ?_).trans ?_; intro x y z))

theorem forget_execProduct (ks : List Nat) (h3 : 3 ∈ ks) (h11 : 11 ∈ ks) (h16 : 16 ∈ ks) (h20 : 20 ∈ ks)
    (c : CtxId) (w : Word) (s : State) :
    forget ks (endState s (execProduct c w s)) = forget ks s := by
  unfold execProduct
  repeat' (first
    | with_reducible rfl
    | simp only [forget_ite, endState_next, endState_ite, endState_fault, ite_self, true_or, or_true, and_self,
      forget_offerCommand, forget_plyStep, h3, h11, h16, h20]
    | split
    | (refine (forget_plyStep ks (by assumption) _ _ _ _ _ ?_).trans ?_; intro x y z))

theorem forget_runMove (ks : List Nat) (h10 : 10 ∈ ks) (h19 : 19 ∈ ks)
    (s : State) (q : QCmd) (slot : Nat) :
    forget ks (runMove s q slot) = forget ks s := by
  unfold runMove
  repeat' (first
    | with_reducible rfl
    | simp only [forget_ite, ite_self, true_or, or_true, and_self, forget_countOutOfFootprint, forget_setTensor,
      h10, h19]
    | split
    | (refine (forget_foldl ks _ ?_ _ _).trans ?_; intros))

theorem forget_passTile (ks : List Nat) (h11 : 11 ∈ ks)
    (s : State) (qid : QueueId) (q : QCmd) (p : ProductD) (row : Nat) (col : Nat) (width : Nat) (val : Nat → Nat → Word32) :
    forget ks (passTile s qid q p row col width val) = forget ks s := by
  unfold passTile
  repeat' (first
    | with_reducible rfl
    | simp only [forget_ite, ite_self, true_or, or_true, and_self, forget_setSpindles, h11]
    | split
    | (refine (forget_foldl ks _ ?_ _ _).trans ?_; intros))

theorem forget_runProduct (ks : List Nat) (h10 : 10 ∈ ks) (h11 : 11 ∈ ks) (h19 : 19 ∈ ks)
    (s : State) (qid : QueueId) (q : QCmd) (slot : Nat) :
    forget ks (runProduct s qid q slot) = forget ks s := by
  unfold runProduct
  repeat' (first
    | with_reducible rfl
    | simp only [forget_ite, ite_self, true_or, or_true, and_self, forget_countOutOfFootprint, forget_passTile,
      forget_setTensor, forget_storeValues, h10, h11, h19]
    | split
    | (refine (forget_foldl ks _ ?_ _ _).trans ?_; intros))

theorem forget_signalBy (ks : List Nat) (h11 : 11 ∈ ks)
    (s : State) (c : CtxId) (counter : Option Nat) :
    forget ks (signalBy s c counter) = forget ks s := by
  unfold signalBy
  repeat' (first
    | with_reducible rfl
    | simp only [forget_ite, ite_self, true_or, or_true, and_self, forget_signalCounter, h11]
    | split)

theorem forget_tileEffect (ks : List Nat) (h10 : 10 ∈ ks) (h11 : 11 ∈ ks) (h19 : 19 ∈ ks)
    (s : State) (c : CtxId) (w : Word) (x : Context) (img : Image) :
    forget ks (tileEffect s c w x img) = forget ks s := by
  unfold tileEffect
  repeat' (first
    | with_reducible rfl
    | simp only [forget_ite, ite_self, true_or, or_true, and_self, forget_countOutOfFootprint, forget_setCtx,
      forget_setTensor, forget_signalBy, h10, h11, h19]
    | split
    | (refine (forget_foldl ks _ ?_ _ _).trans ?_; intros))

theorem forget_execTile (ks : List Nat) (h10 : 10 ∈ ks) (h11 : 11 ∈ ks) (h19 : 19 ∈ ks)
    (c : CtxId) (w : Word) (s : State) :
    forget ks (endState s (execTile c w s)) = forget ks s := by
  unfold execTile
  repeat' (first
    | with_reducible rfl
    | simp only [forget_ite, endState_next, endState_ite, endState_fault, ite_self, true_or, or_true, and_self,
      forget_plyStep, forget_tileEffect, h10, h11, h19]
    | split
    | (refine (forget_plyStep ks (by assumption) _ _ _ _ _ ?_).trans ?_; intro x y z))

theorem forget_scratchWrite (ks : List Nat) (h11 : 11 ∈ ks) (h29 : 29 ∈ ks)
    (s : State) (c : CtxId) (x : Context) (off : Nat) (bs : List Byte) :
    forget ks (scratchWrite s c x off bs) = forget ks s := by
  unfold scratchWrite
  repeat' (first
    | with_reducible rfl
    | simp only [forget_ite, ite_self, true_or, or_true, and_self, forget_setSram, h11, h29]
    | split)

theorem forget_layerEffect (ks : List Nat) (h10 : 10 ∈ ks) (h11 : 11 ∈ ks) (h19 : 19 ∈ ks) (h29 : 29 ∈ ks)
    (s : State) (c : CtxId) (w : Word) (x : Context) (img : Image) :
    forget ks (layerEffect s c w x img) = forget ks s := by
  unfold layerEffect
  repeat' (first
    | with_reducible rfl
    | simp only [forget_ite, ite_self, true_or, or_true, and_self, forget_countOutOfFootprint, forget_scratchWrite,
      forget_setCtx, forget_signalBy, forget_storeValues, h10, h11, h19, h29]
    | split
    | (refine (forget_foldl ks _ ?_ _ _).trans ?_; intros))

theorem forget_execLayer (ks : List Nat) (h10 : 10 ∈ ks) (h11 : 11 ∈ ks) (h19 : 19 ∈ ks) (h29 : 29 ∈ ks)
    (c : CtxId) (w : Word) (s : State) :
    forget ks (endState s (execLayer c w s)) = forget ks s := by
  unfold execLayer
  repeat' (first
    | with_reducible rfl
    | simp only [forget_ite, endState_next, endState_ite, endState_fault, ite_self, true_or, or_true, and_self,
      forget_layerEffect, forget_plyStep, h10, h11, h19, h29]
    | split
    | (refine (forget_plyStep ks (by assumption) _ _ _ _ _ ?_).trans ?_; intro x y z))

theorem forget_setInst (ks : List Nat) (h5 : 5 ∈ ks)
    (s : State) (x : Inst) :
    forget ks (setInst s x) = forget ks s := by
  unfold setInst
  repeat' (first
    | with_reducible rfl
    | simp only [forget_ite, ite_self, true_or, or_true, and_self, forget_setEval, forget_setStep, h5]
    | split)

theorem forget_clearStale (ks : List Nat) (h10 : 10 ∈ ks)
    (s : State) (l : Lattice) (i : Inst) (v : Nat) :
    forget ks (clearStale s l i v) = forget ks s := by
  unfold clearStale
  repeat' (first
    | with_reducible rfl
    | simp only [forget_ite, ite_self, true_or, or_true, and_self, forget_setTensor, h10]
    | split
    | (refine (forget_foldl ks _ ?_ _ _).trans ?_; intros))

end Sys2Proof.Machine
end

