-- ==== Sys2Proof/Laws/FrameExchange.lean ====
section
/-! SUPPORT. The groups of state that a definition can change: rows, owners, dense trees and the frames of the exchange. -/

set_option maxRecDepth 4000
set_option linter.unusedSimpArgs false
set_option linter.unusedVariables false

namespace Sys2Proof.Machine

theorem forget_setSection (ks : List Nat) (h5 : 5 ∈ ks)
    (s : State) (i : InstRef) (c : Section) :
    forget ks (setSection s i c) = forget ks s := by
  unfold setSection
  repeat' (first
    | with_reducible rfl
    | simp only [forget_ite, ite_self, true_or, or_true, and_self, forget_setEval, forget_setStep, h5]
    | split)

theorem forget_fillTensor (ks : List Nat) (h10 : 10 ∈ ks)
    (s : State) (d : TensorDecl) (k : NoiseKey) (first : Nat) (vals : List FVal) :
    forget ks (fillTensor s d k first vals) = forget ks s := by
  unfold fillTensor
  repeat' (first
    | with_reducible rfl
    | simp only [forget_ite, ite_self, true_or, or_true, and_self, forget_setTensor, h10]
    | split
    | (refine (forget_foldl ks _ ?_ _ _).trans ?_; intros))

theorem forget_tryPool (ks : List Nat) (h5 : 5 ∈ ks) (h10 : 10 ∈ ks)
    (s : State) (i : InstRef) (table : Nat) :
    forget ks (tryPool s i table) = forget ks s := by
  unfold tryPool
  repeat' (first
    | with_reducible rfl
    | simp only [forget_ite, ite_self, true_or, or_true, and_self, forget_fillTensor, forget_setSection, h5, h10]
    | split
    | (refine (forget_foldl ks _ ?_ _ _).trans ?_; intros))

theorem forget_tryPools (ks : List Nat) (h5 : 5 ∈ ks) (h10 : 10 ∈ ks)
    (s : State) (i : InstRef) :
    forget ks (tryPools s i) = forget ks s := by
  unfold tryPools
  repeat' (first
    | with_reducible rfl
    | simp only [forget_ite, ite_self, true_or, or_true, and_self, forget_tryPool, h5, h10]
    | split
    | (refine (forget_foldl ks _ ?_ _ _).trans ?_; intros))

theorem forget_deliverRows (ks : List Nat) (h5 : 5 ∈ ks) (h10 : 10 ∈ ks)
    (s : State) (f : RowDataF) :
    forget ks (deliverRows s f) = forget ks s := by
  unfold deliverRows
  repeat' (first
    | with_reducible rfl
    | simp only [forget_ite, ite_self, true_or, or_true, and_self, forget_setSection, forget_tryPool, h5, h10]
    | split)

theorem forget_deliverSums (ks : List Nat) (h5 : 5 ∈ ks) (h10 : 10 ∈ ks)
    (s : State) (owner : Nat) (f : PartialSumF) :
    forget ks (deliverSums s owner f) = forget ks s := by
  unfold deliverSums
  repeat' (first
    | with_reducible rfl
    | simp only [forget_ite, ite_self, true_or, or_true, and_self, forget_setSection, forget_tryPool, h5, h10]
    | split
    | (refine (forget_foldl ks _ ?_ _ _).trans ?_; intros))

theorem forget_withPagesToCome (ks : List Nat) (h6 : 6 ∈ ks)
    (s : State) :
    forget ks (withPagesToCome s) = forget ks s := by
  unfold withPagesToCome
  repeat' (first
    | with_reducible rfl
    | simp only [forget_ite, ite_self, true_or, or_true, and_self, forget_setTables, h6]
    | split)

theorem forget_addPage (ks : List Nat) (h6 : 6 ∈ ks)
    (s : State) (p : Page) :
    forget ks (addPage s p) = forget ks s := by
  unfold addPage
  repeat' (first
    | with_reducible rfl
    | simp only [forget_ite, ite_self, true_or, or_true, and_self, forget_setTables, h6]
    | split)

theorem forget_installPages (ks : List Nat) (h6 : 6 ∈ ks)
    (s : State) (v : Version) (skeins : List Nat) :
    forget ks (installPages s v skeins) = forget ks s := by
  unfold installPages
  repeat' (first
    | with_reducible rfl
    | simp only [forget_ite, ite_self, true_or, or_true, and_self, forget_addPage, h6]
    | split
    | (refine (forget_foldl ks _ ?_ _ _).trans ?_; intros))

theorem forget_drawWear (ks : List Nat) (h6 : 6 ∈ ks) (h19 : 19 ∈ ks)
    (s : State) (n : Nat) :
    forget ks (drawWear s n) = forget ks s := by
  unfold drawWear
  repeat' (first
    | with_reducible rfl
    | simp only [forget_ite, ite_self, true_or, or_true, and_self, forget_setTables, forget_setTelemetry, h6, h19]
    | split)

theorem forget_noteSpare (ks : List Nat) (h6 : 6 ∈ ks)
    (s : State) :
    forget ks (noteSpare s) = forget ks s := by
  unfold noteSpare
  repeat' (first
    | with_reducible rfl
    | simp only [forget_ite, ite_self, true_or, or_true, and_self, forget_setTables, h6]
    | split)

theorem forget_writeFlash (ks : List Nat) (h6 : 6 ∈ ks) (h15 : 15 ∈ ks) (h19 : 19 ∈ ks)
    (s : State) (p : Page) :
    forget ks (writeFlash s p) = forget ks s := by
  unfold writeFlash
  repeat' (first
    | with_reducible rfl
    | simp only [forget_ite, ite_self, true_or, or_true, and_self, forget_drawWear, forget_noteSpare,
      forget_setPage, forget_setTables, forget_wakeChannels, h6, h15, h19]
    | split)

theorem forget_startMove (ks : List Nat) (h6 : 6 ∈ ks) (h15 : 15 ∈ ks)
    (s : State) (p : Page) (t : Tier) :
    forget ks (startMove s p t) = forget ks s := by
  unfold startMove
  repeat' (first
    | with_reducible rfl
    | simp only [forget_ite, ite_self, true_or, or_true, and_self, forget_setPage, forget_wakeChannels, h6, h15]
    | split)

theorem forget_makeWay (ks : List Nat) (h6 : 6 ∈ ks) (h15 : 15 ∈ ks)
    (s : State) (p : Page) :
    forget ks (makeWay s p) = forget ks s := by
  unfold makeWay
  repeat' (first
    | with_reducible rfl
    | simp only [forget_ite, ite_self, true_or, or_true, and_self, forget_startMove, h6, h15]
    | split)

theorem forget_shrinkTier (ks : List Nat) (h6 : 6 ∈ ks) (h15 : 15 ∈ ks)
    (t : Tier) (y1 : Nat) (y2 : State) :
    forget ks (shrinkTier t y1 y2) = forget ks y2 := by
  induction y1 generalizing y2 with
  | zero => rfl
  | succ n ih =>
    unfold shrinkTier
    repeat' (first
      | with_reducible rfl
      | simp only [forget_ite, ite_self, true_or, or_true, and_self, forget_makeWay, h6, h15, ih]
      | split
      | (refine (forget_foldl ks _ ?_ _ _).trans ?_; intros))

theorem forget_shrinkRows (ks : List Nat) (h6 : 6 ∈ ks) (h15 : 15 ∈ ks)
    (s : State) :
    forget ks (shrinkRows s) = forget ks s := by
  unfold shrinkRows
  repeat' (first
    | with_reducible rfl
    | simp only [forget_ite, ite_self, true_or, or_true, and_self, forget_shrinkTier, h6, h15]
    | split)

theorem forget_promote (ks : List Nat) (h6 : 6 ∈ ks) (h15 : 15 ∈ ks)
    (s : State) (p : Page) :
    forget ks (promote s p) = forget ks s := by
  unfold promote
  repeat' (first
    | with_reducible rfl
    | simp only [forget_ite, ite_self, true_or, or_true, and_self, forget_makeWay, forget_startMove, h6, h15]
    | split)

theorem forget_wantPage (ks : List Nat) (h6 : 6 ∈ ks) (h15 : 15 ∈ ks)
    (s : State) (p : Page) :
    forget ks (wantPage s p) = forget ks s := by
  unfold wantPage
  repeat' (first
    | with_reducible rfl
    | simp only [forget_ite, ite_self, true_or, or_true, and_self, forget_promote, forget_setPage, h6, h15]
    | split)

theorem forget_writeDelta (ks : List Nat) (h3 : 3 ∈ ks)
    (s : State) (r : DeltaRecord) :
    forget ks (writeDelta s r) = forget ks s := by
  unfold writeDelta
  repeat' (first
    | with_reducible rfl
    | simp only [forget_ite, ite_self, true_or, or_true, and_self, forget_setRing, forget_setRings, h3]
    | split)

theorem forget_postDelta (ks : List Nat) (h3 : 3 ∈ ks) (h16 : 16 ∈ ks) (h17 : 17 ∈ ks) (h20 : 20 ∈ ks)
    (s : State) (v : Version) (row : Nat) (step : Nat) (bs : List Byte) :
    forget ks (postDelta s v row step bs) = forget ks s := by
  unfold postDelta
  repeat' (first
    | with_reducible rfl
    | simp only [forget_ite, ite_self, true_or, or_true, and_self, forget_postEvent, forget_setOutputs,
      forget_writeDelta, h3, h16, h17, h20]
    | split)

theorem forget_setEntry (ks : List Nat) (h12 : 12 ∈ ks)
    (s : State) (e : Entry) :
    forget ks (setEntry s e) = forget ks s := by
  unfold setEntry
  repeat' (first
    | with_reducible rfl
    | simp only [forget_ite, ite_self, true_or, or_true, and_self, forget_setOwners, h12]
    | split)

theorem forget_expectRow (ks : List Nat) (h12 : 12 ∈ ks)
    (s : State) (step : Nat) (table : Nat) (pass : Nat) (source : Nat) (row : Nat) :
    forget ks (expectRow s step table pass source row) = forget ks s := by
  unfold expectRow
  repeat' (first
    | with_reducible rfl
    | simp only [forget_ite, ite_self, true_or, or_true, and_self, forget_setEntry, forget_setOwners, h12]
    | split)

theorem forget_promoteWaiting (ks : List Nat) (h6 : 6 ∈ ks) (h15 : 15 ∈ ks)
    (s : State) :
    forget ks (promoteWaiting s) = forget ks s := by
  unfold promoteWaiting
  repeat' (first
    | with_reducible rfl
    | simp only [forget_ite, ite_self, true_or, or_true, and_self, forget_wantPage, h6, h15]
    | split
    | (refine (forget_foldl ks _ ?_ _ _).trans ?_; intros))

theorem forget_recordRequest (ks : List Nat) (h6 : 6 ∈ ks) (h12 : 12 ∈ ks) (h15 : 15 ∈ ks)
    (s : State) (q : OwnReq) :
    forget ks (recordRequest s q) = forget ks s := by
  unfold recordRequest
  repeat' (first
    | with_reducible rfl
    | simp only [forget_ite, ite_self, true_or, or_true, and_self, forget_expectRow, forget_setPage,
      forget_wantPage, h6, h12, h15]
    | split
    | (refine (forget_foldl ks _ ?_ _ _).trans ?_; intros))

theorem forget_takeRequest (ks : List Nat) (h6 : 6 ∈ ks) (h12 : 12 ∈ ks) (h15 : 15 ∈ ks)
    (s : State) (source : Nat) (flow : Word32) (f : RowRequestF) (eval : Bool) :
    forget ks (takeRequest s source flow f eval) = forget ks s := by
  unfold takeRequest
  repeat' (first
    | with_reducible rfl
    | simp only [forget_ite, ite_self, true_or, or_true, and_self, forget_recordRequest, forget_setOwners, h6, h12,
      h15]
    | split)

theorem forget_serveRequest (ks : List Nat) (h3 : 3 ∈ ks) (h5 : 5 ∈ ks) (h10 : 10 ∈ ks) (h14 : 14 ∈ ks) (h16 : 16 ∈ ks) (h19 : 19 ∈ ks) (h20 : 20 ∈ ks)
    (s : State) (q : OwnReq) (v : Version) :
    forget ks (serveRequest s q v) = forget ks s := by
  unfold serveRequest
  repeat' (first
    | with_reducible rfl
    | simp only [forget_ite, ite_self, true_or, or_true, and_self, forget_countTier, forget_deliverRows,
      forget_deliverSums, forget_sendFlow, h3, h5, h10, h14, h16, h19, h20]
    | split
    | (refine (forget_foldl ks _ ?_ _ _).trans ?_; intros))

theorem forget_parkEntry (ks : List Nat) (h12 : 12 ∈ ks)
    (s : State) (e : Entry) :
    forget ks (parkEntry s e) = forget ks s := by
  unfold parkEntry
  repeat' (first
    | with_reducible rfl
    | simp only [forget_ite, ite_self, true_or, or_true, and_self, forget_setEntry, forget_setOwners, h12]
    | split)

theorem forget_releaseCredit (ks : List Nat) (h12 : 12 ∈ ks)
    (s : State) (die : Nat) :
    forget ks (releaseCredit s die) = forget ks s := by
  unfold releaseCredit
  repeat' (first
    | with_reducible rfl
    | simp only [forget_ite, ite_self, true_or, or_true, and_self, forget_setOwners, h12]
    | split)

theorem forget_skipRow (ks : List Nat) (h5 : 5 ∈ ks)
    (s : State) (step : Nat) (table : Nat) (row : Nat) :
    forget ks (skipRow s step table row) = forget ks s := by
  unfold skipRow
  repeat' (first
    | with_reducible rfl
    | simp only [forget_ite, ite_self, true_or, or_true, and_self, forget_setStep, h5]
    | split)

theorem forget_skipBlock (ks : List Nat) (h5 : 5 ∈ ks)
    (s : State) (step : Nat) (tensor : Nat) (block : Nat) :
    forget ks (skipBlock s step tensor block) = forget ks s := by
  unfold skipBlock
  repeat' (first
    | with_reducible rfl
    | simp only [forget_ite, ite_self, true_or, or_true, and_self, forget_setStep, h5]
    | split)

theorem forget_noteUpdate (ks : List Nat) (h3 : 3 ∈ ks) (h6 : 6 ∈ ks) (h16 : 16 ∈ ks) (h17 : 17 ∈ ks) (h19 : 19 ∈ ks) (h20 : 20 ∈ ks)
    (s : State) (v : Version) (row : Nat) (step : Nat) (bs : List Byte) :
    forget ks (noteUpdate s v row step bs) = forget ks s := by
  unfold noteUpdate
  repeat' (first
    | with_reducible rfl
    | simp only [forget_ite, ite_self, true_or, or_true, and_self, forget_countTier, forget_postDelta,
      forget_setPage, h3, h6, h16, h17, h19, h20]
    | split)

theorem forget_applyRowUnit (ks : List Nat) (h3 : 3 ∈ ks) (h5 : 5 ∈ ks) (h6 : 6 ∈ ks) (h16 : 16 ∈ ks) (h17 : 17 ∈ ks) (h19 : 19 ∈ ks) (h20 : 20 ∈ ks)
    (s : State) (v : Version) (step : Nat) (row : Nat) (u : UnitVals) :
    forget ks (applyRowUnit s v step row u) = forget ks s := by
  unfold applyRowUnit
  repeat' (first
    | with_reducible rfl
    | simp only [forget_ite, ite_self, true_or, or_true, and_self, forget_noteUpdate, forget_setVersion,
      forget_skipRow, h3, h5, h6, h16, h17, h19, h20]
    | split)

theorem forget_applyRow (ks : List Nat) (h3 : 3 ∈ ks) (h5 : 5 ∈ ks) (h6 : 6 ∈ ks) (h16 : 16 ∈ ks) (h17 : 17 ∈ ks) (h19 : 19 ∈ ks) (h20 : 20 ∈ ks)
    (s : State) (v : Version) (e : Entry) :
    forget ks (applyRow s v e) = forget ks s := by
  unfold applyRow
  repeat' (first
    | with_reducible rfl
    | simp only [forget_ite, ite_self, true_or, or_true, and_self, forget_applyRowUnit, h3, h5, h6, h16, h17, h19,
      h20]
    | split)

theorem forget_skipPoisoned (ks : List Nat) (h12 : 12 ∈ ks) (h19 : 19 ∈ ks)
    (s : State) (e : Entry) :
    forget ks (skipPoisoned s e) = forget ks s := by
  unfold skipPoisoned
  repeat' (first
    | with_reducible rfl
    | simp only [forget_ite, ite_self, true_or, or_true, and_self, forget_setEntry, forget_setTelemetry, h12, h19]
    | split)

theorem forget_writeResult (ks : List Nat) (h3 : 3 ∈ ks) (h6 : 6 ∈ ks) (h12 : 12 ∈ ks) (h16 : 16 ∈ ks) (h17 : 17 ∈ ks) (h19 : 19 ∈ ks) (h20 : 20 ∈ ks)
    (s : State) (v : Version) (e : Entry) (bs : List Byte) :
    forget ks (writeResult s v e bs) = forget ks s := by
  unfold writeResult
  repeat' (first
    | with_reducible rfl
    | simp only [forget_ite, ite_self, true_or, or_true, and_self, forget_noteUpdate, forget_setEntry,
      forget_setVersion, h3, h6, h12, h16, h17, h19, h20]
    | split)

theorem forget_settleEntry (ks : List Nat) (h3 : 3 ∈ ks) (h5 : 5 ∈ ks) (h6 : 6 ∈ ks) (h12 : 12 ∈ ks) (h15 : 15 ∈ ks) (h16 : 16 ∈ ks) (h17 : 17 ∈ ks) (h19 : 19 ∈ ks) (h20 : 20 ∈ ks)
    (s : State) (e : Entry) :
    forget ks (settleEntry s e) = forget ks s := by
  unfold settleEntry
  repeat' (first
    | with_reducible rfl
    | simp only [forget_ite, ite_self, true_or, or_true, and_self, forget_applyRow, forget_parkEntry,
      forget_setEntry, forget_skipPoisoned, forget_skipRow, forget_wantPage, forget_writeResult, h3, h5,
      h6, h12, h15, h16, h17, h19, h20]
    | split)

theorem forget_advanceEntry (ks : List Nat) (h3 : 3 ∈ ks) (h5 : 5 ∈ ks) (h6 : 6 ∈ ks) (h12 : 12 ∈ ks) (h15 : 15 ∈ ks) (h16 : 16 ∈ ks) (h17 : 17 ∈ ks) (h19 : 19 ∈ ks) (h20 : 20 ∈ ks)
    (s : State) (e : Entry) :
    forget ks (advanceEntry s e) = forget ks s := by
  unfold advanceEntry
  repeat' (first
    | with_reducible rfl
    | simp only [forget_ite, ite_self, true_or, or_true, and_self, forget_setEntry, forget_settleEntry, h3, h5, h6,
      h12, h15, h16, h17, h19, h20]
    | split)

theorem forget_settleAll (ks : List Nat) (h3 : 3 ∈ ks) (h5 : 5 ∈ ks) (h6 : 6 ∈ ks) (h12 : 12 ∈ ks) (h15 : 15 ∈ ks) (h16 : 16 ∈ ks) (h17 : 17 ∈ ks) (h19 : 19 ∈ ks) (h20 : 20 ∈ ks)
    (s : State) :
    forget ks (settleAll s) = forget ks s := by
  unfold settleAll
  repeat' (first
    | with_reducible rfl
    | simp only [forget_ite, ite_self, true_or, or_true, and_self, forget_advanceEntry, h3, h5, h6, h12, h15, h16,
      h17, h19, h20]
    | split
    | (refine (forget_foldl ks _ ?_ _ _).trans ?_; intros))

theorem forget_contribute (ks : List Nat) (h3 : 3 ∈ ks) (h5 : 5 ∈ ks) (h6 : 6 ∈ ks) (h12 : 12 ∈ ks) (h15 : 15 ∈ ks) (h16 : 16 ∈ ks) (h17 : 17 ∈ ks) (h19 : 19 ∈ ks) (h20 : 20 ∈ ks)
    (s : State) (step : Nat) (table : Nat) (row : Nat) (source : Nat) (vals : List Word32) :
    forget ks (contribute s step table row source vals) = forget ks s := by
  unfold contribute
  repeat' (first
    | with_reducible rfl
    | simp only [forget_ite, ite_self, true_or, or_true, and_self, forget_advanceEntry, forget_setEntry,
      forget_setOwners, h3, h5, h6, h12, h15, h16, h17, h19, h20]
    | split)

theorem forget_putStream (ks : List Nat) (h12 : 12 ∈ ks)
    (s : State) (x : StreamRx) :
    forget ks (putStream s x) = forget ks s := by
  unfold putStream
  repeat' (first
    | with_reducible rfl
    | simp only [forget_ite, ite_self, true_or, or_true, and_self, forget_setOwners, h12]
    | split)

theorem forget_streamFault (ks : List Nat) (h3 : 3 ∈ ks) (h5 : 5 ∈ ks) (h12 : 12 ∈ ks) (h16 : 16 ∈ ks) (h20 : 20 ∈ ks)
    (s : State) (x : StreamRx) :
    forget ks (streamFault s x) = forget ks s := by
  unfold streamFault
  repeat' (first
    | with_reducible rfl
    | simp only [forget_ite, ite_self, true_or, or_true, and_self, forget_memberLost, forget_putStream,
      forget_setSteps, h3, h5, h12, h16, h20]
    | split)

theorem forget_takeFragment (ks : List Nat) (h3 : 3 ∈ ks) (h5 : 5 ∈ ks) (h6 : 6 ∈ ks) (h12 : 12 ∈ ks) (h15 : 15 ∈ ks) (h16 : 16 ∈ ks) (h17 : 17 ∈ ks) (h19 : 19 ∈ ks) (h20 : 20 ∈ ks)
    (s : State) (x : StreamRx) (g : Fragment) :
    forget ks (takeFragment s x g).1 = forget ks s := by
  unfold takeFragment
  repeat' (first
    | with_reducible rfl
    | simp only [forget_ite, ite_self, true_or, or_true, and_self, forget_contribute, forget_streamFault, h3, h5,
      h6, h12, h15, h16, h17, h19, h20]
    | split)

theorem forget_takeStream (ks : List Nat) (h3 : 3 ∈ ks) (h5 : 5 ∈ ks) (h6 : 6 ∈ ks) (h12 : 12 ∈ ks) (h15 : 15 ∈ ks) (h16 : 16 ∈ ks) (h17 : 17 ∈ ks) (h19 : 19 ∈ ks) (h20 : 20 ∈ ks)
    (s : State) (source : Nat) (flow : Word32) (f : StreamDataF) :
    forget ks (takeStream s source flow f) = forget ks s := by
  have key : ∀ (l : List Fragment) (a : State × StreamRx),
      forget ks (l.foldl (fun (a : State × StreamRx) g => takeFragment a.1 a.2 g) a).1 = forget ks a.1 := by
    intro l
    induction l with
    | nil => intro a; rfl
    | cons x l ih =>
      intro a
      rw [List.foldl_cons, ih]
      exact forget_takeFragment ks (by assumption) (by assumption) (by assumption) (by assumption) (by assumption) (by assumption) (by assumption) (by assumption) (by assumption) _ _ _
  unfold takeStream
  repeat' (first
    | with_reducible rfl
    | simp only [forget_ite, ite_self, true_or, or_true, and_self, forget_putStream, forget_streamFault,
      forget_takeFragment, h3, h5, h6, h12, h15, h16, h17, h19, h20, key]
    | split)

theorem forget_takeStreamEnd (ks : List Nat) (h3 : 3 ∈ ks) (h5 : 5 ∈ ks) (h12 : 12 ∈ ks) (h16 : 16 ∈ ks) (h20 : 20 ∈ ks)
    (s : State) (source : Nat) (flow : Word32) (f : StreamEndF) :
    forget ks (takeStreamEnd s source flow f) = forget ks s := by
  unfold takeStreamEnd
  repeat' (first
    | with_reducible rfl
    | simp only [forget_ite, ite_self, true_or, or_true, and_self, forget_putStream, forget_streamFault, h3, h5,
      h12, h16, h20]
    | split)

theorem forget_grantOne (ks : List Nat) (h3 : 3 ∈ ks) (h12 : 12 ∈ ks) (h14 : 14 ∈ ks) (h16 : 16 ∈ ks) (h20 : 20 ∈ ks)
    (s : State) (e : Entry) (m : Nat) (pass : Nat) :
    forget ks (grantOne s e m pass) = forget ks s := by
  unfold grantOne
  repeat' (first
    | with_reducible rfl
    | simp only [forget_ite, ite_self, true_or, or_true, and_self, forget_sendTo, forget_setOwners, h3, h12, h14,
      h16, h20]
    | split)

theorem forget_grantReserve (ks : List Nat) (h3 : 3 ∈ ks) (h12 : 12 ∈ ks) (h14 : 14 ∈ ks) (h16 : 16 ∈ ks) (h20 : 20 ∈ ks)
    (s : State) (table : Nat) :
    forget ks (grantReserve s table) = forget ks s := by
  unfold grantReserve
  repeat' (first
    | with_reducible rfl
    | simp only [forget_ite, ite_self, true_or, or_true, and_self, forget_grantOne, h3, h12, h14, h16, h20]
    | split)

theorem forget_grantRest (ks : List Nat) (h3 : 3 ∈ ks) (h12 : 12 ∈ ks) (h14 : 14 ∈ ks) (h16 : 16 ∈ ks) (h20 : 20 ∈ ks)
    (die : Nat) (y1 : List (Entry × Nat × Nat)) (y2 : Nat) (y3 : List (Nat × Nat × Nat)) (y4 : State) :
    forget ks (grantRest die y1 y2 y3 y4) = forget ks y4 := by
  induction y1 generalizing y2 y3 y4 with
  | nil => rfl
  | cons x r ih =>
    unfold grantRest
    repeat' (first
      | with_reducible rfl
      | simp only [forget_ite, ite_self, true_or, or_true, and_self, forget_grantOne, h3, h12, h14, h16, h20, ih]
      | split
      | (refine (forget_foldl ks _ ?_ _ _).trans ?_; intros))

theorem forget_grantDie (ks : List Nat) (h3 : 3 ∈ ks) (h12 : 12 ∈ ks) (h14 : 14 ∈ ks) (h16 : 16 ∈ ks) (h20 : 20 ∈ ks)
    (s : State) (die : Nat) :
    forget ks (grantDie s die) = forget ks s := by
  unfold grantDie
  repeat' (first
    | with_reducible rfl
    | simp only [forget_ite, ite_self, true_or, or_true, and_self, forget_grantReserve, forget_grantRest, h3, h12,
      h14, h16, h20]
    | split
    | (refine (forget_foldl ks _ ?_ _ _).trans ?_; intros))

theorem forget_grantStreams (ks : List Nat) (h3 : 3 ∈ ks) (h12 : 12 ∈ ks) (h14 : 14 ∈ ks) (h16 : 16 ∈ ks) (h20 : 20 ∈ ks)
    (s : State) :
    forget ks (grantStreams s) = forget ks s := by
  unfold grantStreams
  repeat' (first
    | with_reducible rfl
    | simp only [forget_ite, ite_self, true_or, or_true, and_self, forget_grantDie, h3, h12, h14, h16, h20]
    | split
    | (refine (forget_foldl ks _ ?_ _ _).trans ?_; intros))

theorem forget_emitContribution (ks : List Nat) (h3 : 3 ∈ ks) (h5 : 5 ∈ ks) (h6 : 6 ∈ ks) (h12 : 12 ∈ ks) (h14 : 14 ∈ ks) (h15 : 15 ∈ ks) (h16 : 16 ∈ ks) (h17 : 17 ∈ ks) (h19 : 19 ∈ ks) (h20 : 20 ∈ ks)
    (s : State) (step : Nat) (table : Nat) (pass : Nat) (owner : Nat) (row : Nat) (rowCount : Nat) (last : Bool) (vals : List Word32) :
    ∀ t, emitContribution s step table pass owner row rowCount last vals = some t → forget ks t = forget ks s := by
  intro t h
  unfold emitContribution at h
  dsimp only at h
  split at h
  · split at h
    · cases h
      repeat' (first
        | with_reducible rfl
        | simp only [forget_ite, ite_self, true_or, or_true, and_self, forget_flowFor, forget_sendTo, forget_takeStream,
      forget_takeStreamEnd, h3, h5, h6, h12, h14, h15, h16, h17, h19, h20]
        | split
        | (refine (forget_foldl ks _ ?_ _ _).trans ?_; intros))
    · cases h
  · split at h
    · cases h
      repeat' (first
        | with_reducible rfl
        | simp only [forget_ite, ite_self, true_or, or_true, and_self, forget_flowFor, forget_sendTo, forget_takeStream,
      forget_takeStreamEnd, h3, h5, h6, h12, h14, h15, h16, h17, h19, h20]
        | split
        | (refine (forget_foldl ks _ ?_ _ _).trans ?_; intros))
    · cases h

theorem forget_emitRows (ks : List Nat) (h3 : 3 ∈ ks) (h5 : 5 ∈ ks) (h6 : 6 ∈ ks) (h12 : 12 ∈ ks) (h14 : 14 ∈ ks) (h15 : 15 ∈ ks) (h16 : 16 ∈ ks) (h17 : 17 ∈ ks) (h19 : 19 ∈ ks) (h20 : 20 ∈ ks)
    (n : Nat) (table : Nat) (v : Version) (d : TensorDecl) (y4 : Nat) (y5 : State) :
    forget ks (emitRows n table v d y4 y5) = forget ks y5 := by
  induction y4 generalizing y5 with
  | zero => rfl
  | succ n ih =>
    unfold emitRows
    repeat' (first
      | with_reducible rfl
      | simp only [forget_ite, ite_self, true_or, or_true, and_self, forget_emitContribution, forget_setSection, h3,
      h5, h6, h12, h14, h15, h16, h17, h19, h20, ih]
      | exact forget_emitContribution ks (by assumption) (by assumption) (by assumption) (by assumption) (by assumption) (by assumption) (by assumption) (by assumption) (by assumption) (by assumption) _ _ _ _ _ _ _ _ _ _ ‹_›
      | split)

theorem forget_tryMerge (ks : List Nat) (h3 : 3 ∈ ks) (h5 : 5 ∈ ks) (h6 : 6 ∈ ks) (h12 : 12 ∈ ks) (h14 : 14 ∈ ks) (h15 : 15 ∈ ks) (h16 : 16 ∈ ks) (h17 : 17 ∈ ks) (h19 : 19 ∈ ks) (h20 : 20 ∈ ks)
    (s : State) (n : Nat) (table : Nat) :
    forget ks (tryMerge s n table) = forget ks s := by
  unfold tryMerge
  repeat' (first
    | with_reducible rfl
    | simp only [forget_ite, ite_self, true_or, or_true, and_self, forget_emitRows, forget_setSection, h3, h5, h6,
      h12, h14, h15, h16, h17, h19, h20]
    | split)

theorem forget_tryMerges (ks : List Nat) (h3 : 3 ∈ ks) (h5 : 5 ∈ ks) (h6 : 6 ∈ ks) (h12 : 12 ∈ ks) (h14 : 14 ∈ ks) (h15 : 15 ∈ ks) (h16 : 16 ∈ ks) (h17 : 17 ∈ ks) (h19 : 19 ∈ ks) (h20 : 20 ∈ ks)
    (s : State) (n : Nat) :
    forget ks (tryMerges s n) = forget ks s := by
  unfold tryMerges
  repeat' (first
    | with_reducible rfl
    | simp only [forget_ite, ite_self, true_or, or_true, and_self, forget_tryMerge, h3, h5, h6, h12, h14, h15, h16,
      h17, h19, h20]
    | split
    | (refine (forget_foldl ks _ ?_ _ _).trans ?_; intros))

theorem forget_mergeLoop (ks : List Nat) (h3 : 3 ∈ ks) (h5 : 5 ∈ ks) (h6 : 6 ∈ ks) (h12 : 12 ∈ ks) (h14 : 14 ∈ ks) (h15 : 15 ∈ ks) (h16 : 16 ∈ ks) (h17 : 17 ∈ ks) (h19 : 19 ∈ ks) (h20 : 20 ∈ ks)
    (y0 : Nat) (y1 : State) :
    forget ks (mergeLoop y0 y1) = forget ks y1 := by
  induction y0 generalizing y1 with
  | zero => rfl
  | succ n ih =>
    unfold mergeLoop
    repeat' (first
      | with_reducible rfl
      | simp only [forget_ite, ite_self, true_or, or_true, and_self, forget_grantStreams, forget_tryMerges, h3, h5,
      h6, h12, h14, h15, h16, h17, h19, h20, ih]
      | split
      | (refine (forget_foldl ks _ ?_ _ _).trans ?_; intros))

theorem forget_ownersGo (ks : List Nat) (h3 : 3 ∈ ks) (h5 : 5 ∈ ks) (h6 : 6 ∈ ks) (h12 : 12 ∈ ks) (h14 : 14 ∈ ks) (h15 : 15 ∈ ks) (h16 : 16 ∈ ks) (h17 : 17 ∈ ks) (h19 : 19 ∈ ks) (h20 : 20 ∈ ks)
    (s : State) :
    forget ks (ownersGo s) = forget ks s := by
  unfold ownersGo
  repeat' (first
    | with_reducible rfl
    | simp only [forget_ite, ite_self, true_or, or_true, and_self, forget_mergeLoop, forget_settleAll, h3, h5, h6,
      h12, h14, h15, h16, h17, h19, h20]
    | split)

theorem forget_execRowRequest (ks : List Nat) (h3 : 3 ∈ ks) (h5 : 5 ∈ ks) (h6 : 6 ∈ ks) (h12 : 12 ∈ ks) (h14 : 14 ∈ ks) (h15 : 15 ∈ ks) (h16 : 16 ∈ ks) (h17 : 17 ∈ ks) (h19 : 19 ∈ ks) (h20 : 20 ∈ ks)
    (rx : Rx) (f : RowRequestF) (s : State) :
    forget ks (endState s (execRowRequest rx f s)) = forget ks s := by
  unfold execRowRequest
  repeat' (first
    | with_reducible rfl
    | simp only [forget_ite, endState_next, endState_ite, endState_fault, ite_self, true_or, or_true, and_self,
      forget_ownersGo, forget_receive, forget_takeRequest, h3, h5, h6, h12, h14, h15, h16, h17, h19, h20]
    | split
    | (refine (forget_receive ks (by assumption) (by assumption) (by assumption) (by assumption) _ _ _ _ _ _ ?_).trans ?_; intro x))

theorem forget_execParkedEntryApply (ks : List Nat) (h3 : 3 ∈ ks) (h5 : 5 ∈ ks) (h6 : 6 ∈ ks) (h12 : 12 ∈ ks) (h14 : 14 ∈ ks) (h15 : 15 ∈ ks) (h16 : 16 ∈ ks) (h17 : 17 ∈ ks) (h19 : 19 ∈ ks) (h20 : 20 ∈ ks)
    (table : Nat) (row : Nat) (s : State) :
    forget ks (endState s (execParkedEntryApply table row s)) = forget ks s := by
  unfold execParkedEntryApply
  repeat' (first
    | with_reducible rfl
    | simp only [forget_ite, endState_next, endState_ite, endState_fault, ite_self, true_or, or_true, and_self,
      forget_applyRow, forget_ownersGo, forget_releaseCredit, forget_setEntry, forget_skipPoisoned,
      forget_writeResult, h3, h5, h6, h12, h14, h15, h16, h17, h19, h20]
    | split)

theorem forget_execStreamData (ks : List Nat) (h3 : 3 ∈ ks) (h5 : 5 ∈ ks) (h6 : 6 ∈ ks) (h12 : 12 ∈ ks) (h14 : 14 ∈ ks) (h15 : 15 ∈ ks) (h16 : 16 ∈ ks) (h17 : 17 ∈ ks) (h19 : 19 ∈ ks) (h20 : 20 ∈ ks)
    (rx : Rx) (f : StreamDataF) (s : State) :
    forget ks (endState s (execStreamData rx f s)) = forget ks s := by
  unfold execStreamData
  repeat' (first
    | with_reducible rfl
    | simp only [forget_ite, endState_next, endState_ite, endState_fault, ite_self, true_or, or_true, and_self,
      forget_ownersGo, forget_receive, forget_takeStream, h3, h5, h6, h12, h14, h15, h16, h17, h19, h20]
    | split
    | (refine (forget_receive ks (by assumption) (by assumption) (by assumption) (by assumption) _ _ _ _ _ _ ?_).trans ?_; intro x))

theorem forget_execStreamEnd (ks : List Nat) (h3 : 3 ∈ ks) (h5 : 5 ∈ ks) (h6 : 6 ∈ ks) (h12 : 12 ∈ ks) (h14 : 14 ∈ ks) (h15 : 15 ∈ ks) (h16 : 16 ∈ ks) (h17 : 17 ∈ ks) (h19 : 19 ∈ ks) (h20 : 20 ∈ ks)
    (rx : Rx) (f : StreamEndF) (s : State) :
    forget ks (endState s (execStreamEnd rx f s)) = forget ks s := by
  unfold execStreamEnd
  repeat' (first
    | with_reducible rfl
    | simp only [forget_ite, endState_next, endState_ite, endState_fault, ite_self, true_or, or_true, and_self,
      forget_ownersGo, forget_receive, forget_takeStreamEnd, h3, h5, h6, h12, h14, h15, h16, h17, h19, h20]
    | split
    | (refine (forget_receive ks (by assumption) (by assumption) (by assumption) (by assumption) _ _ _ _ _ _ ?_).trans ?_; intro x))

theorem forget_putNode (ks : List Nat) (h13 : 13 ∈ ks)
    (s : State) (x : TreeNode) :
    forget ks (putNode s x) = forget ks s := by
  unfold putNode
  repeat' (first
    | with_reducible rfl
    | simp only [forget_ite, ite_self, true_or, or_true, and_self, forget_setDense, h13]
    | split)

theorem forget_withNode (ks : List Nat) (h13 : 13 ∈ ks)
    (s : State) (step : Nat) (treeId : Nat) (block : Nat) (f : TreeNode → TreeNode) :
    forget ks (withNode s step treeId block f) = forget ks s := by
  unfold withNode
  repeat' (first
    | with_reducible rfl
    | simp only [forget_ite, ite_self, true_or, or_true, and_self, forget_putNode, h13]
    | split)

theorem forget_putLocal (ks : List Nat) (h13 : 13 ∈ ks)
    (s : State) (step : Nat) (d : TensorDecl) (i : Nat) (v : Word32) :
    forget ks (putLocal s step d i v) = forget ks s := by
  unfold putLocal
  repeat' (first
    | with_reducible rfl
    | simp only [forget_ite, ite_self, true_or, or_true, and_self, forget_withNode, h13]
    | split)

theorem forget_fillLocal (ks : List Nat) (h13 : 13 ∈ ks)
    (s : State) (n : Nat) (g : TensorDecl) (d : TensorDecl) (b : Nat) :
    forget ks (fillLocal s n g d b) = forget ks s := by
  unfold fillLocal
  repeat' (first
    | with_reducible rfl
    | simp only [forget_ite, ite_self, true_or, or_true, and_self, forget_putLocal, h13]
    | split
    | (refine (forget_foldl ks _ ?_ _ _).trans ?_; intros))

theorem forget_tryLocal (ks : List Nat) (h5 : 5 ∈ ks) (h10 : 10 ∈ ks) (h13 : 13 ∈ ks)
    (s : State) (n : Nat) (g : TensorDecl) :
    forget ks (tryLocal s n g) = forget ks s := by
  unfold tryLocal
  repeat' (first
    | with_reducible rfl
    | simp only [forget_ite, ite_self, true_or, or_true, and_self, forget_fillLocal, forget_setStep,
      forget_setTensor, h5, h10, h13]
    | split
    | (refine (forget_foldl ks _ ?_ _ _).trans ?_; intros))

theorem forget_tryLocals (ks : List Nat) (h5 : 5 ∈ ks) (h10 : 10 ∈ ks) (h13 : 13 ∈ ks)
    (s : State) (n : Nat) :
    forget ks (tryLocals s n) = forget ks s := by
  unfold tryLocals
  repeat' (first
    | with_reducible rfl
    | simp only [forget_ite, ite_self, true_or, or_true, and_self, forget_tryLocal, h5, h10, h13]
    | split
    | (refine (forget_foldl ks _ ?_ _ _).trans ?_; intros))

theorem forget_grantChild (ks : List Nat) (h3 : 3 ∈ ks) (h13 : 13 ∈ ks) (h14 : 14 ∈ ks) (h16 : 16 ∈ ks) (h20 : 20 ∈ ks)
    (s : State) (n : Nat) (d : TensorDecl) (treeId : Nat) (child : Nat) :
    forget ks (grantChild s n d treeId child) = forget ks s := by
  unfold grantChild
  repeat' (first
    | with_reducible rfl
    | simp only [forget_ite, ite_self, true_or, or_true, and_self, forget_sendTo, forget_setDense, h3, h13, h14,
      h16, h20]
    | split)

theorem forget_grantTrees (ks : List Nat) (h3 : 3 ∈ ks) (h13 : 13 ∈ ks) (h14 : 14 ∈ ks) (h16 : 16 ∈ ks) (h20 : 20 ∈ ks)
    (s : State) :
    forget ks (grantTrees s) = forget ks s := by
  unfold grantTrees
  repeat' (first
    | with_reducible rfl
    | simp only [forget_ite, ite_self, true_or, or_true, and_self, forget_grantChild, h3, h13, h14, h16, h20]
    | split
    | (refine (forget_foldl ks _ ?_ _ _).trans ?_; intros))

theorem forget_treesGo (ks : List Nat) (h3 : 3 ∈ ks) (h5 : 5 ∈ ks) (h10 : 10 ∈ ks) (h13 : 13 ∈ ks) (h14 : 14 ∈ ks) (h16 : 16 ∈ ks) (h20 : 20 ∈ ks)
    (s : State) :
    forget ks (treesGo s) = forget ks s := by
  unfold treesGo
  repeat' (first
    | with_reducible rfl
    | simp only [forget_ite, ite_self, true_or, or_true, and_self, forget_grantTrees, forget_tryLocals, h3, h5, h10,
      h13, h14, h16, h20]
    | split
    | (refine (forget_foldl ks _ ?_ _ _).trans ?_; intros))

theorem forget_execWeightGradientTileDrain (ks : List Nat) (h11 : 11 ∈ ks) (h13 : 13 ∈ ks) (h19 : 19 ∈ ks)
    (queue : QueueId) (tileRow : Nat) (tileCol : Nat) (width : Nat) (s : State) :
    forget ks (endState s (execWeightGradientTileDrain queue tileRow tileCol width s)) = forget ks s := by
  unfold execWeightGradientTileDrain
  repeat' (first
    | with_reducible rfl
    | simp only [forget_ite, endState_next, endState_ite, endState_fault, ite_self, true_or, or_true, and_self,
      forget_countOutOfFootprint, forget_passTile, forget_putLocal, forget_setQueue, h11, h13, h19]
    | split
    | (refine (forget_foldl ks _ ?_ _ _).trans ?_; intros))

theorem forget_takeTreeBlock (ks : List Nat) (h13 : 13 ∈ ks) (h14 : 14 ∈ ks)
    (s : State) (source : Nat) (flow : Word32) (f : TreeBlockF) :
    forget ks (takeTreeBlock s source flow f) = forget ks s := by
  unfold takeTreeBlock
  repeat' (first
    | with_reducible rfl
    | simp only [forget_ite, ite_self, true_or, or_true, and_self, forget_setLinks, forget_withNode, h13, h14]
    | split)

theorem forget_execTreeBlock (ks : List Nat) (h3 : 3 ∈ ks) (h5 : 5 ∈ ks) (h10 : 10 ∈ ks) (h13 : 13 ∈ ks) (h14 : 14 ∈ ks) (h16 : 16 ∈ ks) (h20 : 20 ∈ ks)
    (rx : Rx) (f : TreeBlockF) (s : State) :
    forget ks (endState s (execTreeBlock rx f s)) = forget ks s := by
  unfold execTreeBlock
  repeat' (first
    | with_reducible rfl
    | simp only [forget_ite, endState_next, endState_ite, endState_fault, ite_self, true_or, or_true, and_self,
      forget_receive, forget_takeTreeBlock, forget_treesGo, h3, h5, h10, h13, h14, h16, h20]
    | split
    | (refine (forget_receive ks (by assumption) (by assumption) (by assumption) (by assumption) _ _ _ _ _ _ ?_).trans ?_; intro x))

theorem forget_execTreeBlockForward (ks : List Nat) (h3 : 3 ∈ ks) (h5 : 5 ∈ ks) (h10 : 10 ∈ ks) (h13 : 13 ∈ ks) (h14 : 14 ∈ ks) (h16 : 16 ∈ ks) (h20 : 20 ∈ ks)
    (treeId : Nat) (block : Nat) (s : State) :
    forget ks (endState s (execTreeBlockForward treeId block s)) = forget ks s := by
  unfold execTreeBlockForward
  repeat' (first
    | with_reducible rfl
    | simp only [forget_ite, endState_next, endState_ite, endState_fault, ite_self, true_or, or_true, and_self,
      forget_flowFor, forget_putNode, forget_sendTo, forget_treesGo, h3, h5, h10, h13, h14, h16, h20]
    | split
    | (refine (forget_foldl ks _ ?_ _ _).trans ?_; intros))

theorem forget_setReplica (ks : List Nat) (h13 : 13 ∈ ks)
    (s : State) (r : Replica) :
    forget ks (setReplica s r) = forget ks s := by
  unfold setReplica
  repeat' (first
    | with_reducible rfl
    | simp only [forget_ite, ite_self, true_or, or_true, and_self, forget_setDense, h13]
    | split)

theorem forget_publishIfDone (ks : List Nat) (h3 : 3 ∈ ks) (h13 : 13 ∈ ks) (h14 : 14 ∈ ks) (h16 : 16 ∈ ks) (h20 : 20 ∈ ks)
    (s : State) (step : Nat) (d : TensorDecl) (treeId : Nat) :
    forget ks (publishIfDone s step d treeId) = forget ks s := by
  unfold publishIfDone
  repeat' (first
    | with_reducible rfl
    | simp only [forget_ite, ite_self, true_or, or_true, and_self, forget_sendTo, forget_setReplica, h3, h13, h14,
      h16, h20]
    | split
    | (refine (forget_foldl ks _ ?_ _ _).trans ?_; intros))

theorem forget_applyBlockUnit (ks : List Nat) (h5 : 5 ∈ ks) (h10 : 10 ∈ ks) (h13 : 13 ∈ ks) (h24 : 24 ∈ ks)
    (s : State) (d : TensorDecl) (step : Nat) (block : Nat) (u : UnitVals) :
    forget ks (applyBlockUnit s d step block u) = forget ks s := by
  unfold applyBlockUnit
  repeat' (first
    | with_reducible rfl
    | simp only [forget_ite, ite_self, true_or, or_true, and_self, forget_skipBlock, forget_writeBlock, h5, h10,
      h13, h24]
    | split)

theorem forget_finishBlock (ks : List Nat) (h3 : 3 ∈ ks) (h13 : 13 ∈ ks) (h14 : 14 ∈ ks) (h16 : 16 ∈ ks) (h20 : 20 ∈ ks)
    (s : State) (d : TensorDecl) (x : TreeNode) :
    forget ks (finishBlock s d x) = forget ks s := by
  unfold finishBlock
  repeat' (first
    | with_reducible rfl
    | simp only [forget_ite, ite_self, true_or, or_true, and_self, forget_publishIfDone, forget_putNode, h3, h13,
      h14, h16, h20]
    | split)

theorem forget_sendHalt (ks : List Nat) (h3 : 3 ∈ ks) (h14 : 14 ∈ ks) (h16 : 16 ∈ ks) (h20 : 20 ∈ ks)
    (s : State) (step : Nat) (reason : Nat) (named : Option Nat) (skip : Option Nat) :
    forget ks (sendHalt s step reason named skip) = forget ks s := by
  unfold sendHalt
  repeat' (first
    | with_reducible rfl
    | simp only [forget_ite, ite_self, true_or, or_true, and_self, forget_sendTo, h3, h14, h16, h20]
    | split
    | (refine (forget_foldl ks _ ?_ _ _).trans ?_; intros))

theorem forget_replicaMismatch (ks : List Nat) (h3 : 3 ∈ ks) (h5 : 5 ∈ ks) (h14 : 14 ∈ ks) (h16 : 16 ∈ ks) (h20 : 20 ∈ ks)
    (s : State) (treeId : Nat) (clean : Nat) (n : Nat) :
    forget ks (replicaMismatch s treeId clean n) = forget ks s := by
  unfold replicaMismatch
  repeat' (first
    | with_reducible rfl
    | simp only [forget_ite, ite_self, true_or, or_true, and_self, forget_memberLost, forget_postEvent,
      forget_sendHalt, forget_setSteps, h3, h5, h14, h16, h20]
    | split)

theorem forget_scrubOne (ks : List Nat) (h3 : 3 ∈ ks) (h5 : 5 ∈ ks) (h13 : 13 ∈ ks) (h14 : 14 ∈ ks) (h16 : 16 ∈ ks) (h19 : 19 ∈ ks) (h20 : 20 ∈ ks)
    (s : State) (n : Nat) (r : Replica) :
    forget ks (scrubOne s n r) = forget ks s := by
  unfold scrubOne
  repeat' (first
    | with_reducible rfl
    | simp only [forget_ite, ite_self, true_or, or_true, and_self, forget_replicaMismatch, forget_setReplica,
      forget_setTelemetry, h3, h5, h13, h14, h16, h19, h20]
    | split)

theorem forget_scrubAt (ks : List Nat) (h3 : 3 ∈ ks) (h5 : 5 ∈ ks) (h13 : 13 ∈ ks) (h14 : 14 ∈ ks) (h16 : 16 ∈ ks) (h19 : 19 ∈ ks) (h20 : 20 ∈ ks)
    (s : State) (n : Nat) :
    forget ks (scrubAt s n) = forget ks s := by
  unfold scrubAt
  repeat' (first
    | with_reducible rfl
    | simp only [forget_ite, ite_self, true_or, or_true, and_self, forget_scrubOne, h3, h5, h13, h14, h16, h19, h20]
    | split
    | (refine (forget_foldl ks _ ?_ _ _).trans ?_; intros))

theorem forget_fetchSlice (ks : List Nat) (h3 : 3 ∈ ks) (h14 : 14 ∈ ks) (h16 : 16 ∈ ks) (h20 : 20 ∈ ks)
    (s : State) (owner : Nat) (flow : Word32) (elems : Nat) :
    forget ks (fetchSlice s owner flow elems) = forget ks s := by
  unfold fetchSlice
  repeat' (first
    | with_reducible rfl
    | simp only [forget_ite, ite_self, true_or, or_true, and_self, forget_sendTo, h3, h14, h16, h20]
    | split)

theorem forget_actDigest (ks : List Nat) (h3 : 3 ∈ ks) (h13 : 13 ∈ ks) (h14 : 14 ∈ ks) (h16 : 16 ∈ ks) (h20 : 20 ∈ ks)
    (s : State) (r : Replica) (n : Nat) (digest : Word) :
    forget ks (actDigest s r n digest) = forget ks s := by
  unfold actDigest
  repeat' (first
    | with_reducible rfl
    | simp only [forget_ite, ite_self, true_or, or_true, and_self, forget_fetchSlice, forget_setReplica, h3, h13,
      h14, h16, h20]
    | split)

theorem forget_dueDigests (ks : List Nat) (h3 : 3 ∈ ks) (h13 : 13 ∈ ks) (h14 : 14 ∈ ks) (h16 : 16 ∈ ks) (h20 : 20 ∈ ks)
    (s : State) :
    forget ks (dueDigests s) = forget ks s := by
  unfold dueDigests
  repeat' (first
    | with_reducible rfl
    | simp only [forget_ite, ite_self, true_or, or_true, and_self, forget_actDigest, h3, h13, h14, h16, h20]
    | split
    | (refine (forget_foldl ks _ ?_ _ _).trans ?_; intros))

theorem forget_takeDigest (ks : List Nat) (h3 : 3 ∈ ks) (h5 : 5 ∈ ks) (h13 : 13 ∈ ks) (h14 : 14 ∈ ks) (h16 : 16 ∈ ks) (h20 : 20 ∈ ks)
    (s : State) (rx : Rx) (f : DigestF) :
    forget ks (takeDigest s rx f) = forget ks s := by
  unfold takeDigest
  repeat' (first
    | with_reducible rfl
    | simp only [forget_ite, ite_self, true_or, or_true, and_self, forget_dueDigests, forget_fetchSlice,
      forget_replicaMismatch, forget_sendTo, forget_setLinks, forget_setReplica, h3, h5, h13, h14, h16,
      h20]
    | split)

theorem forget_trySlice (ks : List Nat) (h3 : 3 ∈ ks) (h10 : 10 ∈ ks) (h13 : 13 ∈ ks) (h14 : 14 ∈ ks) (h16 : 16 ∈ ks) (h19 : 19 ∈ ks) (h20 : 20 ∈ ks)
    (s : State) (r : Replica) :
    forget ks (trySlice s r) = forget ks s := by
  unfold trySlice
  repeat' (first
    | with_reducible rfl
    | simp only [forget_ite, ite_self, true_or, or_true, and_self, forget_fetchSlice, forget_memberLost,
      forget_sendTo, forget_setReplica, forget_setTelemetry, forget_setTensor, h3, h10, h13, h14, h16,
      h19, h20]
    | split
    | (refine (forget_foldl ks _ ?_ _ _).trans ?_; intros))

theorem forget_trySlices (ks : List Nat) (h3 : 3 ∈ ks) (h10 : 10 ∈ ks) (h13 : 13 ∈ ks) (h14 : 14 ∈ ks) (h16 : 16 ∈ ks) (h19 : 19 ∈ ks) (h20 : 20 ∈ ks)
    (s : State) :
    forget ks (trySlices s) = forget ks s := by
  unfold trySlices
  repeat' (first
    | with_reducible rfl
    | simp only [forget_ite, ite_self, true_or, or_true, and_self, forget_trySlice, h3, h10, h13, h14, h16, h19, h20]
    | split
    | (refine (forget_foldl ks _ ?_ _ _).trans ?_; intros))

theorem forget_takeSlice (ks : List Nat) (h3 : 3 ∈ ks) (h10 : 10 ∈ ks) (h13 : 13 ∈ ks) (h14 : 14 ∈ ks) (h16 : 16 ∈ ks) (h19 : 19 ∈ ks) (h20 : 20 ∈ ks)
    (s : State) (f : SliceDataF) :
    forget ks (takeSlice s f) = forget ks s := by
  unfold takeSlice
  repeat' (first
    | with_reducible rfl
    | simp only [forget_ite, ite_self, true_or, or_true, and_self, forget_setReplica, forget_trySlice, h3, h10, h13,
      h14, h16, h19, h20]
    | split
    | (refine (forget_foldl ks _ ?_ _ _).trans ?_; intros))

theorem forget_sliceGranted (ks : List Nat) (h3 : 3 ∈ ks) (h14 : 14 ∈ ks) (h16 : 16 ∈ ks) (h20 : 20 ∈ ks)
    (s : State) (source : Nat) (g : GrantF) :
    forget ks (sliceGranted s source g) = forget ks s := by
  unfold sliceGranted
  repeat' (first
    | with_reducible rfl
    | simp only [forget_ite, ite_self, true_or, or_true, and_self, forget_sendFlow, h3, h14, h16, h20]
    | split
    | (refine (forget_foldl ks _ ?_ _ _).trans ?_; intros))

theorem forget_takeGrant (ks : List Nat) (h3 : 3 ∈ ks) (h14 : 14 ∈ ks) (h16 : 16 ∈ ks) (h20 : 20 ∈ ks)
    (s : State) (source : Nat) (g : GrantF) :
    forget ks (takeGrant s source g) = forget ks s := by
  unfold takeGrant
  repeat' (first
    | with_reducible rfl
    | simp only [forget_ite, ite_self, true_or, or_true, and_self, forget_setLinks, forget_sliceGranted, h3, h14,
      h16, h20]
    | split)

theorem forget_execGrant (ks : List Nat) (h3 : 3 ∈ ks) (h5 : 5 ∈ ks) (h6 : 6 ∈ ks) (h12 : 12 ∈ ks) (h14 : 14 ∈ ks) (h15 : 15 ∈ ks) (h16 : 16 ∈ ks) (h17 : 17 ∈ ks) (h19 : 19 ∈ ks) (h20 : 20 ∈ ks)
    (rx : Rx) (grants : List GrantF) (s : State) :
    forget ks (endState s (execGrant rx grants s)) = forget ks s := by
  unfold execGrant
  repeat' (first
    | with_reducible rfl
    | simp only [forget_ite, endState_next, endState_ite, endState_fault, ite_self, true_or, or_true, and_self,
      forget_ownersGo, forget_pump, forget_receive, forget_takeGrant, h3, h5, h6, h12, h14, h15, h16,
      h17, h19, h20]
    | split
    | (refine (forget_foldl ks _ ?_ _ _).trans ?_; intros)
    | (refine (forget_receive ks (by assumption) (by assumption) (by assumption) (by assumption) _ _ _ _ _ _ ?_).trans ?_; intro x))

theorem forget_scatterBlock (ks : List Nat) (h10 : 10 ∈ ks)
    (s : State) (l : List TensorDecl) (bs : List Byte) :
    forget ks (scatterBlock s l bs) = forget ks s := by
  unfold scatterBlock
  repeat' (first
    | with_reducible rfl
    | simp only [forget_ite, ite_self, true_or, or_true, and_self, forget_setTensor, h10]
    | split
    | (refine (forget_foldl ks _ ?_ _ _).trans ?_; intros))

theorem forget_tryDeliver (ks : List Nat) (h5 : 5 ∈ ks) (h10 : 10 ∈ ks)
    (s : State) (n : Nat) :
    forget ks (tryDeliver s n) = forget ks s := by
  unfold tryDeliver
  repeat' (first
    | with_reducible rfl
    | simp only [forget_ite, ite_self, true_or, or_true, and_self, forget_scatterBlock, forget_setStep, h5, h10]
    | split)

theorem forget_tryDeliverEval (ks : List Nat) (h5 : 5 ∈ ks) (h10 : 10 ∈ ks)
    (s : State) (e : EvalReq) :
    forget ks (tryDeliverEval s e) = forget ks s := by
  unfold tryDeliverEval
  repeat' (first
    | with_reducible rfl
    | simp only [forget_ite, ite_self, true_or, or_true, and_self, forget_scatterBlock, forget_setEval, h5, h10]
    | split)

theorem forget_tryLoss (ks : List Nat) (h5 : 5 ∈ ks)
    (s : State) (n : Nat) :
    forget ks (tryLoss s n) = forget ks s := by
  unfold tryLoss
  repeat' (first
    | with_reducible rfl
    | simp only [forget_ite, ite_self, true_or, or_true, and_self, forget_setStep, h5]
    | split)

theorem forget_dropSteps (ks : List Nat) (h5 : 5 ∈ ks)
    (s : State) :
    forget ks (dropSteps s) = forget ks s := by
  unfold dropSteps
  repeat' (first
    | with_reducible rfl
    | simp only [forget_ite, ite_self, true_or, or_true, and_self, forget_setSteps, h5]
    | split)

theorem forget_dropVersion (ks : List Nat) (h3 : 3 ∈ ks) (h6 : 6 ∈ ks)
    (s : State) (v : Version) :
    forget ks (dropVersion s v) = forget ks s := by
  unfold dropVersion
  repeat' (first
    | with_reducible rfl
    | simp only [forget_ite, ite_self, true_or, or_true, and_self, forget_finish, forget_setTables, h3, h6]
    | split
    | (refine (forget_foldl ks _ ?_ _ _).trans ?_; intros))

theorem forget_freeVersions (ks : List Nat) (h3 : 3 ∈ ks) (h6 : 6 ∈ ks)
    (s : State) :
    forget ks (freeVersions s) = forget ks s := by
  unfold freeVersions
  repeat' (first
    | with_reducible rfl
    | simp only [forget_ite, ite_self, true_or, or_true, and_self, forget_dropVersion, h3, h6]
    | split
    | (refine (forget_foldl ks _ ?_ _ _).trans ?_; intros))

theorem forget_advance (ks : List Nat) (h3 : 3 ∈ ks) (h5 : 5 ∈ ks) (h6 : 6 ∈ ks) (h10 : 10 ∈ ks) (h12 : 12 ∈ ks) (h13 : 13 ∈ ks) (h14 : 14 ∈ ks) (h15 : 15 ∈ ks) (h16 : 16 ∈ ks) (h17 : 17 ∈ ks) (h19 : 19 ∈ ks) (h20 : 20 ∈ ks)
    (s : State) :
    forget ks (advance s) = forget ks s := by
  unfold advance
  repeat' (first
    | with_reducible rfl
    | simp only [forget_ite, ite_self, true_or, or_true, and_self, forget_dropSteps, forget_freeVersions,
      forget_ownersGo, forget_treesGo, forget_tryDeliver, forget_tryDeliverEval, forget_tryLoss,
      forget_tryPools, forget_trySlices, h3, h5, h6, h10, h12, h13, h14, h15, h16, h17, h19, h20]
    | split
    | (refine (forget_foldl ks _ ?_ _ _).trans ?_; intros))

theorem forget_freeDrained (ks : List Nat) (h7 : 7 ∈ ks)
    (s : State) :
    forget ks (freeDrained s) = forget ks s := by
  unfold freeDrained
  repeat' (first
    | with_reducible rfl
    | simp only [forget_ite, ite_self, true_or, or_true, and_self, forget_setPrograms, h7]
    | split)

theorem forget_addBalance (ks : List Nat) (h15 : 15 ∈ ks)
    (s : State) (die : Nat) (x : Int) :
    forget ks (addBalance s die x) = forget ks s := by
  unfold addBalance
  repeat' (first
    | with_reducible rfl
    | simp only [forget_ite, ite_self, true_or, or_true, and_self, forget_setPower, h15]
    | split)

theorem forget_startCtx (ks : List Nat) (h11 : 11 ∈ ks)
    (s : State) (c : CtxId) (x : Context) :
    forget ks (startCtx s c x) = forget ks s := by
  unfold startCtx
  repeat' (first
    | with_reducible rfl
    | simp only [forget_ite, ite_self, true_or, or_true, and_self, forget_setCtx, forget_setSpindles, h11]
    | split)

theorem forget_wakeDies (ks : List Nat) (h15 : 15 ∈ ks)
    (s : State) :
    forget ks (wakeDies s) = forget ks s := by
  unfold wakeDies
  repeat' (first
    | with_reducible rfl
    | simp only [forget_ite, ite_self, true_or, or_true, and_self, forget_setPower, h15]
    | split
    | (refine (forget_foldl ks _ ?_ _ _).trans ?_; intros))

theorem forget_progress (ks : List Nat) (h3 : 3 ∈ ks) (h5 : 5 ∈ ks) (h6 : 6 ∈ ks) (h10 : 10 ∈ ks) (h12 : 12 ∈ ks) (h13 : 13 ∈ ks) (h14 : 14 ∈ ks) (h15 : 15 ∈ ks) (h16 : 16 ∈ ks) (h17 : 17 ∈ ks) (h19 : 19 ∈ ks) (h20 : 20 ∈ ks)
    (s : State) :
    forget ks (progress s) = forget ks s := by
  unfold progress
  repeat' (first
    | with_reducible rfl
    | simp only [forget_ite, ite_self, true_or, or_true, and_self, forget_advance, forget_promoteWaiting,
      forget_shrinkRows, forget_wakeDies, h3, h5, h6, h10, h12, h13, h14, h15, h16, h17, h19, h20]
    | split)

theorem forget_dispatchAll (ks : List Nat) (h10 : 10 ∈ ks) (h11 : 11 ∈ ks) (h15 : 15 ∈ ks)
    (s : State) (i : Inst) (l : Lattice) (group : List Nat) (y4 : List Nat) (y5 : List CtxId) :
    ∀ t, dispatchAll s i l group y4 y5 = some t → forget ks t = forget ks s := by
  induction y4 generalizing y5 s with
  | nil => cases y5 <;> intro t h <;> simp only [dispatchAll] at h <;> cases h; rfl
  | cons v vs ih =>
    cases y5 with
    | nil => intro t h; simp only [dispatchAll] at h; cases h
    | cons c cs =>
      intro t h
      simp only [dispatchAll] at h
      split at h
      · cases h
      · split at h
        · rw [ih _ _ _ h]
          simp only [forget_ite, ite_self, true_or, or_true, and_self, forget_addBalance, forget_clearStale,
      forget_startCtx, h10, h11, h15]
        · cases h

theorem forget_execVertexDispatch (ks : List Nat) (h5 : 5 ∈ ks) (h10 : 10 ∈ ks) (h11 : 11 ∈ ks) (h15 : 15 ∈ ks)
    (inst : InstRef) (vertices : List Nat) (at_ : List CtxId) (s : State) :
    forget ks (endState s (execVertexDispatch inst vertices at_ s)) = forget ks s := by
  unfold execVertexDispatch
  repeat' (first
    | with_reducible rfl
    | simp only [forget_ite, endState_next, endState_ite, endState_fault, ite_self, true_or, or_true, and_self,
      forget_dispatchAll, forget_setInst, forget_setPower, h5, h10, h11, h15]
    | split
    | exact forget_dispatchAll ks (by assumption) (by assumption) (by assumption) _ _ _ _ _ _ _ ‹_›)

theorem forget_execUpdateKernelInvocation (ks : List Nat) (h11 : 11 ∈ ks)
    (target : Nat) (units : List Nat) (at_ : CtxId) (s : State) :
    forget ks (endState s (execUpdateKernelInvocation target units at_ s)) = forget ks s := by
  unfold execUpdateKernelInvocation
  repeat' (first
    | with_reducible rfl
    | simp only [forget_ite, endState_next, endState_ite, endState_fault, ite_self, true_or, or_true, and_self,
      forget_startCtx, h11]
    | split)

theorem forget_finishRow (ks : List Nat) (h3 : 3 ∈ ks) (h5 : 5 ∈ ks) (h6 : 6 ∈ ks) (h12 : 12 ∈ ks) (h15 : 15 ∈ ks) (h16 : 16 ∈ ks) (h17 : 17 ∈ ks) (h19 : 19 ∈ ks) (h20 : 20 ∈ ks)
    (s : State) (n : Nat) (v : Version) (e : Entry) (x : Context) (unit : Nat) :
    forget ks (finishRow s n v e x unit) = forget ks s := by
  unfold finishRow
  repeat' (first
    | with_reducible rfl
    | simp only [forget_ite, ite_self, true_or, or_true, and_self, forget_parkEntry, forget_setEntry,
      forget_skipPoisoned, forget_skipRow, forget_wantPage, forget_writeResult, h3, h5, h6, h12, h15,
      h16, h17, h19, h20]
    | split)

theorem forget_finishUnitBlock (ks : List Nat) (h5 : 5 ∈ ks) (h10 : 10 ∈ ks) (h13 : 13 ∈ ks) (h24 : 24 ∈ ks)
    (s : State) (n : Nat) (d : TensorDecl) (x : Context) (block : Nat) (unit : Nat) :
    forget ks (finishUnitBlock s n d x block unit) = forget ks s := by
  unfold finishUnitBlock
  repeat' (first
    | with_reducible rfl
    | simp only [forget_ite, ite_self, true_or, or_true, and_self, forget_setSlot, forget_setTensor,
      forget_skipBlock, h5, h10, h13, h24]
    | split
    | (refine (forget_foldl ks _ ?_ _ _).trans ?_; intros))

theorem forget_finishKernel (ks : List Nat) (h3 : 3 ∈ ks) (h5 : 5 ∈ ks) (h6 : 6 ∈ ks) (h10 : 10 ∈ ks) (h12 : 12 ∈ ks) (h13 : 13 ∈ ks) (h14 : 14 ∈ ks) (h15 : 15 ∈ ks) (h16 : 16 ∈ ks) (h17 : 17 ∈ ks) (h19 : 19 ∈ ks) (h20 : 20 ∈ ks) (h24 : 24 ∈ ks)
    (s : State) (x : Context) :
    forget ks (finishKernel s x) = forget ks s := by
  unfold finishKernel
  repeat' (first
    | with_reducible rfl
    | simp only [forget_ite, ite_self, true_or, or_true, and_self, forget_finishBlock, forget_finishRow,
      forget_finishUnitBlock, h3, h5, h6, h10, h12, h13, h14, h15, h16, h17, h19, h20, h24]
    | split
    | (refine (forget_foldl ks _ ?_ _ _).trans ?_; intros))

theorem forget_finishRetire (ks : List Nat) (h3 : 3 ∈ ks) (h5 : 5 ∈ ks) (h6 : 6 ∈ ks) (h7 : 7 ∈ ks) (h10 : 10 ∈ ks) (h11 : 11 ∈ ks) (h12 : 12 ∈ ks) (h13 : 13 ∈ ks) (h14 : 14 ∈ ks) (h15 : 15 ∈ ks) (h16 : 16 ∈ ks) (h17 : 17 ∈ ks) (h19 : 19 ∈ ks) (h20 : 20 ∈ ks) (h24 : 24 ∈ ks)
    (s : State) (c : CtxId) (x : Context) :
    forget ks (finishRetire s c x) = forget ks s := by
  unfold finishRetire
  repeat' (first
    | with_reducible rfl
    | simp only [forget_ite, ite_self, true_or, or_true, and_self, forget_addBalance, forget_finishKernel,
      forget_freeDrained, forget_progress, forget_setInst, forget_setSpindles, h3, h5, h6, h7, h10, h11,
      h12, h13, h14, h15, h16, h17, h19, h20, h24]
    | split)

theorem forget_execRetire (ks : List Nat) (h3 : 3 ∈ ks) (h5 : 5 ∈ ks) (h6 : 6 ∈ ks) (h7 : 7 ∈ ks) (h10 : 10 ∈ ks) (h11 : 11 ∈ ks) (h12 : 12 ∈ ks) (h13 : 13 ∈ ks) (h14 : 14 ∈ ks) (h15 : 15 ∈ ks) (h16 : 16 ∈ ks) (h17 : 17 ∈ ks) (h19 : 19 ∈ ks) (h20 : 20 ∈ ks) (h24 : 24 ∈ ks)
    (c : CtxId) (w : Word) (s : State) :
    forget ks (endState s (execRetire c w s)) = forget ks s := by
  unfold execRetire
  repeat' (first
    | with_reducible rfl
    | simp only [forget_ite, endState_next, endState_ite, endState_fault, ite_self, true_or, or_true, and_self,
      forget_finishRetire, forget_plyStep, forget_setCtx, h3, h5, h6, h7, h10, h11, h12, h13, h14, h15,
      h16, h17, h19, h20, h24]
    | split
    | (refine (forget_plyStep ks (by assumption) _ _ _ _ _ ?_).trans ?_; intro x y z))

theorem forget_releaseHeld (ks : List Nat) (h3 : 3 ∈ ks) (h5 : 5 ∈ ks) (h6 : 6 ∈ ks) (h7 : 7 ∈ ks) (h10 : 10 ∈ ks) (h11 : 11 ∈ ks) (h12 : 12 ∈ ks) (h13 : 13 ∈ ks) (h14 : 14 ∈ ks) (h15 : 15 ∈ ks) (h16 : 16 ∈ ks) (h17 : 17 ∈ ks) (h19 : 19 ∈ ks) (h20 : 20 ∈ ks) (h24 : 24 ∈ ks)
    (s : State) (q : QueueId) :
    forget ks (releaseHeld s q) = forget ks s := by
  unfold releaseHeld
  repeat' (first
    | with_reducible rfl
    | simp only [forget_ite, ite_self, true_or, or_true, and_self, forget_finishRetire, h3, h5, h6, h7, h10, h11,
      h12, h13, h14, h15, h16, h17, h19, h20, h24]
    | split
    | (refine (forget_foldl ks _ ?_ _ _).trans ?_; intros))

theorem forget_execQueueCommandComplete (ks : List Nat) (h3 : 3 ∈ ks) (h5 : 5 ∈ ks) (h6 : 6 ∈ ks) (h7 : 7 ∈ ks) (h10 : 10 ∈ ks) (h11 : 11 ∈ ks) (h12 : 12 ∈ ks) (h13 : 13 ∈ ks) (h14 : 14 ∈ ks) (h15 : 15 ∈ ks) (h16 : 16 ∈ ks) (h17 : 17 ∈ ks) (h19 : 19 ∈ ks) (h20 : 20 ∈ ks) (h24 : 24 ∈ ks)
    (q : QueueId) (s : State) :
    forget ks (endState s (execQueueCommandComplete q s)) = forget ks s := by
  unfold execQueueCommandComplete
  repeat' (first
    | with_reducible rfl
    | simp only [forget_ite, endState_next, endState_ite, endState_fault, ite_self, true_or, or_true, and_self,
      forget_progress, forget_releaseHeld, forget_runMove, forget_runProduct, forget_setQueue,
      forget_signalBy, h3, h5, h6, h7, h10, h11, h12, h13, h14, h15, h16, h17, h19, h20, h24]
    | split)

theorem forget_setLossPolicy (ks : List Nat) (h4 : 4 ∈ ks) (h5 : 5 ∈ ks)
    (s : State) (v : List Byte) :
    forget ks (setLossPolicy s v) = forget ks s := by
  unfold setLossPolicy
  dsimp only
  refine (forget_setSteps ks h5 _ _ ?_ ?_).trans (forget_setCfg ks h4 _ _) <;> exact .inr rfl

theorem forget_setSecurePolicy (ks : List Nat) (h4 : 4 ∈ ks) (h16 : 16 ∈ ks)
    (s : State) (b : Nat) (p : SecurePolicy) :
    forget ks (setSecurePolicy s b p) = forget ks s := by
  unfold setSecurePolicy
  repeat' (first
    | with_reducible rfl
    | simp only [forget_ite, ite_self, true_or, or_true, and_self, forget_setCfg, forget_setSecuring, h4, h16]
    | split)

theorem forget_setSwap (ks : List Nat) (h6 : 6 ∈ ks)
    (s : State) (pairs : List (Nat × Nat)) :
    forget ks (setSwap s pairs) = forget ks s := by
  unfold setSwap
  repeat' (first
    | with_reducible rfl
    | simp only [forget_ite, ite_self, true_or, or_true, and_self, forget_setTables, h6]
    | split)

theorem forget_setRoutes (ks : List Nat) (h4 : 4 ∈ ks)
    (s : State) (r : List RouteEntry) :
    forget ks (setRoutes s r) = forget ks s := by
  unfold setRoutes
  repeat' (first
    | with_reducible rfl
    | simp only [forget_ite, ite_self, true_or, or_true, and_self, forget_setCfg, h4]
    | split)

theorem forget_setItem (ks : List Nat) (h4 : 4 ∈ ks) (h5 : 5 ∈ ks) (h6 : 6 ∈ ks) (h16 : 16 ∈ ks)
    (s : State) (b : Nat) (key : Nat) (v : List Byte) :
    forget ks (setItem s b key v) = forget ks s := by
  unfold setItem
  repeat' (first
    | with_reducible rfl
    | simp only [forget_ite, ite_self, true_or, or_true, and_self, forget_setCfg, forget_setLossPolicy,
      forget_setRoutes, forget_setSecurePolicy, forget_setSwap, h4, h5, h6, h16]
    | split
    | (refine (forget_foldl ks _ ?_ _ _).trans ?_; intros))

theorem forget_afterSets (ks : List Nat) (h4 : 4 ∈ ks) (h5 : 5 ∈ ks) (h6 : 6 ∈ ks) (h16 : 16 ∈ ks)
    (s : State) (b : Nat) :
    forget ks (afterSets s b) = forget ks s := by
  unfold afterSets
  repeat' (first
    | with_reducible rfl
    | simp only [forget_ite, ite_self, true_or, or_true, and_self, forget_setItem, h4, h5, h6, h16]
    | split
    | (refine (forget_foldl ks _ ?_ _ _).trans ?_; intros))

theorem forget_governed (ks : List Nat) (h4 : 4 ∈ ks) (h5 : 5 ∈ ks) (h6 : 6 ∈ ks) (h16 : 16 ∈ ks)
    (s : State) (step : Nat) :
    forget ks (governed s step) = forget ks s := by
  unfold governed
  repeat' (first
    | with_reducible rfl
    | simp only [forget_ite, ite_self, true_or, or_true, and_self, forget_afterSets, h4, h5, h6, h16]
    | split)

theorem forget_sendSkein (ks : List Nat) (h3 : 3 ∈ ks) (h6 : 6 ∈ ks) (h14 : 14 ∈ ks) (h16 : 16 ∈ ks) (h20 : 20 ∈ ks)
    (s : State) (b : Nat) (table : Nat) (skein : Nat) (dest : Nat) :
    forget ks (sendSkein s b table skein dest) = forget ks s := by
  unfold sendSkein
  repeat' (first
    | with_reducible rfl
    | simp only [forget_ite, ite_self, true_or, or_true, and_self, forget_sendTo, forget_setTables, h3, h6, h14,
      h16, h20]
    | split
    | (refine (forget_foldl ks _ ?_ _ _).trans ?_; intros))

theorem forget_applySkeinMap (ks : List Nat) (h3 : 3 ∈ ks) (h4 : 4 ∈ ks) (h5 : 5 ∈ ks) (h6 : 6 ∈ ks) (h14 : 14 ∈ ks) (h16 : 16 ∈ ks) (h20 : 20 ∈ ks)
    (s : State) (b : Nat) (v : List Byte) :
    forget ks (applySkeinMap s b v) = forget ks s := by
  unfold applySkeinMap
  repeat' (first
    | with_reducible rfl
    | simp only [forget_ite, ite_self, true_or, or_true, and_self, forget_sendSkein, forget_setItem,
      forget_setTables, h3, h4, h5, h6, h14, h16, h20]
    | split
    | (refine (forget_foldl ks _ ?_ _ _).trans ?_; intros))

theorem forget_wakePorts (ks : List Nat) (h14 : 14 ∈ ks) (h15 : 15 ∈ ks)
    (s : State) (r : List RouteEntry) :
    forget ks (wakePorts s r) = forget ks s := by
  unfold wakePorts
  repeat' (first
    | with_reducible rfl
    | simp only [forget_ite, ite_self, true_or, or_true, and_self, forget_setPower, forget_startTraining, h14, h15]
    | split
    | (refine (forget_foldl ks _ ?_ _ _).trans ?_; intros))

theorem forget_applyItem (ks : List Nat) (h3 : 3 ∈ ks) (h4 : 4 ∈ ks) (h5 : 5 ∈ ks) (h6 : 6 ∈ ks) (h14 : 14 ∈ ks) (h15 : 15 ∈ ks) (h16 : 16 ∈ ks) (h20 : 20 ∈ ks)
    (s : State) (b : Nat) (key : Nat) (v : List Byte) :
    forget ks (applyItem s b key v) = forget ks s := by
  unfold applyItem
  repeat' (first
    | with_reducible rfl
    | simp only [forget_ite, ite_self, true_or, or_true, and_self, forget_applySkeinMap, forget_setItem,
      forget_wakePorts, h3, h4, h5, h6, h14, h15, h16, h20]
    | split)

theorem forget_applySets (ks : List Nat) (h3 : 3 ∈ ks) (h4 : 4 ∈ ks) (h5 : 5 ∈ ks) (h6 : 6 ∈ ks) (h14 : 14 ∈ ks) (h15 : 15 ∈ ks) (h16 : 16 ∈ ks) (h20 : 20 ∈ ks)
    (s : State) (b : Nat) :
    forget ks (applySets s b) = forget ks s := by
  unfold applySets
  repeat' (first
    | with_reducible rfl
    | simp only [forget_ite, ite_self, true_or, or_true, and_self, forget_applyItem, forget_setCfg, h3, h4, h5, h6,
      h14, h15, h16, h20]
    | split
    | (refine (forget_foldl ks _ ?_ _ _).trans ?_; intros))

theorem forget_finishItem (ks : List Nat) (h3 : 3 ∈ ks)
    (s : State) (d : Sub) (f : Status × Nat × Nat) :
    forget ks (finishItem s d f) = forget ks s := by
  unfold finishItem
  repeat' (first
    | with_reducible rfl
    | simp only [forget_ite, ite_self, true_or, or_true, and_self, forget_finishWith, h3]
    | split)

theorem forget_finishNa (ks : List Nat) (h3 : 3 ∈ ks)
    (s : State) (d : Sub) (st : Status) :
    forget ks (finishNa s d st) = forget ks s := by
  unfold finishNa
  repeat' (first
    | with_reducible rfl
    | simp only [forget_ite, ite_self, true_or, or_true, and_self, forget_finishWith, h3]
    | split)

theorem forget_runStageConfig (ks : List Nat) (h3 : 3 ∈ ks) (h4 : 4 ∈ ks) (h5 : 5 ∈ ks) (h6 : 6 ∈ ks) (h10 : 10 ∈ ks) (h12 : 12 ∈ ks) (h13 : 13 ∈ ks) (h14 : 14 ∈ ks) (h15 : 15 ∈ ks) (h16 : 16 ∈ ks) (h17 : 17 ∈ ks) (h19 : 19 ∈ ks) (h20 : 20 ∈ ks)
    (d : Sub) (s : State) :
    forget ks (runStageConfig d s) = forget ks s := by
  unfold runStageConfig
  repeat' (first
    | with_reducible rfl
    | simp only [forget_ite, ite_self, true_or, or_true, and_self, forget_applyItem, forget_finish,
      forget_finishItem, forget_finishNa, forget_progress, forget_setCfg, h3, h4, h5, h6, h10, h12, h13,
      h14, h15, h16, h17, h19, h20]
    | split
    | (refine (forget_foldl ks _ ?_ _ _).trans ?_; intros))

theorem forget_execStageConfig (ks : List Nat) (h3 : 3 ∈ ks) (h4 : 4 ∈ ks) (h5 : 5 ∈ ks) (h6 : 6 ∈ ks) (h10 : 10 ∈ ks) (h12 : 12 ∈ ks) (h13 : 13 ∈ ks) (h14 : 14 ∈ ks) (h15 : 15 ∈ ks) (h16 : 16 ∈ ks) (h17 : 17 ∈ ks) (h19 : 19 ∈ ks) (h20 : 20 ∈ ks)
    (d : Sub) (s : State) :
    forget ks (endState s (execStageConfig d s)) = forget ks s := by
  unfold execStageConfig
  repeat' (first
    | with_reducible rfl
    | simp only [forget_ite, endState_next, endState_ite, endState_fault, ite_self, true_or, or_true, and_self,
      forget_beginCommand, forget_runStageConfig, h3, h4, h5, h6, h10, h12, h13, h14, h15, h16, h17, h19,
      h20]
    | split
    | (refine (forget_beginCommand ks (by assumption) _ _ _ _ _ ?_).trans ?_; intro x))

theorem forget_runCommitConfig (ks : List Nat) (h3 : 3 ∈ ks) (h4 : 4 ∈ ks) (h5 : 5 ∈ ks) (h6 : 6 ∈ ks) (h16 : 16 ∈ ks)
    (d : Sub) (s : State) :
    forget ks (runCommitConfig d s) = forget ks s := by
  unfold runCommitConfig
  repeat' (first
    | with_reducible rfl
    | simp only [forget_ite, ite_self, true_or, or_true, and_self, forget_afterSets, forget_finish,
      forget_finishItem, forget_finishNa, forget_setCfg, h3, h4, h5, h6, h16]
    | split)

theorem forget_execCommitConfig (ks : List Nat) (h3 : 3 ∈ ks) (h4 : 4 ∈ ks) (h5 : 5 ∈ ks) (h6 : 6 ∈ ks) (h16 : 16 ∈ ks)
    (d : Sub) (s : State) :
    forget ks (endState s (execCommitConfig d s)) = forget ks s := by
  unfold execCommitConfig
  repeat' (first
    | with_reducible rfl
    | simp only [forget_ite, endState_next, endState_ite, endState_fault, ite_self, true_or, or_true, and_self,
      forget_beginCommand, forget_runCommitConfig, h3, h4, h5, h6, h16]
    | split
    | (refine (forget_beginCommand ks (by assumption) _ _ _ _ _ ?_).trans ?_; intro x))

theorem forget_runDiscardConfig (ks : List Nat) (h3 : 3 ∈ ks) (h4 : 4 ∈ ks)
    (d : Sub) (s : State) :
    forget ks (runDiscardConfig d s) = forget ks s := by
  unfold runDiscardConfig
  repeat' (first
    | with_reducible rfl
    | simp only [forget_ite, ite_self, true_or, or_true, and_self, forget_finish, forget_setCfg, h3, h4]
    | split)

theorem forget_execDiscardConfig (ks : List Nat) (h3 : 3 ∈ ks) (h4 : 4 ∈ ks)
    (d : Sub) (s : State) :
    forget ks (endState s (execDiscardConfig d s)) = forget ks s := by
  unfold execDiscardConfig
  repeat' (first
    | with_reducible rfl
    | simp only [forget_ite, endState_next, endState_ite, endState_fault, ite_self, true_or, or_true, and_self,
      forget_beginCommand, forget_runDiscardConfig, h3, h4]
    | split
    | (refine (forget_beginCommand ks (by assumption) _ _ _ _ _ ?_).trans ?_; intro x))

theorem forget_execRowData (ks : List Nat) (h3 : 3 ∈ ks) (h5 : 5 ∈ ks) (h6 : 6 ∈ ks) (h10 : 10 ∈ ks) (h12 : 12 ∈ ks) (h13 : 13 ∈ ks) (h14 : 14 ∈ ks) (h15 : 15 ∈ ks) (h16 : 16 ∈ ks) (h17 : 17 ∈ ks) (h19 : 19 ∈ ks) (h20 : 20 ∈ ks)
    (rx : Rx) (f : RowDataF) (s : State) :
    forget ks (endState s (execRowData rx f s)) = forget ks s := by
  unfold execRowData
  repeat' (first
    | with_reducible rfl
    | simp only [forget_ite, endState_next, endState_ite, endState_fault, ite_self, true_or, or_true, and_self,
      forget_deliverRows, forget_progress, forget_receive, h3, h5, h6, h10, h12, h13, h14, h15, h16, h17,
      h19, h20]
    | split
    | (refine (forget_receive ks (by assumption) (by assumption) (by assumption) (by assumption) _ _ _ _ _ _ ?_).trans ?_; intro x))

theorem forget_execPartialSum (ks : List Nat) (h3 : 3 ∈ ks) (h5 : 5 ∈ ks) (h6 : 6 ∈ ks) (h10 : 10 ∈ ks) (h12 : 12 ∈ ks) (h13 : 13 ∈ ks) (h14 : 14 ∈ ks) (h15 : 15 ∈ ks) (h16 : 16 ∈ ks) (h17 : 17 ∈ ks) (h19 : 19 ∈ ks) (h20 : 20 ∈ ks)
    (rx : Rx) (f : PartialSumF) (s : State) :
    forget ks (endState s (execPartialSum rx f s)) = forget ks s := by
  unfold execPartialSum
  repeat' (first
    | with_reducible rfl
    | simp only [forget_ite, endState_next, endState_ite, endState_fault, ite_self, true_or, or_true, and_self,
      forget_deliverSums, forget_progress, forget_receive, h3, h5, h6, h10, h12, h13, h14, h15, h16, h17,
      h19, h20]
    | split
    | (refine (forget_receive ks (by assumption) (by assumption) (by assumption) (by assumption) _ _ _ _ _ _ ?_).trans ?_; intro x))

theorem forget_execRowRequestServe (ks : List Nat) (h3 : 3 ∈ ks) (h5 : 5 ∈ ks) (h6 : 6 ∈ ks) (h10 : 10 ∈ ks) (h12 : 12 ∈ ks) (h13 : 13 ∈ ks) (h14 : 14 ∈ ks) (h15 : 15 ∈ ks) (h16 : 16 ∈ ks) (h17 : 17 ∈ ks) (h19 : 19 ∈ ks) (h20 : 20 ∈ ks)
    (source : Nat) (step : Nat) (table : Nat) (pass : Nat) (s : State) :
    forget ks (endState s (execRowRequestServe source step table pass s)) = forget ks s := by
  unfold execRowRequestServe
  repeat' (first
    | with_reducible rfl
    | simp only [forget_ite, endState_next, endState_ite, endState_fault, ite_self, true_or, or_true, and_self,
      forget_memberLost, forget_progress, forget_serveRequest, forget_setOwners, h3, h5, h6, h10, h12,
      h13, h14, h15, h16, h17, h19, h20]
    | split)

theorem forget_sendRequests (ks : List Nat) (h3 : 3 ∈ ks) (h6 : 6 ∈ ks) (h12 : 12 ∈ ks) (h14 : 14 ∈ ks) (h15 : 15 ∈ ks) (h16 : 16 ∈ ks) (h20 : 20 ∈ ks)
    (s : State) (inst : InstRef) (c : Section) (v : Version) (p : Nat × Nat) (k : Card) :
    forget ks (sendRequests s inst c v p k) = forget ks s := by
  unfold sendRequests
  repeat' (first
    | with_reducible rfl
    | simp only [forget_ite, ite_self, true_or, or_true, and_self, forget_sendTo, forget_takeRequest, h3, h6, h12,
      h14, h15, h16, h20]
    | split
    | (refine (forget_foldl ks _ ?_ _ _).trans ?_; intros))

theorem forget_execCardingPassEnd (ks : List Nat) (h3 : 3 ∈ ks) (h5 : 5 ∈ ks) (h6 : 6 ∈ ks) (h10 : 10 ∈ ks) (h12 : 12 ∈ ks) (h13 : 13 ∈ ks) (h14 : 14 ∈ ks) (h15 : 15 ∈ ks) (h16 : 16 ∈ ks) (h17 : 17 ∈ ks) (h19 : 19 ∈ ks) (h20 : 20 ∈ ks)
    (inst : InstRef) (table : Nat) (pass : Nat) (s : State) :
    forget ks (endState s (execCardingPassEnd inst table pass s)) = forget ks s := by
  unfold execCardingPassEnd
  repeat' (first
    | with_reducible rfl
    | simp only [forget_ite, endState_next, endState_ite, endState_fault, ite_self, true_or, or_true, and_self,
      forget_progress, forget_sendRequests, forget_setSection, h3, h5, h6, h10, h12, h13, h14, h15, h16,
      h17, h19, h20]
    | split)

theorem forget_execDenseBlockUpdate (ks : List Nat) (h3 : 3 ∈ ks) (h5 : 5 ∈ ks) (h6 : 6 ∈ ks) (h10 : 10 ∈ ks) (h12 : 12 ∈ ks) (h13 : 13 ∈ ks) (h14 : 14 ∈ ks) (h15 : 15 ∈ ks) (h16 : 16 ∈ ks) (h17 : 17 ∈ ks) (h19 : 19 ∈ ks) (h20 : 20 ∈ ks) (h24 : 24 ∈ ks)
    (treeId : Nat) (block : Nat) (s : State) :
    forget ks (endState s (execDenseBlockUpdate treeId block s)) = forget ks s := by
  unfold execDenseBlockUpdate
  repeat' (first
    | with_reducible rfl
    | simp only [forget_ite, endState_next, endState_ite, endState_fault, ite_self, true_or, or_true, and_self,
      forget_applyBlockUnit, forget_finishBlock, forget_progress, forget_skipBlock, h3, h5, h6, h10, h12,
      h13, h14, h15, h16, h17, h19, h20, h24]
    | split)

theorem forget_execDigest (ks : List Nat) (h3 : 3 ∈ ks) (h5 : 5 ∈ ks) (h6 : 6 ∈ ks) (h10 : 10 ∈ ks) (h12 : 12 ∈ ks) (h13 : 13 ∈ ks) (h14 : 14 ∈ ks) (h15 : 15 ∈ ks) (h16 : 16 ∈ ks) (h17 : 17 ∈ ks) (h19 : 19 ∈ ks) (h20 : 20 ∈ ks)
    (rx : Rx) (f : DigestF) (s : State) :
    forget ks (endState s (execDigest rx f s)) = forget ks s := by
  unfold execDigest
  repeat' (first
    | with_reducible rfl
    | simp only [forget_ite, endState_next, endState_ite, endState_fault, ite_self, true_or, or_true, and_self,
      forget_progress, forget_receive, forget_takeDigest, h3, h5, h6, h10, h12, h13, h14, h15, h16, h17,
      h19, h20]
    | split
    | (refine (forget_receive ks (by assumption) (by assumption) (by assumption) (by assumption) _ _ _ _ _ _ ?_).trans ?_; intro x))

theorem forget_execSliceData (ks : List Nat) (h3 : 3 ∈ ks) (h5 : 5 ∈ ks) (h6 : 6 ∈ ks) (h10 : 10 ∈ ks) (h12 : 12 ∈ ks) (h13 : 13 ∈ ks) (h14 : 14 ∈ ks) (h15 : 15 ∈ ks) (h16 : 16 ∈ ks) (h17 : 17 ∈ ks) (h19 : 19 ∈ ks) (h20 : 20 ∈ ks)
    (rx : Rx) (f : SliceDataF) (s : State) :
    forget ks (endState s (execSliceData rx f s)) = forget ks s := by
  unfold execSliceData
  repeat' (first
    | with_reducible rfl
    | simp only [forget_ite, endState_next, endState_ite, endState_fault, ite_self, true_or, or_true, and_self,
      forget_progress, forget_receive, forget_takeSlice, h3, h5, h6, h10, h12, h13, h14, h15, h16, h17,
      h19, h20]
    | split
    | (refine (forget_receive ks (by assumption) (by assumption) (by assumption) (by assumption) _ _ _ _ _ _ ?_).trans ?_; intro x))

end Sys2Proof.Machine
end

