-- ==== Sys2Proof/Laws/FrameSteps.lean ====
section
/-! SUPPORT. The groups of state that a definition can change: steps, commits, hanks and exports. -/

set_option maxRecDepth 4000
set_option linter.unusedSimpArgs false
set_option linter.unusedVariables false

namespace Sys2Proof.Machine

theorem forget_runStepInput (ks : List Nat) (h3 : 3 ∈ ks) (h5 : 5 ∈ ks) (h6 : 6 ∈ ks) (h10 : 10 ∈ ks) (h12 : 12 ∈ ks) (h13 : 13 ∈ ks) (h14 : 14 ∈ ks) (h15 : 15 ∈ ks) (h16 : 16 ∈ ks) (h17 : 17 ∈ ks) (h19 : 19 ∈ ks) (h20 : 20 ∈ ks) (h28 : 28 ∈ ks)
    (d : Sub) (s : State) :
    forget ks (runStepInput d s) = forget ks s := by
  unfold runStepInput
  repeat' (first
    | with_reducible rfl
    | simp only [forget_ite, ite_self, true_or, or_true, and_self, forget_finish, forget_progress, forget_setSteps,
      h3, h5, h6, h10, h12, h13, h14, h15, h16, h17, h19, h20, h28]
    | split)

theorem forget_execStepInput (ks : List Nat) (h3 : 3 ∈ ks) (h5 : 5 ∈ ks) (h6 : 6 ∈ ks) (h10 : 10 ∈ ks) (h12 : 12 ∈ ks) (h13 : 13 ∈ ks) (h14 : 14 ∈ ks) (h15 : 15 ∈ ks) (h16 : 16 ∈ ks) (h17 : 17 ∈ ks) (h19 : 19 ∈ ks) (h20 : 20 ∈ ks) (h28 : 28 ∈ ks)
    (d : Sub) (s : State) :
    forget ks (endState s (execStepInput d s)) = forget ks s := by
  unfold execStepInput
  repeat' (first
    | with_reducible rfl
    | simp only [forget_ite, endState_next, endState_ite, endState_fault, ite_self, true_or, or_true, and_self,
      forget_beginCommand, forget_runStepInput, h3, h5, h6, h10, h12, h13, h14, h15, h16, h17, h19, h20,
      h28]
    | split
    | (refine (forget_beginCommand ks (by assumption) _ _ _ _ _ ?_).trans ?_; intro x))

theorem forget_withdrawStep (ks : List Nat) (h3 : 3 ∈ ks) (h5 : 5 ∈ ks) (h28 : 28 ∈ ks)
    (s : State) (n : Nat) (f : Refused) :
    forget ks (withdrawStep s n f) = forget ks s := by
  unfold withdrawStep
  repeat' (first
    | with_reducible rfl
    | simp only [forget_ite, ite_self, true_or, or_true, and_self, forget_finish, forget_finishWith,
      forget_setSteps, h3, h5, h28]
    | split
    | (refine (forget_foldl ks _ ?_ _ _).trans ?_; intros))

theorem forget_execStepInputBlocksRead (ks : List Nat) (h3 : 3 ∈ ks) (h5 : 5 ∈ ks) (h6 : 6 ∈ ks) (h10 : 10 ∈ ks) (h12 : 12 ∈ ks) (h13 : 13 ∈ ks) (h14 : 14 ∈ ks) (h15 : 15 ∈ ks) (h16 : 16 ∈ ks) (h17 : 17 ∈ ks) (h19 : 19 ∈ ks) (h20 : 20 ∈ ks) (h28 : 28 ∈ ks)
    (step : Nat) (units : List Nat) (s : State) :
    forget ks (endState s (execStepInputBlocksRead step units s)) = forget ks s := by
  unfold execStepInputBlocksRead
  repeat' (first
    | with_reducible rfl
    | simp only [forget_ite, endState_next, endState_ite, endState_fault, ite_self, true_or, or_true, and_self,
      forget_finish, forget_progress, forget_setStep, forget_withdrawStep, h3, h5, h6, h10, h12, h13,
      h14, h15, h16, h17, h19, h20, h28]
    | split)

theorem forget_runEvalRequest (ks : List Nat) (h3 : 3 ∈ ks) (h5 : 5 ∈ ks)
    (d : Sub) (s : State) :
    forget ks (runEvalRequest d s) = forget ks s := by
  unfold runEvalRequest
  repeat' (first
    | with_reducible rfl
    | simp only [forget_ite, ite_self, true_or, or_true, and_self, forget_finish, forget_setSteps, h3, h5]
    | split)

theorem forget_execEvalRequest (ks : List Nat) (h3 : 3 ∈ ks) (h5 : 5 ∈ ks)
    (d : Sub) (s : State) :
    forget ks (endState s (execEvalRequest d s)) = forget ks s := by
  unfold execEvalRequest
  repeat' (first
    | with_reducible rfl
    | simp only [forget_ite, endState_next, endState_ite, endState_fault, ite_self, true_or, or_true, and_self,
      forget_beginCommand, forget_runEvalRequest, h3, h5]
    | split
    | (refine (forget_beginCommand ks (by assumption) _ _ _ _ _ ?_).trans ?_; intro x))

theorem forget_dropEval (ks : List Nat) (h5 : 5 ∈ ks)
    (s : State) (e : EvalReq) :
    forget ks (dropEval s e) = forget ks s := by
  unfold dropEval
  repeat' (first
    | with_reducible rfl
    | simp only [forget_ite, ite_self, true_or, or_true, and_self, forget_setSteps, h5]
    | split)

theorem forget_startEval (ks : List Nat) (h5 : 5 ∈ ks)
    (s : State) (e : EvalReq) :
    forget ks (startEval s e) = forget ks s := by
  unfold startEval
  repeat' (first
    | with_reducible rfl
    | simp only [forget_ite, ite_self, true_or, or_true, and_self, forget_setEval, h5]
    | split)

theorem forget_startEvals (ks : List Nat) (h5 : 5 ∈ ks)
    (s : State) :
    forget ks (startEvals s) = forget ks s := by
  unfold startEvals
  repeat' (first
    | with_reducible rfl
    | simp only [forget_ite, ite_self, true_or, or_true, and_self, forget_startEval, h5]
    | split
    | (refine (forget_foldl ks _ ?_ _ _).trans ?_; intros))

theorem forget_execEvalBlocksRead (ks : List Nat) (h3 : 3 ∈ ks) (h5 : 5 ∈ ks) (h6 : 6 ∈ ks) (h10 : 10 ∈ ks) (h12 : 12 ∈ ks) (h13 : 13 ∈ ks) (h14 : 14 ∈ ks) (h15 : 15 ∈ ks) (h16 : 16 ∈ ks) (h17 : 17 ∈ ks) (h19 : 19 ∈ ks) (h20 : 20 ∈ ks)
    (boundary : Nat) (handle : Nat) (units : List Nat) (s : State) :
    forget ks (endState s (execEvalBlocksRead boundary handle units s)) = forget ks s := by
  unfold execEvalBlocksRead
  repeat' (first
    | with_reducible rfl
    | simp only [forget_ite, endState_next, endState_ite, endState_fault, ite_self, true_or, or_true, and_self,
      forget_dropEval, forget_finishWith, forget_progress, forget_setEval, h3, h5, h6, h10, h12, h13,
      h14, h15, h16, h17, h19, h20]
    | split)

theorem forget_writeOutputs (ks : List Nat) (h9 : 9 ∈ ks)
    (s : State) (e : EvalReq) (l : Lattice) :
    forget ks (writeOutputs s e l) = forget ks s := by
  unfold writeOutputs
  repeat' (first
    | with_reducible rfl
    | simp only [forget_ite, ite_self, true_or, or_true, and_self, forget_windowWrite, h9]
    | split
    | (refine (forget_foldl ks _ ?_ _ _).trans ?_; intros))

theorem forget_execEvalComplete (ks : List Nat) (h3 : 3 ∈ ks) (h5 : 5 ∈ ks) (h6 : 6 ∈ ks) (h9 : 9 ∈ ks) (h10 : 10 ∈ ks) (h12 : 12 ∈ ks) (h13 : 13 ∈ ks) (h14 : 14 ∈ ks) (h15 : 15 ∈ ks) (h16 : 16 ∈ ks) (h17 : 17 ∈ ks) (h19 : 19 ∈ ks) (h20 : 20 ∈ ks)
    (boundary : Nat) (handle : Nat) (s : State) :
    forget ks (endState s (execEvalComplete boundary handle s)) = forget ks s := by
  unfold execEvalComplete
  repeat' (first
    | with_reducible rfl
    | simp only [forget_ite, endState_next, endState_ite, endState_fault, ite_self, true_or, or_true, and_self,
      forget_dropEval, forget_finish, forget_progress, forget_startEvals, forget_writeOutputs, h3, h5,
      h6, h9, h10, h12, h13, h14, h15, h16, h17, h19, h20]
    | split)

theorem forget_dropHank (ks : List Nat) (h16 : 16 ∈ ks)
    (s : State) (b : Nat) :
    forget ks (dropHank s b) = forget ks s := by
  unfold dropHank
  repeat' (first
    | with_reducible rfl
    | simp only [forget_ite, ite_self, true_or, or_true, and_self, forget_setSecuring, h16]
    | split)

theorem forget_releaseHanks (ks : List Nat) (h16 : 16 ∈ ks)
    (s : State) (keep : Nat) :
    forget ks (releaseHanks s keep) = forget ks s := by
  unfold releaseHanks
  repeat' (first
    | with_reducible rfl
    | simp only [forget_ite, ite_self, true_or, or_true, and_self, forget_dropHank, h16]
    | split
    | (refine (forget_foldl ks _ ?_ _ _).trans ?_; intros))

theorem forget_passSchedule (ks : List Nat) (h16 : 16 ∈ ks)
    (s : State) (b : Nat) :
    forget ks (passSchedule s b) = forget ks s := by
  unfold passSchedule
  repeat' (first
    | with_reducible rfl
    | simp only [forget_ite, ite_self, true_or, or_true, and_self, forget_setSecuring, h16]
    | split)

theorem forget_takeHank (ks : List Nat) (h6 : 6 ∈ ks) (h15 : 15 ∈ ks) (h16 : 16 ∈ ks) (h19 : 19 ∈ ks)
    (s : State) (b : Nat) :
    forget ks (takeHank s b) = forget ks s := by
  unfold takeHank
  repeat' (first
    | with_reducible rfl
    | simp only [forget_ite, ite_self, true_or, or_true, and_self, forget_passSchedule, forget_releaseHanks,
      forget_setSecuring, forget_setTables, forget_setTelemetry, forget_wakeChannels, h6, h15, h16, h19]
    | split)

theorem forget_sendMirror (ks : List Nat) (h3 : 3 ∈ ks) (h14 : 14 ∈ ks) (h16 : 16 ∈ ks) (h20 : 20 ∈ ks)
    (s : State) (h : Hank) :
    forget ks (sendMirror s h) = forget ks s := by
  unfold sendMirror
  repeat' (first
    | with_reducible rfl
    | simp only [forget_ite, ite_self, true_or, or_true, and_self, forget_sendTo, forget_setSecuring, h3, h14, h16,
      h20]
    | split
    | (refine (forget_foldl ks _ ?_ _ _).trans ?_; intros))

theorem forget_settleHank (ks : List Nat) (h3 : 3 ∈ ks) (h14 : 14 ∈ ks) (h16 : 16 ∈ ks) (h19 : 19 ∈ ks) (h20 : 20 ∈ ks)
    (s : State) (h : Hank) :
    forget ks (settleHank s h) = forget ks s := by
  unfold settleHank
  repeat' (first
    | with_reducible rfl
    | simp only [forget_ite, ite_self, true_or, or_true, and_self, forget_sendMirror, forget_setSecuring,
      forget_setTelemetry, h3, h14, h16, h19, h20]
    | split)

theorem forget_settleHanks (ks : List Nat) (h3 : 3 ∈ ks) (h14 : 14 ∈ ks) (h16 : 16 ∈ ks) (h19 : 19 ∈ ks) (h20 : 20 ∈ ks)
    (s : State) :
    forget ks (settleHanks s) = forget ks s := by
  unfold settleHanks
  repeat' (first
    | with_reducible rfl
    | simp only [forget_ite, ite_self, true_or, or_true, and_self, forget_settleHank, h3, h14, h16, h19, h20]
    | split
    | (refine (forget_foldl ks _ ?_ _ _).trans ?_; intros))

theorem forget_copyPage (ks : List Nat) (h15 : 15 ∈ ks) (h16 : 16 ∈ ks) (h17 : 17 ∈ ks)
    (s : State) (p : PageRef) :
    forget ks (copyPage s p) = forget ks s := by
  unfold copyPage
  repeat' (first
    | with_reducible rfl
    | simp only [forget_ite, ite_self, true_or, or_true, and_self, forget_setOutputs, forget_setSecuring,
      forget_wakeChannels, h15, h16, h17]
    | split)

theorem forget_writeCopy (ks : List Nat) (h16 : 16 ∈ ks) (h19 : 19 ∈ ks)
    (s : State) (p : PageRef) :
    forget ks (writeCopy s p) = forget ks s := by
  unfold writeCopy
  repeat' (first
    | with_reducible rfl
    | simp only [forget_ite, ite_self, true_or, or_true, and_self, forget_setSecuring, forget_setTelemetry, h16, h19]
    | split)

theorem forget_execHankPageCopy (ks : List Nat) (h3 : 3 ∈ ks) (h5 : 5 ∈ ks) (h6 : 6 ∈ ks) (h10 : 10 ∈ ks) (h12 : 12 ∈ ks) (h13 : 13 ∈ ks) (h14 : 14 ∈ ks) (h15 : 15 ∈ ks) (h16 : 16 ∈ ks) (h17 : 17 ∈ ks) (h19 : 19 ∈ ks) (h20 : 20 ∈ ks)
    (boundary : Nat) (page : PageRef) (s : State) :
    forget ks (endState s (execHankPageCopy boundary page s)) = forget ks s := by
  unfold execHankPageCopy
  repeat' (first
    | with_reducible rfl
    | simp only [forget_ite, endState_next, endState_ite, endState_fault, ite_self, true_or, or_true, and_self,
      forget_copyPage, forget_progress, forget_settleHanks, forget_writeCopy, h3, h5, h6, h10, h12, h13,
      h14, h15, h16, h17, h19, h20]
    | split)

theorem forget_execSecuringHoldEnd (ks : List Nat) (h3 : 3 ∈ ks) (h5 : 5 ∈ ks) (h6 : 6 ∈ ks) (h10 : 10 ∈ ks) (h12 : 12 ∈ ks) (h13 : 13 ∈ ks) (h14 : 14 ∈ ks) (h15 : 15 ∈ ks) (h16 : 16 ∈ ks) (h17 : 17 ∈ ks) (h19 : 19 ∈ ks) (h20 : 20 ∈ ks)
    (boundary : Nat) (s : State) :
    forget ks (endState s (execSecuringHoldEnd boundary s)) = forget ks s := by
  unfold execSecuringHoldEnd
  repeat' (first
    | with_reducible rfl
    | simp only [forget_ite, endState_next, endState_ite, endState_fault, ite_self, true_or, or_true, and_self,
      forget_progress, forget_setSecuring, forget_settleHanks, h3, h5, h6, h10, h12, h13, h14, h15, h16,
      h17, h19, h20]
    | split)

theorem forget_takeSecuringDecision (ks : List Nat) (h16 : 16 ∈ ks)
    (s : State) (f : SecuringDecisionF) :
    forget ks (takeSecuringDecision s f) = forget ks s := by
  unfold takeSecuringDecision
  repeat' (first
    | with_reducible rfl
    | simp only [forget_ite, ite_self, true_or, or_true, and_self, forget_setSecuring, h16]
    | split)

theorem forget_passSecuring (ks : List Nat) (h3 : 3 ∈ ks) (h14 : 14 ∈ ks) (h16 : 16 ∈ ks) (h20 : 20 ∈ ks)
    (s : State) (f : SecuringDecisionF) :
    forget ks (passSecuring s f) = forget ks s := by
  unfold passSecuring
  repeat' (first
    | with_reducible rfl
    | simp only [forget_ite, ite_self, true_or, or_true, and_self, forget_sendTo, h3, h14, h16, h20]
    | split
    | (refine (forget_foldl ks _ ?_ _ _).trans ?_; intros))

theorem forget_tryRound (ks : List Nat) (h3 : 3 ∈ ks) (h14 : 14 ∈ ks) (h16 : 16 ∈ ks) (h20 : 20 ∈ ks) (h21 : 21 ∈ ks)
    (s : State) :
    forget ks (tryRound s) = forget ks s := by
  unfold tryRound
  repeat' (first
    | with_reducible rfl
    | simp only [forget_ite, ite_self, true_or, or_true, and_self, forget_bump, forget_passSecuring, forget_sendTo,
      forget_setSecuring, forget_takeSecuringDecision, h3, h14, h16, h20, h21]
    | split
    | (refine (forget_foldl ks _ ?_ _ _).trans ?_; intros))

theorem forget_execSecuringReport (ks : List Nat) (h3 : 3 ∈ ks) (h14 : 14 ∈ ks) (h16 : 16 ∈ ks) (h20 : 20 ∈ ks) (h21 : 21 ∈ ks)
    (rx : Rx) (f : SecuringReportF) (s : State) :
    forget ks (endState s (execSecuringReport rx f s)) = forget ks s := by
  unfold execSecuringReport
  repeat' (first
    | with_reducible rfl
    | simp only [forget_ite, endState_next, endState_ite, endState_fault, ite_self, true_or, or_true, and_self,
      forget_receive, forget_setSecuring, forget_tryRound, h3, h14, h16, h20, h21]
    | split
    | (refine (forget_receive ks (by assumption) (by assumption) (by assumption) (by assumption) _ _ _ _ _ _ ?_).trans ?_; intro x))

theorem forget_execSecuringDecision (ks : List Nat) (h3 : 3 ∈ ks) (h14 : 14 ∈ ks) (h16 : 16 ∈ ks) (h20 : 20 ∈ ks)
    (rx : Rx) (f : SecuringDecisionF) (s : State) :
    forget ks (endState s (execSecuringDecision rx f s)) = forget ks s := by
  unfold execSecuringDecision
  repeat' (first
    | with_reducible rfl
    | simp only [forget_ite, endState_next, endState_ite, endState_fault, ite_self, true_or, or_true, and_self,
      forget_passSecuring, forget_receive, forget_takeSecuringDecision, h3, h14, h16, h20]
    | split
    | (refine (forget_receive ks (by assumption) (by assumption) (by assumption) (by assumption) _ _ _ _ _ _ ?_).trans ?_; intro x))

theorem forget_releaseMirrors (ks : List Nat) (h16 : 16 ∈ ks)
    (s : State) :
    forget ks (releaseMirrors s) = forget ks s := by
  unfold releaseMirrors
  repeat' (first
    | with_reducible rfl
    | simp only [forget_ite, ite_self, true_or, or_true, and_self, forget_setSecuring, h16]
    | split
    | (refine (forget_foldl ks _ ?_ _ _).trans ?_; intros))

theorem forget_execHankSeal (ks : List Nat) (h3 : 3 ∈ ks) (h14 : 14 ∈ ks) (h16 : 16 ∈ ks) (h19 : 19 ∈ ks) (h20 : 20 ∈ ks) (h21 : 21 ∈ ks)
    (boundary : Nat) (s : State) :
    forget ks (endState s (execHankSeal boundary s)) = forget ks s := by
  unfold execHankSeal
  repeat' (first
    | with_reducible rfl
    | simp only [forget_ite, endState_next, endState_ite, endState_fault, ite_self, true_or, or_true, and_self,
      forget_postEvent, forget_releaseHanks, forget_releaseMirrors, forget_sendTo, forget_setSecuring,
      forget_setTelemetry, forget_tryRound, h3, h14, h16, h19, h20, h21]
    | split)

theorem forget_takeHankData (ks : List Nat) (h16 : 16 ∈ ks) (h19 : 19 ∈ ks)
    (s : State) (f : HankDataF) :
    forget ks (takeHankData s f) = forget ks s := by
  unfold takeHankData
  repeat' (first
    | with_reducible rfl
    | simp only [forget_ite, ite_self, true_or, or_true, and_self, forget_releaseMirrors, forget_setSecuring,
      forget_setTelemetry, h16, h19]
    | split)

theorem forget_execHankData (ks : List Nat) (h3 : 3 ∈ ks) (h14 : 14 ∈ ks) (h16 : 16 ∈ ks) (h19 : 19 ∈ ks) (h20 : 20 ∈ ks)
    (rx : Rx) (f : HankDataF) (s : State) :
    forget ks (endState s (execHankData rx f s)) = forget ks s := by
  unfold execHankData
  repeat' (first
    | with_reducible rfl
    | simp only [forget_ite, endState_next, endState_ite, endState_fault, ite_self, true_or, or_true, and_self,
      forget_receive, forget_takeHankData, h3, h14, h16, h19, h20]
    | split
    | (refine (forget_receive ks (by assumption) (by assumption) (by assumption) (by assumption) _ _ _ _ _ _ ?_).trans ?_; intro x))

theorem forget_runSecureNow (ks : List Nat) (h3 : 3 ∈ ks) (h16 : 16 ∈ ks)
    (d : Sub) (s : State) :
    forget ks (runSecureNow d s) = forget ks s := by
  unfold runSecureNow
  repeat' (first
    | with_reducible rfl
    | simp only [forget_ite, ite_self, true_or, or_true, and_self, forget_finish, forget_setSecuring, h3, h16]
    | split)

theorem forget_execSecureNow (ks : List Nat) (h3 : 3 ∈ ks) (h16 : 16 ∈ ks)
    (d : Sub) (s : State) :
    forget ks (endState s (execSecureNow d s)) = forget ks s := by
  unfold execSecureNow
  repeat' (first
    | with_reducible rfl
    | simp only [forget_ite, endState_next, endState_ite, endState_fault, ite_self, true_or, or_true, and_self,
      forget_beginCommand, forget_runSecureNow, h3, h16]
    | split
    | (refine (forget_beginCommand ks (by assumption) _ _ _ _ _ ?_).trans ?_; intro x))

theorem forget_runReportFailure (ks : List Nat) (h3 : 3 ∈ ks) (h16 : 16 ∈ ks)
    (d : Sub) (s : State) :
    forget ks (runReportFailure d s) = forget ks s := by
  unfold runReportFailure
  repeat' (first
    | with_reducible rfl
    | simp only [forget_ite, ite_self, true_or, or_true, and_self, forget_finish, forget_setSecuring, h3, h16]
    | split)

theorem forget_execReportFailure (ks : List Nat) (h3 : 3 ∈ ks) (h16 : 16 ∈ ks)
    (d : Sub) (s : State) :
    forget ks (endState s (execReportFailure d s)) = forget ks s := by
  unfold execReportFailure
  repeat' (first
    | with_reducible rfl
    | simp only [forget_ite, endState_next, endState_ite, endState_fault, ite_self, true_or, or_true, and_self,
      forget_beginCommand, forget_runReportFailure, h3, h16]
    | split
    | (refine (forget_beginCommand ks (by assumption) _ _ _ _ _ ?_).trans ?_; intro x))

theorem forget_runExportSkein (ks : List Nat) (h3 : 3 ∈ ks) (h17 : 17 ∈ ks)
    (d : Sub) (s : State) :
    forget ks (runExportSkein d s) = forget ks s := by
  unfold runExportSkein
  repeat' (first
    | with_reducible rfl
    | simp only [forget_ite, ite_self, true_or, or_true, and_self, forget_finish, forget_setOutputs, h3, h17]
    | split)

theorem forget_execExportSkein (ks : List Nat) (h3 : 3 ∈ ks) (h17 : 17 ∈ ks)
    (d : Sub) (s : State) :
    forget ks (endState s (execExportSkein d s)) = forget ks s := by
  unfold execExportSkein
  repeat' (first
    | with_reducible rfl
    | simp only [forget_ite, endState_next, endState_ite, endState_fault, ite_self, true_or, or_true, and_self,
      forget_beginCommand, forget_runExportSkein, h3, h17]
    | split
    | (refine (forget_beginCommand ks (by assumption) _ _ _ _ _ ?_).trans ?_; intro x))

theorem forget_setExport (ks : List Nat) (h17 : 17 ∈ ks)
    (s : State) (e : ExportJob) :
    forget ks (setExport s e) = forget ks s := by
  unfold setExport
  repeat' (first
    | with_reducible rfl
    | simp only [forget_ite, ite_self, true_or, or_true, and_self, forget_setOutputs, h17]
    | split)

theorem forget_startExport (ks : List Nat) (h17 : 17 ∈ ks)
    (s : State) (e : ExportJob) :
    forget ks (startExport s e) = forget ks s := by
  unfold startExport
  repeat' (first
    | with_reducible rfl
    | simp only [forget_ite, ite_self, true_or, or_true, and_self, forget_setExport, h17]
    | split)

theorem forget_startExports (ks : List Nat) (h17 : 17 ∈ ks)
    (s : State) (b : Nat) :
    forget ks (startExports s b) = forget ks s := by
  unfold startExports
  repeat' (first
    | with_reducible rfl
    | simp only [forget_ite, ite_self, true_or, or_true, and_self, forget_startExport, h17]
    | split
    | (refine (forget_foldl ks _ ?_ _ _).trans ?_; intros))

theorem forget_exportLanded (ks : List Nat) (h17 : 17 ∈ ks)
    (s : State) (b : Nat) (table : Nat) (skein : Nat) :
    forget ks (exportLanded s b table skein) = forget ks s := by
  unfold exportLanded
  repeat' (first
    | with_reducible rfl
    | simp only [forget_ite, ite_self, true_or, or_true, and_self, forget_setExport, h17]
    | split
    | (refine (forget_foldl ks _ ?_ _ _).trans ?_; intros))

theorem forget_writeExport (ks : List Nat) (h3 : 3 ∈ ks)
    (s : State) (x : ExportRecord) :
    forget ks (writeExport s x) = forget ks s := by
  unfold writeExport
  repeat' (first
    | with_reducible rfl
    | simp only [forget_ite, ite_self, true_or, or_true, and_self, forget_setRing, forget_setRings, h3]
    | split)

theorem forget_execExportChunk (ks : List Nat) (h3 : 3 ∈ ks) (h5 : 5 ∈ ks) (h6 : 6 ∈ ks) (h9 : 9 ∈ ks) (h10 : 10 ∈ ks) (h12 : 12 ∈ ks) (h13 : 13 ∈ ks) (h14 : 14 ∈ ks) (h15 : 15 ∈ ks) (h16 : 16 ∈ ks) (h17 : 17 ∈ ks) (h19 : 19 ∈ ks) (h20 : 20 ∈ ks)
    (ring : Nat) (index : Word32) (rows : Nat) (s : State) :
    forget ks (endState s (execExportChunk ring index rows s)) = forget ks s := by
  unfold execExportChunk
  repeat' (first
    | with_reducible rfl
    | simp only [forget_ite, endState_next, endState_ite, endState_fault, ite_self, true_or, or_true, and_self,
      forget_finishWith, forget_progress, forget_setExport, forget_setOutputs, forget_windowWrite,
      forget_writeExport, h3, h5, h6, h9, h10, h12, h13, h14, h15, h16, h17, h19, h20]
    | split)

theorem forget_runDeltaControl (ks : List Nat) (h3 : 3 ∈ ks) (h17 : 17 ∈ ks)
    (d : Sub) (s : State) :
    forget ks (runDeltaControl d s) = forget ks s := by
  unfold runDeltaControl
  repeat' (first
    | with_reducible rfl
    | simp only [forget_ite, ite_self, true_or, or_true, and_self, forget_finish, forget_setOutputs, h3, h17]
    | split)

theorem forget_execDeltaControlStart (ks : List Nat) (h3 : 3 ∈ ks) (h17 : 17 ∈ ks)
    (d : Sub) (s : State) :
    forget ks (endState s (execDeltaControlStart d s)) = forget ks s := by
  unfold execDeltaControlStart
  repeat' (first
    | with_reducible rfl
    | simp only [forget_ite, endState_next, endState_ite, endState_fault, ite_self, true_or, or_true, and_self,
      forget_beginCommand, forget_runDeltaControl, h3, h17]
    | split
    | (refine (forget_beginCommand ks (by assumption) _ _ _ _ _ ?_).trans ?_; intro x))

theorem forget_execDeltaControlStop (ks : List Nat) (h3 : 3 ∈ ks) (h17 : 17 ∈ ks)
    (d : Sub) (s : State) :
    forget ks (endState s (execDeltaControlStop d s)) = forget ks s := by
  unfold execDeltaControlStop
  repeat' (first
    | with_reducible rfl
    | simp only [forget_ite, endState_next, endState_ite, endState_fault, ite_self, true_or, or_true, and_self,
      forget_beginCommand, forget_runDeltaControl, h3, h17]
    | split
    | (refine (forget_beginCommand ks (by assumption) _ _ _ _ _ ?_).trans ?_; intro x))

theorem forget_settleDelta (ks : List Nat) (h3 : 3 ∈ ks) (h17 : 17 ∈ ks)
    (s : State) (b : Nat) :
    forget ks (settleDelta s b) = forget ks s := by
  unfold settleDelta
  repeat' (first
    | with_reducible rfl
    | simp only [forget_ite, ite_self, true_or, or_true, and_self, forget_finishWith, forget_setOutputs, h3, h17]
    | split
    | (refine (forget_foldl ks _ ?_ _ _).trans ?_; intros))

theorem forget_passDelta (ks : List Nat) (h3 : 3 ∈ ks) (h17 : 17 ∈ ks)
    (s : State) (b : Nat) :
    forget ks (passDelta s b) = forget ks s := by
  unfold passDelta
  repeat' (first
    | with_reducible rfl
    | simp only [forget_ite, ite_self, true_or, or_true, and_self, forget_setOutputs, forget_settleDelta,
      forget_writeDelta, h3, h17]
    | split)

theorem forget_runTelemetrySnapshot (ks : List Nat) (h3 : 3 ∈ ks) (h9 : 9 ∈ ks)
    (d : Sub) (s : State) :
    forget ks (runTelemetrySnapshot d s) = forget ks s := by
  unfold runTelemetrySnapshot
  repeat' (first
    | with_reducible rfl
    | simp only [forget_ite, ite_self, true_or, or_true, and_self, forget_finish, forget_finishWith,
      forget_windowWrite, h3, h9]
    | split)

theorem forget_execTelemetrySnapshot (ks : List Nat) (h3 : 3 ∈ ks) (h9 : 9 ∈ ks)
    (d : Sub) (s : State) :
    forget ks (endState s (execTelemetrySnapshot d s)) = forget ks s := by
  unfold execTelemetrySnapshot
  repeat' (first
    | with_reducible rfl
    | simp only [forget_ite, endState_next, endState_ite, endState_fault, ite_self, true_or, or_true, and_self,
      forget_beginCommand, forget_runTelemetrySnapshot, h3, h9]
    | split
    | (refine (forget_beginCommand ks (by assumption) _ _ _ _ _ ?_).trans ?_; intro x))

theorem forget_withhold (ks : List Nat) (h3 : 3 ∈ ks) (h5 : 5 ∈ ks) (h14 : 14 ∈ ks) (h16 : 16 ∈ ks) (h20 : 20 ∈ ks)
    (s : State) (step : Nat) (reason : Nat) (named : Option Nat) :
    forget ks (withhold s step reason named) = forget ks s := by
  unfold withhold
  repeat' (first
    | with_reducible rfl
    | simp only [forget_ite, ite_self, true_or, or_true, and_self, forget_sendHalt, forget_setSteps, h3, h5, h14,
      h16, h20]
    | split)

theorem forget_execSliverColumnTest (ks : List Nat) (h3 : 3 ∈ ks) (h5 : 5 ∈ ks) (h6 : 6 ∈ ks) (h10 : 10 ∈ ks) (h12 : 12 ∈ ks) (h13 : 13 ∈ ks) (h14 : 14 ∈ ks) (h15 : 15 ∈ ks) (h16 : 16 ∈ ks) (h17 : 17 ∈ ks) (h19 : 19 ∈ ks) (h20 : 20 ∈ ks)
    (die : Nat) (sliver : Nat) (pass : Bool) (s : State) :
    forget ks (endState s (execSliverColumnTest die sliver pass s)) = forget ks s := by
  unfold execSliverColumnTest
  repeat' (first
    | with_reducible rfl
    | simp only [forget_ite, endState_next, endState_ite, endState_fault, ite_self, true_or, or_true, and_self,
      forget_memberLost, forget_progress, forget_setSecuring, forget_setStep, forget_withhold, h3, h5,
      h6, h10, h12, h13, h14, h15, h16, h17, h19, h20]
    | split)

theorem forget_postOverflow (ks : List Nat) (h3 : 3 ∈ ks) (h5 : 5 ∈ ks) (h16 : 16 ∈ ks) (h20 : 20 ∈ ks)
    (s : State) (a : AdmStep) :
    forget ks (postOverflow s a) = forget ks s := by
  unfold postOverflow
  repeat' (first
    | with_reducible rfl
    | simp only [forget_ite, ite_self, true_or, or_true, and_self, forget_postEvent, forget_setStep, h3, h5, h16, h20]
    | split)

theorem forget_sendDecision (ks : List Nat) (h3 : 3 ∈ ks) (h14 : 14 ∈ ks) (h16 : 16 ∈ ks) (h20 : 20 ∈ ks)
    (s : State) (f : CommitDecisionF) :
    forget ks (sendDecision s f) = forget ks s := by
  unfold sendDecision
  repeat' (first
    | with_reducible rfl
    | simp only [forget_ite, ite_self, true_or, or_true, and_self, forget_sendTo, h3, h14, h16, h20]
    | split
    | (refine (forget_foldl ks _ ?_ _ _).trans ?_; intros))

theorem forget_tryReport (ks : List Nat) (h3 : 3 ∈ ks) (h5 : 5 ∈ ks) (h14 : 14 ∈ ks) (h16 : 16 ∈ ks) (h20 : 20 ∈ ks)
    (s : State) (a : AdmStep) :
    forget ks (tryReport s a) = forget ks s := by
  unfold tryReport
  repeat' (first
    | with_reducible rfl
    | simp only [forget_ite, ite_self, true_or, or_true, and_self, forget_sendDecision, forget_sendTo,
      forget_setSteps, h3, h5, h14, h16, h20]
    | split
    | (refine (forget_foldl ks _ ?_ _ _).trans ?_; intros))

theorem forget_execCommitReportSend (ks : List Nat) (h3 : 3 ∈ ks) (h5 : 5 ∈ ks) (h14 : 14 ∈ ks) (h16 : 16 ∈ ks) (h20 : 20 ∈ ks)
    (s : State) :
    forget ks (endState s (execCommitReportSend s)) = forget ks s := by
  unfold execCommitReportSend
  repeat' (first
    | with_reducible rfl
    | simp only [forget_ite, endState_next, endState_ite, endState_fault, ite_self, true_or, or_true, and_self,
      forget_postOverflow, forget_setStep, forget_tryReport, h3, h5, h14, h16, h20]
    | split)

theorem forget_execCommitReport (ks : List Nat) (h3 : 3 ∈ ks) (h5 : 5 ∈ ks) (h14 : 14 ∈ ks) (h16 : 16 ∈ ks) (h20 : 20 ∈ ks)
    (rx : Rx) (f : CommitReportF) (s : State) :
    forget ks (endState s (execCommitReport rx f s)) = forget ks s := by
  unfold execCommitReport
  repeat' (first
    | with_reducible rfl
    | simp only [forget_ite, endState_next, endState_ite, endState_fault, ite_self, true_or, or_true, and_self,
      forget_receive, forget_setSteps, forget_tryReport, h3, h5, h14, h16, h20]
    | split
    | (refine (forget_receive ks (by assumption) (by assumption) (by assumption) (by assumption) _ _ _ _ _ _ ?_).trans ?_; intro x))

theorem forget_passLossScale (ks : List Nat) (h5 : 5 ∈ ks)
    (s : State) (overflow : Bool) :
    forget ks (passLossScale s overflow) = forget ks s := by
  unfold passLossScale
  repeat' (first
    | with_reducible rfl
    | simp only [forget_ite, ite_self, true_or, or_true, and_self, forget_setSteps, h5]
    | split)

theorem forget_settleEvals (ks : List Nat) (h3 : 3 ∈ ks) (h5 : 5 ∈ ks)
    (b : Nat) (y1 : List EvalReq) (y2 : List Nat) (y3 : State) :
    forget ks (settleEvals b y1 y2 y3) = forget ks y3 := by
  induction y1 generalizing y2 y3 with
  | nil => rfl
  | cons e r ih =>
    unfold settleEvals
    repeat' (first
      | with_reducible rfl
      | simp only [forget_ite, ite_self, true_or, or_true, and_self, forget_dropEval, forget_finish, forget_setEval,
      h3, h5, ih]
      | split)

theorem forget_decayHeat (ks : List Nat) (h6 : 6 ∈ ks)
    (s : State) :
    forget ks (decayHeat s) = forget ks s := by
  unfold decayHeat
  repeat' (first
    | with_reducible rfl
    | simp only [forget_ite, ite_self, true_or, or_true, and_self, forget_setTables, h6]
    | split)

theorem forget_dropStepWork (ks : List Nat) (h12 : 12 ∈ ks) (h13 : 13 ∈ ks)
    (s : State) (b : Nat) :
    forget ks (dropStepWork s b) = forget ks s := by
  unfold dropStepWork
  repeat' (first
    | with_reducible rfl
    | simp only [forget_ite, ite_self, true_or, or_true, and_self, forget_setDense, forget_setOwners, h12, h13]
    | split)

theorem forget_rebalance (ks : List Nat) (h12 : 12 ∈ ks)
    (s : State) (b : Nat) :
    forget ks (rebalance s b) = forget ks s := by
  unfold rebalance
  repeat' (first
    | with_reducible rfl
    | simp only [forget_ite, ite_self, true_or, or_true, and_self, forget_setOwners, h12]
    | split
    | (refine (forget_foldl ks _ ?_ _ _).trans ?_; intros))

theorem forget_releaseCredits (ks : List Nat) (h12 : 12 ∈ ks)
    (s : State) :
    forget ks (releaseCredits s) = forget ks s := by
  unfold releaseCredits
  repeat' (first
    | with_reducible rfl
    | simp only [forget_ite, ite_self, true_or, or_true, and_self, forget_releaseCredit, h12]
    | split
    | (refine (forget_foldl ks _ ?_ _ _).trans ?_; intros))

theorem forget_freeSkein (ks : List Nat) (h6 : 6 ∈ ks)
    (s : State) (x : Nat × Nat × Nat × Nat) :
    forget ks (freeSkein s x) = forget ks s := by
  unfold freeSkein
  repeat' (first
    | with_reducible rfl
    | simp only [forget_ite, ite_self, true_or, or_true, and_self, forget_setTables, h6]
    | split)

theorem forget_freeLanded (ks : List Nat) (h6 : 6 ∈ ks)
    (s : State) :
    forget ks (freeLanded s) = forget ks s := by
  unfold freeLanded
  repeat' (first
    | with_reducible rfl
    | simp only [forget_ite, ite_self, true_or, or_true, and_self, forget_freeSkein, h6]
    | split
    | (refine (forget_foldl ks _ ?_ _ _).trans ?_; intros))

theorem forget_noteLoss (ks : List Nat) (h16 : 16 ∈ ks)
    (s : State) (b : Nat) (loss : Word32) :
    forget ks (noteLoss s b loss) = forget ks s := by
  unfold noteLoss
  repeat' (first
    | with_reducible rfl
    | simp only [forget_ite, ite_self, true_or, or_true, and_self, forget_setSecuring, h16]
    | split)

theorem forget_decideExponent (ks : List Nat) (h5 : 5 ∈ ks)
    (s : State) (n : Nat) :
    forget ks (decideExponent s n) = forget ks s := by
  unfold decideExponent
  repeat' (first
    | with_reducible rfl
    | simp only [forget_ite, ite_self, true_or, or_true, and_self, forget_setStep, h5]
    | split)

theorem forget_passBoundary (ks : List Nat) (h3 : 3 ∈ ks) (h4 : 4 ∈ ks) (h5 : 5 ∈ ks) (h6 : 6 ∈ ks) (h10 : 10 ∈ ks) (h12 : 12 ∈ ks) (h13 : 13 ∈ ks) (h14 : 14 ∈ ks) (h15 : 15 ∈ ks) (h16 : 16 ∈ ks) (h17 : 17 ∈ ks) (h19 : 19 ∈ ks) (h20 : 20 ∈ ks) (h27 : 27 ∈ ks)
    (s : State) (f : CommitDecisionF) :
    forget ks (passBoundary s f) = forget ks s := by
  unfold passBoundary
  repeat' (first
    | with_reducible rfl
    | simp only [forget_ite, ite_self, true_or, or_true, and_self, forget_applySets, forget_decayHeat,
      forget_decideExponent, forget_dropStepWork, forget_dueDigests, forget_freeLanded, forget_noteLoss,
      forget_passDelta, forget_passLossScale, forget_postEvent, forget_progress, forget_rebalance,
      forget_releaseCredits, forget_scrubAt, forget_setSecuring, forget_setSteps, forget_settleEvals,
      forget_startEvals, forget_startExports, forget_takeHank, h3, h4, h5, h6, h10, h12, h13, h14, h15,
      h16, h17, h19, h20, h27]
    | split)

theorem forget_refuseCommit (ks : List Nat) (h3 : 3 ∈ ks) (h5 : 5 ∈ ks) (h16 : 16 ∈ ks) (h20 : 20 ∈ ks)
    (s : State) (f : CommitDecisionF) :
    forget ks (refuseCommit s f) = forget ks s := by
  unfold refuseCommit
  repeat' (first
    | with_reducible rfl
    | simp only [forget_ite, ite_self, true_or, or_true, and_self, forget_dropHank, forget_memberLost,
      forget_setSecuring, forget_setSteps, h3, h5, h16, h20]
    | split)

theorem forget_applyDecision (ks : List Nat) (h3 : 3 ∈ ks) (h4 : 4 ∈ ks) (h5 : 5 ∈ ks) (h6 : 6 ∈ ks) (h10 : 10 ∈ ks) (h12 : 12 ∈ ks) (h13 : 13 ∈ ks) (h14 : 14 ∈ ks) (h15 : 15 ∈ ks) (h16 : 16 ∈ ks) (h17 : 17 ∈ ks) (h19 : 19 ∈ ks) (h20 : 20 ∈ ks) (h27 : 27 ∈ ks)
    (s : State) (f : CommitDecisionF) :
    forget ks (applyDecision s f) = forget ks s := by
  unfold applyDecision
  repeat' (first
    | with_reducible rfl
    | simp only [forget_ite, ite_self, true_or, or_true, and_self, forget_passBoundary, forget_refuseCommit,
      forget_setCfg, forget_setSteps, h3, h4, h5, h6, h10, h12, h13, h14, h15, h16, h17, h19, h20, h27]
    | split)

theorem forget_execCommitDecision (ks : List Nat) (h3 : 3 ∈ ks) (h4 : 4 ∈ ks) (h5 : 5 ∈ ks) (h6 : 6 ∈ ks) (h10 : 10 ∈ ks) (h12 : 12 ∈ ks) (h13 : 13 ∈ ks) (h14 : 14 ∈ ks) (h15 : 15 ∈ ks) (h16 : 16 ∈ ks) (h17 : 17 ∈ ks) (h19 : 19 ∈ ks) (h20 : 20 ∈ ks) (h27 : 27 ∈ ks)
    (rx : Rx) (f : CommitDecisionF) (s : State) :
    forget ks (endState s (execCommitDecision rx f s)) = forget ks s := by
  unfold execCommitDecision
  repeat' (first
    | with_reducible rfl
    | simp only [forget_ite, endState_next, endState_ite, endState_fault, ite_self, true_or, or_true, and_self,
      forget_applyDecision, forget_receive, forget_sendDecision, h3, h4, h5, h6, h10, h12, h13, h14, h15,
      h16, h17, h19, h20, h27]
    | split
    | (refine (forget_receive ks (by assumption) (by assumption) (by assumption) (by assumption) _ _ _ _ _ _ ?_).trans ?_; intro x))

theorem forget_execHalt (ks : List Nat) (h3 : 3 ∈ ks) (h5 : 5 ∈ ks) (h14 : 14 ∈ ks) (h16 : 16 ∈ ks) (h20 : 20 ∈ ks)
    (rx : Rx) (f : HaltF) (s : State) :
    forget ks (endState s (execHalt rx f s)) = forget ks s := by
  unfold execHalt
  repeat' (first
    | with_reducible rfl
    | simp only [forget_ite, endState_next, endState_ite, endState_fault, ite_self, true_or, or_true, and_self,
      forget_receive, forget_sendHalt, forget_setSteps, h3, h5, h14, h16, h20]
    | split
    | (refine (forget_receive ks (by assumption) (by assumption) (by assumption) (by assumption) _ _ _ _ _ _ ?_).trans ?_; intro x))

theorem forget_execRouteTableFree (ks : List Nat) (h3 : 3 ∈ ks) (h4 : 4 ∈ ks) (h5 : 5 ∈ ks) (h6 : 6 ∈ ks) (h10 : 10 ∈ ks) (h12 : 12 ∈ ks) (h13 : 13 ∈ ks) (h14 : 14 ∈ ks) (h15 : 15 ∈ ks) (h16 : 16 ∈ ks) (h17 : 17 ∈ ks) (h19 : 19 ∈ ks) (h20 : 20 ∈ ks) (h27 : 27 ∈ ks)
    (s : State) :
    forget ks (endState s (execRouteTableFree s)) = forget ks s := by
  unfold execRouteTableFree
  repeat' (first
    | with_reducible rfl
    | simp only [forget_ite, endState_next, endState_ite, endState_fault, ite_self, true_or, or_true, and_self,
      forget_passBoundary, forget_pump, forget_setCfg, h3, h4, h5, h6, h10, h12, h13, h14, h15, h16, h17,
      h19, h20, h27]
    | split)

theorem forget_landingPage (ks : List Nat) (h6 : 6 ∈ ks)
    (s : State) (v : Version) (f : SkeinTransferF) :
    forget ks (landingPage s v f).1 = forget ks s := by
  unfold landingPage
  repeat' (first
    | with_reducible rfl
    | simp only [forget_ite, ite_self, true_or, or_true, and_self, forget_addPage, h6]
    | split)

theorem forget_patchHanks (ks : List Nat) (h16 : 16 ∈ ks)
    (s : State) (b : Nat) (v : Version) (p : Page) :
    forget ks (patchHanks s b v p) = forget ks s := by
  unfold patchHanks
  repeat' (first
    | with_reducible rfl
    | simp only [forget_ite, ite_self, true_or, or_true, and_self, forget_setSecuring, h16]
    | split)

theorem forget_settlePage (ks : List Nat) (h6 : 6 ∈ ks) (h15 : 15 ∈ ks) (h19 : 19 ∈ ks)
    (s : State) (p : Page) :
    forget ks (settlePage s p) = forget ks s := by
  unfold settlePage
  repeat' (first
    | with_reducible rfl
    | simp only [forget_ite, ite_self, true_or, or_true, and_self, forget_setPage, forget_writeFlash, h6, h15, h19]
    | split)

theorem forget_landSkein (ks : List Nat) (h3 : 3 ∈ ks) (h5 : 5 ∈ ks) (h6 : 6 ∈ ks) (h10 : 10 ∈ ks) (h12 : 12 ∈ ks) (h13 : 13 ∈ ks) (h14 : 14 ∈ ks) (h15 : 15 ∈ ks) (h16 : 16 ∈ ks) (h17 : 17 ∈ ks) (h19 : 19 ∈ ks) (h20 : 20 ∈ ks)
    (s : State) (f : SkeinTransferF) :
    forget ks (landSkein s f) = forget ks s := by
  unfold landSkein
  repeat' (first
    | with_reducible rfl
    | simp only [forget_ite, ite_self, true_or, or_true, and_self, forget_exportLanded, forget_progress,
      forget_setTables, forget_settleHanks, forget_settlePage, h3, h5, h6, h10, h12, h13, h14, h15, h16,
      h17, h19, h20]
    | split
    | (refine (forget_foldl ks _ ?_ _ _).trans ?_; intros))

theorem forget_takeTransfer (ks : List Nat) (h3 : 3 ∈ ks) (h5 : 5 ∈ ks) (h6 : 6 ∈ ks) (h10 : 10 ∈ ks) (h12 : 12 ∈ ks) (h13 : 13 ∈ ks) (h14 : 14 ∈ ks) (h15 : 15 ∈ ks) (h16 : 16 ∈ ks) (h17 : 17 ∈ ks) (h19 : 19 ∈ ks) (h20 : 20 ∈ ks)
    (s : State) (f : SkeinTransferF) :
    forget ks (takeTransfer s f) = forget ks s := by
  unfold takeTransfer
  repeat' (first
    | with_reducible rfl
    | simp only [forget_ite, ite_self, true_or, or_true, and_self, forget_landSkein, forget_landingPage,
      forget_patchHanks, forget_setPage, forget_setVersion, h3, h5, h6, h10, h12, h13, h14, h15, h16,
      h17, h19, h20]
    | split)

theorem forget_execSkeinTransfer (ks : List Nat) (h3 : 3 ∈ ks) (h5 : 5 ∈ ks) (h6 : 6 ∈ ks) (h10 : 10 ∈ ks) (h12 : 12 ∈ ks) (h13 : 13 ∈ ks) (h14 : 14 ∈ ks) (h15 : 15 ∈ ks) (h16 : 16 ∈ ks) (h17 : 17 ∈ ks) (h19 : 19 ∈ ks) (h20 : 20 ∈ ks)
    (rx : Rx) (f : SkeinTransferF) (s : State) :
    forget ks (endState s (execSkeinTransfer rx f s)) = forget ks s := by
  unfold execSkeinTransfer
  repeat' (first
    | with_reducible rfl
    | simp only [forget_ite, endState_next, endState_ite, endState_fault, ite_self, true_or, or_true, and_self,
      forget_receive, forget_takeTransfer, h3, h5, h6, h10, h12, h13, h14, h15, h16, h17, h19, h20]
    | split
    | (refine (forget_receive ks (by assumption) (by assumption) (by assumption) (by assumption) _ _ _ _ _ _ ?_).trans ?_; intro x))

end Sys2Proof.Machine
end

