-- ==== Sys2Proof/Laws/FrameHost.lean ====
section
/-! SUPPORT. The groups of state that a definition can change: the commands of the host, of the supply, of the power units and of the trust services. -/

set_option maxRecDepth 4000
set_option linter.unusedSimpArgs false
set_option linter.unusedVariables false

namespace Sys2Proof.Machine

theorem forget_runLoadProgram (ks : List Nat) (h3 : 3 ∈ ks) (h7 : 7 ∈ ks)
    (d : Sub) (s : State) :
    forget ks (runLoadProgram d s) = forget ks s := by
  unfold runLoadProgram
  repeat' (first
    | with_reducible rfl
    | simp only [forget_ite, ite_self, true_or, or_true, and_self, forget_finish, forget_finishWith,
      forget_setPrograms, h3, h7]
    | split)

theorem forget_execLoadProgram (ks : List Nat) (h3 : 3 ∈ ks) (h7 : 7 ∈ ks)
    (d : Sub) (s : State) :
    forget ks (endState s (execLoadProgram d s)) = forget ks s := by
  unfold execLoadProgram
  repeat' (first
    | with_reducible rfl
    | simp only [forget_ite, endState_next, endState_ite, endState_fault, ite_self, true_or, or_true, and_self,
      forget_beginCommand, forget_runLoadProgram, h3, h7]
    | split
    | (refine (forget_beginCommand ks (by assumption) _ _ _ _ _ ?_).trans ?_; intro x))

theorem forget_execLoadProgramSlotTaken (ks : List Nat) (h7 : 7 ∈ ks)
    (slot : Nat) (s : State) :
    forget ks (endState s (execLoadProgramSlotTaken slot s)) = forget ks s := by
  unfold execLoadProgramSlotTaken
  repeat' (first
    | with_reducible rfl
    | simp only [forget_ite, endState_next, endState_ite, endState_fault, ite_self, true_or, or_true, and_self,
      forget_setPrograms, h7]
    | split)

theorem forget_unload (ks : List Nat) (h3 : 3 ∈ ks) (h7 : 7 ∈ ks)
    (s : State) (d : Sub) (handle : Nat) :
    forget ks (unload s d handle) = forget ks s := by
  unfold unload
  repeat' (first
    | with_reducible rfl
    | simp only [forget_ite, ite_self, true_or, or_true, and_self, forget_finish, forget_setPrograms, h3, h7]
    | split)

theorem forget_execTranslationEnd (ks : List Nat) (h3 : 3 ∈ ks) (h5 : 5 ∈ ks) (h6 : 6 ∈ ks) (h7 : 7 ∈ ks) (h10 : 10 ∈ ks) (h12 : 12 ∈ ks) (h13 : 13 ∈ ks) (h14 : 14 ∈ ks) (h15 : 15 ∈ ks) (h16 : 16 ∈ ks) (h17 : 17 ∈ ks) (h19 : 19 ∈ ks) (h20 : 20 ∈ ks)
    (handle : Nat) (s : State) :
    forget ks (endState s (execTranslationEnd handle s)) = forget ks s := by
  unfold execTranslationEnd
  repeat' (first
    | with_reducible rfl
    | simp only [forget_ite, endState_next, endState_ite, endState_fault, ite_self, true_or, or_true, and_self,
      forget_finish, forget_freeDrained, forget_progress, forget_setPrograms, forget_unload, h3, h5, h6,
      h7, h10, h12, h13, h14, h15, h16, h17, h19, h20]
    | split
    | (refine (forget_foldl ks _ ?_ _ _).trans ?_; intros))

theorem forget_runUnloadProgram (ks : List Nat) (h3 : 3 ∈ ks) (h7 : 7 ∈ ks)
    (d : Sub) (s : State) :
    forget ks (runUnloadProgram d s) = forget ks s := by
  unfold runUnloadProgram
  repeat' (first
    | with_reducible rfl
    | simp only [forget_ite, ite_self, true_or, or_true, and_self, forget_finish, forget_setPrograms, forget_unload,
      h3, h7]
    | split)

theorem forget_execUnloadProgram (ks : List Nat) (h3 : 3 ∈ ks) (h7 : 7 ∈ ks)
    (d : Sub) (s : State) :
    forget ks (endState s (execUnloadProgram d s)) = forget ks s := by
  unfold execUnloadProgram
  repeat' (first
    | with_reducible rfl
    | simp only [forget_ite, endState_next, endState_ite, endState_fault, ite_self, true_or, or_true, and_self,
      forget_beginCommand, forget_runUnloadProgram, h3, h7]
    | split
    | (refine (forget_beginCommand ks (by assumption) _ _ _ _ _ ?_).trans ?_; intro x))

theorem forget_withLattice (ks : List Nat) (h8 : 8 ∈ ks)
    (s : State) (l : Lattice) :
    forget ks (withLattice s l) = forget ks s := by
  unfold withLattice
  repeat' (first
    | with_reducible rfl
    | simp only [forget_ite, ite_self, true_or, or_true, and_self, forget_setLattices, h8]
    | split)

theorem forget_absentReplicas (ks : List Nat) (h3 : 3 ∈ ks) (h13 : 13 ∈ ks) (h14 : 14 ∈ ks) (h16 : 16 ∈ ks) (h20 : 20 ∈ ks)
    (s : State) :
    forget ks (absentReplicas s) = forget ks s := by
  unfold absentReplicas
  repeat' (first
    | with_reducible rfl
    | simp only [forget_ite, ite_self, true_or, or_true, and_self, forget_sendTo, forget_setDense,
      forget_setReplica, h3, h13, h14, h16, h20]
    | split
    | (refine (forget_foldl ks _ ?_ _ _).trans ?_; intros))

theorem forget_startReplicas (ks : List Nat) (h3 : 3 ∈ ks) (h13 : 13 ∈ ks) (h14 : 14 ∈ ks) (h16 : 16 ∈ ks) (h20 : 20 ∈ ks)
    (s : State) :
    forget ks (startReplicas s) = forget ks s := by
  unfold startReplicas
  repeat' (first
    | with_reducible rfl
    | simp only [forget_ite, ite_self, true_or, or_true, and_self, forget_absentReplicas, forget_setDense, h3, h13,
      h14, h16, h20]
    | split)

theorem forget_makeResident (ks : List Nat) (h3 : 3 ∈ ks) (h8 : 8 ∈ ks) (h10 : 10 ∈ ks) (h13 : 13 ∈ ks) (h14 : 14 ∈ ks) (h16 : 16 ∈ ks) (h20 : 20 ∈ ks)
    (s : State) (l : Lattice) :
    forget ks (makeResident s l) = forget ks s := by
  unfold makeResident
  repeat' (first
    | with_reducible rfl
    | simp only [forget_ite, ite_self, true_or, or_true, and_self, forget_setTensor, forget_startReplicas,
      forget_withLattice, h3, h8, h10, h13, h14, h16, h20]
    | split
    | (refine (forget_foldl ks _ ?_ _ _).trans ?_; intros))

theorem forget_runSubmitLattice (ks : List Nat) (h3 : 3 ∈ ks) (h8 : 8 ∈ ks) (h10 : 10 ∈ ks) (h13 : 13 ∈ ks) (h14 : 14 ∈ ks) (h16 : 16 ∈ ks) (h20 : 20 ∈ ks)
    (d : Sub) (s : State) :
    forget ks (runSubmitLattice d s) = forget ks s := by
  unfold runSubmitLattice
  repeat' (first
    | with_reducible rfl
    | simp only [forget_ite, ite_self, true_or, or_true, and_self, forget_finish, forget_finishWith,
      forget_makeResident, h3, h8, h10, h13, h14, h16, h20]
    | split)

theorem forget_execSubmitLattice (ks : List Nat) (h3 : 3 ∈ ks) (h8 : 8 ∈ ks) (h10 : 10 ∈ ks) (h13 : 13 ∈ ks) (h14 : 14 ∈ ks) (h16 : 16 ∈ ks) (h20 : 20 ∈ ks)
    (d : Sub) (s : State) :
    forget ks (endState s (execSubmitLattice d s)) = forget ks s := by
  unfold execSubmitLattice
  repeat' (first
    | with_reducible rfl
    | simp only [forget_ite, endState_next, endState_ite, endState_fault, ite_self, true_or, or_true, and_self,
      forget_beginCommand, forget_runSubmitLattice, h3, h8, h10, h13, h14, h16, h20]
    | split
    | (refine (forget_beginCommand ks (by assumption) _ _ _ _ _ ?_).trans ?_; intro x))

theorem forget_runSubmitLatticeRemove (ks : List Nat) (h3 : 3 ∈ ks) (h8 : 8 ∈ ks) (h13 : 13 ∈ ks)
    (d : Sub) (s : State) :
    forget ks (runSubmitLatticeRemove d s) = forget ks s := by
  unfold runSubmitLatticeRemove
  repeat' (first
    | with_reducible rfl
    | simp only [forget_ite, ite_self, true_or, or_true, and_self, forget_finish, forget_finishWith,
      forget_setDense, forget_setLattices, h3, h8, h13]
    | split)

theorem forget_execSubmitLatticeRemove (ks : List Nat) (h3 : 3 ∈ ks) (h8 : 8 ∈ ks) (h13 : 13 ∈ ks)
    (d : Sub) (s : State) :
    forget ks (endState s (execSubmitLatticeRemove d s)) = forget ks s := by
  unfold execSubmitLatticeRemove
  repeat' (first
    | with_reducible rfl
    | simp only [forget_ite, endState_next, endState_ite, endState_fault, ite_self, true_or, or_true, and_self,
      forget_beginCommand, forget_runSubmitLatticeRemove, h3, h8, h13]
    | split
    | (refine (forget_beginCommand ks (by assumption) _ _ _ _ _ ?_).trans ?_; intro x))

theorem forget_runLoadBegin (ks : List Nat) (h3 : 3 ∈ ks) (h6 : 6 ∈ ks)
    (d : Sub) (s : State) :
    forget ks (runLoadBegin d s) = forget ks s := by
  unfold runLoadBegin
  repeat' (first
    | with_reducible rfl
    | simp only [forget_ite, ite_self, true_or, or_true, and_self, forget_finish, forget_installPages,
      forget_setTables, h3, h6]
    | split)

theorem forget_execLoadTableVersionBegin (ks : List Nat) (h3 : 3 ∈ ks) (h6 : 6 ∈ ks)
    (d : Sub) (s : State) :
    forget ks (endState s (execLoadTableVersionBegin d s)) = forget ks s := by
  unfold execLoadTableVersionBegin
  repeat' (first
    | with_reducible rfl
    | simp only [forget_ite, endState_next, endState_ite, endState_fault, ite_self, true_or, or_true, and_self,
      forget_beginCommand, forget_runLoadBegin, h3, h6]
    | split
    | (refine (forget_beginCommand ks (by assumption) _ _ _ _ _ ?_).trans ?_; intro x))

theorem forget_runLoadData (ks : List Nat) (h3 : 3 ∈ ks) (h6 : 6 ∈ ks) (h15 : 15 ∈ ks)
    (d : Sub) (s : State) :
    forget ks (runLoadData d s) = forget ks s := by
  unfold runLoadData
  repeat' (first
    | with_reducible rfl
    | simp only [forget_ite, ite_self, true_or, or_true, and_self, forget_finish, forget_finishWith,
      forget_setTables, forget_setVersion, forget_wakeChannels, h3, h6, h15]
    | split
    | (refine (forget_foldl ks _ ?_ _ _).trans ?_; intros))

theorem forget_execLoadTableVersionData (ks : List Nat) (h3 : 3 ∈ ks) (h6 : 6 ∈ ks) (h15 : 15 ∈ ks)
    (d : Sub) (s : State) :
    forget ks (endState s (execLoadTableVersionData d s)) = forget ks s := by
  unfold execLoadTableVersionData
  repeat' (first
    | with_reducible rfl
    | simp only [forget_ite, endState_next, endState_ite, endState_fault, ite_self, true_or, or_true, and_self,
      forget_beginCommand, forget_runLoadData, h3, h6, h15]
    | split
    | (refine (forget_beginCommand ks (by assumption) _ _ _ _ _ ?_).trans ?_; intro x))

theorem forget_completeVersion (ks : List Nat) (h3 : 3 ∈ ks) (h6 : 6 ∈ ks)
    (s : State) (v : Version) :
    forget ks (completeVersion s v) = forget ks s := by
  unfold completeVersion
  repeat' (first
    | with_reducible rfl
    | simp only [forget_ite, ite_self, true_or, or_true, and_self, forget_finish, forget_setVersion, h3, h6]
    | split
    | (refine (forget_foldl ks _ ?_ _ _).trans ?_; intros))

theorem forget_runLoadEnd (ks : List Nat) (h3 : 3 ∈ ks) (h6 : 6 ∈ ks)
    (d : Sub) (s : State) :
    forget ks (runLoadEnd d s) = forget ks s := by
  unfold runLoadEnd
  repeat' (first
    | with_reducible rfl
    | simp only [forget_ite, ite_self, true_or, or_true, and_self, forget_completeVersion, forget_finish,
      forget_setVersion, h3, h6]
    | split)

theorem forget_execLoadTableVersionEnd (ks : List Nat) (h3 : 3 ∈ ks) (h6 : 6 ∈ ks)
    (d : Sub) (s : State) :
    forget ks (endState s (execLoadTableVersionEnd d s)) = forget ks s := by
  unfold execLoadTableVersionEnd
  repeat' (first
    | with_reducible rfl
    | simp only [forget_ite, endState_next, endState_ite, endState_fault, ite_self, true_or, or_true, and_self,
      forget_beginCommand, forget_runLoadEnd, h3, h6]
    | split
    | (refine (forget_beginCommand ks (by assumption) _ _ _ _ _ ?_).trans ?_; intro x))

theorem forget_execRecordsReachedTier (ks : List Nat) (h3 : 3 ∈ ks) (h6 : 6 ∈ ks) (h15 : 15 ∈ ks) (h19 : 19 ∈ ks)
    (table : Nat) (version : Nat) (s : State) :
    forget ks (endState s (execRecordsReachedTier table version s)) = forget ks s := by
  unfold execRecordsReachedTier
  repeat' (first
    | with_reducible rfl
    | simp only [forget_ite, endState_next, endState_ite, endState_fault, ite_self, true_or, or_true, and_self,
      forget_completeVersion, forget_settlePage, h3, h6, h15, h19]
    | split
    | (refine (forget_foldl ks _ ?_ _ _).trans ?_; intros))

theorem forget_runRetireTableVersion (ks : List Nat) (h3 : 3 ∈ ks) (h6 : 6 ∈ ks)
    (d : Sub) (s : State) :
    forget ks (runRetireTableVersion d s) = forget ks s := by
  unfold runRetireTableVersion
  repeat' (first
    | with_reducible rfl
    | simp only [forget_ite, ite_self, true_or, or_true, and_self, forget_dropVersion, forget_finish,
      forget_setVersion, h3, h6]
    | split)

theorem forget_execRetireTableVersion (ks : List Nat) (h3 : 3 ∈ ks) (h6 : 6 ∈ ks)
    (d : Sub) (s : State) :
    forget ks (endState s (execRetireTableVersion d s)) = forget ks s := by
  unfold execRetireTableVersion
  repeat' (first
    | with_reducible rfl
    | simp only [forget_ite, endState_next, endState_ite, endState_fault, ite_self, true_or, or_true, and_self,
      forget_beginCommand, forget_runRetireTableVersion, h3, h6]
    | split
    | (refine (forget_beginCommand ks (by assumption) _ _ _ _ _ ?_).trans ?_; intro x))

theorem forget_execPlacementMove (ks : List Nat) (h6 : 6 ∈ ks) (h15 : 15 ∈ ks)
    (page : PageRef) (dest : Tier) (s : State) :
    forget ks (endState s (execPlacementMove page dest s)) = forget ks s := by
  unfold execPlacementMove
  repeat' (first
    | with_reducible rfl
    | simp only [forget_ite, endState_next, endState_ite, endState_fault, ite_self, true_or, or_true, and_self,
      forget_startMove, h6, h15]
    | split)

theorem forget_flashCopy (ks : List Nat) (h16 : 16 ∈ ks) (h17 : 17 ∈ ks)
    (s : State) (p : Page) :
    forget ks (flashCopy s p) = forget ks s := by
  unfold flashCopy
  repeat' (first
    | with_reducible rfl
    | simp only [forget_ite, ite_self, true_or, or_true, and_self, forget_setOutputs, forget_setSecuring, h16, h17]
    | split)

theorem forget_countMove (ks : List Nat) (h19 : 19 ∈ ks)
    (s : State) (p : Page) (t : Tier) :
    forget ks (countMove s p t) = forget ks s := by
  unfold countMove
  repeat' (first
    | with_reducible rfl
    | simp only [forget_ite, ite_self, true_or, or_true, and_self, forget_countTier, h19]
    | split)

theorem forget_landPage (ks : List Nat) (h6 : 6 ∈ ks) (h15 : 15 ∈ ks) (h16 : 16 ∈ ks) (h17 : 17 ∈ ks) (h19 : 19 ∈ ks)
    (s : State) (p : Page) (t : Tier) :
    forget ks (landPage s p t) = forget ks s := by
  unfold landPage
  repeat' (first
    | with_reducible rfl
    | simp only [forget_ite, ite_self, true_or, or_true, and_self, forget_countMove, forget_flashCopy,
      forget_setPage, forget_writeFlash, h6, h15, h16, h17, h19]
    | split)

theorem forget_poisonHanks (ks : List Nat) (h16 : 16 ∈ ks)
    (s : State) (v : Version) (row : Nat) :
    forget ks (poisonHanks s v row) = forget ks s := by
  unfold poisonHanks
  repeat' (first
    | with_reducible rfl
    | simp only [forget_ite, ite_self, true_or, or_true, and_self, forget_setSecuring, h16]
    | split)

theorem forget_poisonRow (ks : List Nat) (h3 : 3 ∈ ks) (h6 : 6 ∈ ks) (h16 : 16 ∈ ks) (h17 : 17 ∈ ks) (h19 : 19 ∈ ks) (h20 : 20 ∈ ks)
    (s : State) (v : Version) (tier : Tier) (cause : Option (Nat × Word32)) (row : Nat) :
    forget ks (poisonRow s v tier cause row) = forget ks s := by
  unfold poisonRow
  repeat' (first
    | with_reducible rfl
    | simp only [forget_ite, ite_self, true_or, or_true, and_self, forget_poisonHanks, forget_postEventFor,
      forget_setOutputs, forget_setTelemetry, forget_setVersion, h3, h6, h16, h17, h19, h20]
    | split)

theorem forget_poisonRows (ks : List Nat) (h3 : 3 ∈ ks) (h6 : 6 ∈ ks) (h16 : 16 ∈ ks) (h17 : 17 ∈ ks) (h19 : 19 ∈ ks) (h20 : 20 ∈ ks)
    (s : State) (p : Page) (cause : Option (Nat × Word32)) (rows : List Nat) :
    forget ks (poisonRows s p cause rows) = forget ks s := by
  unfold poisonRows
  repeat' (first
    | with_reducible rfl
    | simp only [forget_ite, ite_self, true_or, or_true, and_self, forget_poisonRow, h3, h6, h16, h17, h19, h20]
    | split
    | (refine (forget_foldl ks _ ?_ _ _).trans ?_; intros))

theorem forget_loseSelf (ks : List Nat) (h3 : 3 ∈ ks) (h5 : 5 ∈ ks) (h16 : 16 ∈ ks) (h20 : 20 ∈ ks)
    (s : State) (reason : Nat) :
    forget ks (loseSelf s reason) = forget ks s := by
  unfold loseSelf
  repeat' (first
    | with_reducible rfl
    | simp only [forget_ite, ite_self, true_or, or_true, and_self, forget_memberLost, forget_setSteps, h3, h5, h16,
      h20]
    | split)

theorem forget_badLine (ks : List Nat) (h3 : 3 ∈ ks) (h6 : 6 ∈ ks) (h15 : 15 ∈ ks) (h16 : 16 ∈ ks) (h17 : 17 ∈ ks) (h19 : 19 ∈ ks) (h20 : 20 ∈ ks)
    (s : State) (p : Page) (cause : Option (Nat × Word32)) (rows : List Nat) :
    forget ks (badLine s p cause rows) = forget ks s := by
  unfold badLine
  repeat' (first
    | with_reducible rfl
    | simp only [forget_ite, ite_self, true_or, or_true, and_self, forget_poisonRows, forget_setPage,
      forget_setTelemetry, forget_wakeChannels, h3, h6, h15, h16, h17, h19, h20]
    | split)

theorem forget_execBackgroundScrub (ks : List Nat) (h3 : 3 ∈ ks) (h5 : 5 ∈ ks) (h6 : 6 ∈ ks) (h15 : 15 ∈ ks) (h16 : 16 ∈ ks) (h17 : 17 ∈ ks) (h19 : 19 ∈ ks) (h20 : 20 ∈ ks)
    (corrected : Nat) (bad : Option PageRef) (line : BadLine) (s : State) :
    forget ks (endState s (execBackgroundScrub corrected bad line s)) = forget ks s := by
  unfold execBackgroundScrub
  repeat' (first
    | with_reducible rfl
    | simp only [forget_ite, endState_next, endState_ite, endState_fault, ite_self, true_or, or_true, and_self,
      forget_badLine, forget_loseSelf, forget_setTelemetry, h3, h5, h6, h15, h16, h17, h19, h20]
    | split)

theorem forget_lostInMove (ks : List Nat) (h3 : 3 ∈ ks) (h6 : 6 ∈ ks) (h15 : 15 ∈ ks) (h16 : 16 ∈ ks) (h17 : 17 ∈ ks) (h19 : 19 ∈ ks) (h20 : 20 ∈ ks)
    (s : State) (p : Page) (t : Tier) (lost : List Nat) :
    forget ks (lostInMove s p t lost) = forget ks s := by
  unfold lostInMove
  repeat' (first
    | with_reducible rfl
    | simp only [forget_ite, ite_self, true_or, or_true, and_self, forget_badLine, forget_poisonRows, h3, h6, h15,
      h16, h17, h19, h20]
    | split)

theorem forget_execPageMoveEnd (ks : List Nat) (h3 : 3 ∈ ks) (h5 : 5 ∈ ks) (h6 : 6 ∈ ks) (h10 : 10 ∈ ks) (h12 : 12 ∈ ks) (h13 : 13 ∈ ks) (h14 : 14 ∈ ks) (h15 : 15 ∈ ks) (h16 : 16 ∈ ks) (h17 : 17 ∈ ks) (h19 : 19 ∈ ks) (h20 : 20 ∈ ks)
    (e : PageEnd) (s : State) :
    forget ks (endState s (execPageMoveEnd e s)) = forget ks s := by
  unfold execPageMoveEnd
  repeat' (first
    | with_reducible rfl
    | simp only [forget_ite, endState_next, endState_ite, endState_fault, ite_self, true_or, or_true, and_self,
      forget_landPage, forget_lostInMove, forget_progress, forget_settleHanks, forget_wantPage, h3, h5,
      h6, h10, h12, h13, h14, h15, h16, h17, h19, h20]
    | split)

theorem forget_execFlashRereadEnd (ks : List Nat) (h3 : 3 ∈ ks) (h5 : 5 ∈ ks) (h6 : 6 ∈ ks) (h10 : 10 ∈ ks) (h12 : 12 ∈ ks) (h13 : 13 ∈ ks) (h14 : 14 ∈ ks) (h15 : 15 ∈ ks) (h16 : 16 ∈ ks) (h17 : 17 ∈ ks) (h19 : 19 ∈ ks) (h20 : 20 ∈ ks)
    (e : PageEnd) (s : State) :
    forget ks (endState s (execFlashRereadEnd e s)) = forget ks s := by
  unfold execFlashRereadEnd
  repeat' (first
    | with_reducible rfl
    | simp only [forget_ite, endState_next, endState_ite, endState_fault, ite_self, true_or, or_true, and_self,
      forget_poisonRows, forget_progress, forget_setPage, h3, h5, h6, h10, h12, h13, h14, h15, h16, h17,
      h19, h20]
    | split)

theorem forget_execFlashReclaim (ks : List Nat) (h6 : 6 ∈ ks) (h15 : 15 ∈ ks) (h19 : 19 ∈ ks) (h21 : 21 ∈ ks)
    (s : State) :
    forget ks (endState s (execFlashReclaim s)) = forget ks s := by
  unfold execFlashReclaim
  repeat' (first
    | with_reducible rfl
    | simp only [forget_ite, endState_next, endState_ite, endState_fault, ite_self, true_or, or_true, and_self,
      forget_bump, forget_drawWear, forget_setTables, forget_wakeChannels, h6, h15, h19, h21]
    | split)

theorem forget_execWearBudgetAccrual (ks : List Nat) (h6 : 6 ∈ ks)
    (s : State) :
    forget ks (endState s (execWearBudgetAccrual s)) = forget ks s := by
  unfold execWearBudgetAccrual
  repeat' (first
    | with_reducible rfl
    | simp only [forget_ite, endState_next, endState_ite, endState_fault, ite_self, true_or, or_true, and_self,
      forget_setTables, h6]
    | split)

theorem forget_losePage (ks : List Nat) (h3 : 3 ∈ ks) (h6 : 6 ∈ ks) (h16 : 16 ∈ ks) (h17 : 17 ∈ ks) (h19 : 19 ∈ ks) (h20 : 20 ∈ ks)
    (port : Nat) (s : State) (p : Page) :
    forget ks (losePage port s p) = forget ks s := by
  unfold losePage
  repeat' (first
    | with_reducible rfl
    | simp only [forget_ite, ite_self, true_or, or_true, and_self, forget_poisonRows, forget_setPage, h3, h6, h16,
      h17, h19, h20]
    | split)

theorem forget_execMemoryPortFailure (ks : List Nat) (h2 : 2 ∈ ks) (h3 : 3 ∈ ks) (h5 : 5 ∈ ks) (h6 : 6 ∈ ks) (h10 : 10 ∈ ks) (h12 : 12 ∈ ks) (h13 : 13 ∈ ks) (h14 : 14 ∈ ks) (h15 : 15 ∈ ks) (h16 : 16 ∈ ks) (h17 : 17 ∈ ks) (h19 : 19 ∈ ks) (h20 : 20 ∈ ks)
    (port : Nat) (s : State) :
    forget ks (endState s (execMemoryPortFailure port s)) = forget ks s := by
  unfold execMemoryPortFailure
  repeat' (first
    | with_reducible rfl
    | simp only [forget_ite, endState_next, endState_ite, endState_fault, ite_self, true_or, or_true, and_self,
      forget_losePage, forget_loseSelf, forget_progress, forget_setRegs, h2, h3, h5, h6, h10, h12, h13,
      h14, h15, h16, h17, h19, h20]
    | split
    | (refine (forget_foldl ks _ ?_ _ _).trans ?_; intros))

theorem forget_execChordModuleFailure (ks : List Nat) (h3 : 3 ∈ ks) (h5 : 5 ∈ ks) (h16 : 16 ∈ ks) (h20 : 20 ∈ ks)
    (chord : Nat) (s : State) :
    forget ks (endState s (execChordModuleFailure chord s)) = forget ks s := by
  unfold execChordModuleFailure
  repeat' (first
    | with_reducible rfl
    | simp only [forget_ite, endState_next, endState_ite, endState_fault, ite_self, true_or, or_true, and_self,
      forget_loseSelf, h3, h5, h16, h20]
    | split)

theorem forget_acceptFrom (ks : List Nat) (h3 : 3 ∈ ks)
    (ring : Nat) (y1 : List (Word32 × Wide)) (y2 : State) :
    forget ks (acceptFrom ring y1 y2) = forget ks y2 := by
  induction y1 generalizing y2 with
  | nil => rfl
  | cons x r ih =>
    unfold acceptFrom
    repeat' (first
      | with_reducible rfl
      | simp only [forget_ite, ite_self, true_or, or_true, and_self, forget_setRing, forget_setRings, h3, ih]
      | split)

theorem forget_acceptAll (ks : List Nat) (h3 : 3 ∈ ks)
    (s : State) :
    forget ks (acceptAll s) = forget ks s := by
  unfold acceptAll
  repeat' (first
    | with_reducible rfl
    | simp only [forget_ite, ite_self, true_or, or_true, and_self, forget_acceptFrom, h3]
    | split
    | (refine (forget_foldl ks _ ?_ _ _).trans ?_; intros))

theorem forget_readProducer (ks : List Nat) (h3 : 3 ∈ ks)
    (s : State) (ring : Nat) (producer : Word32) (descs : List Wide) :
    forget ks (readProducer s ring producer descs) = forget ks s := by
  unfold readProducer
  repeat' (first
    | with_reducible rfl
    | simp only [forget_ite, ite_self, true_or, or_true, and_self, forget_acceptAll, forget_postDone,
      forget_setRing, h3]
    | split)

theorem forget_storeConsumer (ks : List Nat) (h3 : 3 ∈ ks)
    (s : State) (ring : Nat) (consumer : Word32) :
    forget ks (storeConsumer s ring consumer) = forget ks s := by
  unfold storeConsumer
  repeat' (first
    | with_reducible rfl
    | simp only [forget_ite, ite_self, true_or, or_true, and_self, forget_setRing, h3]
    | split)

theorem forget_resumeAcceptance (ks : List Nat) (h3 : 3 ∈ ks)
    (s : State) (consumer : Word32) :
    forget ks (resumeAcceptance s consumer) = forget ks s := by
  unfold resumeAcceptance
  repeat' (first
    | with_reducible rfl
    | simp only [forget_ite, ite_self, true_or, or_true, and_self, forget_acceptAll, forget_flushDone,
      forget_storeConsumer, h3]
    | split)

theorem forget_resumeEvents (ks : List Nat) (h3 : 3 ∈ ks)
    (s : State) (consumer : Word32) :
    forget ks (resumeEvents s consumer) = forget ks s := by
  unfold resumeEvents
  repeat' (first
    | with_reducible rfl
    | simp only [forget_ite, ite_self, true_or, or_true, and_self, forget_flushEvents, forget_storeConsumer, h3]
    | split)

theorem forget_execDoorbell (ks : List Nat) (h3 : 3 ∈ ks) (h9 : 9 ∈ ks)
    (ring : Nat) (producer : Word32) (descs : List Wide) (stores : List Store) (s : State) :
    forget ks (endState s (execDoorbell ring producer descs stores s)) = forget ks s := by
  unfold execDoorbell
  repeat' (first
    | with_reducible rfl
    | simp only [forget_ite, endState_next, endState_ite, endState_fault, ite_self, true_or, or_true, and_self,
      forget_readProducer, forget_resumeAcceptance, forget_resumeEvents, forget_storeConsumer,
      forget_windowWrite, h3, h9]
    | split
    | (refine (forget_foldl ks _ ?_ _ _).trans ?_; intros))

theorem forget_execCommandAcceptanceResume (ks : List Nat) (h3 : 3 ∈ ks)
    (consumer : Word32) (s : State) :
    forget ks (endState s (execCommandAcceptanceResume consumer s)) = forget ks s := by
  unfold execCommandAcceptanceResume
  repeat' (first
    | with_reducible rfl
    | simp only [forget_ite, endState_next, endState_ite, endState_fault, ite_self, true_or, or_true, and_self,
      forget_resumeAcceptance, h3]
    | split)

theorem forget_execHeldEventPost (ks : List Nat) (h3 : 3 ∈ ks)
    (consumer : Word32) (s : State) :
    forget ks (endState s (execHeldEventPost consumer s)) = forget ks s := by
  unfold execHeldEventPost
  repeat' (first
    | with_reducible rfl
    | simp only [forget_ite, endState_next, endState_ite, endState_fault, ite_self, true_or, or_true, and_self,
      forget_resumeEvents, h3]
    | split)

theorem forget_execUnknownOpcodeDescriptor (ks : List Nat) (h3 : 3 ∈ ks)
    (d : Sub) (s : State) :
    forget ks (endState s (execUnknownOpcodeDescriptor d s)) = forget ks s := by
  unfold execUnknownOpcodeDescriptor
  repeat' (first
    | with_reducible rfl
    | simp only [forget_ite, endState_next, endState_ite, endState_fault, ite_self, true_or, or_true, and_self,
      forget_finishWith, forget_markBegun, h3]
    | split)

theorem forget_execRingEnable (ks : List Nat) (h3 : 3 ∈ ks)
    (ring : Nat) (value : Word) (producer : Word32) (consumer : Word32) (descs : List Wide) (s : State) :
    forget ks (endState s (execRingEnable ring value producer consumer descs s)) = forget ks s := by
  unfold execRingEnable
  repeat' (first
    | with_reducible rfl
    | simp only [forget_ite, endState_next, endState_ite, endState_fault, ite_self, true_or, or_true, and_self,
      forget_acceptAll, forget_flushDone, forget_flushEvents, forget_readProducer, forget_setRing, h3]
    | split)

theorem forget_execRingDisable (ks : List Nat) (h3 : 3 ∈ ks)
    (ring : Nat) (s : State) :
    forget ks (endState s (execRingDisable ring s)) = forget ks s := by
  unfold execRingDisable
  repeat' (first
    | with_reducible rfl
    | simp only [forget_ite, endState_next, endState_ite, endState_fault, ite_self, true_or, or_true, and_self,
      forget_setRing, h3]
    | split)

theorem forget_execRingRearm (ks : List Nat) (h3 : 3 ∈ ks)
    (ring : Nat) (producer : Word32) (descs : List Wide) (s : State) :
    forget ks (endState s (execRingRearm ring producer descs s)) = forget ks s := by
  unfold execRingRearm
  repeat' (first
    | with_reducible rfl
    | simp only [forget_ite, endState_next, endState_ite, endState_fault, ite_self, true_or, or_true, and_self,
      forget_readProducer, forget_setRing, h3]
    | split)

theorem forget_shareGrant (ks : List Nat) (h15 : 15 ∈ ks)
    (s : State) (power : Nat) :
    forget ks (shareGrant s power) = forget ks s := by
  unfold shareGrant
  repeat' (first
    | with_reducible rfl
    | simp only [forget_ite, ite_self, true_or, or_true, and_self, forget_setPower, h15]
    | split)

theorem forget_chargeDie (ks : List Nat) (h11 : 11 ∈ ks) (h15 : 15 ∈ ks)
    (s : State) (die : Nat) (metered : Nat) (idle : Nat) :
    forget ks (chargeDie s die metered idle) = forget ks s := by
  unfold chargeDie
  repeat' (first
    | with_reducible rfl
    | simp only [forget_ite, ite_self, true_or, or_true, and_self, forget_addBalance, forget_setSpindles, h11, h15]
    | split)

theorem forget_countEnergy (ks : List Nat) (h2 : 2 ∈ ks)
    (s : State) (drawn : Nat) :
    forget ks (countEnergy s drawn) = forget ks s := by
  unfold countEnergy
  repeat' (first
    | with_reducible rfl
    | simp only [forget_ite, ite_self, true_or, or_true, and_self, forget_setRegs, h2]
    | split)

theorem forget_meterRound (ks : List Nat) (h2 : 2 ∈ ks) (h11 : 11 ∈ ks) (h15 : 15 ∈ ks) (h19 : 19 ∈ ks)
    (s : State) (r : RoundReadings) :
    forget ks (meterRound s r) = forget ks s := by
  unfold meterRound
  repeat' (first
    | with_reducible rfl
    | simp only [forget_ite, ite_self, true_or, or_true, and_self, forget_chargeDie, forget_countEnergy,
      forget_setTelemetry, h2, h11, h15, h19]
    | split
    | (refine (forget_foldl ks _ ?_ _ _).trans ?_; intros))

theorem forget_floorLevels (ks : List Nat) (h15 : 15 ∈ ks)
    (s : State) :
    forget ks (floorLevels s) = forget ks s := by
  unfold floorLevels
  repeat' (first
    | with_reducible rfl
    | simp only [forget_ite, ite_self, true_or, or_true, and_self, forget_setPower, h15]
    | split)

theorem forget_setLevels (ks : List Nat) (h15 : 15 ∈ ks)
    (s : State) :
    forget ks (setLevels s) = forget ks s := by
  unfold setLevels
  repeat' (first
    | with_reducible rfl
    | simp only [forget_ite, ite_self, true_or, or_true, and_self, forget_setPower, h15]
    | split)

theorem forget_postThrottles (ks : List Nat) (h3 : 3 ∈ ks) (h16 : 16 ∈ ks) (h20 : 20 ∈ ks)
    (s : State) (before : List Nat) (levels : List Nat) :
    forget ks (postThrottles s before levels) = forget ks s := by
  unfold postThrottles
  repeat' (first
    | with_reducible rfl
    | simp only [forget_ite, ite_self, true_or, or_true, and_self, forget_postEvent, h3, h16, h20]
    | split
    | (refine (forget_foldl ks _ ?_ _ _).trans ?_; intros))

theorem forget_tripPower (ks : List Nat) (h1 : 1 ∈ ks) (h18 : 18 ∈ ks) (h23 : 23 ∈ ks)
    (s : State) :
    forget ks (tripPower s) = forget ks s := by
  unfold tripPower
  refine (forget_setSecurity ks h18 _ _ ?_ (.inl h23)).trans (forget_setSupply ks h1 _ _)
  exact .inr rfl

theorem forget_takeReadings (ks : List Nat) (h2 : 2 ∈ ks) (h11 : 11 ∈ ks) (h15 : 15 ∈ ks) (h19 : 19 ∈ ks)
    (s : State) (readings : RoundReadings) :
    forget ks (takeReadings s readings) = forget ks s := by
  unfold takeReadings
  repeat' (first
    | with_reducible rfl
    | simp only [forget_ite, ite_self, true_or, or_true, and_self, forget_meterRound, forget_setPower, h2, h11, h15,
      h19]
    | split)

theorem forget_actOnRound (ks : List Nat) (h3 : 3 ∈ ks) (h15 : 15 ∈ ks) (h16 : 16 ∈ ks) (h20 : 20 ∈ ks)
    (s : State) (powerMilliwatt : Nat) (before : List Nat) (levels : List Nat) :
    forget ks (actOnRound s powerMilliwatt before levels) = forget ks s := by
  unfold actOnRound
  repeat' (first
    | with_reducible rfl
    | simp only [forget_ite, ite_self, true_or, or_true, and_self, forget_floorLevels, forget_postThrottles,
      forget_setLevels, forget_shareGrant, h3, h15, h16, h20]
    | split)

theorem forget_execGrantRound (ks : List Nat) (h1 : 1 ∈ ks) (h2 : 2 ∈ ks) (h3 : 3 ∈ ks) (h11 : 11 ∈ ks) (h15 : 15 ∈ ks) (h16 : 16 ∈ ks) (h18 : 18 ∈ ks) (h19 : 19 ∈ ks) (h20 : 20 ∈ ks) (h23 : 23 ∈ ks)
    (readings : RoundReadings) (s : State) :
    forget ks (endState s (execGrantRound readings s)) = forget ks s := by
  unfold execGrantRound
  repeat' (first
    | with_reducible rfl
    | simp only [forget_ite, endState_next, endState_ite, endState_fault, ite_self, true_or, or_true, and_self,
      forget_actOnRound, forget_countEnergy, forget_takeReadings, forget_tripPower, h1, h2, h3, h11, h15,
      h16, h18, h19, h20, h23]
    | split)

theorem forget_enterBrake (ks : List Nat) (h3 : 3 ∈ ks) (h15 : 15 ∈ ks) (h16 : 16 ∈ ks) (h20 : 20 ∈ ks)
    (s : State) :
    forget ks (enterBrake s) = forget ks s := by
  unfold enterBrake
  repeat' (first
    | with_reducible rfl
    | simp only [forget_ite, ite_self, true_or, or_true, and_self, forget_floorLevels, forget_postEvent,
      forget_setPower, h3, h15, h16, h20]
    | split)

theorem forget_execBrakeEntered (ks : List Nat) (h1 : 1 ∈ ks) (h3 : 3 ∈ ks) (h15 : 15 ∈ ks) (h16 : 16 ∈ ks) (h20 : 20 ∈ ks) (h21 : 21 ∈ ks)
    (nanoseconds : Nat) (s : State) :
    forget ks (endState s (execBrakeEntered nanoseconds s)) = forget ks s := by
  unfold execBrakeEntered
  repeat' (first
    | with_reducible rfl
    | simp only [forget_ite, endState_next, endState_ite, endState_fault, ite_self, true_or, or_true, and_self,
      forget_bump, forget_enterBrake, forget_setPower, forget_setSupply, h1, h3, h15, h16, h20, h21]
    | split)

theorem forget_execPwrBrakeNDeasserted (ks : List Nat) (h1 : 1 ∈ ks) (h15 : 15 ∈ ks)
    (s : State) :
    forget ks (endState s (execPwrBrakeNDeasserted s)) = forget ks s := by
  unfold execPwrBrakeNDeasserted
  repeat' (first
    | with_reducible rfl
    | simp only [forget_ite, endState_next, endState_ite, endState_fault, ite_self, true_or, or_true, and_self,
      forget_setPower, forget_setSupply, h1, h15]
    | split)

theorem forget_execBrakeEnd (ks : List Nat) (h3 : 3 ∈ ks) (h15 : 15 ∈ ks)
    (s : State) :
    forget ks (endState s (execBrakeEnd s)) = forget ks s := by
  unfold execBrakeEnd
  repeat' (first
    | with_reducible rfl
    | simp only [forget_ite, endState_next, endState_ite, endState_fault, ite_self, true_or, or_true, and_self,
      forget_setPower, forget_setRings, h3, h15]
    | split)

theorem forget_setUnit (ks : List Nat) (h15 : 15 ∈ ks)
    (s : State) (u : Nat) (x : PowerUnit) :
    forget ks (setUnit s u x) = forget ks s := by
  unfold setUnit
  repeat' (first
    | with_reducible rfl
    | simp only [forget_ite, ite_self, true_or, or_true, and_self, forget_setPower, h15]
    | split)

theorem forget_wakeUnit (ks : List Nat) (h14 : 14 ∈ ks) (h15 : 15 ∈ ks)
    (s : State) (u : Nat) :
    forget ks (wakeUnit s u) = forget ks s := by
  unfold wakeUnit
  repeat' (first
    | with_reducible rfl
    | simp only [forget_ite, ite_self, true_or, or_true, and_self, forget_setUnit, forget_startTraining, h14, h15]
    | split)

theorem forget_drainUnit (ks : List Nat) (h15 : 15 ∈ ks)
    (s : State) (u : Nat) :
    forget ks (drainUnit s u) = forget ks s := by
  unfold drainUnit
  repeat' (first
    | with_reducible rfl
    | simp only [forget_ite, ite_self, true_or, or_true, and_self, forget_setPower, forget_setUnit, h15]
    | split)

theorem forget_answerUnit (ks : List Nat) (h2 : 2 ∈ ks)
    (s : State) (code : Nat) :
    forget ks (answerUnit s code) = forget ks s := by
  unfold answerUnit
  repeat' (first
    | with_reducible rfl
    | simp only [forget_ite, ite_self, true_or, or_true, and_self, forget_setRegs, h2]
    | split)

theorem forget_execUnitEnable (ks : List Nat) (h2 : 2 ∈ ks) (h14 : 14 ∈ ks) (h15 : 15 ∈ ks)
    (unit : Nat) (s : State) :
    forget ks (endState s (execUnitEnable unit s)) = forget ks s := by
  unfold execUnitEnable
  repeat' (first
    | with_reducible rfl
    | simp only [forget_ite, endState_next, endState_ite, endState_fault, ite_self, true_or, or_true, and_self,
      forget_answerUnit, forget_setUnit, forget_startTraining, forget_wakeUnit, h2, h14, h15]
    | split)

theorem forget_execUnitDisable (ks : List Nat) (h2 : 2 ∈ ks) (h15 : 15 ∈ ks)
    (unit : Nat) (s : State) :
    forget ks (endState s (execUnitDisable unit s)) = forget ks s := by
  unfold execUnitDisable
  repeat' (first
    | with_reducible rfl
    | simp only [forget_ite, endState_next, endState_ite, endState_fault, ite_self, true_or, or_true, and_self,
      forget_answerUnit, forget_drainUnit, forget_setUnit, h2, h15]
    | split)

theorem forget_execDiePark (ks : List Nat) (h15 : 15 ∈ ks)
    (die : Nat) (s : State) :
    forget ks (endState s (execDiePark die s)) = forget ks s := by
  unfold execDiePark
  repeat' (first
    | with_reducible rfl
    | simp only [forget_ite, endState_next, endState_ite, endState_fault, ite_self, true_or, or_true, and_self,
      forget_drainUnit, h15]
    | split)

theorem forget_execNandChannelIdle (ks : List Nat) (h15 : 15 ∈ ks)
    (channel : Nat) (s : State) :
    forget ks (endState s (execNandChannelIdle channel s)) = forget ks s := by
  unfold execNandChannelIdle
  repeat' (first
    | with_reducible rfl
    | simp only [forget_ite, endState_next, endState_ite, endState_fault, ite_self, true_or, or_true, and_self,
      forget_drainUnit, h15]
    | split)

theorem forget_switchOff (ks : List Nat) (h2 : 2 ∈ ks) (h14 : 14 ∈ ks) (h15 : 15 ∈ ks)
    (s : State) (u : Nat) :
    forget ks (switchOff s u) = forget ks s := by
  unfold switchOff
  repeat' (first
    | with_reducible rfl
    | simp only [forget_ite, ite_self, true_or, or_true, and_self, forget_setPort, forget_setRegs, forget_setUnit,
      forget_startTraining, h2, h14, h15]
    | split)

theorem forget_execUnitDrainEnd (ks : List Nat) (h2 : 2 ∈ ks) (h14 : 14 ∈ ks) (h15 : 15 ∈ ks)
    (unit : Nat) (s : State) :
    forget ks (endState s (execUnitDrainEnd unit s)) = forget ks s := by
  unfold execUnitDrainEnd
  repeat' (first
    | with_reducible rfl
    | simp only [forget_ite, endState_next, endState_ite, endState_fault, ite_self, true_or, or_true, and_self,
      forget_switchOff, forget_wakeUnit, h2, h14, h15]
    | split)

theorem forget_execUnitWakeEnd (ks : List Nat) (h2 : 2 ∈ ks) (h14 : 14 ∈ ks) (h15 : 15 ∈ ks)
    (unit : Nat) (expander : Option Expander) (s : State) :
    forget ks (endState s (execUnitWakeEnd unit expander s)) = forget ks s := by
  unfold execUnitWakeEnd
  repeat' (first
    | with_reducible rfl
    | simp only [forget_ite, endState_next, endState_ite, endState_fault, ite_self, true_or, or_true, and_self,
      forget_drainUnit, forget_pump, forget_setPower, forget_setRegs, forget_setUnit, h2, h14, h15]
    | split)

theorem forget_writeJob (ks : List Nat) (h2 : 2 ∈ ks) (h25 : 25 ∈ ks)
    (s : State) (reg : Nat) (value : Nat) :
    forget ks (writeJob s reg value) = forget ks s := by
  unfold writeJob
  repeat' (first
    | with_reducible rfl
    | simp only [forget_ite, ite_self, true_or, or_true, and_self, forget_setRegs, h2, h25]
    | split)

theorem forget_writeRing (ks : List Nat) (h3 : 3 ∈ ks)
    (s : State) (reg : Nat) (value : Nat) :
    forget ks (writeRing s reg value) = forget ks s := by
  unfold writeRing
  repeat' (first
    | with_reducible rfl
    | simp only [forget_ite, ite_self, true_or, or_true, and_self, forget_setRing, h3]
    | split)

theorem forget_execRegisterWrite (ks : List Nat) (h2 : 2 ∈ ks) (h3 : 3 ∈ ks) (h25 : 25 ∈ ks)
    (offset : Nat) (wide : Bool) (value : Word) (s : State) :
    forget ks (endState s (execRegisterWrite offset wide value s)) = forget ks s := by
  unfold execRegisterWrite
  repeat' (first
    | with_reducible rfl
    | simp only [forget_ite, endState_next, endState_ite, endState_fault, ite_self, true_or, or_true, and_self,
      forget_writeJob, forget_writeRing, h2, h3, h25]
    | split)

theorem forget_execJobCommit (ks : List Nat) (h2 : 2 ∈ ks) (h25 : 25 ∈ ks)
    (list : List Nat) (s : State) :
    forget ks (endState s (execJobCommit list s)) = forget ks s := by
  unfold execJobCommit
  repeat' (first
    | with_reducible rfl
    | simp only [forget_ite, endState_next, endState_ite, endState_fault, ite_self, true_or, or_true, and_self,
      forget_setRegs, h2, h25]
    | split)

theorem forget_execEnergyCountLowRead (ks : List Nat) (h2 : 2 ∈ ks)
    (s : State) :
    forget ks (endState s (execEnergyCountLowRead s)) = forget ks s := by
  unfold execEnergyCountLowRead
  repeat' (first
    | with_reducible rfl
    | simp only [forget_ite, endState_next, endState_ite, endState_fault, ite_self, true_or, or_true, and_self,
      forget_setRegs, h2]
    | split)

theorem forget_clearedState (ks : List Nat) (h1 : 1 ∈ ks) (h2 : 2 ∈ ks) (h3 : 3 ∈ ks) (h4 : 4 ∈ ks) (h5 : 5 ∈ ks) (h6 : 6 ∈ ks) (h7 : 7 ∈ ks) (h8 : 8 ∈ ks) (h9 : 9 ∈ ks) (h10 : 10 ∈ ks) (h11 : 11 ∈ ks) (h12 : 12 ∈ ks) (h13 : 13 ∈ ks) (h14 : 14 ∈ ks) (h15 : 15 ∈ ks) (h16 : 16 ∈ ks) (h17 : 17 ∈ ks) (h18 : 18 ∈ ks) (h19 : 19 ∈ ks) (h20 : 20 ∈ ks) (h23 : 23 ∈ ks) (h24 : 24 ∈ ks) (h25 : 25 ∈ ks) (h26 : 26 ∈ ks) (h27 : 27 ∈ ks) (h28 : 28 ∈ ks) (h29 : 29 ∈ ks)
    (s : State) (energy : Word) :
    forget ks (clearedState s energy) = forget ks s := by
  simp only [forget, clearedState, forgetRegs, forgetDense, forgetSecurity, forgetSteps, forgetSpindles, keptSecurity, h1, h2, h3, h4, h5, h6, h7, h8, h9, h10, h11, h12, h13, h14, h15, h16, h17, h18, h19, h20, h23, h24, h25, h26, h27, h28, h29, if_true]

theorem forget_startSequence (ks : List Nat) (h3 : 3 ∈ ks) (h15 : 15 ∈ ks) (h16 : 16 ∈ ks) (h20 : 20 ∈ ks)
    (s : State) :
    forget ks (startSequence s) = forget ks s := by
  unfold startSequence
  repeat' (first
    | with_reducible rfl
    | simp only [forget_ite, ite_self, true_or, or_true, and_self, forget_enterBrake, h3, h15, h16, h20]
    | split)

theorem forget_resetBy (ks : List Nat) (h1 : 1 ∈ ks) (h2 : 2 ∈ ks) (h3 : 3 ∈ ks) (h4 : 4 ∈ ks) (h5 : 5 ∈ ks) (h6 : 6 ∈ ks) (h7 : 7 ∈ ks) (h8 : 8 ∈ ks) (h9 : 9 ∈ ks) (h10 : 10 ∈ ks) (h11 : 11 ∈ ks) (h12 : 12 ∈ ks) (h13 : 13 ∈ ks) (h14 : 14 ∈ ks) (h15 : 15 ∈ ks) (h16 : 16 ∈ ks) (h17 : 17 ∈ ks) (h18 : 18 ∈ ks) (h19 : 19 ∈ ks) (h20 : 20 ∈ ks) (h23 : 23 ∈ ks) (h24 : 24 ∈ ks) (h25 : 25 ∈ ks) (h26 : 26 ∈ ks) (h27 : 27 ∈ ks) (h28 : 28 ∈ ks) (h29 : 29 ∈ ks)
    (s : State) (code : Nat) (lasting : Bool) :
    forget ks (resetBy s code lasting) = forget ks s := by
  unfold resetBy
  repeat' (first
    | with_reducible rfl
    | simp only [forget_ite, ite_self, true_or, or_true, and_self, forget_clearedState, forget_setSupply,
      forget_startSequence, h1, h2, h3, h4, h5, h6, h7, h8, h9, h10, h11, h12, h13, h14, h15, h16, h17,
      h18, h19, h20, h23, h24, h25, h26, h27, h28, h29]
    | split)

theorem forget_powerOn (ks : List Nat) (h1 : 1 ∈ ks) (h2 : 2 ∈ ks) (h3 : 3 ∈ ks) (h4 : 4 ∈ ks) (h5 : 5 ∈ ks) (h6 : 6 ∈ ks) (h7 : 7 ∈ ks) (h8 : 8 ∈ ks) (h9 : 9 ∈ ks) (h10 : 10 ∈ ks) (h11 : 11 ∈ ks) (h12 : 12 ∈ ks) (h13 : 13 ∈ ks) (h14 : 14 ∈ ks) (h15 : 15 ∈ ks) (h16 : 16 ∈ ks) (h17 : 17 ∈ ks) (h18 : 18 ∈ ks) (h19 : 19 ∈ ks) (h20 : 20 ∈ ks) (h23 : 23 ∈ ks) (h24 : 24 ∈ ks) (h25 : 25 ∈ ks) (h26 : 26 ∈ ks) (h27 : 27 ∈ ks) (h28 : 28 ∈ ks) (h29 : 29 ∈ ks)
    (s : State) :
    forget ks (powerOn s) = forget ks s := by
  unfold powerOn
  repeat' (first
    | with_reducible rfl
    | simp only [forget_ite, ite_self, true_or, or_true, and_self, forget_clearedState, forget_setSupply, h1, h2,
      h3, h4, h5, h6, h7, h8, h9, h10, h11, h12, h13, h14, h15, h16, h17, h18, h19, h20, h23, h24, h25,
      h26, h27, h28, h29]
    | split)

theorem forget_closeSwitch (ks : List Nat) (h1 : 1 ∈ ks) (h2 : 2 ∈ ks) (h3 : 3 ∈ ks) (h4 : 4 ∈ ks) (h5 : 5 ∈ ks) (h6 : 6 ∈ ks) (h7 : 7 ∈ ks) (h8 : 8 ∈ ks) (h9 : 9 ∈ ks) (h10 : 10 ∈ ks) (h11 : 11 ∈ ks) (h12 : 12 ∈ ks) (h13 : 13 ∈ ks) (h14 : 14 ∈ ks) (h15 : 15 ∈ ks) (h16 : 16 ∈ ks) (h17 : 17 ∈ ks) (h18 : 18 ∈ ks) (h19 : 19 ∈ ks) (h20 : 20 ∈ ks) (h23 : 23 ∈ ks) (h24 : 24 ∈ ks) (h25 : 25 ∈ ks) (h26 : 26 ∈ ks) (h27 : 27 ∈ ks) (h28 : 28 ∈ ks) (h29 : 29 ∈ ks)
    (s : State) :
    forget ks (closeSwitch s) = forget ks s := by
  unfold closeSwitch
  repeat' (first
    | with_reducible rfl
    | simp only [forget_ite, ite_self, true_or, or_true, and_self, forget_powerOn, forget_setSupply,
      forget_startSequence, h1, h2, h3, h4, h5, h6, h7, h8, h9, h10, h11, h12, h13, h14, h15, h16, h17,
      h18, h19, h20, h23, h24, h25, h26, h27, h28, h29]
    | split)

theorem forget_openSwitch (ks : List Nat) (h1 : 1 ∈ ks)
    (s : State) (c : OpenCause) :
    forget ks (openSwitch s c) = forget ks s := by
  unfold openSwitch
  repeat' (first
    | with_reducible rfl
    | simp only [forget_ite, ite_self, true_or, or_true, and_self, forget_setSupply, h1]
    | split)

theorem forget_execInputSwitchClose (ks : List Nat) (h1 : 1 ∈ ks) (h2 : 2 ∈ ks) (h3 : 3 ∈ ks) (h4 : 4 ∈ ks) (h5 : 5 ∈ ks) (h6 : 6 ∈ ks) (h7 : 7 ∈ ks) (h8 : 8 ∈ ks) (h9 : 9 ∈ ks) (h10 : 10 ∈ ks) (h11 : 11 ∈ ks) (h12 : 12 ∈ ks) (h13 : 13 ∈ ks) (h14 : 14 ∈ ks) (h15 : 15 ∈ ks) (h16 : 16 ∈ ks) (h17 : 17 ∈ ks) (h18 : 18 ∈ ks) (h19 : 19 ∈ ks) (h20 : 20 ∈ ks) (h23 : 23 ∈ ks) (h24 : 24 ∈ ks) (h25 : 25 ∈ ks) (h26 : 26 ∈ ks) (h27 : 27 ∈ ks) (h28 : 28 ∈ ks) (h29 : 29 ∈ ks)
    (s : State) :
    forget ks (endState s (execInputSwitchClose s)) = forget ks s := by
  unfold execInputSwitchClose
  repeat' (first
    | with_reducible rfl
    | simp only [forget_ite, endState_next, endState_ite, endState_fault, ite_self, true_or, or_true, and_self,
      forget_closeSwitch, forget_setSupply, h1, h2, h3, h4, h5, h6, h7, h8, h9, h10, h11, h12, h13, h14,
      h15, h16, h17, h18, h19, h20, h23, h24, h25, h26, h27, h28, h29]
    | split)

theorem forget_execInputOvervoltage (ks : List Nat) (h1 : 1 ∈ ks)
    (s : State) :
    forget ks (endState s (execInputOvervoltage s)) = forget ks s := by
  unfold execInputOvervoltage
  repeat' (first
    | with_reducible rfl
    | simp only [forget_ite, endState_next, endState_ite, endState_fault, ite_self, true_or, or_true, and_self,
      forget_openSwitch, h1]
    | split)

theorem forget_execOvervoltageReclose (ks : List Nat) (h1 : 1 ∈ ks) (h2 : 2 ∈ ks) (h3 : 3 ∈ ks) (h4 : 4 ∈ ks) (h5 : 5 ∈ ks) (h6 : 6 ∈ ks) (h7 : 7 ∈ ks) (h8 : 8 ∈ ks) (h9 : 9 ∈ ks) (h10 : 10 ∈ ks) (h11 : 11 ∈ ks) (h12 : 12 ∈ ks) (h13 : 13 ∈ ks) (h14 : 14 ∈ ks) (h15 : 15 ∈ ks) (h16 : 16 ∈ ks) (h17 : 17 ∈ ks) (h18 : 18 ∈ ks) (h19 : 19 ∈ ks) (h20 : 20 ∈ ks) (h23 : 23 ∈ ks) (h24 : 24 ∈ ks) (h25 : 25 ∈ ks) (h26 : 26 ∈ ks) (h27 : 27 ∈ ks) (h28 : 28 ∈ ks) (h29 : 29 ∈ ks)
    (s : State) :
    forget ks (endState s (execOvervoltageReclose s)) = forget ks s := by
  unfold execOvervoltageReclose
  repeat' (first
    | with_reducible rfl
    | simp only [forget_ite, endState_next, endState_ite, endState_fault, ite_self, true_or, or_true, and_self,
      forget_closeSwitch, h1, h2, h3, h4, h5, h6, h7, h8, h9, h10, h11, h12, h13, h14, h15, h16, h17,
      h18, h19, h20, h23, h24, h25, h26, h27, h28, h29]
    | split)

theorem forget_execInputOvercurrent (ks : List Nat) (h1 : 1 ∈ ks)
    (s : State) :
    forget ks (endState s (execInputOvercurrent s)) = forget ks s := by
  unfold execInputOvercurrent
  repeat' (first
    | with_reducible rfl
    | simp only [forget_ite, endState_next, endState_ite, endState_fault, ite_self, true_or, or_true, and_self,
      forget_openSwitch, h1]
    | split)

theorem forget_execOvercurrentRetry (ks : List Nat) (h1 : 1 ∈ ks) (h2 : 2 ∈ ks) (h3 : 3 ∈ ks) (h4 : 4 ∈ ks) (h5 : 5 ∈ ks) (h6 : 6 ∈ ks) (h7 : 7 ∈ ks) (h8 : 8 ∈ ks) (h9 : 9 ∈ ks) (h10 : 10 ∈ ks) (h11 : 11 ∈ ks) (h12 : 12 ∈ ks) (h13 : 13 ∈ ks) (h14 : 14 ∈ ks) (h15 : 15 ∈ ks) (h16 : 16 ∈ ks) (h17 : 17 ∈ ks) (h18 : 18 ∈ ks) (h19 : 19 ∈ ks) (h20 : 20 ∈ ks) (h23 : 23 ∈ ks) (h24 : 24 ∈ ks) (h25 : 25 ∈ ks) (h26 : 26 ∈ ks) (h27 : 27 ∈ ks) (h28 : 28 ∈ ks) (h29 : 29 ∈ ks)
    (s : State) :
    forget ks (endState s (execOvercurrentRetry s)) = forget ks s := by
  unfold execOvercurrentRetry
  repeat' (first
    | with_reducible rfl
    | simp only [forget_ite, endState_next, endState_ite, endState_fault, ite_self, true_or, or_true, and_self,
      forget_closeSwitch, h1, h2, h3, h4, h5, h6, h7, h8, h9, h10, h11, h12, h13, h14, h15, h16, h17,
      h18, h19, h20, h23, h24, h25, h26, h27, h28, h29]
    | split)

theorem forget_execMateSenseReleased (ks : List Nat) (h1 : 1 ∈ ks)
    (s : State) :
    forget ks (endState s (execMateSenseReleased s)) = forget ks s := by
  unfold execMateSenseReleased
  repeat' (first
    | with_reducible rfl
    | simp only [forget_ite, endState_next, endState_ite, endState_fault, ite_self, true_or, or_true, and_self,
      forget_openSwitch, forget_setSupply, h1]
    | split)

theorem forget_execLossOfInput (ks : List Nat) (h1 : 1 ∈ ks)
    (s : State) :
    forget ks (endState s (execLossOfInput s)) = forget ks s := by
  unfold execLossOfInput
  repeat' (first
    | with_reducible rfl
    | simp only [forget_ite, endState_next, endState_ite, endState_fault, ite_self, true_or, or_true, and_self,
      forget_openSwitch, forget_setSupply, h1]
    | split)

theorem forget_execThermTripClear (ks : List Nat) (h1 : 1 ∈ ks)
    (s : State) :
    forget ks (endState s (execThermTripClear s)) = forget ks s := by
  unfold execThermTripClear
  repeat' (first
    | with_reducible rfl
    | simp only [forget_ite, endState_next, endState_ite, endState_fault, ite_self, true_or, or_true, and_self,
      forget_openSwitch, forget_setSupply, h1]
    | split)

theorem forget_execPowerOnReset (ks : List Nat) (h1 : 1 ∈ ks) (h2 : 2 ∈ ks) (h3 : 3 ∈ ks) (h4 : 4 ∈ ks) (h5 : 5 ∈ ks) (h6 : 6 ∈ ks) (h7 : 7 ∈ ks) (h8 : 8 ∈ ks) (h9 : 9 ∈ ks) (h10 : 10 ∈ ks) (h11 : 11 ∈ ks) (h12 : 12 ∈ ks) (h13 : 13 ∈ ks) (h14 : 14 ∈ ks) (h15 : 15 ∈ ks) (h16 : 16 ∈ ks) (h17 : 17 ∈ ks) (h18 : 18 ∈ ks) (h19 : 19 ∈ ks) (h20 : 20 ∈ ks) (h23 : 23 ∈ ks) (h24 : 24 ∈ ks) (h25 : 25 ∈ ks) (h26 : 26 ∈ ks) (h27 : 27 ∈ ks) (h28 : 28 ∈ ks) (h29 : 29 ∈ ks)
    (s : State) :
    forget ks (endState s (execPowerOnReset s)) = forget ks s := by
  unfold execPowerOnReset
  repeat' (first
    | with_reducible rfl
    | simp only [forget_ite, endState_next, endState_ite, endState_fault, ite_self, true_or, or_true, and_self,
      forget_powerOn, h1, h2, h3, h4, h5, h6, h7, h8, h9, h10, h11, h12, h13, h14, h15, h16, h17, h18,
      h19, h20, h23, h24, h25, h26, h27, h28, h29]
    | split)

theorem forget_execPerstNAsserted (ks : List Nat) (h1 : 1 ∈ ks) (h2 : 2 ∈ ks) (h3 : 3 ∈ ks) (h4 : 4 ∈ ks) (h5 : 5 ∈ ks) (h6 : 6 ∈ ks) (h7 : 7 ∈ ks) (h8 : 8 ∈ ks) (h9 : 9 ∈ ks) (h10 : 10 ∈ ks) (h11 : 11 ∈ ks) (h12 : 12 ∈ ks) (h13 : 13 ∈ ks) (h14 : 14 ∈ ks) (h15 : 15 ∈ ks) (h16 : 16 ∈ ks) (h17 : 17 ∈ ks) (h18 : 18 ∈ ks) (h19 : 19 ∈ ks) (h20 : 20 ∈ ks) (h21 : 21 ∈ ks) (h23 : 23 ∈ ks) (h24 : 24 ∈ ks) (h25 : 25 ∈ ks) (h26 : 26 ∈ ks) (h27 : 27 ∈ ks) (h28 : 28 ∈ ks) (h29 : 29 ∈ ks)
    (nanoseconds : Nat) (s : State) :
    forget ks (endState s (execPerstNAsserted nanoseconds s)) = forget ks s := by
  unfold execPerstNAsserted
  repeat' (first
    | with_reducible rfl
    | simp only [forget_ite, endState_next, endState_ite, endState_fault, ite_self, true_or, or_true, and_self,
      forget_bump, forget_resetBy, forget_setSupply, h1, h2, h3, h4, h5, h6, h7, h8, h9, h10, h11, h12,
      h13, h14, h15, h16, h17, h18, h19, h20, h21, h23, h24, h25, h26, h27, h28, h29]
    | split)

theorem forget_execPerstNDeasserted (ks : List Nat) (h1 : 1 ∈ ks) (h3 : 3 ∈ ks) (h15 : 15 ∈ ks) (h16 : 16 ∈ ks) (h20 : 20 ∈ ks)
    (s : State) :
    forget ks (endState s (execPerstNDeasserted s)) = forget ks s := by
  unfold execPerstNDeasserted
  repeat' (first
    | with_reducible rfl
    | simp only [forget_ite, endState_next, endState_ite, endState_fault, ite_self, true_or, or_true, and_self,
      forget_setSupply, forget_startSequence, h1, h3, h15, h16, h20]
    | split)

theorem forget_execLinkReset (ks : List Nat) (h1 : 1 ∈ ks) (h2 : 2 ∈ ks) (h3 : 3 ∈ ks) (h4 : 4 ∈ ks) (h5 : 5 ∈ ks) (h6 : 6 ∈ ks) (h7 : 7 ∈ ks) (h8 : 8 ∈ ks) (h9 : 9 ∈ ks) (h10 : 10 ∈ ks) (h11 : 11 ∈ ks) (h12 : 12 ∈ ks) (h13 : 13 ∈ ks) (h14 : 14 ∈ ks) (h15 : 15 ∈ ks) (h16 : 16 ∈ ks) (h17 : 17 ∈ ks) (h18 : 18 ∈ ks) (h19 : 19 ∈ ks) (h20 : 20 ∈ ks) (h23 : 23 ∈ ks) (h24 : 24 ∈ ks) (h25 : 25 ∈ ks) (h26 : 26 ∈ ks) (h27 : 27 ∈ ks) (h28 : 28 ∈ ks) (h29 : 29 ∈ ks)
    (s : State) :
    forget ks (endState s (execLinkReset s)) = forget ks s := by
  unfold execLinkReset
  repeat' (first
    | with_reducible rfl
    | simp only [forget_ite, endState_next, endState_ite, endState_fault, ite_self, true_or, or_true, and_self,
      forget_resetBy, h1, h2, h3, h4, h5, h6, h7, h8, h9, h10, h11, h12, h13, h14, h15, h16, h17, h18,
      h19, h20, h23, h24, h25, h26, h27, h28, h29]
    | split)

theorem forget_execFunctionLevelReset (ks : List Nat) (h1 : 1 ∈ ks) (h2 : 2 ∈ ks) (h3 : 3 ∈ ks) (h4 : 4 ∈ ks) (h5 : 5 ∈ ks) (h6 : 6 ∈ ks) (h7 : 7 ∈ ks) (h8 : 8 ∈ ks) (h9 : 9 ∈ ks) (h10 : 10 ∈ ks) (h11 : 11 ∈ ks) (h12 : 12 ∈ ks) (h13 : 13 ∈ ks) (h14 : 14 ∈ ks) (h15 : 15 ∈ ks) (h16 : 16 ∈ ks) (h17 : 17 ∈ ks) (h18 : 18 ∈ ks) (h19 : 19 ∈ ks) (h20 : 20 ∈ ks) (h23 : 23 ∈ ks) (h24 : 24 ∈ ks) (h25 : 25 ∈ ks) (h26 : 26 ∈ ks) (h27 : 27 ∈ ks) (h28 : 28 ∈ ks) (h29 : 29 ∈ ks)
    (s : State) :
    forget ks (endState s (execFunctionLevelReset s)) = forget ks s := by
  unfold execFunctionLevelReset
  repeat' (first
    | with_reducible rfl
    | simp only [forget_ite, endState_next, endState_ite, endState_fault, ite_self, true_or, or_true, and_self,
      forget_resetBy, h1, h2, h3, h4, h5, h6, h7, h8, h9, h10, h11, h12, h13, h14, h15, h16, h17, h18,
      h19, h20, h23, h24, h25, h26, h27, h28, h29]
    | split)

theorem forget_execRegisterReset (ks : List Nat) (h1 : 1 ∈ ks) (h2 : 2 ∈ ks) (h3 : 3 ∈ ks) (h4 : 4 ∈ ks) (h5 : 5 ∈ ks) (h6 : 6 ∈ ks) (h7 : 7 ∈ ks) (h8 : 8 ∈ ks) (h9 : 9 ∈ ks) (h10 : 10 ∈ ks) (h11 : 11 ∈ ks) (h12 : 12 ∈ ks) (h13 : 13 ∈ ks) (h14 : 14 ∈ ks) (h15 : 15 ∈ ks) (h16 : 16 ∈ ks) (h17 : 17 ∈ ks) (h18 : 18 ∈ ks) (h19 : 19 ∈ ks) (h20 : 20 ∈ ks) (h23 : 23 ∈ ks) (h24 : 24 ∈ ks) (h25 : 25 ∈ ks) (h26 : 26 ∈ ks) (h27 : 27 ∈ ks) (h28 : 28 ∈ ks) (h29 : 29 ∈ ks)
    (value : Word32) (s : State) :
    forget ks (endState s (execRegisterReset value s)) = forget ks s := by
  unfold execRegisterReset
  repeat' (first
    | with_reducible rfl
    | simp only [forget_ite, endState_next, endState_ite, endState_fault, ite_self, true_or, or_true, and_self,
      forget_resetBy, h1, h2, h3, h4, h5, h6, h7, h8, h9, h10, h11, h12, h13, h14, h15, h16, h17, h18,
      h19, h20, h23, h24, h25, h26, h27, h28, h29]
    | split)

theorem forget_execResetSequenceEnd (ks : List Nat) (h1 : 1 ∈ ks) (h2 : 2 ∈ ks) (h18 : 18 ∈ ks) (h22 : 22 ∈ ks) (h26 : 26 ∈ ks)
    (found : SelfTest) (s : State) :
    forget ks (endState s (execResetSequenceEnd found s)) = forget ks s := by
  unfold execResetSequenceEnd
  repeat' (first
    | with_reducible rfl
    | simp only [forget_ite, endState_next, endState_ite, endState_fault, ite_self, true_or, or_true, and_self,
      forget_setRegs, forget_setSecurity, forget_setSupply, h1, h2, h18, h22, h26]
    | split)

theorem forget_dropWork (ks : List Nat) (h7 : 7 ∈ ks) (h11 : 11 ∈ ks) (h15 : 15 ∈ ks)
    (s : State) :
    forget ks (dropWork s) = forget ks s := by
  unfold dropWork
  repeat' (first
    | with_reducible rfl
    | simp only [forget_ite, ite_self, true_or, or_true, and_self, forget_addBalance, forget_freeDrained,
      forget_setSpindles, h7, h11, h15]
    | split
    | (refine (forget_foldl ks _ ?_ _ _).trans ?_; intros))

theorem forget_abandon (ks : List Nat) (h3 : 3 ∈ ks) (h4 : 4 ∈ ks) (h5 : 5 ∈ ks) (h6 : 6 ∈ ks) (h7 : 7 ∈ ks) (h11 : 11 ∈ ks) (h12 : 12 ∈ ks) (h13 : 13 ∈ ks) (h14 : 14 ∈ ks) (h15 : 15 ∈ ks) (h16 : 16 ∈ ks) (h17 : 17 ∈ ks)
    (s : State) (h : HankImage) (setId : Nat) :
    forget ks (abandon s h setId) = forget ks s := by
  unfold abandon
  repeat' (first
    | with_reducible rfl
    | simp only [forget_ite, ite_self, true_or, or_true, and_self, forget_dropWork, forget_finish, forget_setCfg,
      forget_setDense, forget_setLinks, forget_setOutputs, forget_setOwners, forget_setSecuring,
      forget_setSteps, forget_setTables, h3, h4, h5, h6, h7, h11, h12, h13, h14, h15, h16, h17]
    | split
    | (refine (forget_foldl ks _ ?_ _ _).trans ?_; intros))

theorem forget_restoreTables (ks : List Nat) (h6 : 6 ∈ ks)
    (s : State) (h : HankImage) :
    forget ks (restoreTables s h) = forget ks s := by
  unfold restoreTables
  repeat' (first
    | with_reducible rfl
    | simp only [forget_ite, ite_self, true_or, or_true, and_self, forget_addPage, forget_setTables, h6]
    | split
    | (refine (forget_foldl ks _ ?_ _ _).trans ?_; intros))

theorem forget_restoreDense (ks : List Nat) (h10 : 10 ∈ ks) (h13 : 13 ∈ ks) (h24 : 24 ∈ ks)
    (s : State) (h : HankImage) :
    forget ks (restoreDense s h) = forget ks s := by
  unfold restoreDense
  repeat' (first
    | with_reducible rfl
    | simp only [forget_ite, ite_self, true_or, or_true, and_self, forget_setDense, forget_setTensor, h10, h13, h24]
    | split
    | (refine (forget_foldl ks _ ?_ _ _).trans ?_; intros))

theorem forget_restoreImage (ks : List Nat) (h4 : 4 ∈ ks) (h5 : 5 ∈ ks) (h6 : 6 ∈ ks) (h10 : 10 ∈ ks) (h13 : 13 ∈ ks) (h16 : 16 ∈ ks) (h24 : 24 ∈ ks)
    (s : State) (h : HankImage) :
    forget ks (restoreImage s h) = forget ks s := by
  unfold restoreImage
  repeat' (first
    | with_reducible rfl
    | simp only [forget_ite, ite_self, true_or, or_true, and_self, forget_restoreDense, forget_restoreTables,
      forget_setCfg, forget_setItem, forget_setSecuring, forget_setSteps, h4, h5, h6, h10, h13, h16, h24]
    | split
    | (refine (forget_foldl ks _ ?_ _ _).trans ?_; intros))

theorem forget_execRestoreFromHank (ks : List Nat) (h3 : 3 ∈ ks) (h4 : 4 ∈ ks) (h5 : 5 ∈ ks) (h6 : 6 ∈ ks) (h7 : 7 ∈ ks) (h11 : 11 ∈ ks) (h12 : 12 ∈ ks) (h13 : 13 ∈ ks) (h14 : 14 ∈ ks) (h15 : 15 ∈ ks) (h16 : 16 ∈ ks) (h17 : 17 ∈ ks)
    (d : Sub) (read : HankRead) (newest : Option Nat) (s : State) :
    forget ks (endState s (execRestoreFromHank d read newest s)) = forget ks s := by
  unfold execRestoreFromHank
  repeat' (first
    | with_reducible rfl
    | simp only [forget_ite, endState_next, endState_ite, endState_fault, ite_self, true_or, or_true, and_self,
      forget_abandon, forget_finishWith, forget_markBegun, forget_setSecuring, forget_wakeChannels, h3,
      h4, h5, h6, h7, h11, h12, h13, h14, h15, h16, h17]
    | split)

theorem forget_restoreWear (ks : List Nat) (h6 : 6 ∈ ks) (h19 : 19 ∈ ks)
    (s : State) (source : Nat) :
    forget ks (restoreWear s source) = forget ks s := by
  unfold restoreWear
  repeat' (first
    | with_reducible rfl
    | simp only [forget_ite, ite_self, true_or, or_true, and_self, forget_drawWear, h6, h19]
    | split)

theorem forget_withdrawEarly (ks : List Nat) (h3 : 3 ∈ ks) (h5 : 5 ∈ ks) (h7 : 7 ∈ ks) (h11 : 11 ∈ ks) (h15 : 15 ∈ ks)
    (s : State) :
    forget ks (withdrawEarly s) = forget ks s := by
  unfold withdrawEarly
  repeat' (first
    | with_reducible rfl
    | simp only [forget_ite, ite_self, true_or, or_true, and_self, forget_dropWork, forget_finish, forget_setSteps,
      h3, h5, h7, h11, h15]
    | split
    | (refine (forget_foldl ks _ ?_ _ _).trans ?_; intros))

theorem forget_execRestoreEnd (ks : List Nat) (h3 : 3 ∈ ks) (h4 : 4 ∈ ks) (h5 : 5 ∈ ks) (h6 : 6 ∈ ks) (h7 : 7 ∈ ks) (h10 : 10 ∈ ks) (h11 : 11 ∈ ks) (h12 : 12 ∈ ks) (h13 : 13 ∈ ks) (h14 : 14 ∈ ks) (h15 : 15 ∈ ks) (h16 : 16 ∈ ks) (h17 : 17 ∈ ks) (h19 : 19 ∈ ks) (h20 : 20 ∈ ks) (h24 : 24 ∈ ks) (h27 : 27 ∈ ks) (h28 : 28 ∈ ks)
    (s : State) :
    forget ks (endState s (execRestoreEnd s)) = forget ks s := by
  unfold execRestoreEnd
  repeat' (first
    | with_reducible rfl
    | simp only [forget_ite, endState_next, endState_ite, endState_fault, ite_self, true_or, or_true, and_self,
      forget_absentReplicas, forget_applyItem, forget_finishWith, forget_progress, forget_restoreImage,
      forget_restoreWear, forget_setCfg, forget_setSecuring, forget_setSteps, forget_settleDelta,
      forget_withdrawEarly, h3, h4, h5, h6, h7, h10, h11, h12, h13, h14, h15, h16, h17, h19, h20, h24,
      h27, h28]
    | split
    | (refine (forget_foldl ks _ ?_ _ _).trans ?_; intros))

theorem forget_setBreak (ks : List Nat) (h11 : 11 ∈ ks)
    (s : State) (slot : Nat) (b : Option BreakSlot) :
    forget ks (setBreak s slot b) = forget ks s := by
  unfold setBreak
  repeat' (first
    | with_reducible rfl
    | simp only [forget_ite, ite_self, true_or, or_true, and_self, forget_setSpindles, h11]
    | split)

theorem forget_runBreakArm (ks : List Nat) (h3 : 3 ∈ ks) (h11 : 11 ∈ ks)
    (d : Sub) (s : State) :
    forget ks (runBreakArm d s) = forget ks s := by
  unfold runBreakArm
  repeat' (first
    | with_reducible rfl
    | simp only [forget_ite, ite_self, true_or, or_true, and_self, forget_finish, forget_setBreak, h3, h11]
    | split)

theorem forget_runBreakClear (ks : List Nat) (h3 : 3 ∈ ks) (h11 : 11 ∈ ks)
    (d : Sub) (s : State) :
    forget ks (runBreakClear d s) = forget ks s := by
  unfold runBreakClear
  repeat' (first
    | with_reducible rfl
    | simp only [forget_ite, ite_self, true_or, or_true, and_self, forget_finish, forget_setBreak, h3, h11]
    | split)

theorem forget_execDebugBreakArm (ks : List Nat) (h3 : 3 ∈ ks) (h11 : 11 ∈ ks)
    (d : Sub) (s : State) :
    forget ks (endState s (execDebugBreakArm d s)) = forget ks s := by
  unfold execDebugBreakArm
  repeat' (first
    | with_reducible rfl
    | simp only [forget_ite, endState_next, endState_ite, endState_fault, ite_self, true_or, or_true, and_self,
      forget_beginCommand, forget_runBreakArm, h3, h11]
    | split
    | (refine (forget_beginCommand ks (by assumption) _ _ _ _ _ ?_).trans ?_; intro x))

theorem forget_execDebugBreakClear (ks : List Nat) (h3 : 3 ∈ ks) (h11 : 11 ∈ ks)
    (d : Sub) (s : State) :
    forget ks (endState s (execDebugBreakClear d s)) = forget ks s := by
  unfold execDebugBreakClear
  repeat' (first
    | with_reducible rfl
    | simp only [forget_ite, endState_next, endState_ite, endState_fault, ite_self, true_or, or_true, and_self,
      forget_beginCommand, forget_runBreakClear, h3, h11]
    | split
    | (refine (forget_beginCommand ks (by assumption) _ _ _ _ _ ?_).trans ?_; intro x))

theorem forget_releaseStop (ks : List Nat) (h11 : 11 ∈ ks)
    (s : State) :
    forget ks (releaseStop s) = forget ks s := by
  unfold releaseStop
  repeat' (first
    | with_reducible rfl
    | simp only [forget_ite, ite_self, true_or, or_true, and_self, forget_setSpindles, h11]
    | split)

theorem forget_runDebugResume (ks : List Nat) (h3 : 3 ∈ ks) (h5 : 5 ∈ ks) (h6 : 6 ∈ ks) (h10 : 10 ∈ ks) (h11 : 11 ∈ ks) (h12 : 12 ∈ ks) (h13 : 13 ∈ ks) (h14 : 14 ∈ ks) (h15 : 15 ∈ ks) (h16 : 16 ∈ ks) (h17 : 17 ∈ ks) (h19 : 19 ∈ ks) (h20 : 20 ∈ ks)
    (d : Sub) (s : State) :
    forget ks (runDebugResume d s) = forget ks s := by
  unfold runDebugResume
  repeat' (first
    | with_reducible rfl
    | simp only [forget_ite, ite_self, true_or, or_true, and_self, forget_finish, forget_progress,
      forget_releaseStop, h3, h5, h6, h10, h11, h12, h13, h14, h15, h16, h17, h19, h20]
    | split)

theorem forget_execDebugResume (ks : List Nat) (h3 : 3 ∈ ks) (h5 : 5 ∈ ks) (h6 : 6 ∈ ks) (h10 : 10 ∈ ks) (h11 : 11 ∈ ks) (h12 : 12 ∈ ks) (h13 : 13 ∈ ks) (h14 : 14 ∈ ks) (h15 : 15 ∈ ks) (h16 : 16 ∈ ks) (h17 : 17 ∈ ks) (h19 : 19 ∈ ks) (h20 : 20 ∈ ks)
    (d : Sub) (s : State) :
    forget ks (endState s (execDebugResume d s)) = forget ks s := by
  unfold execDebugResume
  repeat' (first
    | with_reducible rfl
    | simp only [forget_ite, endState_next, endState_ite, endState_fault, ite_self, true_or, or_true, and_self,
      forget_beginCommand, forget_runDebugResume, h3, h5, h6, h10, h11, h12, h13, h14, h15, h16, h17,
      h19, h20]
    | split
    | (refine (forget_beginCommand ks (by assumption) _ _ _ _ _ ?_).trans ?_; intro x))

theorem forget_setConnection (ks : List Nat) (h18 : 18 ∈ ks)
    (s : State) (t : Transport) (c : Spdm) :
    forget ks (setConnection s t c) = forget ks s := by
  unfold setConnection
  repeat' (first
    | with_reducible rfl
    | simp only [forget_ite, ite_self, true_or, or_true, and_self, forget_setSecurity, h18]
    | split)

theorem forget_respond (ks : List Nat) (h18 : 18 ∈ ks)
    (s : State) (t : Transport) (r : Response) :
    forget ks (respond s t r) = forget ks s := by
  unfold respond
  repeat' (first
    | with_reducible rfl
    | simp only [forget_ite, ite_self, true_or, or_true, and_self, forget_setSecurity, h18]
    | split)

theorem forget_onTransport (ks : List Nat)
    (s : State) (t : Transport) (run : State → State) (hr : ∀ x, forget ks (run x) = forget ks x) :
    forget ks (endState s (onTransport s t run)) = forget ks s := by
  unfold onTransport
  repeat' (first
    | with_reducible rfl
    | simp only [forget_ite, endState_next, endState_ite, endState_fault, ite_self, true_or, or_true, and_self, hr]
    | split)

theorem forget_execGetVersion (ks : List Nat) (h18 : 18 ∈ ks)
    (t : Transport) (s : State) :
    forget ks (endState s (execGetVersion t s)) = forget ks s := by
  unfold execGetVersion
  repeat' (first
    | with_reducible rfl
    | simp only [forget_ite, endState_next, endState_ite, endState_fault, ite_self, true_or, or_true, and_self,
      forget_onTransport, forget_respond, forget_setConnection, h18]
    | split
    | (refine (forget_onTransport ks  _ _ _ ?_).trans ?_; intro x))

theorem forget_execGetCapabilities (ks : List Nat) (h18 : 18 ∈ ks)
    (t : Transport) (s : State) :
    forget ks (endState s (execGetCapabilities t s)) = forget ks s := by
  unfold execGetCapabilities
  repeat' (first
    | with_reducible rfl
    | simp only [forget_ite, endState_next, endState_ite, endState_fault, ite_self, true_or, or_true, and_self,
      forget_onTransport, forget_respond, forget_setConnection, h18]
    | split
    | (refine (forget_onTransport ks  _ _ _ ?_).trans ?_; intro x))

theorem forget_execNegotiateAlgorithms (ks : List Nat) (h18 : 18 ∈ ks)
    (t : Transport) (acceptsBrainpool : Bool) (s : State) :
    forget ks (endState s (execNegotiateAlgorithms t acceptsBrainpool s)) = forget ks s := by
  unfold execNegotiateAlgorithms
  repeat' (first
    | with_reducible rfl
    | simp only [forget_ite, endState_next, endState_ite, endState_fault, ite_self, true_or, or_true, and_self,
      forget_onTransport, forget_respond, forget_setConnection, h18]
    | split
    | (refine (forget_onTransport ks  _ _ _ ?_).trans ?_; intro x))

theorem forget_execGetDigests (ks : List Nat) (h18 : 18 ∈ ks)
    (t : Transport) (s : State) :
    forget ks (endState s (execGetDigests t s)) = forget ks s := by
  unfold execGetDigests
  repeat' (first
    | with_reducible rfl
    | simp only [forget_ite, endState_next, endState_ite, endState_fault, ite_self, true_or, or_true, and_self,
      forget_onTransport, forget_respond, h18]
    | split
    | (refine (forget_onTransport ks  _ _ _ ?_).trans ?_; intro x))

theorem forget_execGetCertificate (ks : List Nat) (h18 : 18 ∈ ks)
    (t : Transport) (slot : Nat) (offset : Nat) (length : Nat) (s : State) :
    forget ks (endState s (execGetCertificate t slot offset length s)) = forget ks s := by
  unfold execGetCertificate
  repeat' (first
    | with_reducible rfl
    | simp only [forget_ite, endState_next, endState_ite, endState_fault, ite_self, true_or, or_true, and_self,
      forget_onTransport, forget_respond, h18]
    | split
    | (refine (forget_onTransport ks  _ _ _ ?_).trans ?_; intro x))

theorem forget_execChallenge (ks : List Nat) (h18 : 18 ∈ ks) (h21 : 21 ∈ ks)
    (t : Transport) (slot : Nat) (nonce : List Byte) (s : State) :
    forget ks (endState s (execChallenge t slot nonce s)) = forget ks s := by
  unfold execChallenge
  repeat' (first
    | with_reducible rfl
    | simp only [forget_ite, endState_next, endState_ite, endState_fault, ite_self, true_or, or_true, and_self,
      forget_drawBytes, forget_onTransport, forget_respond, h18, h21]
    | split
    | (refine (forget_onTransport ks  _ _ _ ?_).trans ?_; intro x))

theorem forget_execGetMeasurements (ks : List Nat) (h18 : 18 ∈ ks) (h21 : 21 ∈ ks)
    (t : Transport) (index : Nat) (signed : Bool) (nonce : List Byte) (s : State) :
    forget ks (endState s (execGetMeasurements t index signed nonce s)) = forget ks s := by
  unfold execGetMeasurements
  repeat' (first
    | with_reducible rfl
    | simp only [forget_ite, endState_next, endState_ite, endState_fault, ite_self, true_or, or_true, and_self,
      forget_drawBytes, forget_onTransport, forget_respond, h18, h21]
    | split
    | (refine (forget_onTransport ks  _ _ _ ?_).trans ?_; intro x))

theorem forget_execKeyExchange (ks : List Nat) (h18 : 18 ∈ ks) (h21 : 21 ∈ ks)
    (t : Transport) (exchangeData : List Byte) (s : State) :
    forget ks (endState s (execKeyExchange t exchangeData s)) = forget ks s := by
  unfold execKeyExchange
  repeat' (first
    | with_reducible rfl
    | simp only [forget_ite, endState_next, endState_ite, endState_fault, ite_self, true_or, or_true, and_self,
      forget_bump, forget_onTransport, forget_respond, forget_setConnection, h18, h21]
    | split
    | (refine (forget_onTransport ks  _ _ _ ?_).trans ?_; intro x))

theorem forget_execFinish (ks : List Nat) (h18 : 18 ∈ ks)
    (t : Transport) (verifyData : List Byte) (s : State) :
    forget ks (endState s (execFinish t verifyData s)) = forget ks s := by
  unfold execFinish
  repeat' (first
    | with_reducible rfl
    | simp only [forget_ite, endState_next, endState_ite, endState_fault, ite_self, true_or, or_true, and_self,
      forget_onTransport, forget_respond, forget_setConnection, h18]
    | split
    | (refine (forget_onTransport ks  _ _ _ ?_).trans ?_; intro x))

theorem forget_execHeartbeat (ks : List Nat) (h18 : 18 ∈ ks)
    (t : Transport) (s : State) :
    forget ks (endState s (execHeartbeat t s)) = forget ks s := by
  unfold execHeartbeat
  repeat' (first
    | with_reducible rfl
    | simp only [forget_ite, endState_next, endState_ite, endState_fault, ite_self, true_or, or_true, and_self,
      forget_onTransport, forget_respond, h18]
    | split
    | (refine (forget_onTransport ks  _ _ _ ?_).trans ?_; intro x))

theorem forget_execKeyUpdate (ks : List Nat) (h18 : 18 ∈ ks)
    (t : Transport) (operation : Nat) (s : State) :
    forget ks (endState s (execKeyUpdate t operation s)) = forget ks s := by
  unfold execKeyUpdate
  repeat' (first
    | with_reducible rfl
    | simp only [forget_ite, endState_next, endState_ite, endState_fault, ite_self, true_or, or_true, and_self,
      forget_onTransport, forget_respond, forget_setConnection, h18]
    | split
    | (refine (forget_onTransport ks  _ _ _ ?_).trans ?_; intro x))

theorem forget_execEndSession (ks : List Nat) (h18 : 18 ∈ ks)
    (t : Transport) (s : State) :
    forget ks (endState s (execEndSession t s)) = forget ks s := by
  unfold execEndSession
  repeat' (first
    | with_reducible rfl
    | simp only [forget_ite, endState_next, endState_ite, endState_fault, ite_self, true_or, or_true, and_self,
      forget_onTransport, forget_respond, forget_setConnection, h18]
    | split
    | (refine (forget_onTransport ks  _ _ _ ?_).trans ?_; intro x))

theorem forget_answer (ks : List Nat) (h18 : 18 ∈ ks)
    (s : State) (t : Transport) (command : Nat) (result : Nat) :
    forget ks (answer s t command result) = forget ks s := by
  unfold answer
  repeat' (first
    | with_reducible rfl
    | simp only [forget_ite, ite_self, true_or, or_true, and_self, forget_respond, h18]
    | split)

theorem forget_moduleCommand (ks : List Nat) (h18 : 18 ∈ ks)
    (s : State) (t : Transport) (payload : List Byte) (command : Nat) (low : Nat) (high : Nat) (inLoader : Bool) (run : List Byte → State → State) (hr : ∀ b x, forget ks (run b x) = forget ks x) :
    forget ks (endState s (moduleCommand s t payload command low high inLoader run)) = forget ks s := by
  unfold moduleCommand
  repeat' (first
    | with_reducible rfl
    | simp only [forget_ite, endState_next, endState_ite, endState_fault, ite_self, true_or, or_true, and_self,
      forget_answer, forget_onTransport, forget_respond, h18, hr]
    | split
    | (refine (forget_onTransport ks  _ _ _ ?_).trans ?_; intro x))

theorem forget_claimFlash (ks : List Nat) (h6 : 6 ∈ ks) (h16 : 16 ∈ ks) (h18 : 18 ∈ ks)
    (s : State) (jobId : List Byte) :
    forget ks (claimFlash s jobId) = forget ks s := by
  unfold claimFlash
  repeat' (first
    | with_reducible rfl
    | simp only [forget_ite, ite_self, true_or, or_true, and_self, forget_setSecuring, forget_setSecurity,
      forget_setTables, h6, h16, h18, State.setSupply_security, State.setSecuring_security,
      State.setTables_security]
    | split)

theorem forget_retryPorts (ks : List Nat) (h14 : 14 ∈ ks)
    (s : State) :
    forget ks (retryPorts s) = forget ks s := by
  unfold retryPorts
  repeat' (first
    | with_reducible rfl
    | simp only [forget_ite, ite_self, true_or, or_true, and_self, forget_startTraining, h14]
    | split
    | (refine (forget_foldl ks _ ?_ _ _).trans ?_; intros))

theorem forget_installKey (ks : List Nat) (h6 : 6 ∈ ks) (h14 : 14 ∈ ks) (h16 : 16 ∈ ks) (h18 : 18 ∈ ks) (h23 : 23 ∈ ks)
    (s : State) (key : List Byte) :
    forget ks (installKey s key) = forget ks s := by
  unfold installKey
  repeat' (first
    | with_reducible rfl
    | simp only [forget_ite, ite_self, true_or, or_true, and_self, forget_claimFlash, forget_retryPorts,
      forget_setSecurity, h6, h14, h16, h18, h23]
    | split)

theorem forget_execInstallJobKey (ks : List Nat) (h6 : 6 ∈ ks) (h14 : 14 ∈ ks) (h16 : 16 ∈ ks) (h18 : 18 ∈ ks) (h23 : 23 ∈ ks)
    (t : Transport) (inSession : Bool) (payload : List Byte) (s : State) :
    forget ks (endState s (execInstallJobKey t inSession payload s)) = forget ks s := by
  unfold execInstallJobKey
  repeat' (first
    | with_reducible rfl
    | simp only [forget_ite, endState_next, endState_ite, endState_fault, ite_self, true_or, or_true, and_self,
      forget_answer, forget_installKey, forget_moduleCommand, forget_respond, h6, h14, h16, h18, h23]
    | split
    | (refine (forget_moduleCommand ks (by assumption) _ _ _ _ _ _ _ _ ?_).trans ?_; intro b x))

theorem forget_execQueryState (ks : List Nat) (h18 : 18 ∈ ks)
    (t : Transport) (payload : List Byte) (s : State) :
    forget ks (endState s (execQueryState t payload s)) = forget ks s := by
  unfold execQueryState
  repeat' (first
    | with_reducible rfl
    | simp only [forget_ite, endState_next, endState_ite, endState_fault, ite_self, true_or, or_true, and_self,
      forget_moduleCommand, forget_respond, h18]
    | split
    | (refine (forget_moduleCommand ks (by assumption) _ _ _ _ _ _ _ _ ?_).trans ?_; intro b x))

theorem forget_firmwareCommand (ks : List Nat) (h18 : 18 ∈ ks)
    (s : State) (t : Transport) (payload : List Byte) (command : Nat) (low : Nat) (high : Nat) (run : List Byte → State → State) (hr : ∀ b x, forget ks (run b x) = forget ks x) :
    forget ks (endState s (firmwareCommand s t payload command low high run)) = forget ks s := by
  unfold firmwareCommand
  repeat' (first
    | with_reducible rfl
    | simp only [forget_ite, endState_next, endState_ite, endState_fault, ite_self, true_or, or_true, and_self,
      forget_moduleCommand, h18, hr]
    | split
    | (refine (forget_moduleCommand ks (by assumption) _ _ _ _ _ _ _ _ ?_).trans ?_; intro b x))

theorem forget_setTransfer (ks : List Nat) (h18 : 18 ∈ ks)
    (s : State) (x : Option Transfer) :
    forget ks (setTransfer s x) = forget ks s := by
  unfold setTransfer
  repeat' (first
    | with_reducible rfl
    | simp only [forget_ite, ite_self, true_or, or_true, and_self, forget_setSecurity, h18]
    | split)

theorem forget_execFirmwareBegin (ks : List Nat) (h18 : 18 ∈ ks)
    (t : Transport) (payload : List Byte) (s : State) :
    forget ks (endState s (execFirmwareBegin t payload s)) = forget ks s := by
  unfold execFirmwareBegin
  repeat' (first
    | with_reducible rfl
    | simp only [forget_ite, endState_next, endState_ite, endState_fault, ite_self, true_or, or_true, and_self,
      forget_answer, forget_firmwareCommand, forget_setTransfer, h18]
    | split
    | (refine (forget_firmwareCommand ks (by assumption) _ _ _ _ _ _ _ ?_).trans ?_; intro b x))

theorem forget_execFirmwareData (ks : List Nat) (h18 : 18 ∈ ks)
    (t : Transport) (payload : List Byte) (s : State) :
    forget ks (endState s (execFirmwareData t payload s)) = forget ks s := by
  unfold execFirmwareData
  repeat' (first
    | with_reducible rfl
    | simp only [forget_ite, endState_next, endState_ite, endState_fault, ite_self, true_or, or_true, and_self,
      forget_answer, forget_firmwareCommand, forget_setTransfer, h18]
    | split
    | (refine (forget_firmwareCommand ks (by assumption) _ _ _ _ _ _ _ ?_).trans ?_; intro b x))

theorem forget_execFirmwareEnd (ks : List Nat) (h18 : 18 ∈ ks)
    (t : Transport) (payload : List Byte) (s : State) :
    forget ks (endState s (execFirmwareEnd t payload s)) = forget ks s := by
  unfold execFirmwareEnd
  repeat' (first
    | with_reducible rfl
    | simp only [forget_ite, endState_next, endState_ite, endState_fault, ite_self, true_or, or_true, and_self,
      forget_answer, forget_firmwareCommand, forget_respond, forget_setSecurity, h18]
    | split
    | (refine (forget_firmwareCommand ks (by assumption) _ _ _ _ _ _ _ ?_).trans ?_; intro b x))

theorem forget_execFirmwareAbort (ks : List Nat) (h18 : 18 ∈ ks)
    (t : Transport) (payload : List Byte) (s : State) :
    forget ks (endState s (execFirmwareAbort t payload s)) = forget ks s := by
  unfold execFirmwareAbort
  repeat' (first
    | with_reducible rfl
    | simp only [forget_ite, endState_next, endState_ite, endState_fault, ite_self, true_or, or_true, and_self,
      forget_answer, forget_firmwareCommand, forget_setTransfer, h18]
    | split
    | (refine (forget_firmwareCommand ks (by assumption) _ _ _ _ _ _ _ ?_).trans ?_; intro b x))

theorem forget_execDebugChallenge (ks : List Nat) (h18 : 18 ∈ ks) (h21 : 21 ∈ ks)
    (t : Transport) (payload : List Byte) (s : State) :
    forget ks (endState s (execDebugChallenge t payload s)) = forget ks s := by
  unfold execDebugChallenge
  repeat' (first
    | with_reducible rfl
    | simp only [forget_ite, endState_next, endState_ite, endState_fault, ite_self, true_or, or_true, and_self,
      forget_drawBytes, forget_moduleCommand, forget_respond, forget_setSecurity, h18, h21]
    | split
    | (refine (forget_moduleCommand ks (by assumption) _ _ _ _ _ _ _ _ ?_).trans ?_; intro b x))

theorem forget_eraseMemories (ks : List Nat) (h3 : 3 ∈ ks) (h5 : 5 ∈ ks) (h6 : 6 ∈ ks) (h7 : 7 ∈ ks) (h8 : 8 ∈ ks) (h9 : 9 ∈ ks) (h10 : 10 ∈ ks) (h11 : 11 ∈ ks) (h12 : 12 ∈ ks) (h13 : 13 ∈ ks) (h16 : 16 ∈ ks) (h17 : 17 ∈ ks) (h24 : 24 ∈ ks) (h29 : 29 ∈ ks)
    (s : State) :
    forget ks (eraseMemories s) = forget ks s := by
  unfold eraseMemories
  repeat' (first
    | with_reducible rfl
    | simp only [forget_ite, ite_self, true_or, or_true, and_self, forget_finish, forget_setDense,
      forget_setLattices, forget_setOutputs, forget_setOwners, forget_setPrograms, forget_setSecuring,
      forget_setSpindles, forget_setSteps, forget_setTables, forget_setTensors, forget_setWindow, h3, h5,
      h6, h7, h8, h9, h10, h11, h12, h13, h16, h17, h24, h29]
    | split
    | (refine (forget_foldl ks _ ?_ _ _).trans ?_; intros))

theorem forget_eraseJobKey (ks : List Nat) (h3 : 3 ∈ ks) (h14 : 14 ∈ ks) (h16 : 16 ∈ ks) (h18 : 18 ∈ ks) (h20 : 20 ∈ ks) (h23 : 23 ∈ ks)
    (s : State) :
    forget ks (eraseJobKey s) = forget ks s := by
  unfold eraseJobKey
  repeat' (first
    | with_reducible rfl
    | simp only [forget_ite, ite_self, true_or, or_true, and_self, forget_failPort, forget_setSecurity, h3, h14,
      h16, h18, h20, h23]
    | split
    | (refine (forget_foldl ks _ ?_ _ _).trans ?_; intros))

theorem forget_unlockDebug (ks : List Nat) (h3 : 3 ∈ ks) (h5 : 5 ∈ ks) (h6 : 6 ∈ ks) (h7 : 7 ∈ ks) (h8 : 8 ∈ ks) (h9 : 9 ∈ ks) (h10 : 10 ∈ ks) (h11 : 11 ∈ ks) (h12 : 12 ∈ ks) (h13 : 13 ∈ ks) (h14 : 14 ∈ ks) (h16 : 16 ∈ ks) (h17 : 17 ∈ ks) (h18 : 18 ∈ ks) (h20 : 20 ∈ ks) (h23 : 23 ∈ ks) (h24 : 24 ∈ ks) (h29 : 29 ∈ ks)
    (s : State) (scope : List Byte) :
    forget ks (unlockDebug s scope) = forget ks s := by
  unfold unlockDebug
  repeat' (first
    | with_reducible rfl
    | simp only [forget_ite, ite_self, true_or, or_true, and_self, forget_eraseJobKey, forget_eraseMemories,
      forget_setSecurity, h3, h5, h6, h7, h8, h9, h10, h11, h12, h13, h14, h16, h17, h18, h20, h23, h24,
      h29]
    | split)

theorem forget_execDebugUnlock (ks : List Nat) (h3 : 3 ∈ ks) (h5 : 5 ∈ ks) (h6 : 6 ∈ ks) (h7 : 7 ∈ ks) (h8 : 8 ∈ ks) (h9 : 9 ∈ ks) (h10 : 10 ∈ ks) (h11 : 11 ∈ ks) (h12 : 12 ∈ ks) (h13 : 13 ∈ ks) (h14 : 14 ∈ ks) (h16 : 16 ∈ ks) (h17 : 17 ∈ ks) (h18 : 18 ∈ ks) (h20 : 20 ∈ ks) (h23 : 23 ∈ ks) (h24 : 24 ∈ ks) (h29 : 29 ∈ ks)
    (t : Transport) (payload : List Byte) (s : State) :
    forget ks (endState s (execDebugUnlock t payload s)) = forget ks s := by
  unfold execDebugUnlock
  repeat' (first
    | with_reducible rfl
    | simp only [forget_ite, endState_next, endState_ite, endState_fault, ite_self, true_or, or_true, and_self,
      forget_answer, forget_moduleCommand, forget_setSecurity, forget_unlockDebug, h3, h5, h6, h7, h8,
      h9, h10, h11, h12, h13, h14, h16, h17, h18, h20, h23, h24, h29]
    | split
    | (refine (forget_moduleCommand ks (by assumption) _ _ _ _ _ _ _ _ ?_).trans ?_; intro b x))

end Sys2Proof.Machine
end

