-- ==== Sys2Proof/Laws/Memory.lean ====
section
/-! SUPPORT. The laws of byte memory: a read after a write, and the canonical form that every write keeps. -/

namespace Sys2Proof.Machine

/-- A memory above an address lists nothing at or below it. -/
theorem memRead_below (m : Mem) (k a : Nat) (h : memWfAbove (some k) m = true) (ha : a ≤ k) : memRead m a = 0 := by
  induction m generalizing k with
  | nil => rfl
  | cons x r ih =>
    obtain ⟨c, b⟩ := x
    simp only [memWfAbove, Bool.and_eq_true, decide_eq_true_eq] at h
    have hc : ¬ c = a := by omega
    simp only [memRead, hc, if_false]
    exact ih c h.2 (by omega)

theorem memWfAbove_mono (m : Mem) (j k : Nat) (hjk : j ≤ k) (h : memWfAbove (some k) m = true) : memWfAbove (some j) m = true := by
  cases m with
  | nil => rfl
  | cons x r =>
    simp only [memWfAbove, Bool.and_eq_true, decide_eq_true_eq] at h ⊢
    exact ⟨⟨by omega, h.1.2⟩, h.2⟩

theorem memWfAbove_none (m : Mem) (k : Nat) (h : memWfAbove (some k) m = true) : memWfAbove none m = true := by
  cases m with
  | nil => rfl
  | cons x r =>
    simp only [memWfAbove, Bool.and_eq_true] at h ⊢
    exact ⟨⟨trivial, h.1.2⟩, h.2⟩

/-- Writing above a bound keeps a memory above the bound in canonical form. -/
theorem memWfAbove_memWrite (m : Mem) (k a : Nat) (b : Byte) (hka : k < a) (h : memWfAbove (some k) m = true) :
    memWfAbove (some k) (memWrite m a b) = true := by
  induction m generalizing k with
  | nil =>
    simp only [memWrite]
    split <;> simp_all [memWfAbove]
  | cons x r ih =>
    obtain ⟨c, d⟩ := x
    have h' := h
    simp only [memWfAbove, Bool.and_eq_true, decide_eq_true_eq] at h'
    obtain ⟨⟨h1, h2⟩, h3⟩ := h'
    simp only [memWrite]
    split
    · split
      · exact h
      · simp only [memWfAbove, Bool.and_eq_true, decide_eq_true_eq]
        exact ⟨⟨hka, by simpa using ‹¬b = 0›⟩, ⟨‹a < c›, h2⟩, h3⟩
    · split
      · split
        · exact memWfAbove_mono r k c (by omega) h3
        · subst ‹a = c›
          simp only [memWfAbove, Bool.and_eq_true, decide_eq_true_eq]
          exact ⟨⟨hka, by simpa using ‹¬b = 0›⟩, h3⟩
      · simp only [memWfAbove, Bool.and_eq_true, decide_eq_true_eq]
        exact ⟨⟨h1, h2⟩, ih c (by omega) h3⟩

/-- A write keeps the canonical form. -/
theorem memWf_memWrite (m : Mem) (a : Nat) (b : Byte) (h : memWf m = true) : memWf (memWrite m a b) = true := by
  cases m with
  | nil =>
    simp only [memWrite]
    split <;> simp_all [memWf, memWfAbove]
  | cons x r =>
    obtain ⟨c, d⟩ := x
    simp only [memWf, memWfAbove, Bool.and_eq_true] at h
    obtain ⟨⟨-, h2⟩, h3⟩ := h
    simp only [memWrite, memWf]
    split
    · split
      · simp only [memWfAbove, Bool.and_eq_true]
        exact ⟨⟨trivial, h2⟩, h3⟩
      · simp only [memWfAbove, Bool.and_eq_true, decide_eq_true_eq]
        exact ⟨⟨trivial, by simpa using ‹¬b = 0›⟩, ⟨‹a < c›, h2⟩, h3⟩
    · split
      · split
        · exact memWfAbove_none r c h3
        · subst ‹a = c›
          simp only [memWfAbove, Bool.and_eq_true]
          exact ⟨⟨trivial, by simpa using ‹¬b = 0›⟩, h3⟩
      · simp only [memWfAbove, Bool.and_eq_true]
        exact ⟨⟨trivial, h2⟩, memWfAbove_memWrite r c a b (by omega) h3⟩

/-- A write of several bytes keeps the canonical form. -/
theorem memWf_memWrites (m : Mem) (a : Nat) (bs : List Byte) (h : memWf m = true) : memWf (memWrites m a bs) = true := by
  induction bs generalizing m a with
  | nil => exact h
  | cons b bs ih => exact ih _ _ (memWf_memWrite m a b h)

theorem memRead_memWrite_above (m : Mem) (lo : Option Nat) (a x : Nat) (b : Byte) (hlo : ∀ l, lo = some l → l < a)
    (h : memWfAbove lo m = true) : memRead (memWrite m a b) x = if x = a then b else memRead m x := by
  induction m generalizing lo with
  | nil =>
    simp only [memWrite]
    by_cases hb : b = 0
    · simp only [hb, if_true, memRead, ite_self]
    · simp only [hb, if_false, memRead, eq_comm (a := a)]
  | cons y r ih =>
    obtain ⟨c, d⟩ := y
    simp only [memWfAbove, Bool.and_eq_true] at h
    obtain ⟨⟨-, -⟩, h3⟩ := h
    simp only [memWrite]
    by_cases hac : a < c
    · simp only [hac, if_true]
      by_cases hb : b = 0
      · simp only [hb, if_true]
        by_cases hx : x = a
        · rw [if_pos hx, memRead, if_neg (by omega), memRead_below r c x h3 (by omega)]
        · rw [if_neg hx]
      · rw [if_neg hb, memRead]
        by_cases hx : x = a
        · rw [if_pos hx, if_pos hx.symm]
        · rw [if_neg hx, if_neg (fun e => hx e.symm)]
    · simp only [hac, if_false]
      by_cases hc : a = c
      · subst hc
        simp only [if_true]
        by_cases hx : x = a
        · subst hx
          rw [if_pos rfl]
          by_cases hb : b = 0
          · rw [if_pos hb, memRead_below r x x h3 (Nat.le_refl x), hb]
          · rw [if_neg hb, memRead, if_pos rfl]
        · have hx' : ¬ a = x := fun e => hx e.symm
          rw [if_neg hx]
          by_cases hb : b = 0
          · rw [if_pos hb, memRead, if_neg hx']
          · rw [if_neg hb, memRead, if_neg hx', memRead, if_neg hx']
      · simp only [hc, if_false, memRead]
        by_cases hcx : c = x
        · rw [if_pos hcx, if_neg (by omega), if_pos hcx]
        · rw [if_neg hcx, if_neg hcx]
          exact ih (some c) (fun l e => by cases e; omega) h3

/-- A read after a write: the written byte at its address, every other byte as before. -/
theorem memRead_memWrite (m : Mem) (a x : Nat) (b : Byte) (h : memWf m = true) :
    memRead (memWrite m a b) x = if x = a then b else memRead m x :=
  memRead_memWrite_above m none a x b (fun _ e => by cases e) h

/-- A read after a write of several bytes. -/
theorem memRead_memWrites (m : Mem) (a x : Nat) (bs : List Byte) (h : memWf m = true) :
    memRead (memWrites m a bs) x = if a ≤ x ∧ x < a + bs.length then bs.getD (x - a) 0 else memRead m x := by
  induction bs generalizing m a with
  | nil => rw [if_neg (by simp only [List.length_nil]; omega), memWrites]
  | cons b bs ih =>
    rw [memWrites, ih _ _ (memWf_memWrite m a b h), memRead_memWrite m a x b h, List.length_cons]
    by_cases hx : x = a
    · subst hx
      rw [if_neg (by omega), if_pos rfl, if_pos (by omega), Nat.sub_self]
      rfl
    · by_cases hr : a + 1 ≤ x ∧ x < a + 1 + bs.length
      · rw [if_pos hr, if_pos (by omega)]
        obtain ⟨n, hn⟩ : ∃ n, x - a = n + 1 := ⟨x - a - 1, by omega⟩
        rw [hn, show x - (a + 1) = n by omega]
        rfl
      · rw [if_neg hr, if_neg hx, if_neg (by omega)]

theorem memReads_length (m : Mem) (a n : Nat) : (memReads m a n).length = n := by
  induction n generalizing a with
  | zero => rfl
  | succ n ih => simp only [memReads, List.length_cons, ih]

end Sys2Proof.Machine
end

