-- ==== Sys2Proof/Laws/Ply.lean ====
section
/-! SUPPORT. What a Ply instruction does once it issues: one lemma for plyStep, so that no later proof opens it, and the
write of lanes in the terms of Safety.lanesWritten. -/

namespace Sys2Proof.Machine

open Sys2Proof.Safety

/-- An instruction that issues runs, and its context has had its turn (R180). -/
theorem plyStep_issues {s : State} {c : CtxId} {w : Word} {op : Nat} {x : Context} {img : Image} (h : Issues s c w op x img)
    (run : Context → Image → FuncEntry → State) :
    plyStep s c w op run = .next (markIssued (run x img (funcAt img.ply x.func)) c) := by
  obtain ⟨h1, h2, h3, h4, h5, h6, h7, h8, h9, h10⟩ := h
  simp only [plyStep, h3, h4, h1, h2, h5, h6, h7, h8, h9, h10, beq_self_eq_true, Bool.not_false, Bool.and_true, if_true]

/-- An instruction of a context that cannot issue changes nothing. -/
theorem plyStep_idle {s : State} {c : CtxId} {w : Word} {op : Nat} (run : Context → Image → FuncEntry → State)
    (h : s.running = false ∨ s.spindles.stopped = true ∨ ctxAt s c = none ∨ ∃ x, ctxAt s c = some x ∧ x.state ≠ .running) :
    plyStep s c w op run = .next s := by
  unfold plyStep
  rcases h with h | h | h | ⟨x, h, hs⟩
  · simp only [h, Bool.false_and, Bool.false_eq_true, if_false]; split <;> try rfl
    split <;> rfl
  · simp only [h, Bool.not_true, Bool.and_false, Bool.false_and, Bool.false_eq_true, if_false]; split <;> try rfl
    split <;> rfl
  · simp only [h]
  · have : (x.state == CtxState.running) = false := by simpa using hs
    simp only [h, this, Bool.and_false, Bool.false_and, Bool.false_eq_true, if_false]; split <;> rfl

/-- A register write keeps the tag rule of R187: kept in the 8-bit view, cleared otherwise. -/
theorem writeLanes_eq (x : Context) (w : Word) (dst view : Nat) (f : Nat → Nat) :
    writeLanes x w dst view ((List.range (laneCount view)).map f) =
      lanesWritten x w dst view f (if view = 0 then vtag x dst else 0) := by
  simp only [writeLanes, lanesWritten, setVreg, selected]
  congr 2
  congr 1
  refine List.ext_getElem (by simp) (fun j h1 h2 => ?_)
  simp only [List.getElem_mapIdx, List.getElem_map, List.getElem_range]
  cases plyPredicated w <;> cases predLane view (preg x (plyPred w)) j <;> rfl

end Sys2Proof.Machine
end

