-- ==== Sys2Proof/Laws/Stores.lean ====
section
/-! SUPPORT. Every operation keeps the byte memories in canonical form: the window, the tensors, local SRAM and
the optimiser shards. -/

set_option maxRecDepth 4000
set_option linter.unusedSimpArgs false
set_option linter.unusedVariables false

namespace Sys2Proof.Machine

open Sys2Proof.Safety

theorem memoriesOk_congr (ks : List Nat) (h9 : 9 ∉ ks) (h10 : 10 ∉ ks) (h29 : 29 ∉ ks) (h24 : 24 ∉ ks) (s t : State)
    (h : forget ks s = forget ks t) : memoriesOk s = memoriesOk t := by
  have e9 := congrArg State.window h
  have e10 := congrArg State.tensors h
  have e11 := congrArg (fun x => x.spindles.sram) h
  have e13 := congrArg (fun x => x.dense.slots) h
  simp only [forget, h9, h10, if_false] at e9 e10
  have e : s.dense.slots = t.dense.slots := by
    by_cases k : 13 ∈ ks <;> simpa only [forget, forgetDense, k, h24, if_true, if_false] using e13
  have e' : s.spindles.sram = t.spindles.sram := by
    by_cases k : 11 ∈ ks <;> simpa only [forget, forgetSpindles, k, h29, if_true, if_false] using e11
  simp only [memoriesOk, e9, e10, e', e]

theorem mem_ite (c : Prop) [Decidable c] (a b : State) :
    memoriesOk (if c then a else b) = if c then memoriesOk a else memoriesOk b := by
  split <;> rfl

theorem mem_foldl {α : Type} (f : State → α → State) (hf : ∀ s a, memoriesOk s = true → memoriesOk (f s a) = true)
    (xs : List α) (s : State) (h : memoriesOk s = true) : memoriesOk (xs.foldl f s) = true := by
  induction xs generalizing s with
  | nil => exact h
  | cons x xs ih => exact ih _ (hf s x h)

theorem memoriesOk_iff (s : State) : memoriesOk s = true ↔ memWf s.window = true ∧ (∀ t ∈ s.tensors, memWf t.2 = true) ∧
    (∀ t ∈ s.spindles.sram, memWf t.2 = true) ∧ (∀ t ∈ s.dense.slots, memWf t.2 = true) := by
  simp only [memoriesOk, Bool.and_eq_true, List.all_eq_true, and_assoc]

theorem mem_setSupply (s : State) (v) : memoriesOk (s.setSupply v) = memoriesOk s := rfl

theorem mem_setRegs (s : State) (v) : memoriesOk (s.setRegs v) = memoriesOk s := rfl

theorem mem_setRings (s : State) (v) : memoriesOk (s.setRings v) = memoriesOk s := rfl

theorem mem_setCfg (s : State) (v) : memoriesOk (s.setCfg v) = memoriesOk s := rfl

theorem mem_setSteps (s : State) (v) : memoriesOk (s.setSteps v) = memoriesOk s := rfl

theorem mem_setTables (s : State) (v) : memoriesOk (s.setTables v) = memoriesOk s := rfl

theorem mem_setPrograms (s : State) (v) : memoriesOk (s.setPrograms v) = memoriesOk s := rfl

theorem mem_setLattices (s : State) (v) : memoriesOk (s.setLattices v) = memoriesOk s := rfl

theorem mem_setOwners (s : State) (v) : memoriesOk (s.setOwners v) = memoriesOk s := rfl

theorem mem_setLinks (s : State) (v) : memoriesOk (s.setLinks v) = memoriesOk s := rfl

theorem mem_setPower (s : State) (v) : memoriesOk (s.setPower v) = memoriesOk s := rfl

theorem mem_setSecuring (s : State) (v) : memoriesOk (s.setSecuring v) = memoriesOk s := rfl

theorem mem_setOutputs (s : State) (v) : memoriesOk (s.setOutputs v) = memoriesOk s := rfl

theorem mem_setSecurity (s : State) (v) : memoriesOk (s.setSecurity v) = memoriesOk s := rfl

theorem mem_setTelemetry (s : State) (v) : memoriesOk (s.setTelemetry v) = memoriesOk s := rfl

theorem mem_setSequences (s : State) (v) : memoriesOk (s.setSequences v) = memoriesOk s := rfl

theorem mem_setFreeCount (s : State) (v) : memoriesOk (s.setFreeCount v) = memoriesOk s := rfl

theorem aPut_mem {κ α : Type} [DecidableEq κ] (m : Assoc κ α) (k : κ) (v : α) (x : κ × α) (h : x ∈ aPut m k v) :
    x = (k, v) ∨ x ∈ m := by
  induction m with
  | nil => simpa [aPut] using h
  | cons y r ih =>
    obtain ⟨a, b⟩ := y
    simp only [aPut] at h
    split at h
    · rcases List.mem_cons.mp h with h | h
      · exact .inl h
      · exact .inr (List.mem_cons_of_mem _ h)
    · rcases List.mem_cons.mp h with h | h
      · exact .inr (h ▸ List.mem_cons_self)
      · rcases ih h with h | h
        · exact .inl h
        · exact .inr (List.mem_cons_of_mem _ h)

theorem aGet_mem {κ α : Type} [DecidableEq κ] (m : Assoc κ α) (k : κ) (v : α) (h : aGet m k = some v) : (k, v) ∈ m := by
  induction m with
  | nil => simp [aGet] at h
  | cons y r ih =>
    obtain ⟨a, b⟩ := y
    simp only [aGet] at h
    split at h
    · cases h
      subst ‹a = k›
      exact List.mem_cons_self
    · exact List.mem_cons_of_mem _ (ih h)

theorem mem_setWindow (s : State) (v : Mem) (h : memoriesOk s = true) (hv : memWf v = true) : memoriesOk (s.setWindow v) = true := by
  rw [memoriesOk_iff] at h ⊢
  exact ⟨hv, h.2⟩

theorem mem_setTensorsAll (s : State) (v : Assoc Nat Mem) (h : memoriesOk s = true) (hv : ∀ t ∈ v, memWf t.2 = true) :
    memoriesOk (s.setTensors v) = true := by
  rw [memoriesOk_iff] at h ⊢
  exact ⟨h.1, hv, h.2.2⟩

theorem mem_setSpindles (s : State) (v : Spindles) (h : memoriesOk s = true)
    (hv : ∀ t ∈ v.sram, memWf t.2 = true) : memoriesOk (s.setSpindles v) = true := by
  rw [memoriesOk_iff] at h ⊢
  exact ⟨h.1, h.2.1, hv, h.2.2.2⟩

theorem mem_setSpindles_same (s : State) (v : Spindles) (e : v.sram = s.spindles.sram) :
    memoriesOk (s.setSpindles v) = memoriesOk s := by
  simp only [memoriesOk, State.setSpindles, e]

theorem mem_setDense (s : State) (v : Dense) (h : memoriesOk s = true) (hv : ∀ t ∈ v.slots, memWf t.2 = true) :
    memoriesOk (s.setDense v) = true := by
  rw [memoriesOk_iff] at h ⊢
  exact ⟨h.1, h.2.1, h.2.2.1, hv⟩

theorem mem_setDense_same (s : State) (v : Dense) (e : v.slots = s.dense.slots) : memoriesOk (s.setDense v) = memoriesOk s := by
  simp only [memoriesOk, State.setDense, e]

theorem memWf_tensorMem (s : State) (id : Nat) (h : memoriesOk s = true) : memWf (tensorMem s id) = true := by
  unfold tensorMem
  cases e : aGet s.tensors id with
  | none => rfl
  | some m => exact ((memoriesOk_iff s).mp h).2.1 _ (aGet_mem _ _ _ e)

theorem memWf_slotMem (s : State) (id k : Nat) (h : memoriesOk s = true) : memWf (slotMem s id k) = true := by
  unfold slotMem
  cases e : aGet s.dense.slots (id, k) with
  | none => rfl
  | some m => exact ((memoriesOk_iff s).mp h).2.2.2 _ (aGet_mem _ _ _ e)

theorem memWf_sramOf (s : State) (die sp : Nat) (h : memoriesOk s = true) : memWf (sramOf s die sp) = true := by
  unfold sramOf
  cases e : aGet s.spindles.sram (die, sp) with
  | none => rfl
  | some m => exact ((memoriesOk_iff s).mp h).2.2.1 _ (aGet_mem _ _ _ e)

theorem memWf_foldl {α : Type} (f : Mem → α → Mem) (hf : ∀ m a, memWf m = true → memWf (f m a) = true) (xs : List α) (m : Mem)
    (h : memWf m = true) : memWf (xs.foldl f m) = true := by
  induction xs generalizing m with
  | nil => exact h
  | cons x xs ih => exact ih _ (hf m x h)

theorem memWf_writeBits (m : Mem) (p w v : Nat) (h : memWf m = true) : memWf (writeBits m p w v) = true := by
  unfold writeBits
  exact memWf_memWrites _ _ _ h

theorem memWf_writeElem (m : Mem) (code i v : Nat) (h : memWf m = true) : memWf (writeElem m code i v) = true :=
  memWf_writeBits _ _ _ _ h

theorem memWf_writeScale (m : Mem) (d : TensorDecl) (i b : Nat) (h : memWf m = true) : memWf (writeScale m d i b) = true :=
  memWf_memWrite _ _ _ h

theorem memWf_writeElems (m : Mem) (code i : Nat) (vs : List Nat) (h : memWf m = true) : memWf (writeElems m code i vs) = true := by
  induction vs generalizing m i with
  | nil => exact h
  | cons v vs ih => exact ih _ _ (memWf_writeElem _ _ _ _ h)

theorem memWf_foldl_fst {α β : Type} (f : Mem × β → α → Mem × β) (hf : ∀ m a, memWf m.1 = true → memWf (f m a).1 = true)
    (xs : List α) (m : Mem × β) (h : memWf m.1 = true) : memWf (xs.foldl f m).1 = true := by
  induction xs generalizing m with
  | nil => exact h
  | cons x xs ih => exact ih _ (hf m x h)

theorem memWf_convertInto (m : Mem) (d : TensorDecl) (k : NoiseKey) (first : Nat) (vals : List FVal) (h : memWf m = true) :
    memWf (convertInto m d k first vals).1 = true := by
  unfold convertInto
  split
  · exact memWf_foldl_fst _ (fun m a hm => memWf_writeScale _ _ _ _ (memWf_writeElems _ _ _ _ hm)) _ _ h
  · exact memWf_foldl_fst _ (fun m a hm => memWf_writeElem _ _ _ _ hm) _ _ h

theorem memWf_patchTensor (m : Mem) (d : TensorDecl) (k : Nat → NoiseKey) (first count : Nat)
    (vals : Assoc Nat (Nat × FVal)) (h : memWf m = true) : memWf (patchTensor m d k first count vals) = true := by
  unfold patchTensor
  repeat' (first
    | with_reducible assumption
    | (with_reducible refine memWf_foldl _ (fun m a hm => ?_) _ _ ?_)
    | (with_reducible refine memWf_convertInto _ _ _ _ _ ?_)
    | dsimp only
    | split)

theorem memWf_clearGrain (m : Mem) (d : TensorDecl) (g : Nat) (h : memWf m = true) : memWf (clearGrain m d g) = true := by
  unfold clearGrain
  repeat' (first
    | with_reducible assumption
    | (with_reducible refine memWf_foldl _ (fun m a hm => ?_) _ _ ?_)
    | (with_reducible refine memWf_writeScale _ _ _ _ ?_)
    | (with_reducible refine memWf_writeElem _ _ _ _ ?_)
    | (with_reducible refine memWf_memWrites _ _ _ ?_)
    | (with_reducible refine memWf_memWrite _ _ _ ?_)
    | dsimp only
    | split)

theorem memWf_storeRaw (x : Context) (w : Word) (rs : List (Nat × Nat × Nat × Nat)) (slot : Nat) (d : TensorDecl) (m : Mem)
    (i : Nat) (h : memWf m = true) : memWf (storeRaw x w rs slot d m i).1 = true := by
  unfold storeRaw
  repeat' (first
    | exact h
    | (refine memWf_foldl _ (fun m a hm => ?_) _ _ ?_)
    | (refine memWf_writeElem _ _ _ _ ?_; assumption)
    | (refine memWf_writeScale _ _ _ _ ?_)
    | assumption
    | dsimp only
    | split)

theorem memWf_storeConverted (s : State) (x : Context) (w : Word) (rs : List (Nat × Nat × Nat × Nat)) (slot : Nat)
    (d : TensorDecl) (m : Mem) (i : Nat) (h : memWf m = true) : memWf (storeConverted s x w rs slot d m i).1 = true := by
  unfold storeConverted
  dsimp only
  repeat' (first
    | with_reducible assumption
    | (with_reducible refine memWf_foldl _ (fun m a hm => ?_) _ _ ?_)
    | (with_reducible refine memWf_convertInto _ _ _ _ _ ?_)
    | dsimp only
    | split)

theorem memWf_nil : memWf [] = true := rfl

theorem memWf_mem_setTensor (s : State) (id : Nat) (m : Mem) (h : memoriesOk s = true) (hm : memWf m = true) :
    memoriesOk (setTensor s id m) = true := by
  refine mem_setTensorsAll s _ h (fun t ht => ?_)
  rcases aPut_mem _ _ _ _ ht with e | e
  · subst e
    exact hm
  · exact ((memoriesOk_iff s).mp h).2.1 t e

theorem memWf_mem_setSlot (s : State) (id k : Nat) (m : Mem) (h : memoriesOk s = true) (hm : memWf m = true) :
    memoriesOk (setSlot s id k m) = true := by
  refine mem_setDense s _ h (fun t ht => ?_)
  rcases aPut_mem _ _ _ _ ht with e | e
  · subst e
    exact hm
  · exact ((memoriesOk_iff s).mp h).2.2.2 t e

theorem memWf_mem_setSram (s : State) (die sp : Nat) (m : Mem) (h : memoriesOk s = true) (hm : memWf m = true) :
    memoriesOk (setSram s die sp m) = true := by
  refine mem_setSpindles s _ h (fun t ht => ?_)
  rcases aPut_mem _ _ _ _ ht with e | e
  · subst e
    exact hm
  · exact ((memoriesOk_iff s).mp h).2.2.1 t e

theorem mem_bump (s : State) :
    memoriesOk (State.bump s) = memoriesOk s :=
  memoriesOk_congr [21] (by decide) (by decide) (by decide) (by decide) _ _ (forget_bump [21] (by decide) _)

theorem mem_postEvent (s : State) (die : Nat) (step : Nat) (body : EventBody) :
    memoriesOk (postEvent s die step body) = memoriesOk s :=
  memoriesOk_congr [3, 16, 20] (by decide) (by decide) (by decide) (by decide) _ _ (forget_postEvent [3, 16, 20] (by decide) (by decide) (by decide) _ _ _ _)

theorem mem_markBegun (s : State) (d : Sub) :
    memoriesOk (markBegun s d) = memoriesOk s :=
  memoriesOk_congr [3] (by decide) (by decide) (by decide) (by decide) _ _ (forget_markBegun [3] (by decide) _ _)

theorem mem_finishWith (s : State) (d : Sub) (status : Status) (error : Nat) (d0 : Nat) (d1 : Nat) :
    memoriesOk (finishWith s d status error d0 d1) = memoriesOk s :=
  memoriesOk_congr [3] (by decide) (by decide) (by decide) (by decide) _ _ (forget_finishWith [3] (by decide) _ _ _ _ _ _)

theorem mem_finish (s : State) (d : Sub) (status : Status) :
    memoriesOk (finish s d status) = memoriesOk s :=
  memoriesOk_congr [3] (by decide) (by decide) (by decide) (by decide) _ _ (forget_finish [3] (by decide) _ _ _)

theorem mem_beginCommand (s : State) (d : Sub) (mine : Bool) (na : Nat) (run : State → State) (hr : ∀ x, memoriesOk x = true → memoriesOk (run x) = true)
    (hm : memoriesOk s = true) : memoriesOk (endState s (beginCommand s d mine na run)) = true := by
  unfold beginCommand
  split
  · split
    · exact (mem_finishWith _ _ _ _ _ _).trans ((mem_markBegun _ _).trans hm)
    · exact hr _ ((mem_markBegun _ _).trans hm)
  · exact hm

theorem mem_windowWrite (s : State) (off : Nat) (bs : List Byte)
    (hm : memoriesOk s = true) : memoriesOk (windowWrite s off bs) = true := by
  exact mem_setWindow s _ hm (memWf_memWrites _ _ _ ((memoriesOk_iff s).mp hm).1)

theorem mem_countOutOfFootprint (s : State) (n : Nat) :
    memoriesOk (countOutOfFootprint s n) = memoriesOk s :=
  memoriesOk_congr [19] (by decide) (by decide) (by decide) (by decide) _ _ (forget_countOutOfFootprint [19] (by decide) _ _)

theorem mem_countTier (s : State) (tier : Nat) (field : Nat) (n : Nat) :
    memoriesOk (countTier s tier field n) = memoriesOk s :=
  memoriesOk_congr [19] (by decide) (by decide) (by decide) (by decide) _ _ (forget_countTier [19] (by decide) _ _ _ _)

theorem mem_pump (s : State) :
    memoriesOk (pump s) = memoriesOk s :=
  memoriesOk_congr [14] (by decide) (by decide) (by decide) (by decide) _ _ (forget_pump [14] (by decide) _)

theorem mem_memberLost (s : State) (named : Option Nat) (reason : Nat) (step : Nat) :
    memoriesOk (memberLost s named reason step) = memoriesOk s :=
  memoriesOk_congr [3, 16, 20] (by decide) (by decide) (by decide) (by decide) _ _ (forget_memberLost [3, 16, 20] (by decide) (by decide) (by decide) _ _ _ _)

theorem mem_flowFor (s : State) (key : List Nat) :
    memoriesOk (flowFor s key).1 = memoriesOk s :=
  memoriesOk_congr [14] (by decide) (by decide) (by decide) (by decide) _ _ (forget_flowFor [14] (by decide) _ _)

theorem mem_sendFlow (s : State) (dest : Nat) (flow : Word32) (body : MsgBody) :
    memoriesOk (sendFlow s dest flow body) = memoriesOk s :=
  memoriesOk_congr [3, 14, 16, 20] (by decide) (by decide) (by decide) (by decide) _ _ (forget_sendFlow [3, 14, 16, 20] (by decide) (by decide) (by decide) (by decide) _ _ _ _)

theorem mem_sendTo (s : State) (dest : Nat) (key : List Nat) (body : MsgBody) :
    memoriesOk (sendTo s dest key body) = memoriesOk s :=
  memoriesOk_congr [3, 14, 16, 20] (by decide) (by decide) (by decide) (by decide) _ _ (forget_sendTo [3, 14, 16, 20] (by decide) (by decide) (by decide) (by decide) _ _ _ _)

theorem mem_execPortTrainingEnd (port : Nat) (signal : Bool) (trained : List Nat) (locked : List Nat) (s : State) :
    memoriesOk (endState s (execPortTrainingEnd port signal trained locked s)) = memoriesOk s :=
  memoriesOk_congr [3, 14, 16, 20, 21] (by decide) (by decide) (by decide) (by decide) _ _ (forget_execPortTrainingEnd [3, 14, 16, 20, 21] (by decide) (by decide) (by decide) (by decide) (by decide) _ _ _ _ _)

theorem mem_execPortRetry (port : Nat) (s : State) :
    memoriesOk (endState s (execPortRetry port s)) = memoriesOk s :=
  memoriesOk_congr [14] (by decide) (by decide) (by decide) (by decide) _ _ (forget_execPortRetry [14] (by decide) _ _)

theorem mem_execHello (port : Nat) (jobId : List Byte) (member : Nat) (peerPort : Nat) (salt : List Byte) (s : State) :
    memoriesOk (endState s (execHello port jobId member peerPort salt s)) = memoriesOk s :=
  memoriesOk_congr [3, 14, 16, 20] (by decide) (by decide) (by decide) (by decide) _ _ (forget_execHello [3, 14, 16, 20] (by decide) (by decide) (by decide) (by decide) _ _ _ _ _ _)

theorem mem_execConfirmation (port : Nat) (senderSalt : List Byte) (receiverSalt : List Byte) (tagValid : Bool) (s : State) :
    memoriesOk (endState s (execConfirmation port senderSalt receiverSalt tagValid s)) = memoriesOk s :=
  memoriesOk_congr [3, 14, 16, 20] (by decide) (by decide) (by decide) (by decide) _ _ (forget_execConfirmation [3, 14, 16, 20] (by decide) (by decide) (by decide) (by decide) _ _ _ _ _)

theorem mem_execCreditAdvertisement (port : Nat) (sizes : List Nat) (s : State) :
    memoriesOk (endState s (execCreditAdvertisement port sizes s)) = memoriesOk s :=
  memoriesOk_congr [3, 14, 16, 20] (by decide) (by decide) (by decide) (by decide) _ _ (forget_execCreditAdvertisement [3, 14, 16, 20] (by decide) (by decide) (by decide) (by decide) _ _ _)

theorem mem_acceptFrame (s : State) (rx : Rx) (cls : Nat) (stream : Bool) :
    ∀ t, acceptFrame s rx cls stream = some t → memoriesOk t = memoriesOk s :=
  fun t h => memoriesOk_congr [14] (by decide) (by decide) (by decide) (by decide) _ _ (forget_acceptFrame [14] (by decide) _ _ _ _ t h)

theorem mem_replenish (s : State) (rx : Rx) (kind : Nat) :
    memoriesOk (replenish s rx kind) = memoriesOk s :=
  memoriesOk_congr [3, 14, 16, 20] (by decide) (by decide) (by decide) (by decide) _ _ (forget_replenish [3, 14, 16, 20] (by decide) (by decide) (by decide) (by decide) _ _ _)

theorem mem_execKeepaliveSend (port : Nat) (s : State) :
    memoriesOk (endState s (execKeepaliveSend port s)) = memoriesOk s :=
  memoriesOk_congr [14] (by decide) (by decide) (by decide) (by decide) _ _ (forget_execKeepaliveSend [14] (by decide) _ _)

theorem mem_execKeepalive (port : Nat) (s : State) :
    memoriesOk (endState s (execKeepalive port s)) = memoriesOk s :=
  memoriesOk_congr [14] (by decide) (by decide) (by decide) (by decide) _ _ (forget_execKeepalive [14] (by decide) _ _)

theorem mem_execLivenessLost (port : Nat) (s : State) :
    memoriesOk (endState s (execLivenessLost port s)) = memoriesOk s :=
  memoriesOk_congr [3, 14, 16, 20] (by decide) (by decide) (by decide) (by decide) _ _ (forget_execLivenessLost [3, 14, 16, 20] (by decide) (by decide) (by decide) (by decide) _ _)

theorem mem_execLaneFailure (port : Nat) (lane : Nat) (s : State) :
    memoriesOk (endState s (execLaneFailure port lane s)) = memoriesOk s :=
  memoriesOk_congr [3, 14, 16, 20] (by decide) (by decide) (by decide) (by decide) _ _ (forget_execLaneFailure [3, 14, 16, 20] (by decide) (by decide) (by decide) (by decide) _ _ _)

theorem mem_execReStripe (port : Nat) (failedLane : Nat) (mask : Nat) (_seq : Word32) (s : State) :
    memoriesOk (endState s (execReStripe port failedLane mask _seq s)) = memoriesOk s :=
  memoriesOk_congr [3, 14, 16, 20] (by decide) (by decide) (by decide) (by decide) _ _ (forget_execReStripe [3, 14, 16, 20] (by decide) (by decide) (by decide) (by decide) _ _ _ _ _)

theorem mem_execReplayRequest (port : Nat) (seq : Word32) (s : State) :
    memoriesOk (endState s (execReplayRequest port seq s)) = memoriesOk s :=
  memoriesOk_congr [14] (by decide) (by decide) (by decide) (by decide) _ _ (forget_execReplayRequest [14] (by decide) _ _ _)

theorem mem_execFrameDiscard (port : Nat) (badTag : Bool) (s : State) :
    memoriesOk (endState s (execFrameDiscard port badTag s)) = memoriesOk s :=
  memoriesOk_congr [3, 14, 16, 20] (by decide) (by decide) (by decide) (by decide) _ _ (forget_execFrameDiscard [3, 14, 16, 20] (by decide) (by decide) (by decide) (by decide) _ _ _)

theorem mem_execCredit (rx : Rx) (ack : Word32) (units : List Nat) (s : State) :
    memoriesOk (endState s (execCredit rx ack units s)) = memoriesOk s :=
  memoriesOk_congr [14] (by decide) (by decide) (by decide) (by decide) _ _ (forget_execCredit [14] (by decide) _ _ _ _)

theorem mem_execFrameForward (port : Nat) (dest : Nat) (source : Nat) (cls : Nat) (stream : Bool) (hops : Nat) (epoch : Bool) (kind : Nat) (length : Nat) (flow : Word32) (s : State) :
    memoriesOk (endState s (execFrameForward port dest source cls stream hops epoch kind length flow s)) = memoriesOk s :=
  memoriesOk_congr [3, 14, 16, 20] (by decide) (by decide) (by decide) (by decide) _ _ (forget_execFrameForward [3, 14, 16, 20] (by decide) (by decide) (by decide) (by decide) _ _ _ _ _ _ _ _ _ _ _)

theorem mem_execReservedFrameKind (rx : Rx) (kind : FrameKind) (s : State) :
    memoriesOk (endState s (execReservedFrameKind rx kind s)) = memoriesOk s :=
  memoriesOk_congr [3, 14, 16, 20] (by decide) (by decide) (by decide) (by decide) _ _ (forget_execReservedFrameKind [3, 14, 16, 20] (by decide) (by decide) (by decide) (by decide) _ _ _)

theorem mem_receive (s : State) (rx : Rx) (kind : Nat) (body : MsgBody) (layoutOk : Bool) (run : State → State) (hr : ∀ x, memoriesOk x = true → memoriesOk (run x) = true)
    (hm : memoriesOk s = true) : memoriesOk (endState s (receive s rx kind body layoutOk run)) = true := by
  unfold receive
  split
  · exact hm
  · have e := (mem_acceptFrame _ _ _ _ _ ‹_›).trans hm
    split
    · exact (mem_replenish _ _ _).trans (hr _ e)
    · exact (mem_memberLost _ _ _ _).trans e

theorem mem_setCtx (s : State) (c : CtxId) (x : Context) :
    memoriesOk (setCtx s c x) = memoriesOk s :=
  memoriesOk_congr [11] (by decide) (by decide) (by decide) (by decide) _ _ (forget_setCtx [11] (by decide) _ _ _)

theorem mem_storeValues (s : State) (rs : List (Nat × Nat × Nat × Nat)) (slot : Nat) (d : TensorDecl) (k : NoiseKey) (first : Nat) (vals : List FVal) (mask : Nat → Bool)
    (hm : memoriesOk s = true) : memoriesOk (storeValues s rs slot d k first vals mask) = true := by
  unfold storeValues
  have hw := memWf_tensorMem s d.id hm
  refine memWf_mem_setTensor _ _ _ hm ?_
  split
  · refine memWf_foldl _ (fun m a hv => ?_) _ _ hw
    dsimp only
    split
    · exact memWf_convertInto _ _ _ _ _ hv
    · exact hv
  · refine memWf_foldl _ (fun m a hv => ?_) _ _ hw
    dsimp only
    split
    · split
      · exact memWf_writeElem _ _ _ _ hv
      · exact memWf_convertInto _ _ _ _ _ hv
    · exact hv

theorem mem_markIssued (s : State) (c : CtxId) :
    memoriesOk (markIssued s c) = memoriesOk s :=
  memoriesOk_congr [11] (by decide) (by decide) (by decide) (by decide) _ _ (forget_markIssued [11] (by decide) _ _)

theorem mem_plyStep (s : State) (c : CtxId) (w : Word) (op : Nat) (run : Context → Image → FuncEntry → State) (hr : ∀ x y z, memoriesOk (run x y z) = true)
    (hm : memoriesOk s = true) : memoriesOk (endState s (plyStep s c w op run)) = true := by
  unfold plyStep
  repeat' (first
    | with_reducible assumption
    | with_reducible rfl
    | simp (maxDischargeDepth := 12) only [mem_ite, endState_next, endState_ite, endState_fault, ite_self, mem_markIssued, hr, hm]
    | split)

theorem mem_setQueue (s : State) (q : QueueId) (v : Queue) :
    memoriesOk (setQueue s q v) = memoriesOk s :=
  memoriesOk_congr [11] (by decide) (by decide) (by decide) (by decide) _ _ (forget_setQueue [11] (by decide) _ _ _)

theorem mem_execMov (c : CtxId) (w : Word) (s : State) :
    memoriesOk (endState s (execMov c w s)) = memoriesOk s :=
  memoriesOk_congr [11] (by decide) (by decide) (by decide) (by decide) _ _ (forget_execMov [11] (by decide) _ _ _)

theorem mem_execMovi (c : CtxId) (w : Word) (s : State) :
    memoriesOk (endState s (execMovi c w s)) = memoriesOk s :=
  memoriesOk_congr [11] (by decide) (by decide) (by decide) (by decide) _ _ (forget_execMovi [11] (by decide) _ _ _)

theorem mem_execMovhi (c : CtxId) (w : Word) (s : State) :
    memoriesOk (endState s (execMovhi c w s)) = memoriesOk s :=
  memoriesOk_congr [11] (by decide) (by decide) (by decide) (by decide) _ _ (forget_execMovhi [11] (by decide) _ _ _)

theorem mem_execAlu (c : CtxId) (w : Word) (s : State) :
    memoriesOk (endState s (execAlu c w s)) = memoriesOk s :=
  memoriesOk_congr [11] (by decide) (by decide) (by decide) (by decide) _ _ (forget_execAlu [11] (by decide) _ _ _)

theorem mem_execAlui (c : CtxId) (w : Word) (s : State) :
    memoriesOk (endState s (execAlui c w s)) = memoriesOk s :=
  memoriesOk_congr [11] (by decide) (by decide) (by decide) (by decide) _ _ (forget_execAlui [11] (by decide) _ _ _)

theorem mem_execCmp (c : CtxId) (w : Word) (s : State) :
    memoriesOk (endState s (execCmp c w s)) = memoriesOk s :=
  memoriesOk_congr [11] (by decide) (by decide) (by decide) (by decide) _ _ (forget_execCmp [11] (by decide) _ _ _)

theorem mem_execSel (c : CtxId) (w : Word) (s : State) :
    memoriesOk (endState s (execSel c w s)) = memoriesOk s :=
  memoriesOk_congr [11] (by decide) (by decide) (by decide) (by decide) _ _ (forget_execSel [11] (by decide) _ _ _)

theorem mem_execFop (c : CtxId) (w : Word) (s : State) :
    memoriesOk (endState s (execFop c w s)) = memoriesOk s :=
  memoriesOk_congr [11] (by decide) (by decide) (by decide) (by decide) _ _ (forget_execFop [11] (by decide) _ _ _)

theorem mem_execWiden (c : CtxId) (w : Word) (s : State) :
    memoriesOk (endState s (execWiden c w s)) = memoriesOk s :=
  memoriesOk_congr [11] (by decide) (by decide) (by decide) (by decide) _ _ (forget_execWiden [11] (by decide) _ _ _)

theorem mem_execNarrow (c : CtxId) (w : Word) (s : State) :
    memoriesOk (endState s (execNarrow c w s)) = memoriesOk s :=
  memoriesOk_congr [11] (by decide) (by decide) (by decide) (by decide) _ _ (forget_execNarrow [11] (by decide) _ _ _)

theorem mem_execBcast (c : CtxId) (w : Word) (s : State) :
    memoriesOk (endState s (execBcast c w s)) = memoriesOk s :=
  memoriesOk_congr [11] (by decide) (by decide) (by decide) (by decide) _ _ (forget_execBcast [11] (by decide) _ _ _)

theorem mem_execReduce (c : CtxId) (w : Word) (s : State) :
    memoriesOk (endState s (execReduce c w s)) = memoriesOk s :=
  memoriesOk_congr [11] (by decide) (by decide) (by decide) (by decide) _ _ (forget_execReduce [11] (by decide) _ _ _)

theorem mem_execReadctr (c : CtxId) (w : Word) (s : State) :
    memoriesOk (endState s (execReadctr c w s)) = memoriesOk s :=
  memoriesOk_congr [11] (by decide) (by decide) (by decide) (by decide) _ _ (forget_execReadctr [11] (by decide) _ _ _)

theorem mem_execBr (c : CtxId) (w : Word) (s : State) :
    memoriesOk (endState s (execBr c w s)) = memoriesOk s :=
  memoriesOk_congr [11] (by decide) (by decide) (by decide) (by decide) _ _ (forget_execBr [11] (by decide) _ _ _)

theorem mem_execBrc (c : CtxId) (w : Word) (s : State) :
    memoriesOk (endState s (execBrc c w s)) = memoriesOk s :=
  memoriesOk_congr [11] (by decide) (by decide) (by decide) (by decide) _ _ (forget_execBrc [11] (by decide) _ _ _)

theorem mem_execLoop (c : CtxId) (w : Word) (s : State) :
    memoriesOk (endState s (execLoop c w s)) = memoriesOk s :=
  memoriesOk_congr [11] (by decide) (by decide) (by decide) (by decide) _ _ (forget_execLoop [11] (by decide) _ _ _)

theorem mem_execLoopEnd (c : CtxId) (s : State) :
    memoriesOk (endState s (execLoopEnd c s)) = memoriesOk s :=
  memoriesOk_congr [11] (by decide) (by decide) (by decide) (by decide) _ _ (forget_execLoopEnd [11] (by decide) _ _)

theorem mem_execCall (c : CtxId) (w : Word) (s : State) :
    memoriesOk (endState s (execCall c w s)) = memoriesOk s :=
  memoriesOk_congr [11] (by decide) (by decide) (by decide) (by decide) _ _ (forget_execCall [11] (by decide) _ _ _)

theorem mem_execRet (c : CtxId) (w : Word) (s : State) :
    memoriesOk (endState s (execRet c w s)) = memoriesOk s :=
  memoriesOk_congr [11] (by decide) (by decide) (by decide) (by decide) _ _ (forget_execRet [11] (by decide) _ _ _)

theorem mem_execSignal (c : CtxId) (w : Word) (s : State) :
    memoriesOk (endState s (execSignal c w s)) = memoriesOk s :=
  memoriesOk_congr [11] (by decide) (by decide) (by decide) (by decide) _ _ (forget_execSignal [11] (by decide) _ _ _)

theorem mem_execWait (c : CtxId) (w : Word) (s : State) :
    memoriesOk (endState s (execWait c w s)) = memoriesOk s :=
  memoriesOk_congr [11] (by decide) (by decide) (by decide) (by decide) _ _ (forget_execWait [11] (by decide) _ _ _)

theorem mem_execWaitSatisfied (c : CtxId) (s : State) :
    memoriesOk (endState s (execWaitSatisfied c s)) = memoriesOk s :=
  memoriesOk_congr [11] (by decide) (by decide) (by decide) (by decide) _ _ (forget_execWaitSatisfied [11] (by decide) _ _)

theorem mem_execQuery (c : CtxId) (w : Word) (s : State) :
    memoriesOk (endState s (execQuery c w s)) = memoriesOk s :=
  memoriesOk_congr [11] (by decide) (by decide) (by decide) (by decide) _ _ (forget_execQuery [11] (by decide) _ _ _)

theorem mem_execQueueAccept (q : QueueId) (s : State) :
    memoriesOk (endState s (execQueueAccept q s)) = memoriesOk s :=
  memoriesOk_congr [3, 11, 16, 20] (by decide) (by decide) (by decide) (by decide) _ _ (forget_execQueueAccept [3, 11, 16, 20] (by decide) (by decide) (by decide) (by decide) _ _)

theorem mem_setVersion (s : State) (v : Version) :
    memoriesOk (setVersion s v) = memoriesOk s :=
  memoriesOk_congr [6] (by decide) (by decide) (by decide) (by decide) _ _ (forget_setVersion [6] (by decide) _ _)

theorem mem_setPage (s : State) (p : Page) :
    memoriesOk (setPage s p) = memoriesOk s :=
  memoriesOk_congr [6] (by decide) (by decide) (by decide) (by decide) _ _ (forget_setPage [6] (by decide) _ _)

theorem mem_writeBlock (s : State) (d : TensorDecl) (block : Nat) (step : Nat) (u : UnitVals)
    (hm : memoriesOk s = true) : memoriesOk (writeBlock s d block step u) = true := by
  unfold writeBlock
  repeat' (first
    | with_reducible assumption
    | with_reducible rfl
    | simp (maxDischargeDepth := 12) only [mem_ite, endState_next, endState_ite, endState_fault, ite_self, memWf_clearGrain,
      memWf_convertInto, memWf_mem_setSlot, memWf_mem_setTensor, memWf_patchTensor, memWf_slotMem,
      memWf_storeConverted, memWf_storeRaw, memWf_tensorMem, hm]
    | split
    | (with_reducible refine memWf_mem_setTensor _ _ _ ?_ ?_)
    | (with_reducible refine memWf_tensorMem _ _ ?_)
    | (with_reducible refine memWf_writeElem _ _ _ _ ?_)
    | (with_reducible refine memWf_writeScale _ _ _ _ ?_)
    | (with_reducible refine memWf_convertInto _ _ _ _ _ ?_)
    | (with_reducible refine memWf_patchTensor _ _ _ _ _ _ ?_)
    | (with_reducible refine memWf_clearGrain _ _ _ ?_)
    | (with_reducible refine memWf_memWrites _ _ _ ?_)
    | with_reducible exact memWf_nil
    | (with_reducible refine memWf_slotMem _ _ _ ?_)
    | (with_reducible refine memWf_sramOf _ _ _ ?_)
    | (with_reducible refine memWf_mem_setSlot _ _ _ _ ?_ ?_)
    | (with_reducible refine memWf_tensorMem _ _ ?_)
    | (with_reducible refine memWf_writeElem _ _ _ _ ?_)
    | (with_reducible refine memWf_writeScale _ _ _ _ ?_)
    | (with_reducible refine memWf_convertInto _ _ _ _ _ ?_)
    | (with_reducible refine memWf_patchTensor _ _ _ _ _ _ ?_)
    | (with_reducible refine memWf_clearGrain _ _ _ ?_)
    | (with_reducible refine memWf_memWrites _ _ _ ?_)
    | with_reducible exact memWf_nil
    | (with_reducible refine memWf_slotMem _ _ _ ?_)
    | (with_reducible refine memWf_sramOf _ _ _ ?_))

theorem mem_setStep (s : State) (x : AdmStep) :
    memoriesOk (setStep s x) = memoriesOk s :=
  memoriesOk_congr [5] (by decide) (by decide) (by decide) (by decide) _ _ (forget_setStep [5] (by decide) _ _)

theorem mem_setEval (s : State) (x : EvalReq) :
    memoriesOk (setEval s x) = memoriesOk s :=
  memoriesOk_congr [5] (by decide) (by decide) (by decide) (by decide) _ _ (forget_setEval [5] (by decide) _ _)

theorem mem_execTloadEffect (s : State) (c : CtxId) (w : Word) (x : Context) (img : Image) :
    memoriesOk (execTloadEffect s c w x img) = memoriesOk s :=
  memoriesOk_congr [11, 19] (by decide) (by decide) (by decide) (by decide) _ _ (forget_execTloadEffect [11, 19] (by decide) (by decide) _ _ _ _ _)

theorem mem_execTload (c : CtxId) (w : Word) (s : State) :
    memoriesOk (endState s (execTload c w s)) = memoriesOk s :=
  memoriesOk_congr [11, 19] (by decide) (by decide) (by decide) (by decide) _ _ (forget_execTload [11, 19] (by decide) (by decide) _ _ _)

theorem mem_execTstoreEffect (s : State) (c : CtxId) (w : Word) (x : Context) (img : Image)
    (hm : memoriesOk s = true) : memoriesOk (execTstoreEffect s c w x img) = true := by
  unfold execTstoreEffect
  repeat' (first
    | with_reducible assumption
    | with_reducible rfl
    | simp (maxDischargeDepth := 12) only [mem_ite, endState_next, endState_ite, endState_fault, ite_self, memWf_clearGrain,
      memWf_convertInto, memWf_mem_setTensor, memWf_patchTensor, memWf_storeConverted, memWf_storeRaw,
      memWf_tensorMem, mem_countOutOfFootprint, mem_setCtx, hm]
    | split
    | (with_reducible refine memWf_mem_setTensor _ _ _ ?_ ?_)
    | (with_reducible refine memWf_tensorMem _ _ ?_)
    | (with_reducible refine memWf_writeElem _ _ _ _ ?_)
    | (with_reducible refine memWf_writeScale _ _ _ _ ?_)
    | (with_reducible refine memWf_convertInto _ _ _ _ _ ?_)
    | (with_reducible refine memWf_patchTensor _ _ _ _ _ _ ?_)
    | (with_reducible refine memWf_clearGrain _ _ _ ?_)
    | (with_reducible refine memWf_memWrites _ _ _ ?_)
    | with_reducible exact memWf_nil
    | (with_reducible refine memWf_slotMem _ _ _ ?_)
    | (with_reducible refine memWf_sramOf _ _ _ ?_))

theorem mem_execTstore (c : CtxId) (w : Word) (s : State)
    (hm : memoriesOk s = true) : memoriesOk (endState s (execTstore c w s)) = true := by
  unfold execTstore
  repeat' (first
    | with_reducible assumption
    | with_reducible rfl
    | simp (maxDischargeDepth := 12) only [mem_ite, endState_next, endState_ite, endState_fault, ite_self, hm]
    | split
    | (with_reducible refine mem_plyStep _ _ _ _ _ ?_ hm; intro x y z)
    | (with_reducible refine mem_execTstoreEffect _ _ _ _ _ ?_))

theorem mem_execTmove (c : CtxId) (w : Word) (s : State) :
    memoriesOk (endState s (execTmove c w s)) = memoriesOk s :=
  memoriesOk_congr [3, 11, 16, 20] (by decide) (by decide) (by decide) (by decide) _ _ (forget_execTmove [3, 11, 16, 20] (by decide) (by decide) (by decide) (by decide) _ _ _)

theorem mem_execProduct (c : CtxId) (w : Word) (s : State) :
    memoriesOk (endState s (execProduct c w s)) = memoriesOk s :=
  memoriesOk_congr [3, 11, 16, 20] (by decide) (by decide) (by decide) (by decide) _ _ (forget_execProduct [3, 11, 16, 20] (by decide) (by decide) (by decide) (by decide) _ _ _)

theorem mem_runMove (s : State) (q : QCmd) (slot : Nat)
    (hm : memoriesOk s = true) : memoriesOk (runMove s q slot) = true := by
  unfold runMove
  repeat' (first
    | with_reducible assumption
    | with_reducible rfl
    | simp (maxDischargeDepth := 12) only [mem_ite, endState_next, endState_ite, endState_fault, ite_self, memWf_clearGrain,
      memWf_convertInto, memWf_mem_setTensor, memWf_patchTensor, memWf_storeConverted, memWf_storeRaw,
      memWf_tensorMem, mem_countOutOfFootprint, hm]
    | split
    | (with_reducible refine mem_foldl _ ?_ _ _ ?_; intro _ _ _)
    | (with_reducible refine mem_foldl _ ?_ _ _ ?_)
    | (with_reducible refine memWf_foldl _ (fun m a hw => ?_) _ _ ?_)
    | intro _ _ _
    | (with_reducible refine memWf_mem_setTensor _ _ _ ?_ ?_)
    | (with_reducible refine memWf_tensorMem _ _ ?_)
    | (with_reducible refine memWf_writeElem _ _ _ _ ?_)
    | (with_reducible refine memWf_writeScale _ _ _ _ ?_)
    | (with_reducible refine memWf_convertInto _ _ _ _ _ ?_)
    | (with_reducible refine memWf_patchTensor _ _ _ _ _ _ ?_)
    | (with_reducible refine memWf_clearGrain _ _ _ ?_)
    | (with_reducible refine memWf_memWrites _ _ _ ?_)
    | with_reducible exact memWf_nil
    | (with_reducible refine memWf_slotMem _ _ _ ?_)
    | (with_reducible refine memWf_sramOf _ _ _ ?_))

theorem mem_passTile (s : State) (qid : QueueId) (q : QCmd) (p : ProductD) (row : Nat) (col : Nat) (width : Nat) (val : Nat → Nat → Word32) :
    memoriesOk (passTile s qid q p row col width val) = memoriesOk s :=
  memoriesOk_congr [11] (by decide) (by decide) (by decide) (by decide) _ _ (forget_passTile [11] (by decide) _ _ _ _ _ _ _ _)

theorem mem_runProduct (s : State) (qid : QueueId) (q : QCmd) (slot : Nat)
    (hm : memoriesOk s = true) : memoriesOk (runProduct s qid q slot) = true := by
  unfold runProduct
  repeat' (first
    | with_reducible assumption
    | with_reducible rfl
    | simp (maxDischargeDepth := 12) only [mem_ite, endState_next, endState_ite, endState_fault, ite_self, memWf_clearGrain,
      memWf_convertInto, memWf_mem_setTensor, memWf_patchTensor, memWf_storeConverted, memWf_storeRaw,
      memWf_tensorMem, mem_countOutOfFootprint, mem_passTile, hm]
    | split
    | (with_reducible refine mem_foldl _ ?_ _ _ ?_; intro _ _ _)
    | (with_reducible refine mem_foldl _ ?_ _ _ ?_)
    | (with_reducible refine memWf_foldl _ (fun m a hw => ?_) _ _ ?_)
    | intro _ _ _
    | (with_reducible refine mem_storeValues _ _ _ _ _ _ _ _ ?_)
    | (with_reducible refine memWf_mem_setTensor _ _ _ ?_ ?_)
    | (with_reducible refine memWf_tensorMem _ _ ?_)
    | (with_reducible refine memWf_writeElem _ _ _ _ ?_)
    | (with_reducible refine memWf_writeScale _ _ _ _ ?_)
    | (with_reducible refine memWf_convertInto _ _ _ _ _ ?_)
    | (with_reducible refine memWf_patchTensor _ _ _ _ _ _ ?_)
    | (with_reducible refine memWf_clearGrain _ _ _ ?_)
    | (with_reducible refine memWf_memWrites _ _ _ ?_)
    | with_reducible exact memWf_nil
    | (with_reducible refine memWf_slotMem _ _ _ ?_)
    | (with_reducible refine memWf_sramOf _ _ _ ?_))

theorem mem_signalBy (s : State) (c : CtxId) (counter : Option Nat) :
    memoriesOk (signalBy s c counter) = memoriesOk s :=
  memoriesOk_congr [11] (by decide) (by decide) (by decide) (by decide) _ _ (forget_signalBy [11] (by decide) _ _ _)

theorem mem_tileEffect (s : State) (c : CtxId) (w : Word) (x : Context) (img : Image)
    (hm : memoriesOk s = true) : memoriesOk (tileEffect s c w x img) = true := by
  unfold tileEffect
  repeat' (first
    | with_reducible assumption
    | with_reducible rfl
    | simp (maxDischargeDepth := 12) only [mem_ite, endState_next, endState_ite, endState_fault, ite_self, memWf_clearGrain,
      memWf_convertInto, memWf_mem_setTensor, memWf_patchTensor, memWf_storeConverted, memWf_storeRaw,
      memWf_tensorMem, mem_countOutOfFootprint, mem_setCtx, mem_signalBy, hm]
    | split
    | (with_reducible refine mem_foldl _ ?_ _ _ ?_; intro _ _ _)
    | (with_reducible refine mem_foldl _ ?_ _ _ ?_)
    | (with_reducible refine memWf_foldl _ (fun m a hw => ?_) _ _ ?_)
    | intro _ _ _
    | (with_reducible refine memWf_mem_setTensor _ _ _ ?_ ?_)
    | (with_reducible refine memWf_tensorMem _ _ ?_)
    | (with_reducible refine memWf_writeElem _ _ _ _ ?_)
    | (with_reducible refine memWf_writeScale _ _ _ _ ?_)
    | (with_reducible refine memWf_convertInto _ _ _ _ _ ?_)
    | (with_reducible refine memWf_patchTensor _ _ _ _ _ _ ?_)
    | (with_reducible refine memWf_clearGrain _ _ _ ?_)
    | (with_reducible refine memWf_memWrites _ _ _ ?_)
    | with_reducible exact memWf_nil
    | (with_reducible refine memWf_slotMem _ _ _ ?_)
    | (with_reducible refine memWf_sramOf _ _ _ ?_))

theorem mem_execTile (c : CtxId) (w : Word) (s : State)
    (hm : memoriesOk s = true) : memoriesOk (endState s (execTile c w s)) = true := by
  unfold execTile
  repeat' (first
    | with_reducible assumption
    | with_reducible rfl
    | simp (maxDischargeDepth := 12) only [mem_ite, endState_next, endState_ite, endState_fault, ite_self, hm]
    | split
    | (with_reducible refine mem_plyStep _ _ _ _ _ ?_ hm; intro x y z)
    | (with_reducible refine mem_tileEffect _ _ _ _ _ ?_))

theorem mem_scratchWrite (s : State) (c : CtxId) (x : Context) (off : Nat) (bs : List Byte)
    (hm : memoriesOk s = true) : memoriesOk (scratchWrite s c x off bs) = true := by
  unfold scratchWrite
  repeat' (first
    | with_reducible assumption
    | with_reducible rfl
    | simp (maxDischargeDepth := 12) only [mem_ite, endState_next, endState_ite, endState_fault, ite_self, memWf_mem_setSram, memWf_sramOf, hm]
    | split
    | (with_reducible refine memWf_mem_setSram _ _ _ _ ?_ ?_)
    | (with_reducible refine memWf_tensorMem _ _ ?_)
    | (with_reducible refine memWf_writeElem _ _ _ _ ?_)
    | (with_reducible refine memWf_writeScale _ _ _ _ ?_)
    | (with_reducible refine memWf_convertInto _ _ _ _ _ ?_)
    | (with_reducible refine memWf_patchTensor _ _ _ _ _ _ ?_)
    | (with_reducible refine memWf_clearGrain _ _ _ ?_)
    | (with_reducible refine memWf_memWrites _ _ _ ?_)
    | with_reducible exact memWf_nil
    | (with_reducible refine memWf_slotMem _ _ _ ?_)
    | (with_reducible refine memWf_sramOf _ _ _ ?_))

theorem mem_layerEffect (s : State) (c : CtxId) (w : Word) (x : Context) (img : Image)
    (hm : memoriesOk s = true) : memoriesOk (layerEffect s c w x img) = true := by
  unfold layerEffect
  repeat' (first
    | with_reducible assumption
    | with_reducible rfl
    | simp (maxDischargeDepth := 12) only [mem_ite, endState_next, endState_ite, endState_fault, ite_self, mem_countOutOfFootprint,
      mem_setCtx, mem_signalBy, hm]
    | split
    | (with_reducible refine mem_foldl _ ?_ _ _ ?_; intro _ _ _)
    | (with_reducible refine mem_foldl _ ?_ _ _ ?_)
    | (with_reducible refine memWf_foldl _ (fun m a hw => ?_) _ _ ?_)
    | intro _ _ _
    | (with_reducible refine mem_storeValues _ _ _ _ _ _ _ _ ?_)
    | (with_reducible refine mem_scratchWrite _ _ _ _ _ ?_))

theorem mem_execLayer (c : CtxId) (w : Word) (s : State)
    (hm : memoriesOk s = true) : memoriesOk (endState s (execLayer c w s)) = true := by
  unfold execLayer
  repeat' (first
    | with_reducible assumption
    | with_reducible rfl
    | simp (maxDischargeDepth := 12) only [mem_ite, endState_next, endState_ite, endState_fault, ite_self, hm]
    | split
    | (with_reducible refine mem_plyStep _ _ _ _ _ ?_ hm; intro x y z)
    | (with_reducible refine mem_layerEffect _ _ _ _ _ ?_))

theorem mem_setInst (s : State) (x : Inst) :
    memoriesOk (setInst s x) = memoriesOk s :=
  memoriesOk_congr [5] (by decide) (by decide) (by decide) (by decide) _ _ (forget_setInst [5] (by decide) _ _)

theorem mem_clearStale (s : State) (l : Lattice) (i : Inst) (v : Nat)
    (hm : memoriesOk s = true) : memoriesOk (clearStale s l i v) = true := by
  unfold clearStale
  repeat' (first
    | with_reducible assumption
    | with_reducible rfl
    | simp (maxDischargeDepth := 12) only [mem_ite, endState_next, endState_ite, endState_fault, ite_self, memWf_clearGrain,
      memWf_convertInto, memWf_mem_setTensor, memWf_patchTensor, memWf_storeConverted, memWf_storeRaw,
      memWf_tensorMem, hm]
    | split
    | (with_reducible refine mem_foldl _ ?_ _ _ ?_; intro _ _ _)
    | (with_reducible refine mem_foldl _ ?_ _ _ ?_)
    | (with_reducible refine memWf_foldl _ (fun m a hw => ?_) _ _ ?_)
    | intro _ _ _
    | (with_reducible refine memWf_mem_setTensor _ _ _ ?_ ?_)
    | (with_reducible refine memWf_tensorMem _ _ ?_)
    | (with_reducible refine memWf_writeElem _ _ _ _ ?_)
    | (with_reducible refine memWf_writeScale _ _ _ _ ?_)
    | (with_reducible refine memWf_convertInto _ _ _ _ _ ?_)
    | (with_reducible refine memWf_patchTensor _ _ _ _ _ _ ?_)
    | (with_reducible refine memWf_clearGrain _ _ _ ?_)
    | (with_reducible refine memWf_memWrites _ _ _ ?_)
    | with_reducible exact memWf_nil
    | (with_reducible refine memWf_slotMem _ _ _ ?_)
    | (with_reducible refine memWf_sramOf _ _ _ ?_))

theorem mem_setSection (s : State) (i : InstRef) (c : Section) :
    memoriesOk (setSection s i c) = memoriesOk s :=
  memoriesOk_congr [5] (by decide) (by decide) (by decide) (by decide) _ _ (forget_setSection [5] (by decide) _ _ _)

theorem mem_fillTensor (s : State) (d : TensorDecl) (k : NoiseKey) (first : Nat) (vals : List FVal)
    (hm : memoriesOk s = true) : memoriesOk (fillTensor s d k first vals) = true := by
  unfold fillTensor
  repeat' (first
    | with_reducible assumption
    | with_reducible rfl
    | simp (maxDischargeDepth := 12) only [mem_ite, endState_next, endState_ite, endState_fault, ite_self, memWf_clearGrain,
      memWf_convertInto, memWf_mem_setTensor, memWf_patchTensor, memWf_storeConverted, memWf_storeRaw,
      memWf_tensorMem, hm]
    | split
    | (with_reducible refine mem_foldl _ ?_ _ _ ?_; intro _ _ _)
    | (with_reducible refine mem_foldl _ ?_ _ _ ?_)
    | (with_reducible refine memWf_foldl _ (fun m a hw => ?_) _ _ ?_)
    | intro _ _ _
    | (with_reducible refine memWf_mem_setTensor _ _ _ ?_ ?_)
    | (with_reducible refine memWf_tensorMem _ _ ?_)
    | (with_reducible refine memWf_writeElem _ _ _ _ ?_)
    | (with_reducible refine memWf_writeScale _ _ _ _ ?_)
    | (with_reducible refine memWf_convertInto _ _ _ _ _ ?_)
    | (with_reducible refine memWf_patchTensor _ _ _ _ _ _ ?_)
    | (with_reducible refine memWf_clearGrain _ _ _ ?_)
    | (with_reducible refine memWf_memWrites _ _ _ ?_)
    | with_reducible exact memWf_nil
    | (with_reducible refine memWf_slotMem _ _ _ ?_)
    | (with_reducible refine memWf_sramOf _ _ _ ?_))

theorem mem_tryPool (s : State) (i : InstRef) (table : Nat)
    (hm : memoriesOk s = true) : memoriesOk (tryPool s i table) = true := by
  unfold tryPool
  repeat' (first
    | with_reducible assumption
    | with_reducible rfl
    | simp (maxDischargeDepth := 12) only [mem_ite, endState_next, endState_ite, endState_fault, ite_self, mem_setSection, hm]
    | split
    | (with_reducible refine mem_foldl _ ?_ _ _ ?_; intro _ _ _)
    | (with_reducible refine mem_foldl _ ?_ _ _ ?_)
    | (with_reducible refine memWf_foldl _ (fun m a hw => ?_) _ _ ?_)
    | intro _ _ _
    | (with_reducible refine mem_fillTensor _ _ _ _ _ ?_))

theorem mem_tryPools (s : State) (i : InstRef)
    (hm : memoriesOk s = true) : memoriesOk (tryPools s i) = true := by
  unfold tryPools
  repeat' (first
    | with_reducible assumption
    | with_reducible rfl
    | simp (maxDischargeDepth := 12) only [mem_ite, endState_next, endState_ite, endState_fault, ite_self, hm]
    | split
    | (with_reducible refine mem_foldl _ ?_ _ _ ?_; intro _ _ _)
    | (with_reducible refine mem_foldl _ ?_ _ _ ?_)
    | (with_reducible refine memWf_foldl _ (fun m a hw => ?_) _ _ ?_)
    | intro _ _ _
    | (with_reducible refine mem_tryPool _ _ _ ?_))

theorem mem_deliverRows (s : State) (f : RowDataF)
    (hm : memoriesOk s = true) : memoriesOk (deliverRows s f) = true := by
  unfold deliverRows
  repeat' (first
    | with_reducible assumption
    | with_reducible rfl
    | simp (maxDischargeDepth := 12) only [mem_ite, endState_next, endState_ite, endState_fault, ite_self, mem_setSection, hm]
    | split
    | (with_reducible refine mem_tryPool _ _ _ ?_))

theorem mem_deliverSums (s : State) (owner : Nat) (f : PartialSumF)
    (hm : memoriesOk s = true) : memoriesOk (deliverSums s owner f) = true := by
  unfold deliverSums
  repeat' (first
    | with_reducible assumption
    | with_reducible rfl
    | simp (maxDischargeDepth := 12) only [mem_ite, endState_next, endState_ite, endState_fault, ite_self, mem_setSection, hm]
    | split
    | (with_reducible refine mem_foldl _ ?_ _ _ ?_; intro _ _ _)
    | (with_reducible refine mem_foldl _ ?_ _ _ ?_)
    | (with_reducible refine memWf_foldl _ (fun m a hw => ?_) _ _ ?_)
    | intro _ _ _
    | (with_reducible refine mem_tryPool _ _ _ ?_))

theorem mem_shrinkRows (s : State) :
    memoriesOk (shrinkRows s) = memoriesOk s :=
  memoriesOk_congr [6, 15] (by decide) (by decide) (by decide) (by decide) _ _ (forget_shrinkRows [6, 15] (by decide) (by decide) _)

theorem mem_wantPage (s : State) (p : Page) :
    memoriesOk (wantPage s p) = memoriesOk s :=
  memoriesOk_congr [6, 15] (by decide) (by decide) (by decide) (by decide) _ _ (forget_wantPage [6, 15] (by decide) (by decide) _ _)

theorem mem_promoteWaiting (s : State) :
    memoriesOk (promoteWaiting s) = memoriesOk s :=
  memoriesOk_congr [6, 15] (by decide) (by decide) (by decide) (by decide) _ _ (forget_promoteWaiting [6, 15] (by decide) (by decide) _)

theorem mem_serveRequest (s : State) (q : OwnReq) (v : Version)
    (hm : memoriesOk s = true) : memoriesOk (serveRequest s q v) = true := by
  unfold serveRequest
  repeat' (first
    | with_reducible assumption
    | with_reducible rfl
    | simp (maxDischargeDepth := 12) only [mem_ite, endState_next, endState_ite, endState_fault, ite_self, mem_countTier, mem_sendFlow, hm]
    | split
    | (with_reducible refine mem_foldl _ ?_ _ _ ?_; intro _ _ _)
    | (with_reducible refine mem_foldl _ ?_ _ _ ?_)
    | (with_reducible refine memWf_foldl _ (fun m a hw => ?_) _ _ ?_)
    | intro _ _ _
    | (with_reducible refine mem_deliverSums _ _ _ ?_)
    | (with_reducible refine mem_deliverRows _ _ ?_))

theorem mem_skipBlock (s : State) (step : Nat) (tensor : Nat) (block : Nat) :
    memoriesOk (skipBlock s step tensor block) = memoriesOk s :=
  memoriesOk_congr [5] (by decide) (by decide) (by decide) (by decide) _ _ (forget_skipBlock [5] (by decide) _ _ _ _)

theorem mem_ownersGo (s : State) :
    memoriesOk (ownersGo s) = memoriesOk s :=
  memoriesOk_congr [3, 5, 6, 12, 14, 15, 16, 17, 19, 20] (by decide) (by decide) (by decide) (by decide) _ _ (forget_ownersGo [3, 5, 6, 12, 14, 15, 16, 17, 19, 20] (by decide) (by decide) (by decide) (by decide) (by decide) (by decide) (by decide) (by decide) (by decide) (by decide) _)

theorem mem_execRowRequest (rx : Rx) (f : RowRequestF) (s : State) :
    memoriesOk (endState s (execRowRequest rx f s)) = memoriesOk s :=
  memoriesOk_congr [3, 5, 6, 12, 14, 15, 16, 17, 19, 20] (by decide) (by decide) (by decide) (by decide) _ _ (forget_execRowRequest [3, 5, 6, 12, 14, 15, 16, 17, 19, 20] (by decide) (by decide) (by decide) (by decide) (by decide) (by decide) (by decide) (by decide) (by decide) (by decide) _ _ _)

theorem mem_execParkedEntryApply (table : Nat) (row : Nat) (s : State) :
    memoriesOk (endState s (execParkedEntryApply table row s)) = memoriesOk s :=
  memoriesOk_congr [3, 5, 6, 12, 14, 15, 16, 17, 19, 20] (by decide) (by decide) (by decide) (by decide) _ _ (forget_execParkedEntryApply [3, 5, 6, 12, 14, 15, 16, 17, 19, 20] (by decide) (by decide) (by decide) (by decide) (by decide) (by decide) (by decide) (by decide) (by decide) (by decide) _ _ _)

theorem mem_execStreamData (rx : Rx) (f : StreamDataF) (s : State) :
    memoriesOk (endState s (execStreamData rx f s)) = memoriesOk s :=
  memoriesOk_congr [3, 5, 6, 12, 14, 15, 16, 17, 19, 20] (by decide) (by decide) (by decide) (by decide) _ _ (forget_execStreamData [3, 5, 6, 12, 14, 15, 16, 17, 19, 20] (by decide) (by decide) (by decide) (by decide) (by decide) (by decide) (by decide) (by decide) (by decide) (by decide) _ _ _)

theorem mem_execStreamEnd (rx : Rx) (f : StreamEndF) (s : State) :
    memoriesOk (endState s (execStreamEnd rx f s)) = memoriesOk s :=
  memoriesOk_congr [3, 5, 6, 12, 14, 15, 16, 17, 19, 20] (by decide) (by decide) (by decide) (by decide) _ _ (forget_execStreamEnd [3, 5, 6, 12, 14, 15, 16, 17, 19, 20] (by decide) (by decide) (by decide) (by decide) (by decide) (by decide) (by decide) (by decide) (by decide) (by decide) _ _ _)

theorem mem_putNode (s : State) (x : TreeNode) :
    memoriesOk (putNode s x) = memoriesOk s :=
  memoriesOk_congr [13] (by decide) (by decide) (by decide) (by decide) _ _ (forget_putNode [13] (by decide) _ _)

theorem mem_fillLocal (s : State) (n : Nat) (g : TensorDecl) (d : TensorDecl) (b : Nat) :
    memoriesOk (fillLocal s n g d b) = memoriesOk s :=
  memoriesOk_congr [13] (by decide) (by decide) (by decide) (by decide) _ _ (forget_fillLocal [13] (by decide) _ _ _ _ _)

theorem mem_tryLocal (s : State) (n : Nat) (g : TensorDecl)
    (hm : memoriesOk s = true) : memoriesOk (tryLocal s n g) = true := by
  unfold tryLocal
  repeat' (first
    | with_reducible assumption
    | with_reducible rfl
    | simp (maxDischargeDepth := 12) only [mem_ite, endState_next, endState_ite, endState_fault, ite_self, memWf_clearGrain,
      memWf_convertInto, memWf_mem_setTensor, memWf_patchTensor, memWf_storeConverted, memWf_storeRaw,
      memWf_tensorMem, mem_fillLocal, mem_setStep, hm]
    | split
    | (with_reducible refine mem_foldl _ ?_ _ _ ?_; intro _ _ _)
    | (with_reducible refine mem_foldl _ ?_ _ _ ?_)
    | (with_reducible refine memWf_foldl _ (fun m a hw => ?_) _ _ ?_)
    | intro _ _ _
    | (with_reducible refine memWf_mem_setTensor _ _ _ ?_ ?_)
    | (with_reducible refine memWf_tensorMem _ _ ?_)
    | (with_reducible refine memWf_writeElem _ _ _ _ ?_)
    | (with_reducible refine memWf_writeScale _ _ _ _ ?_)
    | (with_reducible refine memWf_convertInto _ _ _ _ _ ?_)
    | (with_reducible refine memWf_patchTensor _ _ _ _ _ _ ?_)
    | (with_reducible refine memWf_clearGrain _ _ _ ?_)
    | (with_reducible refine memWf_memWrites _ _ _ ?_)
    | with_reducible exact memWf_nil
    | (with_reducible refine memWf_slotMem _ _ _ ?_)
    | (with_reducible refine memWf_sramOf _ _ _ ?_))

theorem mem_tryLocals (s : State) (n : Nat)
    (hm : memoriesOk s = true) : memoriesOk (tryLocals s n) = true := by
  unfold tryLocals
  repeat' (first
    | with_reducible assumption
    | with_reducible rfl
    | simp (maxDischargeDepth := 12) only [mem_ite, endState_next, endState_ite, endState_fault, ite_self, hm]
    | split
    | (with_reducible refine mem_foldl _ ?_ _ _ ?_; intro _ _ _)
    | (with_reducible refine mem_foldl _ ?_ _ _ ?_)
    | (with_reducible refine memWf_foldl _ (fun m a hw => ?_) _ _ ?_)
    | intro _ _ _
    | (with_reducible refine mem_tryLocal _ _ _ ?_))

theorem mem_grantTrees (s : State) :
    memoriesOk (grantTrees s) = memoriesOk s :=
  memoriesOk_congr [3, 13, 14, 16, 20] (by decide) (by decide) (by decide) (by decide) _ _ (forget_grantTrees [3, 13, 14, 16, 20] (by decide) (by decide) (by decide) (by decide) (by decide) _)

theorem mem_treesGo (s : State)
    (hm : memoriesOk s = true) : memoriesOk (treesGo s) = true := by
  unfold treesGo
  repeat' (first
    | with_reducible assumption
    | with_reducible rfl
    | simp (maxDischargeDepth := 12) only [mem_ite, endState_next, endState_ite, endState_fault, ite_self, mem_grantTrees, hm]
    | split
    | (with_reducible refine mem_foldl _ ?_ _ _ ?_; intro _ _ _)
    | (with_reducible refine mem_foldl _ ?_ _ _ ?_)
    | (with_reducible refine memWf_foldl _ (fun m a hw => ?_) _ _ ?_)
    | intro _ _ _
    | (with_reducible refine mem_tryLocals _ _ ?_))

theorem mem_execWeightGradientTileDrain (queue : QueueId) (tileRow : Nat) (tileCol : Nat) (width : Nat) (s : State) :
    memoriesOk (endState s (execWeightGradientTileDrain queue tileRow tileCol width s)) = memoriesOk s :=
  memoriesOk_congr [11, 13, 19] (by decide) (by decide) (by decide) (by decide) _ _ (forget_execWeightGradientTileDrain [11, 13, 19] (by decide) (by decide) (by decide) _ _ _ _ _)

theorem mem_takeTreeBlock (s : State) (source : Nat) (flow : Word32) (f : TreeBlockF) :
    memoriesOk (takeTreeBlock s source flow f) = memoriesOk s :=
  memoriesOk_congr [13, 14] (by decide) (by decide) (by decide) (by decide) _ _ (forget_takeTreeBlock [13, 14] (by decide) (by decide) _ _ _ _)

theorem mem_execTreeBlock (rx : Rx) (f : TreeBlockF) (s : State)
    (hm : memoriesOk s = true) : memoriesOk (endState s (execTreeBlock rx f s)) = true := by
  unfold execTreeBlock
  repeat' (first
    | with_reducible assumption
    | with_reducible rfl
    | simp (maxDischargeDepth := 12) only [mem_ite, endState_next, endState_ite, endState_fault, ite_self, mem_takeTreeBlock, hm]
    | split
    | (with_reducible refine mem_receive _ _ _ _ _ _ ?_ hm; intro x hx)
    | (with_reducible refine mem_treesGo _ ?_))

theorem mem_execTreeBlockForward (treeId : Nat) (block : Nat) (s : State)
    (hm : memoriesOk s = true) : memoriesOk (endState s (execTreeBlockForward treeId block s)) = true := by
  unfold execTreeBlockForward
  repeat' (first
    | with_reducible assumption
    | with_reducible rfl
    | simp (maxDischargeDepth := 12) only [mem_ite, endState_next, endState_ite, endState_fault, ite_self, mem_flowFor, mem_putNode,
      mem_sendTo, hm]
    | split
    | (with_reducible refine mem_foldl _ ?_ _ _ ?_; intro _ _ _)
    | (with_reducible refine mem_foldl _ ?_ _ _ ?_)
    | (with_reducible refine memWf_foldl _ (fun m a hw => ?_) _ _ ?_)
    | intro _ _ _
    | (with_reducible refine mem_treesGo _ ?_))

theorem mem_setReplica (s : State) (r : Replica) :
    memoriesOk (setReplica s r) = memoriesOk s :=
  memoriesOk_congr [13] (by decide) (by decide) (by decide) (by decide) _ _ (forget_setReplica [13] (by decide) _ _)

theorem mem_applyBlockUnit (s : State) (d : TensorDecl) (step : Nat) (block : Nat) (u : UnitVals)
    (hm : memoriesOk s = true) : memoriesOk (applyBlockUnit s d step block u) = true := by
  unfold applyBlockUnit
  repeat' (first
    | with_reducible assumption
    | with_reducible rfl
    | simp (maxDischargeDepth := 12) only [mem_ite, endState_next, endState_ite, endState_fault, ite_self, mem_skipBlock, hm]
    | split
    | (with_reducible refine mem_writeBlock _ _ _ _ _ ?_))

theorem mem_finishBlock (s : State) (d : TensorDecl) (x : TreeNode) :
    memoriesOk (finishBlock s d x) = memoriesOk s :=
  memoriesOk_congr [3, 13, 14, 16, 20] (by decide) (by decide) (by decide) (by decide) _ _ (forget_finishBlock [3, 13, 14, 16, 20] (by decide) (by decide) (by decide) (by decide) (by decide) _ _ _)

theorem mem_scrubAt (s : State) (n : Nat) :
    memoriesOk (scrubAt s n) = memoriesOk s :=
  memoriesOk_congr [3, 5, 13, 14, 16, 19, 20] (by decide) (by decide) (by decide) (by decide) _ _ (forget_scrubAt [3, 5, 13, 14, 16, 19, 20] (by decide) (by decide) (by decide) (by decide) (by decide) (by decide) (by decide) _ _)

theorem mem_fetchSlice (s : State) (owner : Nat) (flow : Word32) (elems : Nat) :
    memoriesOk (fetchSlice s owner flow elems) = memoriesOk s :=
  memoriesOk_congr [3, 14, 16, 20] (by decide) (by decide) (by decide) (by decide) _ _ (forget_fetchSlice [3, 14, 16, 20] (by decide) (by decide) (by decide) (by decide) _ _ _ _)

theorem mem_dueDigests (s : State) :
    memoriesOk (dueDigests s) = memoriesOk s :=
  memoriesOk_congr [3, 13, 14, 16, 20] (by decide) (by decide) (by decide) (by decide) _ _ (forget_dueDigests [3, 13, 14, 16, 20] (by decide) (by decide) (by decide) (by decide) (by decide) _)

theorem mem_takeDigest (s : State) (rx : Rx) (f : DigestF) :
    memoriesOk (takeDigest s rx f) = memoriesOk s :=
  memoriesOk_congr [3, 5, 13, 14, 16, 20] (by decide) (by decide) (by decide) (by decide) _ _ (forget_takeDigest [3, 5, 13, 14, 16, 20] (by decide) (by decide) (by decide) (by decide) (by decide) (by decide) _ _ _)

theorem mem_trySlice (s : State) (r : Replica)
    (hm : memoriesOk s = true) : memoriesOk (trySlice s r) = true := by
  unfold trySlice
  repeat' (first
    | with_reducible assumption
    | with_reducible rfl
    | simp (maxDischargeDepth := 12) only [mem_ite, endState_next, endState_ite, endState_fault, ite_self, memWf_clearGrain,
      memWf_convertInto, memWf_mem_setTensor, memWf_patchTensor, memWf_storeConverted, memWf_storeRaw,
      memWf_tensorMem, mem_fetchSlice, mem_memberLost, mem_sendTo, mem_setReplica, mem_setTelemetry, hm]
    | split
    | (with_reducible refine mem_foldl _ ?_ _ _ ?_; intro _ _ _)
    | (with_reducible refine mem_foldl _ ?_ _ _ ?_)
    | (with_reducible refine memWf_foldl _ (fun m a hw => ?_) _ _ ?_)
    | intro _ _ _
    | (with_reducible refine memWf_mem_setTensor _ _ _ ?_ ?_)
    | (with_reducible refine memWf_tensorMem _ _ ?_)
    | (with_reducible refine memWf_writeElem _ _ _ _ ?_)
    | (with_reducible refine memWf_writeScale _ _ _ _ ?_)
    | (with_reducible refine memWf_convertInto _ _ _ _ _ ?_)
    | (with_reducible refine memWf_patchTensor _ _ _ _ _ _ ?_)
    | (with_reducible refine memWf_clearGrain _ _ _ ?_)
    | (with_reducible refine memWf_memWrites _ _ _ ?_)
    | with_reducible exact memWf_nil
    | (with_reducible refine memWf_slotMem _ _ _ ?_)
    | (with_reducible refine memWf_sramOf _ _ _ ?_))

theorem mem_trySlices (s : State)
    (hm : memoriesOk s = true) : memoriesOk (trySlices s) = true := by
  unfold trySlices
  repeat' (first
    | with_reducible assumption
    | with_reducible rfl
    | simp (maxDischargeDepth := 12) only [mem_ite, endState_next, endState_ite, endState_fault, ite_self, hm]
    | split
    | (with_reducible refine mem_foldl _ ?_ _ _ ?_; intro _ _ _)
    | (with_reducible refine mem_foldl _ ?_ _ _ ?_)
    | (with_reducible refine memWf_foldl _ (fun m a hw => ?_) _ _ ?_)
    | intro _ _ _
    | (with_reducible refine mem_trySlice _ _ ?_))

theorem mem_takeSlice (s : State) (f : SliceDataF)
    (hm : memoriesOk s = true) : memoriesOk (takeSlice s f) = true := by
  unfold takeSlice
  repeat' (first
    | with_reducible assumption
    | with_reducible rfl
    | simp (maxDischargeDepth := 12) only [mem_ite, endState_next, endState_ite, endState_fault, ite_self, mem_setReplica, hm]
    | split
    | (with_reducible refine mem_foldl _ ?_ _ _ ?_; intro _ _ _)
    | (with_reducible refine mem_foldl _ ?_ _ _ ?_)
    | (with_reducible refine memWf_foldl _ (fun m a hw => ?_) _ _ ?_)
    | intro _ _ _
    | (with_reducible refine mem_trySlice _ _ ?_))

theorem mem_execGrant (rx : Rx) (grants : List GrantF) (s : State) :
    memoriesOk (endState s (execGrant rx grants s)) = memoriesOk s :=
  memoriesOk_congr [3, 5, 6, 12, 14, 15, 16, 17, 19, 20] (by decide) (by decide) (by decide) (by decide) _ _ (forget_execGrant [3, 5, 6, 12, 14, 15, 16, 17, 19, 20] (by decide) (by decide) (by decide) (by decide) (by decide) (by decide) (by decide) (by decide) (by decide) (by decide) _ _ _)

theorem mem_scatterBlock (s : State) (l : List TensorDecl) (bs : List Byte)
    (hm : memoriesOk s = true) : memoriesOk (scatterBlock s l bs) = true := by
  unfold scatterBlock
  repeat' (first
    | with_reducible assumption
    | with_reducible rfl
    | simp (maxDischargeDepth := 12) only [mem_ite, endState_next, endState_ite, endState_fault, ite_self, memWf_clearGrain,
      memWf_convertInto, memWf_mem_setTensor, memWf_patchTensor, memWf_storeConverted, memWf_storeRaw,
      memWf_tensorMem, hm]
    | split
    | (with_reducible refine mem_foldl _ ?_ _ _ ?_; intro _ _ _)
    | (with_reducible refine mem_foldl _ ?_ _ _ ?_)
    | (with_reducible refine memWf_foldl _ (fun m a hw => ?_) _ _ ?_)
    | intro _ _ _
    | (with_reducible refine memWf_mem_setTensor _ _ _ ?_ ?_)
    | (with_reducible refine memWf_tensorMem _ _ ?_)
    | (with_reducible refine memWf_writeElem _ _ _ _ ?_)
    | (with_reducible refine memWf_writeScale _ _ _ _ ?_)
    | (with_reducible refine memWf_convertInto _ _ _ _ _ ?_)
    | (with_reducible refine memWf_patchTensor _ _ _ _ _ _ ?_)
    | (with_reducible refine memWf_clearGrain _ _ _ ?_)
    | (with_reducible refine memWf_memWrites _ _ _ ?_)
    | with_reducible exact memWf_nil
    | (with_reducible refine memWf_slotMem _ _ _ ?_)
    | (with_reducible refine memWf_sramOf _ _ _ ?_))

theorem mem_tryDeliver (s : State) (n : Nat)
    (hm : memoriesOk s = true) : memoriesOk (tryDeliver s n) = true := by
  unfold tryDeliver
  repeat' (first
    | with_reducible assumption
    | with_reducible rfl
    | simp (maxDischargeDepth := 12) only [mem_ite, endState_next, endState_ite, endState_fault, ite_self, mem_setStep, hm]
    | split
    | (with_reducible refine mem_scatterBlock _ _ _ ?_))

theorem mem_tryDeliverEval (s : State) (e : EvalReq)
    (hm : memoriesOk s = true) : memoriesOk (tryDeliverEval s e) = true := by
  unfold tryDeliverEval
  repeat' (first
    | with_reducible assumption
    | with_reducible rfl
    | simp (maxDischargeDepth := 12) only [mem_ite, endState_next, endState_ite, endState_fault, ite_self, mem_setEval, hm]
    | split
    | (with_reducible refine mem_scatterBlock _ _ _ ?_))

theorem mem_tryLoss (s : State) (n : Nat) :
    memoriesOk (tryLoss s n) = memoriesOk s :=
  memoriesOk_congr [5] (by decide) (by decide) (by decide) (by decide) _ _ (forget_tryLoss [5] (by decide) _ _)

theorem mem_dropSteps (s : State) :
    memoriesOk (dropSteps s) = memoriesOk s :=
  memoriesOk_congr [5] (by decide) (by decide) (by decide) (by decide) _ _ (forget_dropSteps [5] (by decide) _)

theorem mem_freeVersions (s : State) :
    memoriesOk (freeVersions s) = memoriesOk s :=
  memoriesOk_congr [3, 6] (by decide) (by decide) (by decide) (by decide) _ _ (forget_freeVersions [3, 6] (by decide) (by decide) _)

theorem mem_advance (s : State)
    (hm : memoriesOk s = true) : memoriesOk (advance s) = true := by
  unfold advance
  repeat' (first
    | with_reducible assumption
    | with_reducible rfl
    | simp (maxDischargeDepth := 12) only [mem_ite, endState_next, endState_ite, endState_fault, ite_self, mem_dropSteps, mem_freeVersions,
      mem_ownersGo, mem_tryLoss, hm]
    | split
    | (with_reducible refine mem_foldl _ ?_ _ _ ?_; intro _ _ _)
    | (with_reducible refine mem_foldl _ ?_ _ _ ?_)
    | (with_reducible refine memWf_foldl _ (fun m a hw => ?_) _ _ ?_)
    | intro _ _ _
    | (with_reducible refine mem_tryPools _ _ ?_)
    | (with_reducible refine mem_tryDeliver _ _ ?_)
    | (with_reducible refine mem_tryDeliverEval _ _ ?_)
    | (with_reducible refine mem_treesGo _ ?_)
    | (with_reducible refine mem_trySlices _ ?_))

theorem mem_freeDrained (s : State) :
    memoriesOk (freeDrained s) = memoriesOk s :=
  memoriesOk_congr [7] (by decide) (by decide) (by decide) (by decide) _ _ (forget_freeDrained [7] (by decide) _)

theorem mem_addBalance (s : State) (die : Nat) (x : Int) :
    memoriesOk (addBalance s die x) = memoriesOk s :=
  memoriesOk_congr [15] (by decide) (by decide) (by decide) (by decide) _ _ (forget_addBalance [15] (by decide) _ _ _)

theorem mem_startCtx (s : State) (c : CtxId) (x : Context) :
    memoriesOk (startCtx s c x) = memoriesOk s :=
  memoriesOk_congr [11] (by decide) (by decide) (by decide) (by decide) _ _ (forget_startCtx [11] (by decide) _ _ _)

theorem mem_wakeDies (s : State) :
    memoriesOk (wakeDies s) = memoriesOk s :=
  memoriesOk_congr [15] (by decide) (by decide) (by decide) (by decide) _ _ (forget_wakeDies [15] (by decide) _)

theorem mem_progress (s : State)
    (hm : memoriesOk s = true) : memoriesOk (progress s) = true := by
  unfold progress
  repeat' (first
    | with_reducible assumption
    | with_reducible rfl
    | simp (maxDischargeDepth := 12) only [mem_ite, endState_next, endState_ite, endState_fault, ite_self, mem_promoteWaiting, mem_shrinkRows,
      mem_wakeDies, hm]
    | split
    | (with_reducible refine mem_advance _ ?_))

theorem mem_dispatchAll (s : State) (i : Inst) (l : Lattice) (group : List Nat) (y4 : List Nat) (y5 : List CtxId)
    (hm : memoriesOk s = true) : ∀ t, dispatchAll s i l group y4 y5 = some t → memoriesOk t = true := by
  induction y4 generalizing y5 s with
  | nil =>
    cases y5 <;> intro t h <;> simp only [dispatchAll] at h <;> cases h
    exact hm
  | cons v vs ih =>
    cases y5 with
    | nil => intro t h; simp only [dispatchAll] at h; cases h
    | cons c cs =>
      intro t h
      simp only [dispatchAll] at h
      split at h
      · cases h
      · split at h
        · exact ih _ _ ((mem_addBalance _ _ _).trans ((mem_startCtx _ _ _).trans (mem_clearStale _ _ _ _ hm))) t h
        · cases h

theorem mem_execVertexDispatch (inst : InstRef) (vertices : List Nat) (at_ : List CtxId) (s : State)
    (hm : memoriesOk s = true) : memoriesOk (endState s (execVertexDispatch inst vertices at_ s)) = true := by
  unfold execVertexDispatch
  repeat' (first
    | with_reducible assumption
    | with_reducible rfl
    | simp (maxDischargeDepth := 12) only [mem_ite, endState_next, endState_ite, endState_fault, ite_self, mem_setInst, mem_setPower, hm]
    | split
    | (with_reducible exact mem_dispatchAll _ _ _ _ _ _ hm _ ‹_›))

theorem mem_execUpdateKernelInvocation (target : Nat) (units : List Nat) (at_ : CtxId) (s : State) :
    memoriesOk (endState s (execUpdateKernelInvocation target units at_ s)) = memoriesOk s :=
  memoriesOk_congr [11] (by decide) (by decide) (by decide) (by decide) _ _ (forget_execUpdateKernelInvocation [11] (by decide) _ _ _ _)

theorem mem_finishRow (s : State) (n : Nat) (v : Version) (e : Entry) (x : Context) (unit : Nat) :
    memoriesOk (finishRow s n v e x unit) = memoriesOk s :=
  memoriesOk_congr [3, 5, 6, 12, 15, 16, 17, 19, 20] (by decide) (by decide) (by decide) (by decide) _ _ (forget_finishRow [3, 5, 6, 12, 15, 16, 17, 19, 20] (by decide) (by decide) (by decide) (by decide) (by decide) (by decide) (by decide) (by decide) (by decide) _ _ _ _ _ _)

theorem mem_finishUnitBlock (s : State) (n : Nat) (d : TensorDecl) (x : Context) (block : Nat) (unit : Nat)
    (hm : memoriesOk s = true) : memoriesOk (finishUnitBlock s n d x block unit) = true := by
  unfold finishUnitBlock
  dsimp only
  split
  · exact (mem_skipBlock _ _ _ _).trans hm
  · refine mem_foldl _ (fun t k ht => ?_) _ _ ?_
    · exact memWf_mem_setSlot _ _ _ _ ht (memWf_patchTensor _ _ _ _ _ _ (memWf_slotMem _ _ _ ht))
    · exact memWf_mem_setTensor _ _ _ hm (memWf_patchTensor _ _ _ _ _ _ (memWf_tensorMem _ _ hm))

theorem mem_finishKernel (s : State) (x : Context)
    (hm : memoriesOk s = true) : memoriesOk (finishKernel s x) = true := by
  unfold finishKernel
  repeat' (first
    | with_reducible assumption
    | with_reducible rfl
    | simp (maxDischargeDepth := 12) only [mem_ite, endState_next, endState_ite, endState_fault, ite_self, mem_finishBlock, mem_finishRow, hm]
    | split
    | (with_reducible refine mem_foldl _ ?_ _ _ ?_; intro _ _ _)
    | (with_reducible refine mem_foldl _ ?_ _ _ ?_)
    | (with_reducible refine memWf_foldl _ (fun m a hw => ?_) _ _ ?_)
    | intro _ _ _
    | (with_reducible refine mem_finishUnitBlock _ _ _ _ _ _ ?_))

theorem mem_finishRetire (s : State) (c : CtxId) (x : Context)
    (hm : memoriesOk s = true) : memoriesOk (finishRetire s c x) = true := by
  unfold finishRetire
  repeat' (first
    | with_reducible assumption
    | with_reducible rfl
    | simp (maxDischargeDepth := 12) only [mem_ite, endState_next, endState_ite, endState_fault, ite_self, mem_addBalance, mem_freeDrained,
      mem_setInst, hm]
    | split
    | (with_reducible refine mem_finishKernel _ _ ?_)
    | (with_reducible refine mem_progress _ ?_)
    | (refine (mem_setSpindles_same _ _ rfl).trans ?_))

theorem mem_execRetire (c : CtxId) (w : Word) (s : State)
    (hm : memoriesOk s = true) : memoriesOk (endState s (execRetire c w s)) = true := by
  unfold execRetire
  repeat' (first
    | with_reducible assumption
    | with_reducible rfl
    | simp (maxDischargeDepth := 12) only [mem_ite, endState_next, endState_ite, endState_fault, ite_self, mem_setCtx, hm]
    | split
    | (with_reducible refine mem_plyStep _ _ _ _ _ ?_ hm; intro x y z)
    | (with_reducible refine mem_finishRetire _ _ _ ?_))

theorem mem_releaseHeld (s : State) (q : QueueId)
    (hm : memoriesOk s = true) : memoriesOk (releaseHeld s q) = true := by
  unfold releaseHeld
  repeat' (first
    | with_reducible assumption
    | with_reducible rfl
    | simp (maxDischargeDepth := 12) only [mem_ite, endState_next, endState_ite, endState_fault, ite_self, hm]
    | split
    | (with_reducible refine mem_foldl _ ?_ _ _ ?_; intro _ _ _)
    | (with_reducible refine mem_foldl _ ?_ _ _ ?_)
    | (with_reducible refine memWf_foldl _ (fun m a hw => ?_) _ _ ?_)
    | intro _ _ _
    | (with_reducible refine mem_finishRetire _ _ _ ?_))

theorem mem_execQueueCommandComplete (q : QueueId) (s : State)
    (hm : memoriesOk s = true) : memoriesOk (endState s (execQueueCommandComplete q s)) = true := by
  unfold execQueueCommandComplete
  repeat' (first
    | with_reducible assumption
    | with_reducible rfl
    | simp (maxDischargeDepth := 12) only [mem_ite, endState_next, endState_ite, endState_fault, ite_self, mem_setQueue, mem_signalBy, hm]
    | split
    | (with_reducible refine mem_releaseHeld _ _ ?_)
    | (with_reducible refine mem_progress _ ?_)
    | (with_reducible refine mem_runMove _ _ _ ?_)
    | (with_reducible refine mem_runProduct _ _ _ _ ?_))

theorem mem_setItem (s : State) (b : Nat) (key : Nat) (v : List Byte) :
    memoriesOk (setItem s b key v) = memoriesOk s :=
  memoriesOk_congr [4, 5, 6, 16] (by decide) (by decide) (by decide) (by decide) _ _ (forget_setItem [4, 5, 6, 16] (by decide) (by decide) (by decide) (by decide) _ _ _ _)

theorem mem_applyItem (s : State) (b : Nat) (key : Nat) (v : List Byte) :
    memoriesOk (applyItem s b key v) = memoriesOk s :=
  memoriesOk_congr [3, 4, 5, 6, 14, 15, 16, 20] (by decide) (by decide) (by decide) (by decide) _ _ (forget_applyItem [3, 4, 5, 6, 14, 15, 16, 20] (by decide) (by decide) (by decide) (by decide) (by decide) (by decide) (by decide) (by decide) _ _ _ _)

theorem mem_applySets (s : State) (b : Nat) :
    memoriesOk (applySets s b) = memoriesOk s :=
  memoriesOk_congr [3, 4, 5, 6, 14, 15, 16, 20] (by decide) (by decide) (by decide) (by decide) _ _ (forget_applySets [3, 4, 5, 6, 14, 15, 16, 20] (by decide) (by decide) (by decide) (by decide) (by decide) (by decide) (by decide) (by decide) _ _)

theorem mem_finishItem (s : State) (d : Sub) (f : Status × Nat × Nat) :
    memoriesOk (finishItem s d f) = memoriesOk s :=
  memoriesOk_congr [3] (by decide) (by decide) (by decide) (by decide) _ _ (forget_finishItem [3] (by decide) _ _ _)

theorem mem_finishNa (s : State) (d : Sub) (st : Status) :
    memoriesOk (finishNa s d st) = memoriesOk s :=
  memoriesOk_congr [3] (by decide) (by decide) (by decide) (by decide) _ _ (forget_finishNa [3] (by decide) _ _ _)

theorem mem_runStageConfig (d : Sub) (s : State)
    (hm : memoriesOk s = true) : memoriesOk (runStageConfig d s) = true := by
  unfold runStageConfig
  repeat' (first
    | with_reducible assumption
    | with_reducible rfl
    | simp (maxDischargeDepth := 12) only [mem_ite, endState_next, endState_ite, endState_fault, ite_self, mem_applyItem, mem_finish,
      mem_finishItem, mem_finishNa, mem_setCfg, hm]
    | split
    | (with_reducible refine mem_foldl _ ?_ _ _ ?_; intro _ _ _)
    | (with_reducible refine mem_foldl _ ?_ _ _ ?_)
    | (with_reducible refine memWf_foldl _ (fun m a hw => ?_) _ _ ?_)
    | intro _ _ _
    | (with_reducible refine mem_progress _ ?_))

theorem mem_execStageConfig (d : Sub) (s : State)
    (hm : memoriesOk s = true) : memoriesOk (endState s (execStageConfig d s)) = true := by
  unfold execStageConfig
  repeat' (first
    | with_reducible assumption
    | with_reducible rfl
    | simp (maxDischargeDepth := 12) only [mem_ite, endState_next, endState_ite, endState_fault, ite_self, hm]
    | split
    | (with_reducible refine mem_beginCommand _ _ _ _ _ ?_ hm; intro x hx)
    | (with_reducible refine mem_runStageConfig _ _ ?_))

theorem mem_execCommitConfig (d : Sub) (s : State) :
    memoriesOk (endState s (execCommitConfig d s)) = memoriesOk s :=
  memoriesOk_congr [3, 4, 5, 6, 16] (by decide) (by decide) (by decide) (by decide) _ _ (forget_execCommitConfig [3, 4, 5, 6, 16] (by decide) (by decide) (by decide) (by decide) (by decide) _ _)

theorem mem_execDiscardConfig (d : Sub) (s : State) :
    memoriesOk (endState s (execDiscardConfig d s)) = memoriesOk s :=
  memoriesOk_congr [3, 4] (by decide) (by decide) (by decide) (by decide) _ _ (forget_execDiscardConfig [3, 4] (by decide) (by decide) _ _)

theorem mem_execRowData (rx : Rx) (f : RowDataF) (s : State)
    (hm : memoriesOk s = true) : memoriesOk (endState s (execRowData rx f s)) = true := by
  unfold execRowData
  repeat' (first
    | with_reducible assumption
    | with_reducible rfl
    | simp (maxDischargeDepth := 12) only [mem_ite, endState_next, endState_ite, endState_fault, ite_self, hm]
    | split
    | (with_reducible refine mem_receive _ _ _ _ _ _ ?_ hm; intro x hx)
    | (with_reducible refine mem_progress _ ?_)
    | (with_reducible refine mem_deliverRows _ _ ?_))

theorem mem_execPartialSum (rx : Rx) (f : PartialSumF) (s : State)
    (hm : memoriesOk s = true) : memoriesOk (endState s (execPartialSum rx f s)) = true := by
  unfold execPartialSum
  repeat' (first
    | with_reducible assumption
    | with_reducible rfl
    | simp (maxDischargeDepth := 12) only [mem_ite, endState_next, endState_ite, endState_fault, ite_self, hm]
    | split
    | (with_reducible refine mem_receive _ _ _ _ _ _ ?_ hm; intro x hx)
    | (with_reducible refine mem_progress _ ?_)
    | (with_reducible refine mem_deliverSums _ _ _ ?_))

theorem mem_execRowRequestServe (source : Nat) (step : Nat) (table : Nat) (pass : Nat) (s : State)
    (hm : memoriesOk s = true) : memoriesOk (endState s (execRowRequestServe source step table pass s)) = true := by
  unfold execRowRequestServe
  repeat' (first
    | with_reducible assumption
    | with_reducible rfl
    | simp (maxDischargeDepth := 12) only [mem_ite, endState_next, endState_ite, endState_fault, ite_self, mem_memberLost, mem_setOwners, hm]
    | split
    | (with_reducible refine mem_progress _ ?_)
    | (with_reducible refine mem_serveRequest _ _ _ ?_))

theorem mem_sendRequests (s : State) (inst : InstRef) (c : Section) (v : Version) (p : Nat × Nat) (k : Card) :
    memoriesOk (sendRequests s inst c v p k) = memoriesOk s :=
  memoriesOk_congr [3, 6, 12, 14, 15, 16, 20] (by decide) (by decide) (by decide) (by decide) _ _ (forget_sendRequests [3, 6, 12, 14, 15, 16, 20] (by decide) (by decide) (by decide) (by decide) (by decide) (by decide) (by decide) _ _ _ _ _ _)

theorem mem_execCardingPassEnd (inst : InstRef) (table : Nat) (pass : Nat) (s : State)
    (hm : memoriesOk s = true) : memoriesOk (endState s (execCardingPassEnd inst table pass s)) = true := by
  unfold execCardingPassEnd
  repeat' (first
    | with_reducible assumption
    | with_reducible rfl
    | simp (maxDischargeDepth := 12) only [mem_ite, endState_next, endState_ite, endState_fault, ite_self, mem_sendRequests, mem_setSection, hm]
    | split
    | (with_reducible refine mem_progress _ ?_))

theorem mem_execDenseBlockUpdate (treeId : Nat) (block : Nat) (s : State)
    (hm : memoriesOk s = true) : memoriesOk (endState s (execDenseBlockUpdate treeId block s)) = true := by
  unfold execDenseBlockUpdate
  repeat' (first
    | with_reducible assumption
    | with_reducible rfl
    | simp (maxDischargeDepth := 12) only [mem_ite, endState_next, endState_ite, endState_fault, ite_self, mem_finishBlock, mem_skipBlock, hm]
    | split
    | (with_reducible refine mem_progress _ ?_)
    | (with_reducible refine mem_applyBlockUnit _ _ _ _ _ ?_))

theorem mem_execDigest (rx : Rx) (f : DigestF) (s : State)
    (hm : memoriesOk s = true) : memoriesOk (endState s (execDigest rx f s)) = true := by
  unfold execDigest
  repeat' (first
    | with_reducible assumption
    | with_reducible rfl
    | simp (maxDischargeDepth := 12) only [mem_ite, endState_next, endState_ite, endState_fault, ite_self, mem_takeDigest, hm]
    | split
    | (with_reducible refine mem_receive _ _ _ _ _ _ ?_ hm; intro x hx)
    | (with_reducible refine mem_progress _ ?_))

theorem mem_execSliceData (rx : Rx) (f : SliceDataF) (s : State)
    (hm : memoriesOk s = true) : memoriesOk (endState s (execSliceData rx f s)) = true := by
  unfold execSliceData
  repeat' (first
    | with_reducible assumption
    | with_reducible rfl
    | simp (maxDischargeDepth := 12) only [mem_ite, endState_next, endState_ite, endState_fault, ite_self, hm]
    | split
    | (with_reducible refine mem_receive _ _ _ _ _ _ ?_ hm; intro x hx)
    | (with_reducible refine mem_progress _ ?_)
    | (with_reducible refine mem_takeSlice _ _ ?_))

theorem mem_runStepInput (d : Sub) (s : State)
    (hm : memoriesOk s = true) : memoriesOk (runStepInput d s) = true := by
  unfold runStepInput
  repeat' (first
    | with_reducible assumption
    | with_reducible rfl
    | simp (maxDischargeDepth := 12) only [mem_ite, endState_next, endState_ite, endState_fault, ite_self, mem_finish, mem_setSteps, hm]
    | split
    | (with_reducible refine mem_progress _ ?_))

theorem mem_execStepInput (d : Sub) (s : State)
    (hm : memoriesOk s = true) : memoriesOk (endState s (execStepInput d s)) = true := by
  unfold execStepInput
  repeat' (first
    | with_reducible assumption
    | with_reducible rfl
    | simp (maxDischargeDepth := 12) only [mem_ite, endState_next, endState_ite, endState_fault, ite_self, hm]
    | split
    | (with_reducible refine mem_beginCommand _ _ _ _ _ ?_ hm; intro x hx)
    | (with_reducible refine mem_runStepInput _ _ ?_))

theorem mem_withdrawStep (s : State) (n : Nat) (f : Refused) :
    memoriesOk (withdrawStep s n f) = memoriesOk s :=
  memoriesOk_congr [3, 5, 28] (by decide) (by decide) (by decide) (by decide) _ _ (forget_withdrawStep [3, 5, 28] (by decide) (by decide) (by decide) _ _ _)

theorem mem_execStepInputBlocksRead (step : Nat) (units : List Nat) (s : State)
    (hm : memoriesOk s = true) : memoriesOk (endState s (execStepInputBlocksRead step units s)) = true := by
  unfold execStepInputBlocksRead
  repeat' (first
    | with_reducible assumption
    | with_reducible rfl
    | simp (maxDischargeDepth := 12) only [mem_ite, endState_next, endState_ite, endState_fault, ite_self, mem_finish, mem_setStep,
      mem_withdrawStep, hm]
    | split
    | (with_reducible refine mem_progress _ ?_))

theorem mem_execEvalRequest (d : Sub) (s : State) :
    memoriesOk (endState s (execEvalRequest d s)) = memoriesOk s :=
  memoriesOk_congr [3, 5] (by decide) (by decide) (by decide) (by decide) _ _ (forget_execEvalRequest [3, 5] (by decide) (by decide) _ _)

theorem mem_dropEval (s : State) (e : EvalReq) :
    memoriesOk (dropEval s e) = memoriesOk s :=
  memoriesOk_congr [5] (by decide) (by decide) (by decide) (by decide) _ _ (forget_dropEval [5] (by decide) _ _)

theorem mem_startEvals (s : State) :
    memoriesOk (startEvals s) = memoriesOk s :=
  memoriesOk_congr [5] (by decide) (by decide) (by decide) (by decide) _ _ (forget_startEvals [5] (by decide) _)

theorem mem_execEvalBlocksRead (boundary : Nat) (handle : Nat) (units : List Nat) (s : State)
    (hm : memoriesOk s = true) : memoriesOk (endState s (execEvalBlocksRead boundary handle units s)) = true := by
  unfold execEvalBlocksRead
  repeat' (first
    | with_reducible assumption
    | with_reducible rfl
    | simp (maxDischargeDepth := 12) only [mem_ite, endState_next, endState_ite, endState_fault, ite_self, mem_dropEval, mem_finishWith,
      mem_setEval, hm]
    | split
    | (with_reducible refine mem_progress _ ?_))

theorem mem_writeOutputs (s : State) (e : EvalReq) (l : Lattice)
    (hm : memoriesOk s = true) : memoriesOk (writeOutputs s e l) = true := by
  unfold writeOutputs
  repeat' (first
    | with_reducible assumption
    | with_reducible rfl
    | simp (maxDischargeDepth := 12) only [mem_ite, endState_next, endState_ite, endState_fault, ite_self, hm]
    | split
    | (with_reducible refine mem_foldl _ ?_ _ _ ?_; intro _ _ _)
    | (with_reducible refine mem_foldl _ ?_ _ _ ?_)
    | (with_reducible refine memWf_foldl _ (fun m a hw => ?_) _ _ ?_)
    | intro _ _ _
    | (with_reducible refine mem_windowWrite _ _ _ ?_))

theorem mem_execEvalComplete (boundary : Nat) (handle : Nat) (s : State)
    (hm : memoriesOk s = true) : memoriesOk (endState s (execEvalComplete boundary handle s)) = true := by
  unfold execEvalComplete
  repeat' (first
    | with_reducible assumption
    | with_reducible rfl
    | simp (maxDischargeDepth := 12) only [mem_ite, endState_next, endState_ite, endState_fault, ite_self, mem_dropEval, mem_finish,
      mem_startEvals, hm]
    | split
    | (with_reducible refine mem_progress _ ?_)
    | (with_reducible refine mem_writeOutputs _ _ _ ?_))

theorem mem_takeHank (s : State) (b : Nat) :
    memoriesOk (takeHank s b) = memoriesOk s :=
  memoriesOk_congr [6, 15, 16, 19] (by decide) (by decide) (by decide) (by decide) _ _ (forget_takeHank [6, 15, 16, 19] (by decide) (by decide) (by decide) (by decide) _ _)

theorem mem_settleHanks (s : State) :
    memoriesOk (settleHanks s) = memoriesOk s :=
  memoriesOk_congr [3, 14, 16, 19, 20] (by decide) (by decide) (by decide) (by decide) _ _ (forget_settleHanks [3, 14, 16, 19, 20] (by decide) (by decide) (by decide) (by decide) (by decide) _)

theorem mem_copyPage (s : State) (p : PageRef) :
    memoriesOk (copyPage s p) = memoriesOk s :=
  memoriesOk_congr [15, 16, 17] (by decide) (by decide) (by decide) (by decide) _ _ (forget_copyPage [15, 16, 17] (by decide) (by decide) (by decide) _ _)

theorem mem_writeCopy (s : State) (p : PageRef) :
    memoriesOk (writeCopy s p) = memoriesOk s :=
  memoriesOk_congr [16, 19] (by decide) (by decide) (by decide) (by decide) _ _ (forget_writeCopy [16, 19] (by decide) (by decide) _ _)

theorem mem_execHankPageCopy (boundary : Nat) (page : PageRef) (s : State)
    (hm : memoriesOk s = true) : memoriesOk (endState s (execHankPageCopy boundary page s)) = true := by
  unfold execHankPageCopy
  repeat' (first
    | with_reducible assumption
    | with_reducible rfl
    | simp (maxDischargeDepth := 12) only [mem_ite, endState_next, endState_ite, endState_fault, ite_self, mem_copyPage, mem_settleHanks,
      mem_writeCopy, hm]
    | split
    | (with_reducible refine mem_progress _ ?_))

theorem mem_execSecuringHoldEnd (boundary : Nat) (s : State)
    (hm : memoriesOk s = true) : memoriesOk (endState s (execSecuringHoldEnd boundary s)) = true := by
  unfold execSecuringHoldEnd
  repeat' (first
    | with_reducible assumption
    | with_reducible rfl
    | simp (maxDischargeDepth := 12) only [mem_ite, endState_next, endState_ite, endState_fault, ite_self, mem_setSecuring, mem_settleHanks, hm]
    | split
    | (with_reducible refine mem_progress _ ?_))

theorem mem_execSecuringReport (rx : Rx) (f : SecuringReportF) (s : State) :
    memoriesOk (endState s (execSecuringReport rx f s)) = memoriesOk s :=
  memoriesOk_congr [3, 14, 16, 20, 21] (by decide) (by decide) (by decide) (by decide) _ _ (forget_execSecuringReport [3, 14, 16, 20, 21] (by decide) (by decide) (by decide) (by decide) (by decide) _ _ _)

theorem mem_execSecuringDecision (rx : Rx) (f : SecuringDecisionF) (s : State) :
    memoriesOk (endState s (execSecuringDecision rx f s)) = memoriesOk s :=
  memoriesOk_congr [3, 14, 16, 20] (by decide) (by decide) (by decide) (by decide) _ _ (forget_execSecuringDecision [3, 14, 16, 20] (by decide) (by decide) (by decide) (by decide) _ _ _)

theorem mem_execHankSeal (boundary : Nat) (s : State) :
    memoriesOk (endState s (execHankSeal boundary s)) = memoriesOk s :=
  memoriesOk_congr [3, 14, 16, 19, 20, 21] (by decide) (by decide) (by decide) (by decide) _ _ (forget_execHankSeal [3, 14, 16, 19, 20, 21] (by decide) (by decide) (by decide) (by decide) (by decide) (by decide) _ _)

theorem mem_execHankData (rx : Rx) (f : HankDataF) (s : State) :
    memoriesOk (endState s (execHankData rx f s)) = memoriesOk s :=
  memoriesOk_congr [3, 14, 16, 19, 20] (by decide) (by decide) (by decide) (by decide) _ _ (forget_execHankData [3, 14, 16, 19, 20] (by decide) (by decide) (by decide) (by decide) (by decide) _ _ _)

theorem mem_execSecureNow (d : Sub) (s : State) :
    memoriesOk (endState s (execSecureNow d s)) = memoriesOk s :=
  memoriesOk_congr [3, 16] (by decide) (by decide) (by decide) (by decide) _ _ (forget_execSecureNow [3, 16] (by decide) (by decide) _ _)

theorem mem_execReportFailure (d : Sub) (s : State) :
    memoriesOk (endState s (execReportFailure d s)) = memoriesOk s :=
  memoriesOk_congr [3, 16] (by decide) (by decide) (by decide) (by decide) _ _ (forget_execReportFailure [3, 16] (by decide) (by decide) _ _)

theorem mem_execExportSkein (d : Sub) (s : State) :
    memoriesOk (endState s (execExportSkein d s)) = memoriesOk s :=
  memoriesOk_congr [3, 17] (by decide) (by decide) (by decide) (by decide) _ _ (forget_execExportSkein [3, 17] (by decide) (by decide) _ _)

theorem mem_setExport (s : State) (e : ExportJob) :
    memoriesOk (setExport s e) = memoriesOk s :=
  memoriesOk_congr [17] (by decide) (by decide) (by decide) (by decide) _ _ (forget_setExport [17] (by decide) _ _)

theorem mem_startExports (s : State) (b : Nat) :
    memoriesOk (startExports s b) = memoriesOk s :=
  memoriesOk_congr [17] (by decide) (by decide) (by decide) (by decide) _ _ (forget_startExports [17] (by decide) _ _)

theorem mem_exportLanded (s : State) (b : Nat) (table : Nat) (skein : Nat) :
    memoriesOk (exportLanded s b table skein) = memoriesOk s :=
  memoriesOk_congr [17] (by decide) (by decide) (by decide) (by decide) _ _ (forget_exportLanded [17] (by decide) _ _ _ _)

theorem mem_writeExport (s : State) (x : ExportRecord) :
    memoriesOk (writeExport s x) = memoriesOk s :=
  memoriesOk_congr [3] (by decide) (by decide) (by decide) (by decide) _ _ (forget_writeExport [3] (by decide) _ _)

theorem mem_execExportChunk (ring : Nat) (index : Word32) (rows : Nat) (s : State)
    (hm : memoriesOk s = true) : memoriesOk (endState s (execExportChunk ring index rows s)) = true := by
  unfold execExportChunk
  repeat' (first
    | with_reducible assumption
    | with_reducible rfl
    | simp (maxDischargeDepth := 12) only [mem_ite, endState_next, endState_ite, endState_fault, ite_self, mem_finishWith, mem_setExport,
      mem_setOutputs, mem_writeExport, hm]
    | split
    | (with_reducible refine mem_progress _ ?_)
    | (with_reducible refine mem_windowWrite _ _ _ ?_))

theorem mem_execDeltaControlStart (d : Sub) (s : State) :
    memoriesOk (endState s (execDeltaControlStart d s)) = memoriesOk s :=
  memoriesOk_congr [3, 17] (by decide) (by decide) (by decide) (by decide) _ _ (forget_execDeltaControlStart [3, 17] (by decide) (by decide) _ _)

theorem mem_execDeltaControlStop (d : Sub) (s : State) :
    memoriesOk (endState s (execDeltaControlStop d s)) = memoriesOk s :=
  memoriesOk_congr [3, 17] (by decide) (by decide) (by decide) (by decide) _ _ (forget_execDeltaControlStop [3, 17] (by decide) (by decide) _ _)

theorem mem_settleDelta (s : State) (b : Nat) :
    memoriesOk (settleDelta s b) = memoriesOk s :=
  memoriesOk_congr [3, 17] (by decide) (by decide) (by decide) (by decide) _ _ (forget_settleDelta [3, 17] (by decide) (by decide) _ _)

theorem mem_passDelta (s : State) (b : Nat) :
    memoriesOk (passDelta s b) = memoriesOk s :=
  memoriesOk_congr [3, 17] (by decide) (by decide) (by decide) (by decide) _ _ (forget_passDelta [3, 17] (by decide) (by decide) _ _)

theorem mem_runTelemetrySnapshot (d : Sub) (s : State)
    (hm : memoriesOk s = true) : memoriesOk (runTelemetrySnapshot d s) = true := by
  unfold runTelemetrySnapshot
  repeat' (first
    | with_reducible assumption
    | with_reducible rfl
    | simp (maxDischargeDepth := 12) only [mem_ite, endState_next, endState_ite, endState_fault, ite_self, mem_finish, mem_finishWith, hm]
    | split
    | (with_reducible refine mem_windowWrite _ _ _ ?_))

theorem mem_execTelemetrySnapshot (d : Sub) (s : State)
    (hm : memoriesOk s = true) : memoriesOk (endState s (execTelemetrySnapshot d s)) = true := by
  unfold execTelemetrySnapshot
  repeat' (first
    | with_reducible assumption
    | with_reducible rfl
    | simp (maxDischargeDepth := 12) only [mem_ite, endState_next, endState_ite, endState_fault, ite_self, hm]
    | split
    | (with_reducible refine mem_beginCommand _ _ _ _ _ ?_ hm; intro x hx)
    | (with_reducible refine mem_runTelemetrySnapshot _ _ ?_))

theorem mem_withhold (s : State) (step : Nat) (reason : Nat) (named : Option Nat) :
    memoriesOk (withhold s step reason named) = memoriesOk s :=
  memoriesOk_congr [3, 5, 14, 16, 20] (by decide) (by decide) (by decide) (by decide) _ _ (forget_withhold [3, 5, 14, 16, 20] (by decide) (by decide) (by decide) (by decide) (by decide) _ _ _ _)

theorem mem_execSliverColumnTest (die : Nat) (sliver : Nat) (pass : Bool) (s : State)
    (hm : memoriesOk s = true) : memoriesOk (endState s (execSliverColumnTest die sliver pass s)) = true := by
  unfold execSliverColumnTest
  repeat' (first
    | with_reducible assumption
    | with_reducible rfl
    | simp (maxDischargeDepth := 12) only [mem_ite, endState_next, endState_ite, endState_fault, ite_self, mem_memberLost, mem_setSecuring,
      mem_setStep, mem_withhold, hm]
    | split
    | (with_reducible refine mem_progress _ ?_))

theorem mem_sendDecision (s : State) (f : CommitDecisionF) :
    memoriesOk (sendDecision s f) = memoriesOk s :=
  memoriesOk_congr [3, 14, 16, 20] (by decide) (by decide) (by decide) (by decide) _ _ (forget_sendDecision [3, 14, 16, 20] (by decide) (by decide) (by decide) (by decide) _ _)

theorem mem_execCommitReportSend (s : State) :
    memoriesOk (endState s (execCommitReportSend s)) = memoriesOk s :=
  memoriesOk_congr [3, 5, 14, 16, 20] (by decide) (by decide) (by decide) (by decide) _ _ (forget_execCommitReportSend [3, 5, 14, 16, 20] (by decide) (by decide) (by decide) (by decide) (by decide) _)

theorem mem_execCommitReport (rx : Rx) (f : CommitReportF) (s : State) :
    memoriesOk (endState s (execCommitReport rx f s)) = memoriesOk s :=
  memoriesOk_congr [3, 5, 14, 16, 20] (by decide) (by decide) (by decide) (by decide) _ _ (forget_execCommitReport [3, 5, 14, 16, 20] (by decide) (by decide) (by decide) (by decide) (by decide) _ _ _)

theorem mem_passLossScale (s : State) (overflow : Bool) :
    memoriesOk (passLossScale s overflow) = memoriesOk s :=
  memoriesOk_congr [5] (by decide) (by decide) (by decide) (by decide) _ _ (forget_passLossScale [5] (by decide) _ _)

theorem mem_settleEvals (b : Nat) (y1 : List EvalReq) (y2 : List Nat) (y3 : State) :
    memoriesOk (settleEvals b y1 y2 y3) = memoriesOk y3 :=
  memoriesOk_congr [3, 5] (by decide) (by decide) (by decide) (by decide) _ _ (forget_settleEvals [3, 5] (by decide) (by decide) _ _ _ _)

theorem mem_decayHeat (s : State) :
    memoriesOk (decayHeat s) = memoriesOk s :=
  memoriesOk_congr [6] (by decide) (by decide) (by decide) (by decide) _ _ (forget_decayHeat [6] (by decide) _)

theorem mem_dropStepWork (s : State) (b : Nat) :
    memoriesOk (dropStepWork s b) = memoriesOk s :=
  memoriesOk_congr [12, 13] (by decide) (by decide) (by decide) (by decide) _ _ (forget_dropStepWork [12, 13] (by decide) (by decide) _ _)

theorem mem_rebalance (s : State) (b : Nat) :
    memoriesOk (rebalance s b) = memoriesOk s :=
  memoriesOk_congr [12] (by decide) (by decide) (by decide) (by decide) _ _ (forget_rebalance [12] (by decide) _ _)

theorem mem_releaseCredits (s : State) :
    memoriesOk (releaseCredits s) = memoriesOk s :=
  memoriesOk_congr [12] (by decide) (by decide) (by decide) (by decide) _ _ (forget_releaseCredits [12] (by decide) _)

theorem mem_freeLanded (s : State) :
    memoriesOk (freeLanded s) = memoriesOk s :=
  memoriesOk_congr [6] (by decide) (by decide) (by decide) (by decide) _ _ (forget_freeLanded [6] (by decide) _)

theorem mem_noteLoss (s : State) (b : Nat) (loss : Word32) :
    memoriesOk (noteLoss s b loss) = memoriesOk s :=
  memoriesOk_congr [16] (by decide) (by decide) (by decide) (by decide) _ _ (forget_noteLoss [16] (by decide) _ _ _)

theorem mem_decideExponent (s : State) (n : Nat) :
    memoriesOk (decideExponent s n) = memoriesOk s :=
  memoriesOk_congr [5] (by decide) (by decide) (by decide) (by decide) _ _ (forget_decideExponent [5] (by decide) _ _)

theorem mem_passBoundary (s : State) (f : CommitDecisionF)
    (hm : memoriesOk s = true) : memoriesOk (passBoundary s f) = true := by
  unfold passBoundary
  repeat' (first
    | with_reducible assumption
    | with_reducible rfl
    | simp (maxDischargeDepth := 12) only [mem_ite, endState_next, endState_ite, endState_fault, ite_self, mem_applySets, mem_decayHeat,
      mem_decideExponent, mem_dropStepWork, mem_dueDigests, mem_freeLanded, mem_noteLoss, mem_passDelta,
      mem_passLossScale, mem_postEvent, mem_rebalance, mem_releaseCredits, mem_scrubAt, mem_setSecuring,
      mem_setSteps, mem_settleEvals, mem_startEvals, mem_startExports, mem_takeHank, hm]
    | split
    | (with_reducible refine mem_progress _ ?_))

theorem mem_refuseCommit (s : State) (f : CommitDecisionF) :
    memoriesOk (refuseCommit s f) = memoriesOk s :=
  memoriesOk_congr [3, 5, 16, 20] (by decide) (by decide) (by decide) (by decide) _ _ (forget_refuseCommit [3, 5, 16, 20] (by decide) (by decide) (by decide) (by decide) _ _)

theorem mem_applyDecision (s : State) (f : CommitDecisionF)
    (hm : memoriesOk s = true) : memoriesOk (applyDecision s f) = true := by
  unfold applyDecision
  repeat' (first
    | with_reducible assumption
    | with_reducible rfl
    | simp (maxDischargeDepth := 12) only [mem_ite, endState_next, endState_ite, endState_fault, ite_self, mem_refuseCommit, mem_setCfg,
      mem_setSteps, hm]
    | split
    | (with_reducible refine mem_passBoundary _ _ ?_))

theorem mem_execCommitDecision (rx : Rx) (f : CommitDecisionF) (s : State)
    (hm : memoriesOk s = true) : memoriesOk (endState s (execCommitDecision rx f s)) = true := by
  unfold execCommitDecision
  repeat' (first
    | with_reducible assumption
    | with_reducible rfl
    | simp (maxDischargeDepth := 12) only [mem_ite, endState_next, endState_ite, endState_fault, ite_self, mem_sendDecision, hm]
    | split
    | (with_reducible refine mem_receive _ _ _ _ _ _ ?_ hm; intro x hx)
    | (with_reducible refine mem_applyDecision _ _ ?_))

theorem mem_execHalt (rx : Rx) (f : HaltF) (s : State) :
    memoriesOk (endState s (execHalt rx f s)) = memoriesOk s :=
  memoriesOk_congr [3, 5, 14, 16, 20] (by decide) (by decide) (by decide) (by decide) _ _ (forget_execHalt [3, 5, 14, 16, 20] (by decide) (by decide) (by decide) (by decide) (by decide) _ _ _)

theorem mem_execRouteTableFree (s : State)
    (hm : memoriesOk s = true) : memoriesOk (endState s (execRouteTableFree s)) = true := by
  unfold execRouteTableFree
  repeat' (first
    | with_reducible assumption
    | with_reducible rfl
    | simp (maxDischargeDepth := 12) only [mem_ite, endState_next, endState_ite, endState_fault, ite_self, mem_pump, mem_setCfg, hm]
    | split
    | (with_reducible refine mem_passBoundary _ _ ?_))

theorem mem_landingPage (s : State) (v : Version) (f : SkeinTransferF) :
    memoriesOk (landingPage s v f).1 = memoriesOk s :=
  memoriesOk_congr [6] (by decide) (by decide) (by decide) (by decide) _ _ (forget_landingPage [6] (by decide) _ _ _)

theorem mem_patchHanks (s : State) (b : Nat) (v : Version) (p : Page) :
    memoriesOk (patchHanks s b v p) = memoriesOk s :=
  memoriesOk_congr [16] (by decide) (by decide) (by decide) (by decide) _ _ (forget_patchHanks [16] (by decide) _ _ _ _)

theorem mem_settlePage (s : State) (p : Page) :
    memoriesOk (settlePage s p) = memoriesOk s :=
  memoriesOk_congr [6, 15, 19] (by decide) (by decide) (by decide) (by decide) _ _ (forget_settlePage [6, 15, 19] (by decide) (by decide) (by decide) _ _)

theorem mem_landSkein (s : State) (f : SkeinTransferF)
    (hm : memoriesOk s = true) : memoriesOk (landSkein s f) = true := by
  unfold landSkein
  repeat' (first
    | with_reducible assumption
    | with_reducible rfl
    | simp (maxDischargeDepth := 12) only [mem_ite, endState_next, endState_ite, endState_fault, ite_self, mem_exportLanded, mem_setTables,
      mem_settleHanks, mem_settlePage, hm]
    | split
    | (with_reducible refine mem_foldl _ ?_ _ _ ?_; intro _ _ _)
    | (with_reducible refine mem_foldl _ ?_ _ _ ?_)
    | (with_reducible refine memWf_foldl _ (fun m a hw => ?_) _ _ ?_)
    | intro _ _ _
    | (with_reducible refine mem_progress _ ?_))

theorem mem_takeTransfer (s : State) (f : SkeinTransferF)
    (hm : memoriesOk s = true) : memoriesOk (takeTransfer s f) = true := by
  unfold takeTransfer
  repeat' (first
    | with_reducible assumption
    | with_reducible rfl
    | simp (maxDischargeDepth := 12) only [mem_ite, endState_next, endState_ite, endState_fault, ite_self, mem_landingPage, mem_patchHanks,
      mem_setPage, mem_setVersion, hm]
    | split
    | (with_reducible refine mem_landSkein _ _ ?_))

theorem mem_execSkeinTransfer (rx : Rx) (f : SkeinTransferF) (s : State)
    (hm : memoriesOk s = true) : memoriesOk (endState s (execSkeinTransfer rx f s)) = true := by
  unfold execSkeinTransfer
  repeat' (first
    | with_reducible assumption
    | with_reducible rfl
    | simp (maxDischargeDepth := 12) only [mem_ite, endState_next, endState_ite, endState_fault, ite_self, hm]
    | split
    | (with_reducible refine mem_receive _ _ _ _ _ _ ?_ hm; intro x hx)
    | (with_reducible refine mem_takeTransfer _ _ ?_))

theorem mem_execLoadProgram (d : Sub) (s : State) :
    memoriesOk (endState s (execLoadProgram d s)) = memoriesOk s :=
  memoriesOk_congr [3, 7] (by decide) (by decide) (by decide) (by decide) _ _ (forget_execLoadProgram [3, 7] (by decide) (by decide) _ _)

theorem mem_execLoadProgramSlotTaken (slot : Nat) (s : State) :
    memoriesOk (endState s (execLoadProgramSlotTaken slot s)) = memoriesOk s :=
  memoriesOk_congr [7] (by decide) (by decide) (by decide) (by decide) _ _ (forget_execLoadProgramSlotTaken [7] (by decide) _ _)

theorem mem_unload (s : State) (d : Sub) (handle : Nat) :
    memoriesOk (unload s d handle) = memoriesOk s :=
  memoriesOk_congr [3, 7] (by decide) (by decide) (by decide) (by decide) _ _ (forget_unload [3, 7] (by decide) (by decide) _ _ _)

theorem mem_execTranslationEnd (handle : Nat) (s : State)
    (hm : memoriesOk s = true) : memoriesOk (endState s (execTranslationEnd handle s)) = true := by
  unfold execTranslationEnd
  repeat' (first
    | with_reducible assumption
    | with_reducible rfl
    | simp (maxDischargeDepth := 12) only [mem_ite, endState_next, endState_ite, endState_fault, ite_self, mem_finish, mem_freeDrained,
      mem_setPrograms, mem_unload, hm]
    | split
    | (with_reducible refine mem_foldl _ ?_ _ _ ?_; intro _ _ _)
    | (with_reducible refine mem_foldl _ ?_ _ _ ?_)
    | (with_reducible refine memWf_foldl _ (fun m a hw => ?_) _ _ ?_)
    | intro _ _ _
    | (with_reducible refine mem_progress _ ?_))

theorem mem_execUnloadProgram (d : Sub) (s : State) :
    memoriesOk (endState s (execUnloadProgram d s)) = memoriesOk s :=
  memoriesOk_congr [3, 7] (by decide) (by decide) (by decide) (by decide) _ _ (forget_execUnloadProgram [3, 7] (by decide) (by decide) _ _)

theorem mem_withLattice (s : State) (l : Lattice) :
    memoriesOk (withLattice s l) = memoriesOk s :=
  memoriesOk_congr [8] (by decide) (by decide) (by decide) (by decide) _ _ (forget_withLattice [8] (by decide) _ _)

theorem mem_absentReplicas (s : State) :
    memoriesOk (absentReplicas s) = memoriesOk s :=
  memoriesOk_congr [3, 13, 14, 16, 20] (by decide) (by decide) (by decide) (by decide) _ _ (forget_absentReplicas [3, 13, 14, 16, 20] (by decide) (by decide) (by decide) (by decide) (by decide) _)

theorem mem_startReplicas (s : State) :
    memoriesOk (startReplicas s) = memoriesOk s :=
  memoriesOk_congr [3, 13, 14, 16, 20] (by decide) (by decide) (by decide) (by decide) _ _ (forget_startReplicas [3, 13, 14, 16, 20] (by decide) (by decide) (by decide) (by decide) (by decide) _)

theorem mem_makeResident (s : State) (l : Lattice)
    (hm : memoriesOk s = true) : memoriesOk (makeResident s l) = true := by
  unfold makeResident
  repeat' (first
    | with_reducible assumption
    | with_reducible rfl
    | simp (maxDischargeDepth := 12) only [mem_ite, endState_next, endState_ite, endState_fault, ite_self, memWf_clearGrain,
      memWf_convertInto, memWf_mem_setTensor, memWf_patchTensor, memWf_storeConverted, memWf_storeRaw,
      memWf_tensorMem, mem_startReplicas, mem_withLattice, hm]
    | split
    | (with_reducible refine mem_foldl _ ?_ _ _ ?_; intro _ _ _)
    | (with_reducible refine mem_foldl _ ?_ _ _ ?_)
    | (with_reducible refine memWf_foldl _ (fun m a hw => ?_) _ _ ?_)
    | intro _ _ _
    | (with_reducible refine memWf_mem_setTensor _ _ _ ?_ ?_)
    | (with_reducible refine memWf_tensorMem _ _ ?_)
    | (with_reducible refine memWf_writeElem _ _ _ _ ?_)
    | (with_reducible refine memWf_writeScale _ _ _ _ ?_)
    | (with_reducible refine memWf_convertInto _ _ _ _ _ ?_)
    | (with_reducible refine memWf_patchTensor _ _ _ _ _ _ ?_)
    | (with_reducible refine memWf_clearGrain _ _ _ ?_)
    | (with_reducible refine memWf_memWrites _ _ _ ?_)
    | with_reducible exact memWf_nil
    | (with_reducible refine memWf_slotMem _ _ _ ?_)
    | (with_reducible refine memWf_sramOf _ _ _ ?_))

theorem mem_runSubmitLattice (d : Sub) (s : State)
    (hm : memoriesOk s = true) : memoriesOk (runSubmitLattice d s) = true := by
  unfold runSubmitLattice
  repeat' (first
    | with_reducible assumption
    | with_reducible rfl
    | simp (maxDischargeDepth := 12) only [mem_ite, endState_next, endState_ite, endState_fault, ite_self, mem_finish, mem_finishWith, hm]
    | split
    | (with_reducible refine mem_makeResident _ _ ?_))

theorem mem_execSubmitLattice (d : Sub) (s : State)
    (hm : memoriesOk s = true) : memoriesOk (endState s (execSubmitLattice d s)) = true := by
  unfold execSubmitLattice
  repeat' (first
    | with_reducible assumption
    | with_reducible rfl
    | simp (maxDischargeDepth := 12) only [mem_ite, endState_next, endState_ite, endState_fault, ite_self, hm]
    | split
    | (with_reducible refine mem_beginCommand _ _ _ _ _ ?_ hm; intro x hx)
    | (with_reducible refine mem_runSubmitLattice _ _ ?_))

theorem mem_execSubmitLatticeRemove (d : Sub) (s : State) :
    memoriesOk (endState s (execSubmitLatticeRemove d s)) = memoriesOk s :=
  memoriesOk_congr [3, 8, 13] (by decide) (by decide) (by decide) (by decide) _ _ (forget_execSubmitLatticeRemove [3, 8, 13] (by decide) (by decide) (by decide) _ _)

theorem mem_execLoadTableVersionBegin (d : Sub) (s : State) :
    memoriesOk (endState s (execLoadTableVersionBegin d s)) = memoriesOk s :=
  memoriesOk_congr [3, 6] (by decide) (by decide) (by decide) (by decide) _ _ (forget_execLoadTableVersionBegin [3, 6] (by decide) (by decide) _ _)

theorem mem_execLoadTableVersionData (d : Sub) (s : State) :
    memoriesOk (endState s (execLoadTableVersionData d s)) = memoriesOk s :=
  memoriesOk_congr [3, 6, 15] (by decide) (by decide) (by decide) (by decide) _ _ (forget_execLoadTableVersionData [3, 6, 15] (by decide) (by decide) (by decide) _ _)

theorem mem_execLoadTableVersionEnd (d : Sub) (s : State) :
    memoriesOk (endState s (execLoadTableVersionEnd d s)) = memoriesOk s :=
  memoriesOk_congr [3, 6] (by decide) (by decide) (by decide) (by decide) _ _ (forget_execLoadTableVersionEnd [3, 6] (by decide) (by decide) _ _)

theorem mem_execRecordsReachedTier (table : Nat) (version : Nat) (s : State) :
    memoriesOk (endState s (execRecordsReachedTier table version s)) = memoriesOk s :=
  memoriesOk_congr [3, 6, 15, 19] (by decide) (by decide) (by decide) (by decide) _ _ (forget_execRecordsReachedTier [3, 6, 15, 19] (by decide) (by decide) (by decide) (by decide) _ _ _)

theorem mem_execRetireTableVersion (d : Sub) (s : State) :
    memoriesOk (endState s (execRetireTableVersion d s)) = memoriesOk s :=
  memoriesOk_congr [3, 6] (by decide) (by decide) (by decide) (by decide) _ _ (forget_execRetireTableVersion [3, 6] (by decide) (by decide) _ _)

theorem mem_execPlacementMove (page : PageRef) (dest : Tier) (s : State) :
    memoriesOk (endState s (execPlacementMove page dest s)) = memoriesOk s :=
  memoriesOk_congr [6, 15] (by decide) (by decide) (by decide) (by decide) _ _ (forget_execPlacementMove [6, 15] (by decide) (by decide) _ _ _)

theorem mem_landPage (s : State) (p : Page) (t : Tier) :
    memoriesOk (landPage s p t) = memoriesOk s :=
  memoriesOk_congr [6, 15, 16, 17, 19] (by decide) (by decide) (by decide) (by decide) _ _ (forget_landPage [6, 15, 16, 17, 19] (by decide) (by decide) (by decide) (by decide) (by decide) _ _ _)

theorem mem_poisonRows (s : State) (p : Page) (cause : Option (Nat × Word32)) (rows : List Nat) :
    memoriesOk (poisonRows s p cause rows) = memoriesOk s :=
  memoriesOk_congr [3, 6, 16, 17, 19, 20] (by decide) (by decide) (by decide) (by decide) _ _ (forget_poisonRows [3, 6, 16, 17, 19, 20] (by decide) (by decide) (by decide) (by decide) (by decide) (by decide) _ _ _ _)

theorem mem_loseSelf (s : State) (reason : Nat) :
    memoriesOk (loseSelf s reason) = memoriesOk s :=
  memoriesOk_congr [3, 5, 16, 20] (by decide) (by decide) (by decide) (by decide) _ _ (forget_loseSelf [3, 5, 16, 20] (by decide) (by decide) (by decide) (by decide) _ _)

theorem mem_execBackgroundScrub (corrected : Nat) (bad : Option PageRef) (line : BadLine) (s : State) :
    memoriesOk (endState s (execBackgroundScrub corrected bad line s)) = memoriesOk s :=
  memoriesOk_congr [3, 5, 6, 15, 16, 17, 19, 20] (by decide) (by decide) (by decide) (by decide) _ _ (forget_execBackgroundScrub [3, 5, 6, 15, 16, 17, 19, 20] (by decide) (by decide) (by decide) (by decide) (by decide) (by decide) (by decide) (by decide) _ _ _ _)

theorem mem_lostInMove (s : State) (p : Page) (t : Tier) (lost : List Nat) :
    memoriesOk (lostInMove s p t lost) = memoriesOk s :=
  memoriesOk_congr [3, 6, 15, 16, 17, 19, 20] (by decide) (by decide) (by decide) (by decide) _ _ (forget_lostInMove [3, 6, 15, 16, 17, 19, 20] (by decide) (by decide) (by decide) (by decide) (by decide) (by decide) (by decide) _ _ _ _)

theorem mem_execPageMoveEnd (e : PageEnd) (s : State)
    (hm : memoriesOk s = true) : memoriesOk (endState s (execPageMoveEnd e s)) = true := by
  unfold execPageMoveEnd
  repeat' (first
    | with_reducible assumption
    | with_reducible rfl
    | simp (maxDischargeDepth := 12) only [mem_ite, endState_next, endState_ite, endState_fault, ite_self, mem_landPage, mem_lostInMove,
      mem_settleHanks, mem_wantPage, hm]
    | split
    | (with_reducible refine mem_progress _ ?_))

theorem mem_execFlashRereadEnd (e : PageEnd) (s : State)
    (hm : memoriesOk s = true) : memoriesOk (endState s (execFlashRereadEnd e s)) = true := by
  unfold execFlashRereadEnd
  repeat' (first
    | with_reducible assumption
    | with_reducible rfl
    | simp (maxDischargeDepth := 12) only [mem_ite, endState_next, endState_ite, endState_fault, ite_self, mem_poisonRows, mem_setPage, hm]
    | split
    | (with_reducible refine mem_progress _ ?_))

theorem mem_execFlashReclaim (s : State) :
    memoriesOk (endState s (execFlashReclaim s)) = memoriesOk s :=
  memoriesOk_congr [6, 15, 19, 21] (by decide) (by decide) (by decide) (by decide) _ _ (forget_execFlashReclaim [6, 15, 19, 21] (by decide) (by decide) (by decide) (by decide) _)

theorem mem_execWearBudgetAccrual (s : State) :
    memoriesOk (endState s (execWearBudgetAccrual s)) = memoriesOk s :=
  memoriesOk_congr [6] (by decide) (by decide) (by decide) (by decide) _ _ (forget_execWearBudgetAccrual [6] (by decide) _)

theorem mem_losePage (port : Nat) (s : State) (p : Page) :
    memoriesOk (losePage port s p) = memoriesOk s :=
  memoriesOk_congr [3, 6, 16, 17, 19, 20] (by decide) (by decide) (by decide) (by decide) _ _ (forget_losePage [3, 6, 16, 17, 19, 20] (by decide) (by decide) (by decide) (by decide) (by decide) (by decide) _ _ _)

theorem mem_execMemoryPortFailure (port : Nat) (s : State)
    (hm : memoriesOk s = true) : memoriesOk (endState s (execMemoryPortFailure port s)) = true := by
  unfold execMemoryPortFailure
  repeat' (first
    | with_reducible assumption
    | with_reducible rfl
    | simp (maxDischargeDepth := 12) only [mem_ite, endState_next, endState_ite, endState_fault, ite_self, mem_losePage, mem_loseSelf,
      mem_setRegs, hm]
    | split
    | (with_reducible refine mem_foldl _ ?_ _ _ ?_; intro _ _ _)
    | (with_reducible refine mem_foldl _ ?_ _ _ ?_)
    | (with_reducible refine memWf_foldl _ (fun m a hw => ?_) _ _ ?_)
    | intro _ _ _
    | (with_reducible refine mem_progress _ ?_))

theorem mem_execChordModuleFailure (chord : Nat) (s : State) :
    memoriesOk (endState s (execChordModuleFailure chord s)) = memoriesOk s :=
  memoriesOk_congr [3, 5, 16, 20] (by decide) (by decide) (by decide) (by decide) _ _ (forget_execChordModuleFailure [3, 5, 16, 20] (by decide) (by decide) (by decide) (by decide) _ _)

theorem mem_readProducer (s : State) (ring : Nat) (producer : Word32) (descs : List Wide) :
    memoriesOk (readProducer s ring producer descs) = memoriesOk s :=
  memoriesOk_congr [3] (by decide) (by decide) (by decide) (by decide) _ _ (forget_readProducer [3] (by decide) _ _ _ _)

theorem mem_storeConsumer (s : State) (ring : Nat) (consumer : Word32) :
    memoriesOk (storeConsumer s ring consumer) = memoriesOk s :=
  memoriesOk_congr [3] (by decide) (by decide) (by decide) (by decide) _ _ (forget_storeConsumer [3] (by decide) _ _ _)

theorem mem_resumeAcceptance (s : State) (consumer : Word32) :
    memoriesOk (resumeAcceptance s consumer) = memoriesOk s :=
  memoriesOk_congr [3] (by decide) (by decide) (by decide) (by decide) _ _ (forget_resumeAcceptance [3] (by decide) _ _)

theorem mem_resumeEvents (s : State) (consumer : Word32) :
    memoriesOk (resumeEvents s consumer) = memoriesOk s :=
  memoriesOk_congr [3] (by decide) (by decide) (by decide) (by decide) _ _ (forget_resumeEvents [3] (by decide) _ _)

theorem mem_execDoorbell (ring : Nat) (producer : Word32) (descs : List Wide) (stores : List Store) (s : State)
    (hm : memoriesOk s = true) : memoriesOk (endState s (execDoorbell ring producer descs stores s)) = true := by
  unfold execDoorbell
  repeat' (first
    | with_reducible assumption
    | with_reducible rfl
    | simp (maxDischargeDepth := 12) only [mem_ite, endState_next, endState_ite, endState_fault, ite_self, mem_readProducer,
      mem_resumeAcceptance, mem_resumeEvents, mem_storeConsumer, hm]
    | split
    | (with_reducible refine mem_foldl _ ?_ _ _ ?_; intro _ _ _)
    | (with_reducible refine mem_foldl _ ?_ _ _ ?_)
    | (with_reducible refine memWf_foldl _ (fun m a hw => ?_) _ _ ?_)
    | intro _ _ _
    | (with_reducible refine mem_windowWrite _ _ _ ?_))

theorem mem_execCommandAcceptanceResume (consumer : Word32) (s : State) :
    memoriesOk (endState s (execCommandAcceptanceResume consumer s)) = memoriesOk s :=
  memoriesOk_congr [3] (by decide) (by decide) (by decide) (by decide) _ _ (forget_execCommandAcceptanceResume [3] (by decide) _ _)

theorem mem_execHeldEventPost (consumer : Word32) (s : State) :
    memoriesOk (endState s (execHeldEventPost consumer s)) = memoriesOk s :=
  memoriesOk_congr [3] (by decide) (by decide) (by decide) (by decide) _ _ (forget_execHeldEventPost [3] (by decide) _ _)

theorem mem_execUnknownOpcodeDescriptor (d : Sub) (s : State) :
    memoriesOk (endState s (execUnknownOpcodeDescriptor d s)) = memoriesOk s :=
  memoriesOk_congr [3] (by decide) (by decide) (by decide) (by decide) _ _ (forget_execUnknownOpcodeDescriptor [3] (by decide) _ _)

theorem mem_execRingEnable (ring : Nat) (value : Word) (producer : Word32) (consumer : Word32) (descs : List Wide) (s : State) :
    memoriesOk (endState s (execRingEnable ring value producer consumer descs s)) = memoriesOk s :=
  memoriesOk_congr [3] (by decide) (by decide) (by decide) (by decide) _ _ (forget_execRingEnable [3] (by decide) _ _ _ _ _ _)

theorem mem_execRingDisable (ring : Nat) (s : State) :
    memoriesOk (endState s (execRingDisable ring s)) = memoriesOk s :=
  memoriesOk_congr [3] (by decide) (by decide) (by decide) (by decide) _ _ (forget_execRingDisable [3] (by decide) _ _)

theorem mem_execRingRearm (ring : Nat) (producer : Word32) (descs : List Wide) (s : State) :
    memoriesOk (endState s (execRingRearm ring producer descs s)) = memoriesOk s :=
  memoriesOk_congr [3] (by decide) (by decide) (by decide) (by decide) _ _ (forget_execRingRearm [3] (by decide) _ _ _ _)

theorem mem_execGrantRound (readings : RoundReadings) (s : State) :
    memoriesOk (endState s (execGrantRound readings s)) = memoriesOk s :=
  memoriesOk_congr [1, 2, 3, 11, 15, 16, 18, 19, 20, 23] (by decide) (by decide) (by decide) (by decide) _ _ (forget_execGrantRound [1, 2, 3, 11, 15, 16, 18, 19, 20, 23] (by decide) (by decide) (by decide) (by decide) (by decide) (by decide) (by decide) (by decide) (by decide) (by decide) _ _)

theorem mem_execBrakeEntered (nanoseconds : Nat) (s : State) :
    memoriesOk (endState s (execBrakeEntered nanoseconds s)) = memoriesOk s :=
  memoriesOk_congr [1, 3, 15, 16, 20, 21] (by decide) (by decide) (by decide) (by decide) _ _ (forget_execBrakeEntered [1, 3, 15, 16, 20, 21] (by decide) (by decide) (by decide) (by decide) (by decide) (by decide) _ _)

theorem mem_execPwrBrakeNDeasserted (s : State) :
    memoriesOk (endState s (execPwrBrakeNDeasserted s)) = memoriesOk s :=
  memoriesOk_congr [1, 15] (by decide) (by decide) (by decide) (by decide) _ _ (forget_execPwrBrakeNDeasserted [1, 15] (by decide) (by decide) _)

theorem mem_execBrakeEnd (s : State) :
    memoriesOk (endState s (execBrakeEnd s)) = memoriesOk s :=
  memoriesOk_congr [3, 15] (by decide) (by decide) (by decide) (by decide) _ _ (forget_execBrakeEnd [3, 15] (by decide) (by decide) _)

theorem mem_execUnitEnable (unit : Nat) (s : State) :
    memoriesOk (endState s (execUnitEnable unit s)) = memoriesOk s :=
  memoriesOk_congr [2, 14, 15] (by decide) (by decide) (by decide) (by decide) _ _ (forget_execUnitEnable [2, 14, 15] (by decide) (by decide) (by decide) _ _)

theorem mem_execUnitDisable (unit : Nat) (s : State) :
    memoriesOk (endState s (execUnitDisable unit s)) = memoriesOk s :=
  memoriesOk_congr [2, 15] (by decide) (by decide) (by decide) (by decide) _ _ (forget_execUnitDisable [2, 15] (by decide) (by decide) _ _)

theorem mem_execDiePark (die : Nat) (s : State) :
    memoriesOk (endState s (execDiePark die s)) = memoriesOk s :=
  memoriesOk_congr [15] (by decide) (by decide) (by decide) (by decide) _ _ (forget_execDiePark [15] (by decide) _ _)

theorem mem_execNandChannelIdle (channel : Nat) (s : State) :
    memoriesOk (endState s (execNandChannelIdle channel s)) = memoriesOk s :=
  memoriesOk_congr [15] (by decide) (by decide) (by decide) (by decide) _ _ (forget_execNandChannelIdle [15] (by decide) _ _)

theorem mem_execUnitDrainEnd (unit : Nat) (s : State) :
    memoriesOk (endState s (execUnitDrainEnd unit s)) = memoriesOk s :=
  memoriesOk_congr [2, 14, 15] (by decide) (by decide) (by decide) (by decide) _ _ (forget_execUnitDrainEnd [2, 14, 15] (by decide) (by decide) (by decide) _ _)

theorem mem_execUnitWakeEnd (unit : Nat) (expander : Option Expander) (s : State) :
    memoriesOk (endState s (execUnitWakeEnd unit expander s)) = memoriesOk s :=
  memoriesOk_congr [2, 14, 15] (by decide) (by decide) (by decide) (by decide) _ _ (forget_execUnitWakeEnd [2, 14, 15] (by decide) (by decide) (by decide) _ _ _)

theorem mem_execRegisterWrite (offset : Nat) (wide : Bool) (value : Word) (s : State) :
    memoriesOk (endState s (execRegisterWrite offset wide value s)) = memoriesOk s :=
  memoriesOk_congr [2, 3, 25] (by decide) (by decide) (by decide) (by decide) _ _ (forget_execRegisterWrite [2, 3, 25] (by decide) (by decide) (by decide) _ _ _ _)

theorem mem_execJobCommit (list : List Nat) (s : State) :
    memoriesOk (endState s (execJobCommit list s)) = memoriesOk s :=
  memoriesOk_congr [2, 25] (by decide) (by decide) (by decide) (by decide) _ _ (forget_execJobCommit [2, 25] (by decide) (by decide) _ _)

theorem mem_execEnergyCountLowRead (s : State) :
    memoriesOk (endState s (execEnergyCountLowRead s)) = memoriesOk s :=
  memoriesOk_congr [2] (by decide) (by decide) (by decide) (by decide) _ _ (forget_execEnergyCountLowRead [2] (by decide) _)

theorem mem_clearedState (s : State) (energy : Word)
    (hm : memoriesOk s = true) : memoriesOk (clearedState s energy) = true := by
  rfl

theorem mem_startSequence (s : State) :
    memoriesOk (startSequence s) = memoriesOk s :=
  memoriesOk_congr [3, 15, 16, 20] (by decide) (by decide) (by decide) (by decide) _ _ (forget_startSequence [3, 15, 16, 20] (by decide) (by decide) (by decide) (by decide) _)

theorem mem_resetBy (s : State) (code : Nat) (lasting : Bool)
    (hm : memoriesOk s = true) : memoriesOk (resetBy s code lasting) = true := by
  unfold resetBy
  repeat' (first
    | with_reducible assumption
    | with_reducible rfl
    | simp (maxDischargeDepth := 12) only [mem_ite, endState_next, endState_ite, endState_fault, ite_self, mem_setSupply, mem_startSequence, hm]
    | split
    | (with_reducible refine mem_clearedState _ _ ?_))

theorem mem_powerOn (s : State)
    (hm : memoriesOk s = true) : memoriesOk (powerOn s) = true := by
  unfold powerOn
  repeat' (first
    | with_reducible assumption
    | with_reducible rfl
    | simp (maxDischargeDepth := 12) only [mem_ite, endState_next, endState_ite, endState_fault, ite_self, mem_setSupply, hm]
    | split
    | (with_reducible refine mem_clearedState _ _ ?_))

theorem mem_closeSwitch (s : State)
    (hm : memoriesOk s = true) : memoriesOk (closeSwitch s) = true := by
  unfold closeSwitch
  repeat' (first
    | with_reducible assumption
    | with_reducible rfl
    | simp (maxDischargeDepth := 12) only [mem_ite, endState_next, endState_ite, endState_fault, ite_self, mem_setSupply, mem_startSequence, hm]
    | split
    | (with_reducible refine mem_powerOn _ ?_))

theorem mem_execInputSwitchClose (s : State)
    (hm : memoriesOk s = true) : memoriesOk (endState s (execInputSwitchClose s)) = true := by
  unfold execInputSwitchClose
  repeat' (first
    | with_reducible assumption
    | with_reducible rfl
    | simp (maxDischargeDepth := 12) only [mem_ite, endState_next, endState_ite, endState_fault, ite_self, mem_setSupply, hm]
    | split
    | (with_reducible refine mem_closeSwitch _ ?_))

theorem mem_execInputOvervoltage (s : State) :
    memoriesOk (endState s (execInputOvervoltage s)) = memoriesOk s :=
  memoriesOk_congr [1] (by decide) (by decide) (by decide) (by decide) _ _ (forget_execInputOvervoltage [1] (by decide) _)

theorem mem_execOvervoltageReclose (s : State)
    (hm : memoriesOk s = true) : memoriesOk (endState s (execOvervoltageReclose s)) = true := by
  unfold execOvervoltageReclose
  repeat' (first
    | with_reducible assumption
    | with_reducible rfl
    | simp (maxDischargeDepth := 12) only [mem_ite, endState_next, endState_ite, endState_fault, ite_self, hm]
    | split
    | (with_reducible refine mem_closeSwitch _ ?_))

theorem mem_execInputOvercurrent (s : State) :
    memoriesOk (endState s (execInputOvercurrent s)) = memoriesOk s :=
  memoriesOk_congr [1] (by decide) (by decide) (by decide) (by decide) _ _ (forget_execInputOvercurrent [1] (by decide) _)

theorem mem_execOvercurrentRetry (s : State)
    (hm : memoriesOk s = true) : memoriesOk (endState s (execOvercurrentRetry s)) = true := by
  unfold execOvercurrentRetry
  repeat' (first
    | with_reducible assumption
    | with_reducible rfl
    | simp (maxDischargeDepth := 12) only [mem_ite, endState_next, endState_ite, endState_fault, ite_self, hm]
    | split
    | (with_reducible refine mem_closeSwitch _ ?_))

theorem mem_execMateSenseReleased (s : State) :
    memoriesOk (endState s (execMateSenseReleased s)) = memoriesOk s :=
  memoriesOk_congr [1] (by decide) (by decide) (by decide) (by decide) _ _ (forget_execMateSenseReleased [1] (by decide) _)

theorem mem_execLossOfInput (s : State) :
    memoriesOk (endState s (execLossOfInput s)) = memoriesOk s :=
  memoriesOk_congr [1] (by decide) (by decide) (by decide) (by decide) _ _ (forget_execLossOfInput [1] (by decide) _)

theorem mem_execThermTripClear (s : State) :
    memoriesOk (endState s (execThermTripClear s)) = memoriesOk s :=
  memoriesOk_congr [1] (by decide) (by decide) (by decide) (by decide) _ _ (forget_execThermTripClear [1] (by decide) _)

theorem mem_execPowerOnReset (s : State)
    (hm : memoriesOk s = true) : memoriesOk (endState s (execPowerOnReset s)) = true := by
  unfold execPowerOnReset
  repeat' (first
    | with_reducible assumption
    | with_reducible rfl
    | simp (maxDischargeDepth := 12) only [mem_ite, endState_next, endState_ite, endState_fault, ite_self, hm]
    | split
    | (with_reducible refine mem_powerOn _ ?_))

theorem mem_execPerstNAsserted (nanoseconds : Nat) (s : State)
    (hm : memoriesOk s = true) : memoriesOk (endState s (execPerstNAsserted nanoseconds s)) = true := by
  unfold execPerstNAsserted
  repeat' (first
    | with_reducible assumption
    | with_reducible rfl
    | simp (maxDischargeDepth := 12) only [mem_ite, endState_next, endState_ite, endState_fault, ite_self, mem_bump, mem_setSupply, hm]
    | split
    | (with_reducible refine mem_resetBy _ _ _ ?_))

theorem mem_execPerstNDeasserted (s : State) :
    memoriesOk (endState s (execPerstNDeasserted s)) = memoriesOk s :=
  memoriesOk_congr [1, 3, 15, 16, 20] (by decide) (by decide) (by decide) (by decide) _ _ (forget_execPerstNDeasserted [1, 3, 15, 16, 20] (by decide) (by decide) (by decide) (by decide) (by decide) _)

theorem mem_execLinkReset (s : State)
    (hm : memoriesOk s = true) : memoriesOk (endState s (execLinkReset s)) = true := by
  unfold execLinkReset
  repeat' (first
    | with_reducible assumption
    | with_reducible rfl
    | simp (maxDischargeDepth := 12) only [mem_ite, endState_next, endState_ite, endState_fault, ite_self, hm]
    | split
    | (with_reducible refine mem_resetBy _ _ _ ?_))

theorem mem_execFunctionLevelReset (s : State)
    (hm : memoriesOk s = true) : memoriesOk (endState s (execFunctionLevelReset s)) = true := by
  unfold execFunctionLevelReset
  repeat' (first
    | with_reducible assumption
    | with_reducible rfl
    | simp (maxDischargeDepth := 12) only [mem_ite, endState_next, endState_ite, endState_fault, ite_self, hm]
    | split
    | (with_reducible refine mem_resetBy _ _ _ ?_))

theorem mem_execRegisterReset (value : Word32) (s : State)
    (hm : memoriesOk s = true) : memoriesOk (endState s (execRegisterReset value s)) = true := by
  unfold execRegisterReset
  repeat' (first
    | with_reducible assumption
    | with_reducible rfl
    | simp (maxDischargeDepth := 12) only [mem_ite, endState_next, endState_ite, endState_fault, ite_self, hm]
    | split
    | (with_reducible refine mem_resetBy _ _ _ ?_))

theorem mem_execResetSequenceEnd (found : SelfTest) (s : State) :
    memoriesOk (endState s (execResetSequenceEnd found s)) = memoriesOk s :=
  memoriesOk_congr [1, 2, 18, 22, 26] (by decide) (by decide) (by decide) (by decide) _ _ (forget_execResetSequenceEnd [1, 2, 18, 22, 26] (by decide) (by decide) (by decide) (by decide) (by decide) _ _)

theorem mem_restoreTables (s : State) (h : HankImage) :
    memoriesOk (restoreTables s h) = memoriesOk s :=
  memoriesOk_congr [6] (by decide) (by decide) (by decide) (by decide) _ _ (forget_restoreTables [6] (by decide) _ _)

theorem mem_restoreDense (s : State) (h : HankImage)
    (hm : memoriesOk s = true) : memoriesOk (restoreDense s h) = true := by
  unfold restoreDense
  have fs : ∀ (l : List (Nat × Nat × Nat × Byte)) (m : Assoc (Nat × Nat) Mem), (∀ t ∈ m, memWf t.2 = true) →
      ∀ t ∈ l.foldl (fun m x =>
        aPut m (x.1, x.2.1) (memWrite ((aGet m (x.1, x.2.1)).getD []) x.2.2.1 x.2.2.2)) m, memWf t.2 = true := by
    intro l
    induction l with
    | nil => exact fun m h => h
    | cons x l ih =>
      intro m h
      refine ih _ (fun t ht => ?_)
      rcases aPut_mem _ _ _ _ ht with e | e
      · subst e
        refine memWf_memWrite _ _ _ ?_
        cases k : aGet m (x.1, x.2.1) with
        | none => rfl
        | some v => exact h _ (aGet_mem _ _ _ k)
      · exact h t e
  refine mem_setDense _ _ (mem_foldl _ (fun t x ht => memWf_mem_setTensor _ _ _ ht (memWf_writeElem _ _ _ _ (memWf_tensorMem _ _ ht))) _ _ hm) ?_
  exact fs _ _ (fun t ht => by cases ht)

theorem mem_restoreImage (s : State) (h : HankImage)
    (hm : memoriesOk s = true) : memoriesOk (restoreImage s h) = true := by
  unfold restoreImage
  repeat' (first
    | with_reducible assumption
    | with_reducible rfl
    | simp (maxDischargeDepth := 12) only [mem_ite, endState_next, endState_ite, endState_fault, ite_self, mem_restoreTables, mem_setCfg,
      mem_setItem, mem_setSecuring, mem_setSteps, hm]
    | split
    | (with_reducible refine mem_foldl _ ?_ _ _ ?_; intro _ _ _)
    | (with_reducible refine mem_foldl _ ?_ _ _ ?_)
    | (with_reducible refine memWf_foldl _ (fun m a hw => ?_) _ _ ?_)
    | intro _ _ _
    | (with_reducible refine mem_restoreDense _ _ ?_))

theorem mem_execRestoreFromHank (d : Sub) (read : HankRead) (newest : Option Nat) (s : State) :
    memoriesOk (endState s (execRestoreFromHank d read newest s)) = memoriesOk s :=
  memoriesOk_congr [3, 4, 5, 6, 7, 11, 12, 13, 14, 15, 16, 17] (by decide) (by decide) (by decide) (by decide) _ _ (forget_execRestoreFromHank [3, 4, 5, 6, 7, 11, 12, 13, 14, 15, 16, 17] (by decide) (by decide) (by decide) (by decide) (by decide) (by decide) (by decide) (by decide) (by decide) (by decide) (by decide) (by decide) _ _ _ _)

theorem mem_restoreWear (s : State) (source : Nat) :
    memoriesOk (restoreWear s source) = memoriesOk s :=
  memoriesOk_congr [6, 19] (by decide) (by decide) (by decide) (by decide) _ _ (forget_restoreWear [6, 19] (by decide) (by decide) _ _)

theorem mem_withdrawEarly (s : State) :
    memoriesOk (withdrawEarly s) = memoriesOk s :=
  memoriesOk_congr [3, 5, 7, 11, 15] (by decide) (by decide) (by decide) (by decide) _ _ (forget_withdrawEarly [3, 5, 7, 11, 15] (by decide) (by decide) (by decide) (by decide) (by decide) _)

theorem mem_execRestoreEnd (s : State)
    (hm : memoriesOk s = true) : memoriesOk (endState s (execRestoreEnd s)) = true := by
  unfold execRestoreEnd
  repeat' (first
    | with_reducible assumption
    | with_reducible rfl
    | simp (maxDischargeDepth := 12) only [mem_ite, endState_next, endState_ite, endState_fault, ite_self, mem_absentReplicas, mem_applyItem,
      mem_finishWith, mem_restoreWear, mem_setCfg, mem_setSecuring, mem_setSteps, mem_settleDelta,
      mem_withdrawEarly, hm]
    | split
    | (with_reducible refine mem_foldl _ ?_ _ _ ?_; intro _ _ _)
    | (with_reducible refine mem_foldl _ ?_ _ _ ?_)
    | (with_reducible refine memWf_foldl _ (fun m a hw => ?_) _ _ ?_)
    | intro _ _ _
    | (with_reducible refine mem_restoreImage _ _ ?_)
    | (with_reducible refine mem_progress _ ?_))

theorem mem_execDebugBreakArm (d : Sub) (s : State) :
    memoriesOk (endState s (execDebugBreakArm d s)) = memoriesOk s :=
  memoriesOk_congr [3, 11] (by decide) (by decide) (by decide) (by decide) _ _ (forget_execDebugBreakArm [3, 11] (by decide) (by decide) _ _)

theorem mem_execDebugBreakClear (d : Sub) (s : State) :
    memoriesOk (endState s (execDebugBreakClear d s)) = memoriesOk s :=
  memoriesOk_congr [3, 11] (by decide) (by decide) (by decide) (by decide) _ _ (forget_execDebugBreakClear [3, 11] (by decide) (by decide) _ _)

theorem mem_releaseStop (s : State) :
    memoriesOk (releaseStop s) = memoriesOk s :=
  memoriesOk_congr [11] (by decide) (by decide) (by decide) (by decide) _ _ (forget_releaseStop [11] (by decide) _)

theorem mem_runDebugResume (d : Sub) (s : State)
    (hm : memoriesOk s = true) : memoriesOk (runDebugResume d s) = true := by
  unfold runDebugResume
  repeat' (first
    | with_reducible assumption
    | with_reducible rfl
    | simp (maxDischargeDepth := 12) only [mem_ite, endState_next, endState_ite, endState_fault, ite_self, mem_finish, mem_releaseStop, hm]
    | split
    | (with_reducible refine mem_progress _ ?_))

theorem mem_execDebugResume (d : Sub) (s : State)
    (hm : memoriesOk s = true) : memoriesOk (endState s (execDebugResume d s)) = true := by
  unfold execDebugResume
  repeat' (first
    | with_reducible assumption
    | with_reducible rfl
    | simp (maxDischargeDepth := 12) only [mem_ite, endState_next, endState_ite, endState_fault, ite_self, hm]
    | split
    | (with_reducible refine mem_beginCommand _ _ _ _ _ ?_ hm; intro x hx)
    | (with_reducible refine mem_runDebugResume _ _ ?_))

theorem mem_respond (s : State) (t : Transport) (r : Response) :
    memoriesOk (respond s t r) = memoriesOk s :=
  memoriesOk_congr [18] (by decide) (by decide) (by decide) (by decide) _ _ (forget_respond [18] (by decide) _ _ _)

theorem mem_onTransport (s : State) (t : Transport) (run : State → State) (hr : ∀ x, memoriesOk x = true → memoriesOk (run x) = true)
    (hm : memoriesOk s = true) : memoriesOk (endState s (onTransport s t run)) = true := by
  unfold onTransport
  rw [endState_next]
  split
  · exact hr _ hm
  · exact hm

theorem mem_execGetVersion (t : Transport) (s : State) :
    memoriesOk (endState s (execGetVersion t s)) = memoriesOk s :=
  memoriesOk_congr [18] (by decide) (by decide) (by decide) (by decide) _ _ (forget_execGetVersion [18] (by decide) _ _)

theorem mem_execGetCapabilities (t : Transport) (s : State) :
    memoriesOk (endState s (execGetCapabilities t s)) = memoriesOk s :=
  memoriesOk_congr [18] (by decide) (by decide) (by decide) (by decide) _ _ (forget_execGetCapabilities [18] (by decide) _ _)

theorem mem_execNegotiateAlgorithms (t : Transport) (acceptsBrainpool : Bool) (s : State) :
    memoriesOk (endState s (execNegotiateAlgorithms t acceptsBrainpool s)) = memoriesOk s :=
  memoriesOk_congr [18] (by decide) (by decide) (by decide) (by decide) _ _ (forget_execNegotiateAlgorithms [18] (by decide) _ _ _)

theorem mem_execGetDigests (t : Transport) (s : State) :
    memoriesOk (endState s (execGetDigests t s)) = memoriesOk s :=
  memoriesOk_congr [18] (by decide) (by decide) (by decide) (by decide) _ _ (forget_execGetDigests [18] (by decide) _ _)

theorem mem_execGetCertificate (t : Transport) (slot : Nat) (offset : Nat) (length : Nat) (s : State) :
    memoriesOk (endState s (execGetCertificate t slot offset length s)) = memoriesOk s :=
  memoriesOk_congr [18] (by decide) (by decide) (by decide) (by decide) _ _ (forget_execGetCertificate [18] (by decide) _ _ _ _ _)

theorem mem_execChallenge (t : Transport) (slot : Nat) (nonce : List Byte) (s : State) :
    memoriesOk (endState s (execChallenge t slot nonce s)) = memoriesOk s :=
  memoriesOk_congr [18, 21] (by decide) (by decide) (by decide) (by decide) _ _ (forget_execChallenge [18, 21] (by decide) (by decide) _ _ _ _)

theorem mem_execGetMeasurements (t : Transport) (index : Nat) (signed : Bool) (nonce : List Byte) (s : State) :
    memoriesOk (endState s (execGetMeasurements t index signed nonce s)) = memoriesOk s :=
  memoriesOk_congr [18, 21] (by decide) (by decide) (by decide) (by decide) _ _ (forget_execGetMeasurements [18, 21] (by decide) (by decide) _ _ _ _ _)

theorem mem_execKeyExchange (t : Transport) (exchangeData : List Byte) (s : State) :
    memoriesOk (endState s (execKeyExchange t exchangeData s)) = memoriesOk s :=
  memoriesOk_congr [18, 21] (by decide) (by decide) (by decide) (by decide) _ _ (forget_execKeyExchange [18, 21] (by decide) (by decide) _ _ _)

theorem mem_execFinish (t : Transport) (verifyData : List Byte) (s : State) :
    memoriesOk (endState s (execFinish t verifyData s)) = memoriesOk s :=
  memoriesOk_congr [18] (by decide) (by decide) (by decide) (by decide) _ _ (forget_execFinish [18] (by decide) _ _ _)

theorem mem_execHeartbeat (t : Transport) (s : State) :
    memoriesOk (endState s (execHeartbeat t s)) = memoriesOk s :=
  memoriesOk_congr [18] (by decide) (by decide) (by decide) (by decide) _ _ (forget_execHeartbeat [18] (by decide) _ _)

theorem mem_execKeyUpdate (t : Transport) (operation : Nat) (s : State) :
    memoriesOk (endState s (execKeyUpdate t operation s)) = memoriesOk s :=
  memoriesOk_congr [18] (by decide) (by decide) (by decide) (by decide) _ _ (forget_execKeyUpdate [18] (by decide) _ _ _)

theorem mem_execEndSession (t : Transport) (s : State) :
    memoriesOk (endState s (execEndSession t s)) = memoriesOk s :=
  memoriesOk_congr [18] (by decide) (by decide) (by decide) (by decide) _ _ (forget_execEndSession [18] (by decide) _ _)

theorem mem_answer (s : State) (t : Transport) (command : Nat) (result : Nat) :
    memoriesOk (answer s t command result) = memoriesOk s :=
  memoriesOk_congr [18] (by decide) (by decide) (by decide) (by decide) _ _ (forget_answer [18] (by decide) _ _ _ _)

theorem mem_moduleCommand (s : State) (t : Transport) (payload : List Byte) (command : Nat) (low : Nat) (high : Nat) (inLoader : Bool) (run : List Byte → State → State) (hr : ∀ b x, memoriesOk x = true → memoriesOk (run b x) = true)
    (hm : memoriesOk s = true) : memoriesOk (endState s (moduleCommand s t payload command low high inLoader run)) = true := by
  unfold moduleCommand
  split
  · exact hm
  · refine mem_onTransport _ _ _ (fun x hx => ?_) hm
    split
    · exact (mem_respond _ _ _).trans hx
    · split
      · exact (mem_answer _ _ _ _).trans hx
      · exact hr _ _ hx

theorem mem_execInstallJobKey (t : Transport) (inSession : Bool) (payload : List Byte) (s : State) :
    memoriesOk (endState s (execInstallJobKey t inSession payload s)) = memoriesOk s :=
  memoriesOk_congr [6, 14, 16, 18, 23] (by decide) (by decide) (by decide) (by decide) _ _ (forget_execInstallJobKey [6, 14, 16, 18, 23] (by decide) (by decide) (by decide) (by decide) (by decide) _ _ _ _)

theorem mem_execQueryState (t : Transport) (payload : List Byte) (s : State) :
    memoriesOk (endState s (execQueryState t payload s)) = memoriesOk s :=
  memoriesOk_congr [18] (by decide) (by decide) (by decide) (by decide) _ _ (forget_execQueryState [18] (by decide) _ _ _)

theorem mem_firmwareCommand (s : State) (t : Transport) (payload : List Byte) (command : Nat) (low : Nat) (high : Nat) (run : List Byte → State → State) (hr : ∀ b x, memoriesOk x = true → memoriesOk (run b x) = true)
    (hm : memoriesOk s = true) : memoriesOk (endState s (firmwareCommand s t payload command low high run)) = true := by
  exact mem_moduleCommand _ _ _ _ _ _ _ _ hr hm

theorem mem_execFirmwareBegin (t : Transport) (payload : List Byte) (s : State) :
    memoriesOk (endState s (execFirmwareBegin t payload s)) = memoriesOk s :=
  memoriesOk_congr [18] (by decide) (by decide) (by decide) (by decide) _ _ (forget_execFirmwareBegin [18] (by decide) _ _ _)

theorem mem_execFirmwareData (t : Transport) (payload : List Byte) (s : State) :
    memoriesOk (endState s (execFirmwareData t payload s)) = memoriesOk s :=
  memoriesOk_congr [18] (by decide) (by decide) (by decide) (by decide) _ _ (forget_execFirmwareData [18] (by decide) _ _ _)

theorem mem_execFirmwareEnd (t : Transport) (payload : List Byte) (s : State) :
    memoriesOk (endState s (execFirmwareEnd t payload s)) = memoriesOk s :=
  memoriesOk_congr [18] (by decide) (by decide) (by decide) (by decide) _ _ (forget_execFirmwareEnd [18] (by decide) _ _ _)

theorem mem_execFirmwareAbort (t : Transport) (payload : List Byte) (s : State) :
    memoriesOk (endState s (execFirmwareAbort t payload s)) = memoriesOk s :=
  memoriesOk_congr [18] (by decide) (by decide) (by decide) (by decide) _ _ (forget_execFirmwareAbort [18] (by decide) _ _ _)

theorem mem_execDebugChallenge (t : Transport) (payload : List Byte) (s : State) :
    memoriesOk (endState s (execDebugChallenge t payload s)) = memoriesOk s :=
  memoriesOk_congr [18, 21] (by decide) (by decide) (by decide) (by decide) _ _ (forget_execDebugChallenge [18, 21] (by decide) (by decide) _ _ _)

theorem mem_eraseMemories (s : State)
    (hm : memoriesOk s = true) : memoriesOk (eraseMemories s) = true := by
  unfold eraseMemories
  refine mem_foldl _ (fun t x ht => (mem_finish _ _ _).trans ht) _ _ rfl

theorem mem_eraseJobKey (s : State) :
    memoriesOk (eraseJobKey s) = memoriesOk s :=
  memoriesOk_congr [3, 14, 16, 18, 20, 23] (by decide) (by decide) (by decide) (by decide) _ _ (forget_eraseJobKey [3, 14, 16, 18, 20, 23] (by decide) (by decide) (by decide) (by decide) (by decide) (by decide) _)

theorem mem_unlockDebug (s : State) (scope : List Byte)
    (hm : memoriesOk s = true) : memoriesOk (unlockDebug s scope) = true := by
  unfold unlockDebug
  repeat' (first
    | with_reducible assumption
    | with_reducible rfl
    | simp (maxDischargeDepth := 12) only [mem_ite, endState_next, endState_ite, endState_fault, ite_self, mem_eraseJobKey, mem_setSecurity, hm]
    | split
    | (with_reducible refine mem_eraseMemories _ ?_))

theorem mem_execDebugUnlock (t : Transport) (payload : List Byte) (s : State)
    (hm : memoriesOk s = true) : memoriesOk (endState s (execDebugUnlock t payload s)) = true := by
  unfold execDebugUnlock
  repeat' (first
    | with_reducible assumption
    | with_reducible rfl
    | simp (maxDischargeDepth := 12) only [mem_ite, endState_next, endState_ite, endState_fault, ite_self, mem_answer, mem_setSecurity, hm]
    | split
    | (with_reducible refine mem_moduleCommand _ _ _ _ _ _ _ _ ?_ hm; intro b x hx)
    | (with_reducible refine mem_unlockDebug _ _ ?_))

end Sys2Proof.Machine
end

