-- ==== Sys2Proof/Laws/Touch.lean ====
section
/-! SUPPORT. Of every command: the groups of state (Laws/Frame.lean) it can change, and that it changes no other. -/

namespace Sys2Proof.Machine

open Sys2Proof.Safety

/-- The groups of state that a command can change. -/
def touches : Instr → List Nat
  | .doorbell _ _ _ _ => [3, 9]
  | .commandAcceptanceResume _ => [3]
  | .unknownOpcodeDescriptor _ => [3]
  | .submitLattice _ => [3, 8, 10, 13, 14, 16, 20]
  | .submitLatticeRemove _ => [3, 8, 13]
  | .loadProgram _ => [3, 7]
  | .loadProgramSlotTaken _ => [7]
  | .translationEnd _ => [3, 5, 6, 7, 10, 12, 13, 14, 15, 16, 17, 19, 20]
  | .unloadProgram _ => [3, 7]
  | .stepInput _ => [3, 5, 6, 10, 12, 13, 14, 15, 16, 17, 19, 20, 28]
  | .stepInputBlocksRead _ _ => [3, 5, 6, 10, 12, 13, 14, 15, 16, 17, 19, 20, 28]
  | .evalRequest _ => [3, 5]
  | .evalBlocksRead _ _ _ => [3, 5, 6, 10, 12, 13, 14, 15, 16, 17, 19, 20]
  | .evalComplete _ _ => [3, 5, 6, 9, 10, 12, 13, 14, 15, 16, 17, 19, 20]
  | .loadTableVersionBegin _ => [3, 6]
  | .loadTableVersionData _ => [3, 6, 15]
  | .loadTableVersionEnd _ => [3, 6]
  | .retireTableVersion _ => [3, 6]
  | .stageConfig _ => [3, 4, 5, 6, 10, 12, 13, 14, 15, 16, 17, 19, 20]
  | .commitConfig _ => [3, 4, 5, 6, 16]
  | .discardConfig _ => [3, 4]
  | .secureNow _ => [3, 16]
  | .restoreFromHank _ _ _ => [3, 4, 5, 6, 7, 11, 12, 13, 14, 15, 16, 17]
  | .restoreEnd => [3, 4, 5, 6, 7, 10, 11, 12, 13, 14, 15, 16, 17, 19, 20, 24, 27, 28]
  | .reportFailure _ => [3, 16]
  | .exportSkein _ => [3, 17]
  | .exportChunk _ _ _ => [3, 5, 6, 9, 10, 12, 13, 14, 15, 16, 17, 19, 20]
  | .deltaControlStart _ => [3, 17]
  | .deltaControlStop _ => [3, 17]
  | .telemetrySnapshot _ => [3, 9]
  | .debugBreakArm _ => [3, 11]
  | .debugBreakClear _ => [3, 11]
  | .debugResume _ => [3, 5, 6, 10, 11, 12, 13, 14, 15, 16, 17, 19, 20]
  | .registerReset _ => [1, 2, 3, 4, 5, 6, 7, 8, 9, 10, 11, 12, 13, 14, 15, 16, 17, 18, 19, 20, 23, 24, 25, 26, 27, 28, 29]
  | .jobCommit _ => [2, 25]
  | .unitEnable _ => [2, 14, 15]
  | .unitDisable _ => [2, 15]
  | .ringEnable _ _ _ _ _ => [3]
  | .ringDisable _ => [3]
  | .ringRearm _ _ _ => [3]
  | .energyCountLowRead => [2]
  | .registerWrite _ _ _ => [2, 3, 25]
  | .installJobKey _ _ _ => [6, 14, 16, 18, 23]
  | .queryState _ _ => [18]
  | .firmwareBegin _ _ => [18]
  | .firmwareData _ _ => [18]
  | .firmwareEnd _ _ => [18]
  | .firmwareAbort _ _ => [18]
  | .debugChallenge _ _ => [18, 21]
  | .debugUnlock _ _ => [3, 5, 6, 7, 8, 9, 10, 11, 12, 13, 14, 16, 17, 18, 20, 23, 24, 29]
  | .getVersion _ => [18]
  | .getCapabilities _ => [18]
  | .negotiateAlgorithms _ _ => [18]
  | .getDigests _ => [18]
  | .getCertificate _ _ _ _ => [18]
  | .challenge _ _ _ => [18, 21]
  | .getMeasurements _ _ _ _ => [18, 21]
  | .keyExchange _ _ => [18, 21]
  | .finish _ _ => [18]
  | .heartbeat _ => [18]
  | .keyUpdate _ _ => [18]
  | .endSession _ => [18]
  | .inputSwitchClose => [1, 2, 3, 4, 5, 6, 7, 8, 9, 10, 11, 12, 13, 14, 15, 16, 17, 18, 19, 20, 23, 24, 25, 26, 27, 28, 29]
  | .powerOnReset => [1, 2, 3, 4, 5, 6, 7, 8, 9, 10, 11, 12, 13, 14, 15, 16, 17, 18, 19, 20, 23, 24, 25, 26, 27, 28, 29]
  | .perstNAsserted _ => [1, 2, 3, 4, 5, 6, 7, 8, 9, 10, 11, 12, 13, 14, 15, 16, 17, 18, 19, 20, 21, 23, 24, 25, 26, 27, 28, 29]
  | .perstNDeasserted => [1, 3, 15, 16, 20]
  | .linkReset => [1, 2, 3, 4, 5, 6, 7, 8, 9, 10, 11, 12, 13, 14, 15, 16, 17, 18, 19, 20, 23, 24, 25, 26, 27, 28, 29]
  | .functionLevelReset => [1, 2, 3, 4, 5, 6, 7, 8, 9, 10, 11, 12, 13, 14, 15, 16, 17, 18, 19, 20, 23, 24, 25, 26, 27, 28, 29]
  | .resetSequenceEnd _ => [1, 2, 18, 22, 26]
  | .inputOvervoltage => [1]
  | .inputOvercurrent => [1]
  | .overcurrentRetry => [1, 2, 3, 4, 5, 6, 7, 8, 9, 10, 11, 12, 13, 14, 15, 16, 17, 18, 19, 20, 23, 24, 25, 26, 27, 28, 29]
  | .mateSenseReleased => [1]
  | .lossOfInput => [1]
  | .brakeEntered _ => [1, 3, 15, 16, 20, 21]
  | .pwrBrakeNDeasserted => [1, 15]
  | .brakeEnd => [3, 15]
  | .grantRound _ => [1, 2, 3, 11, 15, 16, 18, 19, 20, 23]
  | .thermTripClear => [1]
  | .wearBudgetAccrual => [6]
  | .diePark _ => [15]
  | .nandChannelIdle _ => [15]
  | .unitDrainEnd _ => [2, 14, 15]
  | .unitWakeEnd _ _ => [2, 14, 15]
  | .portTrainingEnd _ _ _ _ => [3, 14, 16, 20, 21]
  | .portRetry _ => [14]
  | .keepaliveSend _ => [14]
  | .livenessLost _ => [3, 14, 16, 20]
  | .laneFailure _ _ => [3, 14, 16, 20]
  | .hello _ _ _ _ _ => [3, 14, 16, 20]
  | .confirmation _ _ _ _ => [3, 14, 16, 20]
  | .creditAdvertisement _ _ => [3, 14, 16, 20]
  | .keepalive _ => [14]
  | .replayRequest _ _ => [14]
  | .reStripe _ _ _ _ => [3, 14, 16, 20]
  | .frameDiscard _ _ => [3, 14, 16, 20]
  | .frameForward _ _ _ _ _ _ _ _ _ _ => [3, 14, 16, 20]
  | .rowRequest _ _ => [3, 5, 6, 12, 14, 15, 16, 17, 19, 20]
  | .rowRequestServe _ _ _ _ => [3, 5, 6, 10, 12, 13, 14, 15, 16, 17, 19, 20]
  | .rowData _ _ => [3, 5, 6, 10, 12, 13, 14, 15, 16, 17, 19, 20]
  | .partialSum _ _ => [3, 5, 6, 10, 12, 13, 14, 15, 16, 17, 19, 20]
  | .streamData _ _ => [3, 5, 6, 12, 14, 15, 16, 17, 19, 20]
  | .streamEnd _ _ => [3, 5, 6, 12, 14, 15, 16, 17, 19, 20]
  | .skeinTransfer _ _ => [3, 5, 6, 10, 12, 13, 14, 15, 16, 17, 19, 20]
  | .treeBlock _ _ => [3, 5, 10, 13, 14, 16, 20]
  | .sliceData _ _ => [3, 5, 6, 10, 12, 13, 14, 15, 16, 17, 19, 20]
  | .digest _ _ => [3, 5, 6, 10, 12, 13, 14, 15, 16, 17, 19, 20]
  | .hankData _ _ => [3, 14, 16, 19, 20]
  | .commitReport _ _ => [3, 5, 14, 16, 20]
  | .commitDecision _ _ => [3, 4, 5, 6, 10, 12, 13, 14, 15, 16, 17, 19, 20, 27]
  | .securingReport _ _ => [3, 14, 16, 20, 21]
  | .securingDecision _ _ => [3, 14, 16, 20]
  | .halt _ _ => [3, 5, 14, 16, 20]
  | .grant _ _ => [3, 5, 6, 12, 14, 15, 16, 17, 19, 20]
  | .credit _ _ _ => [14]
  | .commitReportSend => [3, 5, 14, 16, 20]
  | .sliverColumnTest _ _ _ => [3, 5, 6, 10, 12, 13, 14, 15, 16, 17, 19, 20]
  | .cardingPassEnd _ _ _ => [3, 5, 6, 10, 12, 13, 14, 15, 16, 17, 19, 20]
  | .placementMove _ _ => [6, 15]
  | .pageMoveEnd _ => [3, 5, 6, 10, 12, 13, 14, 15, 16, 17, 19, 20]
  | .flashRereadEnd _ => [3, 5, 6, 10, 12, 13, 14, 15, 16, 17, 19, 20]
  | .backgroundScrub _ _ _ => [3, 5, 6, 15, 16, 17, 19, 20]
  | .flashReclaim => [6, 15, 19, 21]
  | .memoryPortFailure _ => [2, 3, 5, 6, 10, 12, 13, 14, 15, 16, 17, 19, 20]
  | .chordModuleFailure _ => [3, 5, 16, 20]
  | .parkedEntryApply _ _ => [3, 5, 6, 12, 14, 15, 16, 17, 19, 20]
  | .updateKernelInvocation _ _ _ => [11]
  | .treeBlockForward _ _ => [3, 5, 10, 13, 14, 16, 20]
  | .denseBlockUpdate _ _ => [3, 5, 6, 10, 12, 13, 14, 15, 16, 17, 19, 20, 24]
  | .weightGradientTileDrain _ _ _ _ => [11, 13, 19]
  | .vertexDispatch _ _ _ => [5, 10, 11, 15]
  | .waitSatisfied _ => [11]
  | .queueAccept _ => [3, 11, 16, 20]
  | .queueCommandComplete _ => [3, 5, 6, 7, 10, 11, 12, 13, 14, 15, 16, 17, 19, 20, 24]
  | .loopEnd _ => [11]
  | .mov _ _ => [11]
  | .movi _ _ => [11]
  | .movhi _ _ => [11]
  | .alu _ _ => [11]
  | .alui _ _ => [11]
  | .cmp _ _ => [11]
  | .sel _ _ => [11]
  | .fop _ _ => [11]
  | .widen _ _ => [11]
  | .narrow _ _ => [11]
  | .bcast _ _ => [11]
  | .reduce _ _ => [11]
  | .tload _ _ => [11, 19]
  | .tstore _ _ => [10, 11, 19]
  | .tmove _ _ => [3, 11, 16, 20]
  | .tile _ _ => [10, 11, 19]
  | .product _ _ => [3, 11, 16, 20]
  | .layer _ _ => [10, 11, 19, 29]
  | .signal _ _ => [11]
  | .wait _ _ => [11]
  | .readctr _ _ => [11]
  | .br _ _ => [11]
  | .brc _ _ => [11]
  | .loop _ _ => [11]
  | .call _ _ => [11]
  | .ret _ _ => [11]
  | .retire _ _ => [3, 5, 6, 7, 10, 11, 12, 13, 14, 15, 16, 17, 19, 20, 24]
  | .query _ _ => [11]
  | .hankPageCopy _ _ => [3, 5, 6, 10, 12, 13, 14, 15, 16, 17, 19, 20]
  | .securingHoldEnd _ => [3, 5, 6, 10, 12, 13, 14, 15, 16, 17, 19, 20]
  | .hankSeal _ => [3, 14, 16, 19, 20, 21]
  | .heldEventPost _ => [3]
  | .routeTableFree => [3, 4, 5, 6, 10, 12, 13, 14, 15, 16, 17, 19, 20, 27]
  | .reservedFrameKind _ _ => [3, 14, 16, 20]
  | .overvoltageReclose => [1, 2, 3, 4, 5, 6, 7, 8, 9, 10, 11, 12, 13, 14, 15, 16, 17, 18, 19, 20, 23, 24, 25, 26, 27, 28, 29]
  | .recordsReachedTier _ _ => [3, 6, 15, 19]

/-- A command changes no group but those it touches. -/
theorem exec_forget (i : Instr) (s : State) : forget (touches i) (endState s (exec i s)) = forget (touches i) s := by
  cases i with
  | doorbell ring producer descs stores => exact forget_execDoorbell [3, 9] (by decide) (by decide) ring producer descs stores s
  | commandAcceptanceResume consumer => exact forget_execCommandAcceptanceResume [3] (by decide) consumer s
  | unknownOpcodeDescriptor d => exact forget_execUnknownOpcodeDescriptor [3] (by decide) d s
  | submitLattice d => exact forget_execSubmitLattice [3, 8, 10, 13, 14, 16, 20] (by decide) (by decide) (by decide) (by decide) (by decide) (by decide) (by decide) d s
  | submitLatticeRemove d => exact forget_execSubmitLatticeRemove [3, 8, 13] (by decide) (by decide) (by decide) d s
  | loadProgram d => exact forget_execLoadProgram [3, 7] (by decide) (by decide) d s
  | loadProgramSlotTaken slot => exact forget_execLoadProgramSlotTaken [7] (by decide) slot s
  | translationEnd handle => exact forget_execTranslationEnd [3, 5, 6, 7, 10, 12, 13, 14, 15, 16, 17, 19, 20] (by decide) (by decide) (by decide) (by decide) (by decide) (by decide) (by decide) (by decide) (by decide) (by decide) (by decide) (by decide) (by decide) handle s
  | unloadProgram d => exact forget_execUnloadProgram [3, 7] (by decide) (by decide) d s
  | stepInput d => exact forget_execStepInput [3, 5, 6, 10, 12, 13, 14, 15, 16, 17, 19, 20, 28] (by decide) (by decide) (by decide) (by decide) (by decide) (by decide) (by decide) (by decide) (by decide) (by decide) (by decide) (by decide) (by decide) d s
  | stepInputBlocksRead step units => exact forget_execStepInputBlocksRead [3, 5, 6, 10, 12, 13, 14, 15, 16, 17, 19, 20, 28] (by decide) (by decide) (by decide) (by decide) (by decide) (by decide) (by decide) (by decide) (by decide) (by decide) (by decide) (by decide) (by decide) step units s
  | evalRequest d => exact forget_execEvalRequest [3, 5] (by decide) (by decide) d s
  | evalBlocksRead boundary handle units => exact forget_execEvalBlocksRead [3, 5, 6, 10, 12, 13, 14, 15, 16, 17, 19, 20] (by decide) (by decide) (by decide) (by decide) (by decide) (by decide) (by decide) (by decide) (by decide) (by decide) (by decide) (by decide) boundary handle units s
  | evalComplete boundary handle => exact forget_execEvalComplete [3, 5, 6, 9, 10, 12, 13, 14, 15, 16, 17, 19, 20] (by decide) (by decide) (by decide) (by decide) (by decide) (by decide) (by decide) (by decide) (by decide) (by decide) (by decide) (by decide) (by decide) boundary handle s
  | loadTableVersionBegin d => exact forget_execLoadTableVersionBegin [3, 6] (by decide) (by decide) d s
  | loadTableVersionData d => exact forget_execLoadTableVersionData [3, 6, 15] (by decide) (by decide) (by decide) d s
  | loadTableVersionEnd d => exact forget_execLoadTableVersionEnd [3, 6] (by decide) (by decide) d s
  | retireTableVersion d => exact forget_execRetireTableVersion [3, 6] (by decide) (by decide) d s
  | stageConfig d => exact forget_execStageConfig [3, 4, 5, 6, 10, 12, 13, 14, 15, 16, 17, 19, 20] (by decide) (by decide) (by decide) (by decide) (by decide) (by decide) (by decide) (by decide) (by decide) (by decide) (by decide) (by decide) (by decide) d s
  | commitConfig d => exact forget_execCommitConfig [3, 4, 5, 6, 16] (by decide) (by decide) (by decide) (by decide) (by decide) d s
  | discardConfig d => exact forget_execDiscardConfig [3, 4] (by decide) (by decide) d s
  | secureNow d => exact forget_execSecureNow [3, 16] (by decide) (by decide) d s
  | restoreFromHank d read newest => exact forget_execRestoreFromHank [3, 4, 5, 6, 7, 11, 12, 13, 14, 15, 16, 17] (by decide) (by decide) (by decide) (by decide) (by decide) (by decide) (by decide) (by decide) (by decide) (by decide) (by decide) (by decide) d read newest s
  | restoreEnd => exact forget_execRestoreEnd [3, 4, 5, 6, 7, 10, 11, 12, 13, 14, 15, 16, 17, 19, 20, 24, 27, 28] (by decide) (by decide) (by decide) (by decide) (by decide) (by decide) (by decide) (by decide) (by decide) (by decide) (by decide) (by decide) (by decide) (by decide) (by decide) (by decide) (by decide) (by decide) s
  | reportFailure d => exact forget_execReportFailure [3, 16] (by decide) (by decide) d s
  | exportSkein d => exact forget_execExportSkein [3, 17] (by decide) (by decide) d s
  | exportChunk ring index rows => exact forget_execExportChunk [3, 5, 6, 9, 10, 12, 13, 14, 15, 16, 17, 19, 20] (by decide) (by decide) (by decide) (by decide) (by decide) (by decide) (by decide) (by decide) (by decide) (by decide) (by decide) (by decide) (by decide) ring index rows s
  | deltaControlStart d => exact forget_execDeltaControlStart [3, 17] (by decide) (by decide) d s
  | deltaControlStop d => exact forget_execDeltaControlStop [3, 17] (by decide) (by decide) d s
  | telemetrySnapshot d => exact forget_execTelemetrySnapshot [3, 9] (by decide) (by decide) d s
  | debugBreakArm d => exact forget_execDebugBreakArm [3, 11] (by decide) (by decide) d s
  | debugBreakClear d => exact forget_execDebugBreakClear [3, 11] (by decide) (by decide) d s
  | debugResume d => exact forget_execDebugResume [3, 5, 6, 10, 11, 12, 13, 14, 15, 16, 17, 19, 20] (by decide) (by decide) (by decide) (by decide) (by decide) (by decide) (by decide) (by decide) (by decide) (by decide) (by decide) (by decide) (by decide) d s
  | registerReset value => exact forget_execRegisterReset [1, 2, 3, 4, 5, 6, 7, 8, 9, 10, 11, 12, 13, 14, 15, 16, 17, 18, 19, 20, 23, 24, 25, 26, 27, 28, 29] (by decide) (by decide) (by decide) (by decide) (by decide) (by decide) (by decide) (by decide) (by decide) (by decide) (by decide) (by decide) (by decide) (by decide) (by decide) (by decide) (by decide) (by decide) (by decide) (by decide) (by decide) (by decide) (by decide) (by decide) (by decide) (by decide) (by decide) value s
  | jobCommit list => exact forget_execJobCommit [2, 25] (by decide) (by decide) list s
  | unitEnable unit => exact forget_execUnitEnable [2, 14, 15] (by decide) (by decide) (by decide) unit s
  | unitDisable unit => exact forget_execUnitDisable [2, 15] (by decide) (by decide) unit s
  | ringEnable ring value producer consumer descs => exact forget_execRingEnable [3] (by decide) ring value producer consumer descs s
  | ringDisable ring => exact forget_execRingDisable [3] (by decide) ring s
  | ringRearm ring producer descs => exact forget_execRingRearm [3] (by decide) ring producer descs s
  | energyCountLowRead => exact forget_execEnergyCountLowRead [2] (by decide) s
  | registerWrite offset wide value => exact forget_execRegisterWrite [2, 3, 25] (by decide) (by decide) (by decide) offset wide value s
  | installJobKey t inSession payload => exact forget_execInstallJobKey [6, 14, 16, 18, 23] (by decide) (by decide) (by decide) (by decide) (by decide) t inSession payload s
  | queryState t payload => exact forget_execQueryState [18] (by decide) t payload s
  | firmwareBegin t payload => exact forget_execFirmwareBegin [18] (by decide) t payload s
  | firmwareData t payload => exact forget_execFirmwareData [18] (by decide) t payload s
  | firmwareEnd t payload => exact forget_execFirmwareEnd [18] (by decide) t payload s
  | firmwareAbort t payload => exact forget_execFirmwareAbort [18] (by decide) t payload s
  | debugChallenge t payload => exact forget_execDebugChallenge [18, 21] (by decide) (by decide) t payload s
  | debugUnlock t payload => exact forget_execDebugUnlock [3, 5, 6, 7, 8, 9, 10, 11, 12, 13, 14, 16, 17, 18, 20, 23, 24, 29] (by decide) (by decide) (by decide) (by decide) (by decide) (by decide) (by decide) (by decide) (by decide) (by decide) (by decide) (by decide) (by decide) (by decide) (by decide) (by decide) (by decide) (by decide) t payload s
  | getVersion t => exact forget_execGetVersion [18] (by decide) t s
  | getCapabilities t => exact forget_execGetCapabilities [18] (by decide) t s
  | negotiateAlgorithms t acceptsBrainpool => exact forget_execNegotiateAlgorithms [18] (by decide) t acceptsBrainpool s
  | getDigests t => exact forget_execGetDigests [18] (by decide) t s
  | getCertificate t slot offset length => exact forget_execGetCertificate [18] (by decide) t slot offset length s
  | challenge t slot nonce => exact forget_execChallenge [18, 21] (by decide) (by decide) t slot nonce s
  | getMeasurements t index signed nonce => exact forget_execGetMeasurements [18, 21] (by decide) (by decide) t index signed nonce s
  | keyExchange t exchangeData => exact forget_execKeyExchange [18, 21] (by decide) (by decide) t exchangeData s
  | finish t verifyData => exact forget_execFinish [18] (by decide) t verifyData s
  | heartbeat t => exact forget_execHeartbeat [18] (by decide) t s
  | keyUpdate t operation => exact forget_execKeyUpdate [18] (by decide) t operation s
  | endSession t => exact forget_execEndSession [18] (by decide) t s
  | inputSwitchClose => exact forget_execInputSwitchClose [1, 2, 3, 4, 5, 6, 7, 8, 9, 10, 11, 12, 13, 14, 15, 16, 17, 18, 19, 20, 23, 24, 25, 26, 27, 28, 29] (by decide) (by decide) (by decide) (by decide) (by decide) (by decide) (by decide) (by decide) (by decide) (by decide) (by decide) (by decide) (by decide) (by decide) (by decide) (by decide) (by decide) (by decide) (by decide) (by decide) (by decide) (by decide) (by decide) (by decide) (by decide) (by decide) (by decide) s
  | powerOnReset => exact forget_execPowerOnReset [1, 2, 3, 4, 5, 6, 7, 8, 9, 10, 11, 12, 13, 14, 15, 16, 17, 18, 19, 20, 23, 24, 25, 26, 27, 28, 29] (by decide) (by decide) (by decide) (by decide) (by decide) (by decide) (by decide) (by decide) (by decide) (by decide) (by decide) (by decide) (by decide) (by decide) (by decide) (by decide) (by decide) (by decide) (by decide) (by decide) (by decide) (by decide) (by decide) (by decide) (by decide) (by decide) (by decide) s
  | perstNAsserted nanoseconds => exact forget_execPerstNAsserted [1, 2, 3, 4, 5, 6, 7, 8, 9, 10, 11, 12, 13, 14, 15, 16, 17, 18, 19, 20, 21, 23, 24, 25, 26, 27, 28, 29] (by decide) (by decide) (by decide) (by decide) (by decide) (by decide) (by decide) (by decide) (by decide) (by decide) (by decide) (by decide) (by decide) (by decide) (by decide) (by decide) (by decide) (by decide) (by decide) (by decide) (by decide) (by decide) (by decide) (by decide) (by decide) (by decide) (by decide) (by decide) nanoseconds s
  | perstNDeasserted => exact forget_execPerstNDeasserted [1, 3, 15, 16, 20] (by decide) (by decide) (by decide) (by decide) (by decide) s
  | linkReset => exact forget_execLinkReset [1, 2, 3, 4, 5, 6, 7, 8, 9, 10, 11, 12, 13, 14, 15, 16, 17, 18, 19, 20, 23, 24, 25, 26, 27, 28, 29] (by decide) (by decide) (by decide) (by decide) (by decide) (by decide) (by decide) (by decide) (by decide) (by decide) (by decide) (by decide) (by decide) (by decide) (by decide) (by decide) (by decide) (by decide) (by decide) (by decide) (by decide) (by decide) (by decide) (by decide) (by decide) (by decide) (by decide) s
  | functionLevelReset => exact forget_execFunctionLevelReset [1, 2, 3, 4, 5, 6, 7, 8, 9, 10, 11, 12, 13, 14, 15, 16, 17, 18, 19, 20, 23, 24, 25, 26, 27, 28, 29] (by decide) (by decide) (by decide) (by decide) (by decide) (by decide) (by decide) (by decide) (by decide) (by decide) (by decide) (by decide) (by decide) (by decide) (by decide) (by decide) (by decide) (by decide) (by decide) (by decide) (by decide) (by decide) (by decide) (by decide) (by decide) (by decide) (by decide) s
  | resetSequenceEnd found => exact forget_execResetSequenceEnd [1, 2, 18, 22, 26] (by decide) (by decide) (by decide) (by decide) (by decide) found s
  | inputOvervoltage => exact forget_execInputOvervoltage [1] (by decide) s
  | inputOvercurrent => exact forget_execInputOvercurrent [1] (by decide) s
  | overcurrentRetry => exact forget_execOvercurrentRetry [1, 2, 3, 4, 5, 6, 7, 8, 9, 10, 11, 12, 13, 14, 15, 16, 17, 18, 19, 20, 23, 24, 25, 26, 27, 28, 29] (by decide) (by decide) (by decide) (by decide) (by decide) (by decide) (by decide) (by decide) (by decide) (by decide) (by decide) (by decide) (by decide) (by decide) (by decide) (by decide) (by decide) (by decide) (by decide) (by decide) (by decide) (by decide) (by decide) (by decide) (by decide) (by decide) (by decide) s
  | mateSenseReleased => exact forget_execMateSenseReleased [1] (by decide) s
  | lossOfInput => exact forget_execLossOfInput [1] (by decide) s
  | brakeEntered nanoseconds => exact forget_execBrakeEntered [1, 3, 15, 16, 20, 21] (by decide) (by decide) (by decide) (by decide) (by decide) (by decide) nanoseconds s
  | pwrBrakeNDeasserted => exact forget_execPwrBrakeNDeasserted [1, 15] (by decide) (by decide) s
  | brakeEnd => exact forget_execBrakeEnd [3, 15] (by decide) (by decide) s
  | grantRound readings => exact forget_execGrantRound [1, 2, 3, 11, 15, 16, 18, 19, 20, 23] (by decide) (by decide) (by decide) (by decide) (by decide) (by decide) (by decide) (by decide) (by decide) (by decide) readings s
  | thermTripClear => exact forget_execThermTripClear [1] (by decide) s
  | wearBudgetAccrual => exact forget_execWearBudgetAccrual [6] (by decide) s
  | diePark die => exact forget_execDiePark [15] (by decide) die s
  | nandChannelIdle channel => exact forget_execNandChannelIdle [15] (by decide) channel s
  | unitDrainEnd unit => exact forget_execUnitDrainEnd [2, 14, 15] (by decide) (by decide) (by decide) unit s
  | unitWakeEnd unit expander => exact forget_execUnitWakeEnd [2, 14, 15] (by decide) (by decide) (by decide) unit expander s
  | portTrainingEnd port signal trained locked => exact forget_execPortTrainingEnd [3, 14, 16, 20, 21] (by decide) (by decide) (by decide) (by decide) (by decide) port signal trained locked s
  | portRetry port => exact forget_execPortRetry [14] (by decide) port s
  | keepaliveSend port => exact forget_execKeepaliveSend [14] (by decide) port s
  | livenessLost port => exact forget_execLivenessLost [3, 14, 16, 20] (by decide) (by decide) (by decide) (by decide) port s
  | laneFailure port lane => exact forget_execLaneFailure [3, 14, 16, 20] (by decide) (by decide) (by decide) (by decide) port lane s
  | hello port jobId member peerPort salt => exact forget_execHello [3, 14, 16, 20] (by decide) (by decide) (by decide) (by decide) port jobId member peerPort salt s
  | confirmation port senderSalt receiverSalt tagValid => exact forget_execConfirmation [3, 14, 16, 20] (by decide) (by decide) (by decide) (by decide) port senderSalt receiverSalt tagValid s
  | creditAdvertisement port sizes => exact forget_execCreditAdvertisement [3, 14, 16, 20] (by decide) (by decide) (by decide) (by decide) port sizes s
  | keepalive port => exact forget_execKeepalive [14] (by decide) port s
  | replayRequest port seq => exact forget_execReplayRequest [14] (by decide) port seq s
  | reStripe port failedLane mask seq => exact forget_execReStripe [3, 14, 16, 20] (by decide) (by decide) (by decide) (by decide) port failedLane mask seq s
  | frameDiscard port badTag => exact forget_execFrameDiscard [3, 14, 16, 20] (by decide) (by decide) (by decide) (by decide) port badTag s
  | frameForward port dest source cls stream hops epoch kind length flow => exact forget_execFrameForward [3, 14, 16, 20] (by decide) (by decide) (by decide) (by decide) port dest source cls stream hops epoch kind length flow s
  | rowRequest rx f => exact forget_execRowRequest [3, 5, 6, 12, 14, 15, 16, 17, 19, 20] (by decide) (by decide) (by decide) (by decide) (by decide) (by decide) (by decide) (by decide) (by decide) (by decide) rx f s
  | rowRequestServe source step table pass => exact forget_execRowRequestServe [3, 5, 6, 10, 12, 13, 14, 15, 16, 17, 19, 20] (by decide) (by decide) (by decide) (by decide) (by decide) (by decide) (by decide) (by decide) (by decide) (by decide) (by decide) (by decide) source step table pass s
  | rowData rx f => exact forget_execRowData [3, 5, 6, 10, 12, 13, 14, 15, 16, 17, 19, 20] (by decide) (by decide) (by decide) (by decide) (by decide) (by decide) (by decide) (by decide) (by decide) (by decide) (by decide) (by decide) rx f s
  | partialSum rx f => exact forget_execPartialSum [3, 5, 6, 10, 12, 13, 14, 15, 16, 17, 19, 20] (by decide) (by decide) (by decide) (by decide) (by decide) (by decide) (by decide) (by decide) (by decide) (by decide) (by decide) (by decide) rx f s
  | streamData rx f => exact forget_execStreamData [3, 5, 6, 12, 14, 15, 16, 17, 19, 20] (by decide) (by decide) (by decide) (by decide) (by decide) (by decide) (by decide) (by decide) (by decide) (by decide) rx f s
  | streamEnd rx f => exact forget_execStreamEnd [3, 5, 6, 12, 14, 15, 16, 17, 19, 20] (by decide) (by decide) (by decide) (by decide) (by decide) (by decide) (by decide) (by decide) (by decide) (by decide) rx f s
  | skeinTransfer rx f => exact forget_execSkeinTransfer [3, 5, 6, 10, 12, 13, 14, 15, 16, 17, 19, 20] (by decide) (by decide) (by decide) (by decide) (by decide) (by decide) (by decide) (by decide) (by decide) (by decide) (by decide) (by decide) rx f s
  | treeBlock rx f => exact forget_execTreeBlock [3, 5, 10, 13, 14, 16, 20] (by decide) (by decide) (by decide) (by decide) (by decide) (by decide) (by decide) rx f s
  | sliceData rx f => exact forget_execSliceData [3, 5, 6, 10, 12, 13, 14, 15, 16, 17, 19, 20] (by decide) (by decide) (by decide) (by decide) (by decide) (by decide) (by decide) (by decide) (by decide) (by decide) (by decide) (by decide) rx f s
  | digest rx f => exact forget_execDigest [3, 5, 6, 10, 12, 13, 14, 15, 16, 17, 19, 20] (by decide) (by decide) (by decide) (by decide) (by decide) (by decide) (by decide) (by decide) (by decide) (by decide) (by decide) (by decide) rx f s
  | hankData rx f => exact forget_execHankData [3, 14, 16, 19, 20] (by decide) (by decide) (by decide) (by decide) (by decide) rx f s
  | commitReport rx f => exact forget_execCommitReport [3, 5, 14, 16, 20] (by decide) (by decide) (by decide) (by decide) (by decide) rx f s
  | commitDecision rx f => exact forget_execCommitDecision [3, 4, 5, 6, 10, 12, 13, 14, 15, 16, 17, 19, 20, 27] (by decide) (by decide) (by decide) (by decide) (by decide) (by decide) (by decide) (by decide) (by decide) (by decide) (by decide) (by decide) (by decide) (by decide) rx f s
  | securingReport rx f => exact forget_execSecuringReport [3, 14, 16, 20, 21] (by decide) (by decide) (by decide) (by decide) (by decide) rx f s
  | securingDecision rx f => exact forget_execSecuringDecision [3, 14, 16, 20] (by decide) (by decide) (by decide) (by decide) rx f s
  | halt rx f => exact forget_execHalt [3, 5, 14, 16, 20] (by decide) (by decide) (by decide) (by decide) (by decide) rx f s
  | grant rx grants => exact forget_execGrant [3, 5, 6, 12, 14, 15, 16, 17, 19, 20] (by decide) (by decide) (by decide) (by decide) (by decide) (by decide) (by decide) (by decide) (by decide) (by decide) rx grants s
  | credit rx ack units => exact forget_execCredit [14] (by decide) rx ack units s
  | commitReportSend => exact forget_execCommitReportSend [3, 5, 14, 16, 20] (by decide) (by decide) (by decide) (by decide) (by decide) s
  | sliverColumnTest die sliver pass => exact forget_execSliverColumnTest [3, 5, 6, 10, 12, 13, 14, 15, 16, 17, 19, 20] (by decide) (by decide) (by decide) (by decide) (by decide) (by decide) (by decide) (by decide) (by decide) (by decide) (by decide) (by decide) die sliver pass s
  | cardingPassEnd inst table pass => exact forget_execCardingPassEnd [3, 5, 6, 10, 12, 13, 14, 15, 16, 17, 19, 20] (by decide) (by decide) (by decide) (by decide) (by decide) (by decide) (by decide) (by decide) (by decide) (by decide) (by decide) (by decide) inst table pass s
  | placementMove page dest => exact forget_execPlacementMove [6, 15] (by decide) (by decide) page dest s
  | pageMoveEnd page => exact forget_execPageMoveEnd [3, 5, 6, 10, 12, 13, 14, 15, 16, 17, 19, 20] (by decide) (by decide) (by decide) (by decide) (by decide) (by decide) (by decide) (by decide) (by decide) (by decide) (by decide) (by decide) page s
  | flashRereadEnd page => exact forget_execFlashRereadEnd [3, 5, 6, 10, 12, 13, 14, 15, 16, 17, 19, 20] (by decide) (by decide) (by decide) (by decide) (by decide) (by decide) (by decide) (by decide) (by decide) (by decide) (by decide) (by decide) page s
  | backgroundScrub corrected bad badRows => exact forget_execBackgroundScrub [3, 5, 6, 15, 16, 17, 19, 20] (by decide) (by decide) (by decide) (by decide) (by decide) (by decide) (by decide) (by decide) corrected bad badRows s
  | flashReclaim => exact forget_execFlashReclaim [6, 15, 19, 21] (by decide) (by decide) (by decide) (by decide) s
  | memoryPortFailure port => exact forget_execMemoryPortFailure [2, 3, 5, 6, 10, 12, 13, 14, 15, 16, 17, 19, 20] (by decide) (by decide) (by decide) (by decide) (by decide) (by decide) (by decide) (by decide) (by decide) (by decide) (by decide) (by decide) (by decide) port s
  | chordModuleFailure chord => exact forget_execChordModuleFailure [3, 5, 16, 20] (by decide) (by decide) (by decide) (by decide) chord s
  | parkedEntryApply table row => exact forget_execParkedEntryApply [3, 5, 6, 12, 14, 15, 16, 17, 19, 20] (by decide) (by decide) (by decide) (by decide) (by decide) (by decide) (by decide) (by decide) (by decide) (by decide) table row s
  | updateKernelInvocation target units at_ => exact forget_execUpdateKernelInvocation [11] (by decide) target units at_ s
  | treeBlockForward treeId block => exact forget_execTreeBlockForward [3, 5, 10, 13, 14, 16, 20] (by decide) (by decide) (by decide) (by decide) (by decide) (by decide) (by decide) treeId block s
  | denseBlockUpdate treeId block => exact forget_execDenseBlockUpdate [3, 5, 6, 10, 12, 13, 14, 15, 16, 17, 19, 20, 24] (by decide) (by decide) (by decide) (by decide) (by decide) (by decide) (by decide) (by decide) (by decide) (by decide) (by decide) (by decide) (by decide) treeId block s
  | weightGradientTileDrain queue tileRow tileCol width => exact forget_execWeightGradientTileDrain [11, 13, 19] (by decide) (by decide) (by decide) queue tileRow tileCol width s
  | vertexDispatch inst vertices at_ => exact forget_execVertexDispatch [5, 10, 11, 15] (by decide) (by decide) (by decide) (by decide) inst vertices at_ s
  | waitSatisfied c => exact forget_execWaitSatisfied [11] (by decide) c s
  | queueAccept q => exact forget_execQueueAccept [3, 11, 16, 20] (by decide) (by decide) (by decide) (by decide) q s
  | queueCommandComplete q => exact forget_execQueueCommandComplete [3, 5, 6, 7, 10, 11, 12, 13, 14, 15, 16, 17, 19, 20, 24] (by decide) (by decide) (by decide) (by decide) (by decide) (by decide) (by decide) (by decide) (by decide) (by decide) (by decide) (by decide) (by decide) (by decide) (by decide) q s
  | loopEnd c => exact forget_execLoopEnd [11] (by decide) c s
  | mov c w => exact forget_execMov [11] (by decide) c w s
  | movi c w => exact forget_execMovi [11] (by decide) c w s
  | movhi c w => exact forget_execMovhi [11] (by decide) c w s
  | alu c w => exact forget_execAlu [11] (by decide) c w s
  | alui c w => exact forget_execAlui [11] (by decide) c w s
  | cmp c w => exact forget_execCmp [11] (by decide) c w s
  | sel c w => exact forget_execSel [11] (by decide) c w s
  | fop c w => exact forget_execFop [11] (by decide) c w s
  | widen c w => exact forget_execWiden [11] (by decide) c w s
  | narrow c w => exact forget_execNarrow [11] (by decide) c w s
  | bcast c w => exact forget_execBcast [11] (by decide) c w s
  | reduce c w => exact forget_execReduce [11] (by decide) c w s
  | tload c w => exact forget_execTload [11, 19] (by decide) (by decide) c w s
  | tstore c w => exact forget_execTstore [10, 11, 19] (by decide) (by decide) (by decide) c w s
  | tmove c w => exact forget_execTmove [3, 11, 16, 20] (by decide) (by decide) (by decide) (by decide) c w s
  | tile c w => exact forget_execTile [10, 11, 19] (by decide) (by decide) (by decide) c w s
  | product c w => exact forget_execProduct [3, 11, 16, 20] (by decide) (by decide) (by decide) (by decide) c w s
  | layer c w => exact forget_execLayer [10, 11, 19, 29] (by decide) (by decide) (by decide) (by decide) c w s
  | signal c w => exact forget_execSignal [11] (by decide) c w s
  | wait c w => exact forget_execWait [11] (by decide) c w s
  | readctr c w => exact forget_execReadctr [11] (by decide) c w s
  | br c w => exact forget_execBr [11] (by decide) c w s
  | brc c w => exact forget_execBrc [11] (by decide) c w s
  | loop c w => exact forget_execLoop [11] (by decide) c w s
  | call c w => exact forget_execCall [11] (by decide) c w s
  | ret c w => exact forget_execRet [11] (by decide) c w s
  | retire c w => exact forget_execRetire [3, 5, 6, 7, 10, 11, 12, 13, 14, 15, 16, 17, 19, 20, 24] (by decide) (by decide) (by decide) (by decide) (by decide) (by decide) (by decide) (by decide) (by decide) (by decide) (by decide) (by decide) (by decide) (by decide) (by decide) c w s
  | query c w => exact forget_execQuery [11] (by decide) c w s
  | hankPageCopy boundary page => exact forget_execHankPageCopy [3, 5, 6, 10, 12, 13, 14, 15, 16, 17, 19, 20] (by decide) (by decide) (by decide) (by decide) (by decide) (by decide) (by decide) (by decide) (by decide) (by decide) (by decide) (by decide) boundary page s
  | securingHoldEnd boundary => exact forget_execSecuringHoldEnd [3, 5, 6, 10, 12, 13, 14, 15, 16, 17, 19, 20] (by decide) (by decide) (by decide) (by decide) (by decide) (by decide) (by decide) (by decide) (by decide) (by decide) (by decide) (by decide) boundary s
  | hankSeal boundary => exact forget_execHankSeal [3, 14, 16, 19, 20, 21] (by decide) (by decide) (by decide) (by decide) (by decide) (by decide) boundary s
  | heldEventPost consumer => exact forget_execHeldEventPost [3] (by decide) consumer s
  | routeTableFree => exact forget_execRouteTableFree [3, 4, 5, 6, 10, 12, 13, 14, 15, 16, 17, 19, 20, 27] (by decide) (by decide) (by decide) (by decide) (by decide) (by decide) (by decide) (by decide) (by decide) (by decide) (by decide) (by decide) (by decide) (by decide) s
  | reservedFrameKind rx kind => exact forget_execReservedFrameKind [3, 14, 16, 20] (by decide) (by decide) (by decide) (by decide) rx kind s
  | overvoltageReclose => exact forget_execOvervoltageReclose [1, 2, 3, 4, 5, 6, 7, 8, 9, 10, 11, 12, 13, 14, 15, 16, 17, 18, 19, 20, 23, 24, 25, 26, 27, 28, 29] (by decide) (by decide) (by decide) (by decide) (by decide) (by decide) (by decide) (by decide) (by decide) (by decide) (by decide) (by decide) (by decide) (by decide) (by decide) (by decide) (by decide) (by decide) (by decide) (by decide) (by decide) (by decide) (by decide) (by decide) (by decide) (by decide) (by decide) s
  | recordsReachedTier table version => exact forget_execRecordsReachedTier [3, 6, 15, 19] (by decide) (by decide) (by decide) (by decide) table version s

/-- Every command keeps the byte memories in canonical form. -/
theorem exec_memoriesOk (i : Instr) (s : State) (h : memoriesOk s = true) : memoriesOk (endState s (exec i s)) = true := by
  cases i with
  | doorbell ring producer descs stores => exact mem_execDoorbell ring producer descs stores s h
  | commandAcceptanceResume consumer => exact (mem_execCommandAcceptanceResume consumer s).trans h
  | unknownOpcodeDescriptor d => exact (mem_execUnknownOpcodeDescriptor d s).trans h
  | submitLattice d => exact mem_execSubmitLattice d s h
  | submitLatticeRemove d => exact (mem_execSubmitLatticeRemove d s).trans h
  | loadProgram d => exact (mem_execLoadProgram d s).trans h
  | loadProgramSlotTaken slot => exact (mem_execLoadProgramSlotTaken slot s).trans h
  | translationEnd handle => exact mem_execTranslationEnd handle s h
  | unloadProgram d => exact (mem_execUnloadProgram d s).trans h
  | stepInput d => exact mem_execStepInput d s h
  | stepInputBlocksRead step units => exact mem_execStepInputBlocksRead step units s h
  | evalRequest d => exact (mem_execEvalRequest d s).trans h
  | evalBlocksRead boundary handle units => exact mem_execEvalBlocksRead boundary handle units s h
  | evalComplete boundary handle => exact mem_execEvalComplete boundary handle s h
  | loadTableVersionBegin d => exact (mem_execLoadTableVersionBegin d s).trans h
  | loadTableVersionData d => exact (mem_execLoadTableVersionData d s).trans h
  | loadTableVersionEnd d => exact (mem_execLoadTableVersionEnd d s).trans h
  | retireTableVersion d => exact (mem_execRetireTableVersion d s).trans h
  | stageConfig d => exact mem_execStageConfig d s h
  | commitConfig d => exact (mem_execCommitConfig d s).trans h
  | discardConfig d => exact (mem_execDiscardConfig d s).trans h
  | secureNow d => exact (mem_execSecureNow d s).trans h
  | restoreFromHank d read newest => exact (mem_execRestoreFromHank d read newest s).trans h
  | restoreEnd => exact mem_execRestoreEnd s h
  | reportFailure d => exact (mem_execReportFailure d s).trans h
  | exportSkein d => exact (mem_execExportSkein d s).trans h
  | exportChunk ring index rows => exact mem_execExportChunk ring index rows s h
  | deltaControlStart d => exact (mem_execDeltaControlStart d s).trans h
  | deltaControlStop d => exact (mem_execDeltaControlStop d s).trans h
  | telemetrySnapshot d => exact mem_execTelemetrySnapshot d s h
  | debugBreakArm d => exact (mem_execDebugBreakArm d s).trans h
  | debugBreakClear d => exact (mem_execDebugBreakClear d s).trans h
  | debugResume d => exact mem_execDebugResume d s h
  | registerReset value => exact mem_execRegisterReset value s h
  | jobCommit list => exact (mem_execJobCommit list s).trans h
  | unitEnable unit => exact (mem_execUnitEnable unit s).trans h
  | unitDisable unit => exact (mem_execUnitDisable unit s).trans h
  | ringEnable ring value producer consumer descs => exact (mem_execRingEnable ring value producer consumer descs s).trans h
  | ringDisable ring => exact (mem_execRingDisable ring s).trans h
  | ringRearm ring producer descs => exact (mem_execRingRearm ring producer descs s).trans h
  | energyCountLowRead => exact (mem_execEnergyCountLowRead s).trans h
  | registerWrite offset wide value => exact (mem_execRegisterWrite offset wide value s).trans h
  | installJobKey t inSession payload => exact (mem_execInstallJobKey t inSession payload s).trans h
  | queryState t payload => exact (mem_execQueryState t payload s).trans h
  | firmwareBegin t payload => exact (mem_execFirmwareBegin t payload s).trans h
  | firmwareData t payload => exact (mem_execFirmwareData t payload s).trans h
  | firmwareEnd t payload => exact (mem_execFirmwareEnd t payload s).trans h
  | firmwareAbort t payload => exact (mem_execFirmwareAbort t payload s).trans h
  | debugChallenge t payload => exact (mem_execDebugChallenge t payload s).trans h
  | debugUnlock t payload => exact mem_execDebugUnlock t payload s h
  | getVersion t => exact (mem_execGetVersion t s).trans h
  | getCapabilities t => exact (mem_execGetCapabilities t s).trans h
  | negotiateAlgorithms t acceptsBrainpool => exact (mem_execNegotiateAlgorithms t acceptsBrainpool s).trans h
  | getDigests t => exact (mem_execGetDigests t s).trans h
  | getCertificate t slot offset length => exact (mem_execGetCertificate t slot offset length s).trans h
  | challenge t slot nonce => exact (mem_execChallenge t slot nonce s).trans h
  | getMeasurements t index signed nonce => exact (mem_execGetMeasurements t index signed nonce s).trans h
  | keyExchange t exchangeData => exact (mem_execKeyExchange t exchangeData s).trans h
  | finish t verifyData => exact (mem_execFinish t verifyData s).trans h
  | heartbeat t => exact (mem_execHeartbeat t s).trans h
  | keyUpdate t operation => exact (mem_execKeyUpdate t operation s).trans h
  | endSession t => exact (mem_execEndSession t s).trans h
  | inputSwitchClose => exact mem_execInputSwitchClose s h
  | powerOnReset => exact mem_execPowerOnReset s h
  | perstNAsserted nanoseconds => exact mem_execPerstNAsserted nanoseconds s h
  | perstNDeasserted => exact (mem_execPerstNDeasserted s).trans h
  | linkReset => exact mem_execLinkReset s h
  | functionLevelReset => exact mem_execFunctionLevelReset s h
  | resetSequenceEnd found => exact (mem_execResetSequenceEnd found s).trans h
  | inputOvervoltage => exact (mem_execInputOvervoltage s).trans h
  | inputOvercurrent => exact (mem_execInputOvercurrent s).trans h
  | overcurrentRetry => exact mem_execOvercurrentRetry s h
  | mateSenseReleased => exact (mem_execMateSenseReleased s).trans h
  | lossOfInput => exact (mem_execLossOfInput s).trans h
  | brakeEntered nanoseconds => exact (mem_execBrakeEntered nanoseconds s).trans h
  | pwrBrakeNDeasserted => exact (mem_execPwrBrakeNDeasserted s).trans h
  | brakeEnd => exact (mem_execBrakeEnd s).trans h
  | grantRound readings => exact (mem_execGrantRound readings s).trans h
  | thermTripClear => exact (mem_execThermTripClear s).trans h
  | wearBudgetAccrual => exact (mem_execWearBudgetAccrual s).trans h
  | diePark die => exact (mem_execDiePark die s).trans h
  | nandChannelIdle channel => exact (mem_execNandChannelIdle channel s).trans h
  | unitDrainEnd unit => exact (mem_execUnitDrainEnd unit s).trans h
  | unitWakeEnd unit expander => exact (mem_execUnitWakeEnd unit expander s).trans h
  | portTrainingEnd port signal trained locked => exact (mem_execPortTrainingEnd port signal trained locked s).trans h
  | portRetry port => exact (mem_execPortRetry port s).trans h
  | keepaliveSend port => exact (mem_execKeepaliveSend port s).trans h
  | livenessLost port => exact (mem_execLivenessLost port s).trans h
  | laneFailure port lane => exact (mem_execLaneFailure port lane s).trans h
  | hello port jobId member peerPort salt => exact (mem_execHello port jobId member peerPort salt s).trans h
  | confirmation port senderSalt receiverSalt tagValid => exact (mem_execConfirmation port senderSalt receiverSalt tagValid s).trans h
  | creditAdvertisement port sizes => exact (mem_execCreditAdvertisement port sizes s).trans h
  | keepalive port => exact (mem_execKeepalive port s).trans h
  | replayRequest port seq => exact (mem_execReplayRequest port seq s).trans h
  | reStripe port failedLane mask seq => exact (mem_execReStripe port failedLane mask seq s).trans h
  | frameDiscard port badTag => exact (mem_execFrameDiscard port badTag s).trans h
  | frameForward port dest source cls stream hops epoch kind length flow => exact (mem_execFrameForward port dest source cls stream hops epoch kind length flow s).trans h
  | rowRequest rx f => exact (mem_execRowRequest rx f s).trans h
  | rowRequestServe source step table pass => exact mem_execRowRequestServe source step table pass s h
  | rowData rx f => exact mem_execRowData rx f s h
  | partialSum rx f => exact mem_execPartialSum rx f s h
  | streamData rx f => exact (mem_execStreamData rx f s).trans h
  | streamEnd rx f => exact (mem_execStreamEnd rx f s).trans h
  | skeinTransfer rx f => exact mem_execSkeinTransfer rx f s h
  | treeBlock rx f => exact mem_execTreeBlock rx f s h
  | sliceData rx f => exact mem_execSliceData rx f s h
  | digest rx f => exact mem_execDigest rx f s h
  | hankData rx f => exact (mem_execHankData rx f s).trans h
  | commitReport rx f => exact (mem_execCommitReport rx f s).trans h
  | commitDecision rx f => exact mem_execCommitDecision rx f s h
  | securingReport rx f => exact (mem_execSecuringReport rx f s).trans h
  | securingDecision rx f => exact (mem_execSecuringDecision rx f s).trans h
  | halt rx f => exact (mem_execHalt rx f s).trans h
  | grant rx grants => exact (mem_execGrant rx grants s).trans h
  | credit rx ack units => exact (mem_execCredit rx ack units s).trans h
  | commitReportSend => exact (mem_execCommitReportSend s).trans h
  | sliverColumnTest die sliver pass => exact mem_execSliverColumnTest die sliver pass s h
  | cardingPassEnd inst table pass => exact mem_execCardingPassEnd inst table pass s h
  | placementMove page dest => exact (mem_execPlacementMove page dest s).trans h
  | pageMoveEnd page => exact mem_execPageMoveEnd page s h
  | flashRereadEnd page => exact mem_execFlashRereadEnd page s h
  | backgroundScrub corrected bad badRows => exact (mem_execBackgroundScrub corrected bad badRows s).trans h
  | flashReclaim => exact (mem_execFlashReclaim s).trans h
  | memoryPortFailure port => exact mem_execMemoryPortFailure port s h
  | chordModuleFailure chord => exact (mem_execChordModuleFailure chord s).trans h
  | parkedEntryApply table row => exact (mem_execParkedEntryApply table row s).trans h
  | updateKernelInvocation target units at_ => exact (mem_execUpdateKernelInvocation target units at_ s).trans h
  | treeBlockForward treeId block => exact mem_execTreeBlockForward treeId block s h
  | denseBlockUpdate treeId block => exact mem_execDenseBlockUpdate treeId block s h
  | weightGradientTileDrain queue tileRow tileCol width => exact (mem_execWeightGradientTileDrain queue tileRow tileCol width s).trans h
  | vertexDispatch inst vertices at_ => exact mem_execVertexDispatch inst vertices at_ s h
  | waitSatisfied c => exact (mem_execWaitSatisfied c s).trans h
  | queueAccept q => exact (mem_execQueueAccept q s).trans h
  | queueCommandComplete q => exact mem_execQueueCommandComplete q s h
  | loopEnd c => exact (mem_execLoopEnd c s).trans h
  | mov c w => exact (mem_execMov c w s).trans h
  | movi c w => exact (mem_execMovi c w s).trans h
  | movhi c w => exact (mem_execMovhi c w s).trans h
  | alu c w => exact (mem_execAlu c w s).trans h
  | alui c w => exact (mem_execAlui c w s).trans h
  | cmp c w => exact (mem_execCmp c w s).trans h
  | sel c w => exact (mem_execSel c w s).trans h
  | fop c w => exact (mem_execFop c w s).trans h
  | widen c w => exact (mem_execWiden c w s).trans h
  | narrow c w => exact (mem_execNarrow c w s).trans h
  | bcast c w => exact (mem_execBcast c w s).trans h
  | reduce c w => exact (mem_execReduce c w s).trans h
  | tload c w => exact (mem_execTload c w s).trans h
  | tstore c w => exact mem_execTstore c w s h
  | tmove c w => exact (mem_execTmove c w s).trans h
  | tile c w => exact mem_execTile c w s h
  | product c w => exact (mem_execProduct c w s).trans h
  | layer c w => exact mem_execLayer c w s h
  | signal c w => exact (mem_execSignal c w s).trans h
  | wait c w => exact (mem_execWait c w s).trans h
  | readctr c w => exact (mem_execReadctr c w s).trans h
  | br c w => exact (mem_execBr c w s).trans h
  | brc c w => exact (mem_execBrc c w s).trans h
  | loop c w => exact (mem_execLoop c w s).trans h
  | call c w => exact (mem_execCall c w s).trans h
  | ret c w => exact (mem_execRet c w s).trans h
  | retire c w => exact mem_execRetire c w s h
  | query c w => exact (mem_execQuery c w s).trans h
  | hankPageCopy boundary page => exact mem_execHankPageCopy boundary page s h
  | securingHoldEnd boundary => exact mem_execSecuringHoldEnd boundary s h
  | hankSeal boundary => exact (mem_execHankSeal boundary s).trans h
  | heldEventPost consumer => exact (mem_execHeldEventPost consumer s).trans h
  | routeTableFree => exact mem_execRouteTableFree s h
  | reservedFrameKind rx kind => exact (mem_execReservedFrameKind rx kind s).trans h
  | overvoltageReclose => exact mem_execOvervoltageReclose s h
  | recordsReachedTier table version => exact (mem_execRecordsReachedTier table version s).trans h

end Sys2Proof.Machine
end

