-- ==== Sys2Proof/Laws/Same.lean ====
section
/-! SUPPORT. The frame of a command in the terms of Safety.SameBut, from the groups it touches. -/

namespace Sys2Proof.Machine

open Sys2Proof.Safety

/-- The group of a number of Laws/Frame.lean; the numbers past 21 stand for parts of groups 2, 5, 11, 13 and 18. -/
def stateGroup : Nat → Option Group
  | 1 => some .supply
  | 2 => some .regs
  | 3 => some .rings
  | 4 => some .cfg
  | 5 => some .steps
  | 6 => some .tables
  | 7 => some .programs
  | 8 => some .lattices
  | 9 => some .window
  | 10 => some .tensors
  | 11 => some .spindles
  | 12 => some .owners
  | 13 => some .dense
  | 14 => some .links
  | 15 => some .power
  | 16 => some .securing
  | 17 => some .outputs
  | 18 => some .security
  | 19 => some .telemetry
  | 20 => some .sequences
  | 21 => some .freeCount
  | _ => none

/-- A command that changes only the groups of `ks` has the frame of any list that holds them. -/
theorem sameBut_of_forget (ks : List Nat) (gs : List Group) (s t : State) (h : forget ks t = forget ks s)
    (hk : ks.all (fun k => (stateGroup k).all gs.contains) = true) : SameBut gs s t := by
  have cover : ∀ k g, stateGroup k = some g → k ∈ ks → g ∈ gs := by
    intro k g hg hm
    have := List.all_eq_true.mp hk k hm
    simpa only [hg, Option.all_some, List.contains_iff_mem] using this
  refine ⟨by simpa only [forget] using congrArg State.pending h, ?_, ?_, ?_, ?_, ?_, ?_, ?_, ?_, ?_, ?_, ?_, ?_, ?_, ?_, ?_, ?_, ?_, ?_, ?_, ?_, ?_⟩
  · by_cases k : 1 ∈ ks
    · exact .inl (cover 1 _ rfl k)
    · exact .inr (by simpa only [forget, k, if_false] using congrArg State.supply h)
  · by_cases k : 2 ∈ ks
    · exact .inl (cover 2 _ rfl k)
    · exact .inr (by simpa only [forget, k, if_false] using congrArg State.regs h)
  · by_cases k : 3 ∈ ks
    · exact .inl (cover 3 _ rfl k)
    · exact .inr (by simpa only [forget, k, if_false] using congrArg State.rings h)
  · by_cases k : 4 ∈ ks
    · exact .inl (cover 4 _ rfl k)
    · exact .inr (by simpa only [forget, k, if_false] using congrArg State.cfg h)
  · by_cases k : 5 ∈ ks
    · exact .inl (cover 5 _ rfl k)
    · exact .inr (by simpa only [forget, k, if_false] using congrArg State.steps h)
  · by_cases k : 6 ∈ ks
    · exact .inl (cover 6 _ rfl k)
    · exact .inr (by simpa only [forget, k, if_false] using congrArg State.tables h)
  · by_cases k : 7 ∈ ks
    · exact .inl (cover 7 _ rfl k)
    · exact .inr (by simpa only [forget, k, if_false] using congrArg State.programs h)
  · by_cases k : 8 ∈ ks
    · exact .inl (cover 8 _ rfl k)
    · exact .inr (by simpa only [forget, k, if_false] using congrArg State.lattices h)
  · by_cases k : 9 ∈ ks
    · exact .inl (cover 9 _ rfl k)
    · exact .inr (by simpa only [forget, k, if_false] using congrArg State.window h)
  · by_cases k : 10 ∈ ks
    · exact .inl (cover 10 _ rfl k)
    · exact .inr (by simpa only [forget, k, if_false] using congrArg State.tensors h)
  · by_cases k : 11 ∈ ks
    · exact .inl (cover 11 _ rfl k)
    · exact .inr (by simpa only [forget, k, if_false] using congrArg State.spindles h)
  · by_cases k : 12 ∈ ks
    · exact .inl (cover 12 _ rfl k)
    · exact .inr (by simpa only [forget, k, if_false] using congrArg State.owners h)
  · by_cases k : 13 ∈ ks
    · exact .inl (cover 13 _ rfl k)
    · exact .inr (by simpa only [forget, k, if_false] using congrArg State.dense h)
  · by_cases k : 14 ∈ ks
    · exact .inl (cover 14 _ rfl k)
    · exact .inr (by simpa only [forget, k, if_false] using congrArg State.links h)
  · by_cases k : 15 ∈ ks
    · exact .inl (cover 15 _ rfl k)
    · exact .inr (by simpa only [forget, k, if_false] using congrArg State.power h)
  · by_cases k : 16 ∈ ks
    · exact .inl (cover 16 _ rfl k)
    · exact .inr (by simpa only [forget, k, if_false] using congrArg State.securing h)
  · by_cases k : 17 ∈ ks
    · exact .inl (cover 17 _ rfl k)
    · exact .inr (by simpa only [forget, k, if_false] using congrArg State.outputs h)
  · by_cases k : 18 ∈ ks
    · exact .inl (cover 18 _ rfl k)
    · exact .inr (by simpa only [forget, k, if_false] using congrArg State.security h)
  · by_cases k : 19 ∈ ks
    · exact .inl (cover 19 _ rfl k)
    · exact .inr (by simpa only [forget, k, if_false] using congrArg State.telemetry h)
  · by_cases k : 20 ∈ ks
    · exact .inl (cover 20 _ rfl k)
    · exact .inr (by simpa only [forget, k, if_false] using congrArg State.sequences h)
  · by_cases k : 21 ∈ ks
    · exact .inl (cover 21 _ rfl k)
    · exact .inr (by simpa only [forget, k, if_false] using congrArg State.freeCount h)

/-- The frame of every command. -/
theorem exec_sameBut (i : Instr) (gs : List Group) (s t : State) (h : exec i s = .next t)
    (hk : (touches i).all (fun k => (stateGroup k).all gs.contains) = true) : SameBut gs s t := by
  have e := exec_forget i s
  rw [h] at e
  exact sameBut_of_forget _ _ _ _ e hk

end Sys2Proof.Machine
end

