-- ==== Sys2Proof/Laws/Posting.lean ====
section
/-! SUPPORT. What posting an event or a completion leaves: the record, written or held, and the sequence number taken. -/

namespace Sys2Proof.Machine

open Sys2Proof.Safety

theorem writeEvent_posted (s : State) (e : Event) : EventPosted (writeEvent s e) e.die e.body :=
  .inl ⟨((ringAt s 9).producer, { e with phase := (ringAt s 9).phase (ringAt s 9).producer }),
    List.mem_append_right _ (List.mem_singleton.mpr rfl), rfl, rfl⟩

theorem mergeHeld_posted (e : Event) (l l' : List Event) (h : mergeHeld e l = some l') :
    ∃ x ∈ l', x.body = e.body ∧ x.die = e.die := by
  induction l generalizing l' with
  | nil => cases h
  | cons a r ih =>
    simp only [mergeHeld] at h
    split at h
    · cases h
      rename_i k
      simp only [Bool.and_eq_true, beq_iff_eq] at k
      exact ⟨_, List.mem_cons_self, rfl, k.2⟩
    · cases hm : mergeHeld e r with
      | none => rw [hm] at h; cases h
      | some r' =>
        rw [hm] at h
        cases h
        obtain ⟨x, hx, k⟩ := ih r' hm
        exact ⟨x, List.mem_cons_of_mem _ hx, k⟩

theorem holdEvent_posted (s : State) (e : Event) : EventPosted (holdEvent s e) e.die e.body := by
  right
  unfold holdEvent
  cases hm : mergeHeld e s.rings.heldEvents with
  | none => exact ⟨e, List.mem_append_right _ (List.mem_singleton.mpr rfl), rfl, rfl⟩
  | some l => exact mergeHeld_posted e _ l hm

/-- An event that is originated stands on ring 9 or among those held. -/
theorem postEventFor_posted (s : State) (die step : Nat) (body : EventBody) (cause : Option (Nat × Word32)) :
    EventPosted (postEventFor s die step body cause) die body := by
  unfold postEventFor
  dsimp only
  split
  · split
    · exact writeEvent_posted _ _
    · exact holdEvent_posted _ _
  · split
    · exact writeEvent_posted _ _
    · exact holdEvent_posted _ _

theorem postEvent_posted (s : State) (die step : Nat) (body : EventBody) : EventPosted (postEvent s die step body) die body :=
  postEventFor_posted s die step body none

/-- An event takes its die's next sequence number (R19). -/
theorem postEventFor_sequences (s : State) (die step : Nat) (body : EventBody) (cause : Option (Nat × Word32)) :
    (postEventFor s die step body cause).sequences = modifyAt s.sequences die (· + 1) := by
  unfold postEventFor
  dsimp only
  split <;> split <;> rfl

theorem postEvent_sequences (s : State) (die step : Nat) (body : EventBody) :
    (postEvent s die step body).sequences = modifyAt s.sequences die (· + 1) :=
  postEventFor_sequences s die step body none

/-- An event that is no fault of the member's own leaves the failure record as it is (R320). -/
theorem postEventFor_forget (ks : List Nat) (h3 : 3 ∈ ks) (h20 : 20 ∈ ks) (s : State) (die step : Nat) (body : EventBody)
    (cause : Option (Nat × Word32)) (h : ∀ s, ownFault s body = false) :
    forget ks (postEventFor s die step body cause) = forget ks s := by
  unfold postEventFor
  simp only [h, Bool.false_eq_true, if_false]
  split
  · simp only [forget_writeEvent, forget_setSequences, h3, h20]
  · simp only [forget_holdEvent, forget_setSequences, h3, h20]

theorem postEvent_forget (ks : List Nat) (h3 : 3 ∈ ks) (h20 : 20 ∈ ks) (s : State) (die step : Nat) (body : EventBody)
    (h : ∀ s, ownFault s body = false) : forget ks (postEvent s die step body) = forget ks s :=
  postEventFor_forget ks h3 h20 s die step body none h

/-- A completion that is posted stands on ring 8 or among those held back. -/
theorem postDone_posted (s : State) (c : Completion) :
    (∃ p, (∃ r ∈ (postDone s c).rings.completions, r.2 = { c with phase := p })) ∨ c ∈ (postDone s c).rings.heldDone := by
  unfold postDone
  split
  · exact .inl ⟨_, _, List.mem_append_right _ (List.mem_singleton.mpr rfl), rfl⟩
  · exact .inr (List.mem_append_right _ (List.mem_singleton.mpr rfl))

/-- A command that is completed is answered. -/
theorem finishWith_answered (s : State) (d : Sub) (status : Status) (error d0 d1 : Nat) :
    Answered (finishWith s d status error d0 d1) d status error (BitVec.ofNat 64 d0) (BitVec.ofNat 64 d1) := by
  unfold finishWith
  rcases postDone_posted s _ with ⟨p, h⟩ | h
  · exact ⟨_, .inl h, rfl, rfl, rfl, rfl, rfl, rfl, rfl, rfl⟩
  · exact ⟨_, .inr h, rfl, rfl, rfl, rfl, rfl, rfl, rfl, rfl⟩

theorem finish_answered (s : State) (d : Sub) (status : Status) : Answered (finish s d status) d status 0 0 0 :=
  finishWith_answered s d status 0 0 0

end Sys2Proof.Machine
end

