-- ==== Sys2Proof/Machine/Records.lean ====
section
/-! DEFINITION. The records of the module-written rings as bytes: completions (Table 10.4), events (Tables 10.8 and 10.9),
export records (Table 14.27) and delta records (Table 14.28), and where each lies in its ring. -/

namespace Sys2Proof.Machine

/-- STATUS (Table 10.5). -/
def Status.code (st : Status) : Nat :=
  match st with
  | .ok => 0x00
  | .acceptedDeferred => 0x01
  | .rejectedFootprint => 0x02
  | .rejectedConfig => 0x03
  | .rejectedLimit => 0x04
  | .noSpace => 0x05
  | .versionUnknown => 0x06
  | .security => 0x07
  | .malformed => 0x08

/-- The 32 bytes of a completion record (Table 10.4). -/
def Completion.bytes (c : Completion) : List Byte :=
  leBytes 2 c.opcode ++ leBytes 1 c.status.code ++ leBytes 1 c.phase.toNat ++ leBytes 4 c.commandId.toNat ++
  leBytes 4 c.submitIndex.toNat ++ leBytes 1 c.ring ++ leBytes 1 c.errorCode ++ leBytes 2 0 ++
  leBytes 8 c.detail0.toNat ++ leBytes 8 c.detail1.toNat

/-- CODE (Table 10.9). -/
def EventBody.code (b : EventBody) : Nat :=
  match b with
  | .overflowSkip _ _ _ _ => 0x0001
  | .replicaMismatch _ _ _ _ => 0x0002
  | .rowPoisoned _ _ _ _ => 0x0003
  | .laneDegraded _ _ _ => 0x0004
  | .memberLost _ _ => 0x0005
  | .hankSealed _ _ _ => 0x0006
  | .stepCommitted _ _ _ => 0x0007
  | .brakeEntered _ => 0x0008
  | .thermalThrottle _ _ => 0x0009
  | .deltaGap _ _ => 0x000A
  | .debugStop _ _ _ _ _ _ => 0x000B

/-- All ones of `n` bytes, for a field of a missing kind (R70). -/
def allOnes (n : Nat) : Nat := 2 ^ (8 * n) - 1

/-- The named payload fields (Table 10.9), from payload offset 0. -/
def EventBody.fields (b : EventBody) : List Byte :=
  match b with
  | .overflowSkip rows blocks lowRow lowBlock =>
    leBytes 4 rows ++ leBytes 4 blocks ++
    leBytes 2 ((lowRow.map (·.1)).getD (allOnes 2)) ++ leBytes 6 0 ++ leBytes 8 ((lowRow.map (·.2)).getD (allOnes 8)) ++
    leBytes 4 ((lowBlock.map (·.1)).getD (allOnes 4)) ++ leBytes 4 0 ++ leBytes 8 ((lowBlock.map (·.2)).getD (allOnes 8))
  | .replicaMismatch tree finder first last => leBytes 8 tree ++ leBytes 2 finder ++ leBytes 6 0 ++ leBytes 8 first ++ leBytes 8 last
  | .rowPoisoned table version row tier => leBytes 2 table ++ leBytes 2 0 ++ leBytes 4 version ++ leBytes 8 row ++ leBytes 1 tier
  | .laneDegraded port lane remaining => leBytes 1 port ++ leBytes 1 lane ++ leBytes 1 remaining
  | .memberLost named reason => leBytes 2 (named.getD 0xFFFF) ++ leBytes 1 reason
  | .hankSealed boundary loss targets => leBytes 8 boundary ++ leBytes 4 loss.toNat ++ leBytes 1 targets
  | .stepCommitted loss overflow exponent => leBytes 4 loss.toNat ++ leBytes 1 overflow.toNat ++ leBytes 1 exponent
  | .brakeEntered energy => leBytes 8 energy.toNat
  | .thermalThrottle junction level => leBytes 1 (wrapInt 8 junction) ++ leBytes 1 level
  | .deltaGap index table => leBytes 4 index.toNat ++ leBytes 2 table
  | .debugStop slot die spindle queue count tag =>
    leBytes 1 slot ++ leBytes 1 die ++ leBytes 1 spindle ++ leBytes 1 queue ++ leBytes 4 0 ++ leBytes 8 count ++ leBytes 2 tag

/-- The payload: the fields, then zeros to 40 bytes (R249, R250). -/
def EventBody.payload (b : EventBody) : List Byte := b.fields ++ List.replicate (40 - b.fields.length) 0

/-- The 64 bytes of an event record: the header of Table 10.8 and the payload (R249). -/
def Event.bytes (e : Event) : List Byte :=
  leBytes 2 e.body.code ++ leBytes 1 e.phase.toNat ++ leBytes 1 e.die ++ leBytes 2 e.member ++ leBytes 2 e.count ++
  leBytes 8 e.sequence ++ leBytes 8 e.step ++ e.body.payload

/-- The 64 bytes of an export record (Table 14.27). -/
def ExportRecord.bytes (r : ExportRecord) : List Byte :=
  leBytes 2 (if r.isEnd then 2 else 1) ++ leBytes 2 0 ++ leBytes 4 r.commandId.toNat ++ leBytes 8 r.boundary ++
  leBytes 2 r.table ++ leBytes 2 0 ++ leBytes 4 r.version ++ leBytes 4 (if r.isEnd then 0xFFFFFFFF else r.skein) ++
  leBytes 4 r.entries ++ leBytes 4 r.chunkOffset ++ leBytes 4 r.chunkLength ++ leBytes 8 r.poisoned ++ leBytes 16 0

/-- The bytes of a delta record: the header of Table 14.28, the data, and zeros to the end of the last entry (R370). -/
def DeltaRecord.bytes (r : DeltaRecord) : List Byte :=
  let bs := leBytes 2 0x5344 ++ leBytes 1 r.kind ++ leBytes 1 r.entries ++ leBytes 2 r.table ++ leBytes 2 r.data.length ++
    leBytes 8 r.row ++ leBytes 8 r.step ++ leBytes 4 r.version ++ leBytes 1 r.format ++ leBytes 1 r.blockLog2 ++ leBytes 2 0 ++
    r.data
  bs ++ List.replicate (64 * r.entries - bs.length) 0

/-- Bytes of one entry of a module-written ring: completions 32, the rest 64 (R237). -/
def entryBytes (ring : Nat) : Nat := if ring = 8 then 32 else 64

/-- The records of a module-written ring as bytes, with their ring indices, oldest first. -/
def ringRecords (s : State) (ring : Nat) : List (Word32 × List Byte) :=
  if ring = 8 then s.rings.completions.map (fun x => (x.1, x.2.bytes))
  else if ring = 9 then s.rings.events.map (fun x => (x.1, x.2.bytes))
  else if ring = 10 then s.rings.exports.map (fun x => (x.1, x.2.bytes))
  else if ring = 11 then s.rings.deltas.map (fun x => (x.1, x.2.bytes))
  else []

/-- Where a record lies in host memory: its slot is its index modulo the ring's size (R237). -/
def recordAddress (s : State) (ring : Nat) (index : Word32) : Nat :=
  (ringAt s ring).base.toNat + entryBytes ring * (index.toNat % (ringAt s ring).size)

/-- The bytes that the module has stored at a host address of a module-written ring: the newest record that covers it. -/
def ringByte (s : State) (ring address : Nat) : Option Byte :=
  (ringRecords s ring).reverse.findSome? (fun x =>
    let a := recordAddress s ring x.1
    if a ≤ address then x.2[address - a]? else none)

end Sys2Proof.Machine
end

