-- ==== Sys2Proof/Tests/Slice0.lean ====
section
/-! SUPPORT. The model's own tests: commands that WellFormed refuses, values that the spec's tables and worked examples give,
and for every statement with hypotheses a state and operands that meet them. -/

namespace Sys2Proof.Tests

open Sys2Proof.Machine Sys2Proof.Safety

set_option Elab.async false

/-! ### Small states -/

/-- A module whose reset sequence has ended. -/
def on : State :=
  { State.reset with supply := { Supply.reset with inReset := false }, regs := { Regs.reset 0 with ready := true } }

/-- Member 0 of a job of members 0 and 1, with a job key and rings 8 and 9 in use. -/
def job : State :=
  { on with
    regs := { on.regs with jobSet := true, memberCount := 2, members := [0, 1] },
    security := { on.security with jobKey := some (List.replicate 48 1) },
    rings := { on.rings with
      ring := (on.rings.ring.set 8 { Ring.reset with enable := true, active := true, setupStatus := 0 }).set 9
        { Ring.reset with enable := true, active := true, setupStatus := 0 } } }

/-- A descriptor on ring 0 from its opcode and body. -/
def cmd (opcode body : Nat) : Sub := { ring := 0, index := 0, desc := BitVec.ofNat 512 (opcode + body * 2 ^ 128) }

/-- The command is accepted and first of its ring. -/
def sent (s : State) (d : Sub) : State := { s with rings := { s.rings with accepted := [{ sub := d, begun := false }] } }

def port (s : State) (n : Nat) (p : Port) : State := { s with links := { s.links with ports := s.links.ports.set n p } }

def upPort : Port := { Port.reset with link := .up, lanes := [0, 1, 2, 3], credits := List.replicate 24 8, confirmed := true }

/-- A job whose port 0 is UP, its unit ON, and its peer member 1. -/
def linked : State :=
  { port job 0 { upPort with peer := some (1, 0) } with
    power := { job.power with units := List.replicate 74 { state := .on, recorded := false } } }

/-- A frame from member 1 at port 0. -/
def rx : Rx := { port := 0, source := 1, hops := 0, epoch := false, length := 64, flow := 7, seq := 0 }

def module_ (code : List Word) : PlyModule :=
  { tensors := [], funcs := [default], foots := [], code := code, products := [], drains := [], layers := [], moves := [], tiles := [] }

def ctx0 : CtxId := { die := 0, spindle := 0, ctx := 0 }

def ctxOf (pc : Nat) : Context := freshContext (.step 1) 0 0 0 pc 0 [] [] 0 0

/-- One context about to run the first instruction of a module. -/
def spinning (m : PlyModule) (x : Context) : State :=
  { job with
    programs := { job.programs with
      images := [{ slot := 0, handle := 1, state := .current, granules := 1, ply := m, load := none }] },
    spindles := { job.spindles with contexts := [(ctx0, x)] } }

/-- The next state of an outcome. -/
def nextOf (o : Host.Outcome State Fault Refusal) : State :=
  match o with
  | .next t => t
  | _ => State.reset

/-- A word of an opcode, a view and the bits above. -/
def word (opcode view rest : Nat) : Word := BitVec.ofNat 64 (opcode + view * 2 ^ 8 + rest * 2 ^ 10)

/-! ### Ill-formed commands, one for each check of WellFormed -/

def rxBad : List Rx :=
  [{ rx with port := 16 }, { rx with source := 4096 }, { rx with hops := 4 }, { rx with length := 40 }, { rx with length := 0 },
   { rx with length := 4112 }]

def sixteen (b : Byte) : List Byte := List.replicate 16 b

def readings : RoundReadings :=
  { powerMilliwatt := 0, junctions := List.replicate 64 0, metered := List.replicate 42 0, idleDrawn := List.replicate 40 0,
    moduleDrawn := 0 }

def selfTest : SelfTest :=
  { firmwareOk := true, chords := List.replicate 112 5, cells := [(39, 511, 127)], parts := [(39, 63, 3)] }

/-- Rings, descriptors and stores. -/
theorem refused_rings :
    ([Instr.doorbell 12 0 [] [], .doorbell 0 0 (List.replicate 65537 0) [], .doorbell 0 0 [] [{ offset := 4294967295, bytes := [1, 2] }],
      .submitLattice { (cmd 1 0) with ring := 8 }, .exportChunk 8 0 1, .ringEnable 12 0 0 0 [], .ringEnable 0 0 0 0 (List.replicate 65537 0),
      .ringDisable 12, .ringRearm 12 0 [], .ringRearm 0 0 (List.replicate 65537 0), .loadProgramSlotTaken 16,
      .jobCommit (List.replicate 8192 0), .jobCommit [65536], .unitEnable 256, .unitDisable 256, .registerWrite 1048576 true 0]).all
      (fun i => !wellFormed i) = true ∧
    ([Instr.doorbell 11 0 [0] [{ offset := 4294967295, bytes := [1] }], .submitLattice (cmd 1 0), .exportChunk 7 0 1,
      .ringEnable 11 0 0 0 [], .loadProgramSlotTaken 15, .jobCommit [65535], .unitEnable 255, .registerWrite 1048575 true 0]).all
      wellFormed = true := by decide +kernel

/-- Every descriptor row refuses a ring beyond 7. -/
theorem refused_descriptors :
    let d : Sub := { ring := 8, index := 0, desc := 0 }
    [Instr.unknownOpcodeDescriptor d, .submitLattice d, .submitLatticeRemove d, .loadProgram d, .unloadProgram d, .stepInput d,
      .evalRequest d, .loadTableVersionBegin d, .loadTableVersionData d, .loadTableVersionEnd d, .retireTableVersion d,
      .stageConfig d, .commitConfig d, .discardConfig d, .secureNow d, .restoreFromHank d .absent none, .reportFailure d,
      .exportSkein d, .deltaControlStart d, .deltaControlStop d, .telemetrySnapshot d, .debugBreakArm d, .debugBreakClear d,
      .debugResume d].all (fun i => !wellFormed i) = true := by decide +kernel

/-- Messages of the module protocol and of SPDM. -/
theorem refused_messages :
    let long : List Byte := List.replicate 65540 0
    [Instr.installJobKey .doe true long, .queryState .doe long, .firmwareBegin .doe long, .firmwareData .doe long,
      .firmwareEnd .doe long, .firmwareAbort .doe long, .debugChallenge .doe long, .debugUnlock .doe long].all
      (fun i => !wellFormed i) = true ∧
    [Instr.getCertificate .doe 8 0 0, .challenge .doe 8 (List.replicate 32 0), .challenge .doe 0 [],
      .getMeasurements .doe 256 true (List.replicate 32 0), .getMeasurements .doe 0 true [], .keyUpdate .doe 256].all
      (fun i => !wellFormed i) = true := by decide +kernel

/-- Readings, units, dies and ports. -/
theorem refused_units :
    [Instr.resetSequenceEnd { selfTest with chords := [] }, .resetSequenceEnd { selfTest with chords := List.replicate 112 6 },
      .resetSequenceEnd { selfTest with cells := [(40, 0, 0)] }, .resetSequenceEnd { selfTest with cells := [(0, 512, 0)] },
      .resetSequenceEnd { selfTest with cells := [(0, 0, 128)] }, .resetSequenceEnd { selfTest with parts := [(40, 0, 0)] },
      .resetSequenceEnd { selfTest with parts := [(0, 64, 0)] }, .resetSequenceEnd { selfTest with parts := [(0, 0, 4)] },
      .grantRound { readings with junctions := [] }, .grantRound { readings with metered := [] },
      .grantRound { readings with idleDrawn := [] }, .diePark 40, .nandChannelIdle 16, .unitDrainEnd 74, .unitWakeEnd 74 none,
      .unitWakeEnd 16 (some { capacityGB := 1, lanes := 17, rate := 1 }), .unitWakeEnd 16 (some { capacityGB := 1, lanes := 16, rate := 0 }),
      .unitWakeEnd 16 (some { capacityGB := 1, lanes := 16, rate := 3 }), .memoryPortFailure 2, .chordModuleFailure 112,
      .sliverColumnTest 40 0 true, .sliverColumnTest 0 64 true].all (fun i => !wellFormed i) = true ∧
    [Instr.resetSequenceEnd selfTest, .grantRound readings, .diePark 39, .nandChannelIdle 15, .unitDrainEnd 73,
      .unitWakeEnd 16 (some { capacityGB := 1, lanes := 16, rate := 2 }), .sliverColumnTest 39 63 true].all wellFormed = true := by
  decide +kernel

/-- Links and frames. -/
theorem refused_links :
    [Instr.portTrainingEnd 16 true [] [], .portTrainingEnd 0 true [4] [], .portTrainingEnd 0 true [] [4], .portRetry 16,
      .keepaliveSend 16, .livenessLost 16, .laneFailure 16 0, .laneFailure 0 4, .hello 16 (sixteen 0) 0 0 (sixteen 0),
      .hello 0 [] 0 0 (sixteen 0), .hello 0 (sixteen 0) 4096 0 (sixteen 0), .hello 0 (sixteen 0) 0 16 (sixteen 0),
      .hello 0 (sixteen 0) 0 0 [], .confirmation 16 (sixteen 0) (sixteen 0) true, .confirmation 0 [] (sixteen 0) true,
      .confirmation 0 (sixteen 0) [] true, .creditAdvertisement 16 (List.replicate 24 0), .creditAdvertisement 0 [], .keepalive 16,
      .replayRequest 16 0, .reStripe 16 0 0 0, .reStripe 0 4 0 0, .reStripe 0 0 16 0, .frameDiscard 16 true,
      .frameForward 16 0 0 0 true 0 true 0 64 0, .frameForward 0 4096 0 0 true 0 true 0 64 0, .frameForward 0 0 4096 0 true 0 true 0 64 0,
      .frameForward 0 0 0 5 true 0 true 0 64 0, .frameForward 0 0 0 0 true 4 true 0 64 0, .frameForward 0 0 0 0 true 0 true 256 64 0,
      .frameForward 0 0 0 0 true 0 true 0 40 0, .frameForward 0 0 0 0 true 0 true 0 0 0, .frameForward 0 0 0 0 true 0 true 0 4112 0,
      .credit rx 0 [], .reservedFrameKind rx ⟨8, false, 0⟩, .reservedFrameKind rx ⟨0, false, 256⟩].all (fun i => !wellFormed i) = true ∧
    rxBad.all (fun r => [Instr.rowRequest r default, .rowData r default, .partialSum r default, .streamData r default,
      .streamEnd r default, .skeinTransfer r default, .treeBlock r default, .sliceData r default, .digest r default,
      .hankData r default, .commitReport r default, .commitDecision r default, .securingReport r default,
      .securingDecision r default, .halt r default, .grant r [], .credit r 0 (List.replicate 24 0), .reservedFrameKind r ⟨0, false, 0⟩].all
      (fun i => !wellFormed i)) = true ∧
    wellFormed (.hello 15 (sixteen 0) 4095 15 (sixteen 0)) = true ∧ wellFormed (.grant rx []) = true := by decide +kernel

/-- Tables, contexts, queues and Ply words. -/
theorem refused_spindles :
    let page : PageRef := { table := 4096, version := 0, skein := 0, page := 0 }
    let words (c : CtxId) (w : Word) : List Instr :=
      [.mov c w, .movi c w, .movhi c w, .alu c w, .alui c w, .cmp c w, .sel c w, .fop c w, .widen c w, .narrow c w, .bcast c w,
        .reduce c w, .tload c w, .tstore c w, .tmove c w, .tile c w, .product c w, .layer c w, .signal c w, .wait c w, .readctr c w,
        .br c w, .brc c w, .loop c w, .call c w, .ret c w, .retire c w, .query c w]
    let outside : List CtxId := [{ ctx0 with die := 40 }, { ctx0 with spindle := 64 }, { ctx0 with ctx := 4 }]
    [Instr.rowRequestServe 4096 0 0 0, .rowRequestServe 0 0 4096 0, .cardingPassEnd (.step 1) 4096 0, .placementMove page .gddr,
      .pageMoveEnd ⟨page, []⟩, .flashRereadEnd ⟨page, []⟩, .backgroundScrub 0 (some page) ⟨[], none⟩, .backgroundScrub 0 none ⟨[], some (8, 0)⟩, .parkedEntryApply 4096 0, .hankPageCopy 1 page,
      .recordsReachedTier 4096 1, .weightGradientTileDrain { die := 40, spindle := 0, kind := .array } 0 0 1,
      .weightGradientTileDrain { die := 0, spindle := 64, kind := .array } 0 0 1,
      .weightGradientTileDrain { die := 0, spindle := 0, kind := .array } 0 0 257, .queueAccept { die := 40, spindle := 0, kind := .move },
      .queueCommandComplete { die := 0, spindle := 64, kind := .move }].all (fun i => !wellFormed i) = true ∧
    outside.all (fun c => ([Instr.updateKernelInvocation 0 [] c, .vertexDispatch (.step 1) [0] [c], .waitSatisfied c, .loopEnd c]).all
      (fun i => !wellFormed i)) = true ∧
    (words ctx0 0xFF).all (fun i => !wellFormed i) = true ∧
    wellFormed (.mov { ctx0 with ctx := 4 } 0x01) = false ∧ wellFormed (.mov ctx0 0x01) = true ∧
    wellFormed (.query ctx0 0x70) = true := by decide +kernel

/-! ### States that meet the statements' hypotheses -/

theorem witness_StepRunsFrontCommand :
    ({ on with pending := [.brakeEnd, .linkReset] } : State).pending = .brakeEnd :: [.linkReset] ∧ State.reset.pending = [] := by
  decide +kernel

theorem witness_CommandsReachOnlyTheirGroups : exec .brakeEnd on = .next on := rfl

theorem witness_StepKeepsMemoriesCanonical :
    let s : State := { on with pending := [.doorbell 0 0 [] [{ offset := 4294967295, bytes := [7] }]] }
    memoriesOk s = true ∧ step s = .next { on with window := [(4294967295, 7)] } := ⟨by decide +kernel, rfl⟩

def waitingKey : State := { on with security := { on.security with jobKey := some [] }, pending := [.linkReset] }

theorem witness_JobKeyHeldUntilErased :
    waitingKey.security.jobKey = some [] ∧ step waitingKey = .next (nextOf (step waitingKey)) ∧
    (nextOf (step waitingKey)).security.jobKey = none := ⟨rfl, rfl, rfl⟩

def readyToStart : State := { State.reset with pending := [.resetSequenceEnd { firmwareOk := true, chords := [], cells := [], parts := [] }] }

theorem witness_FusedMinimumNeverDecreases :
    step readyToStart = .next (nextOf (step readyToStart)) ∧
    readyToStart.regs.ready = false ∧ (nextOf (step readyToStart)).regs.ready = true := ⟨rfl, rfl, rfl⟩

def counted (n : Nat) : State := { on with regs := { on.regs with memberCount := n, memberNumber := 3 } }

theorem witness_JobBlockCommitsAndLocks :
    (counted 2).running = true ∧ (counted 2).regs.jobSet = false ∧ [3, 4095].length = (counted 2).regs.memberCount ∧
    (∀ m ∈ [3, 4095], m ≤ 4095) ∧ [3, 4095].Pairwise (· < ·) ∧ (counted 2).regs.memberNumber ∈ [3, 4095] ∧
    (counted 2).regs.memberNumber ∉ [0, 4095] ∧ ¬ (∀ m ∈ [3, 4096], m ≤ 4095) ∧ ¬ 1 ≤ (counted 0).regs.memberCount ∧
    ([] : List Nat).length = (counted 0).regs.memberCount ∧ job.regs.jobSet = true := by decide +kernel

theorem witness_CommitsAdvanceByOne :
    ({ on with pending := [.brakeEnd] } : State).pending = .brakeEnd :: [] ∧ step { on with pending := [.brakeEnd] } = .next on :=
  ⟨rfl, rfl⟩

theorem witness_InputSwitchOpensAndCloses :
    let s (c : OpenCause) : State := { on with supply := { on.supply with switchClosed := false, openCause := c } }
    on.supply.switchClosed = true ∧ on.supply.mateJoined = true ∧ on.supply.inputPresent = true ∧
    ({ on with supply := { on.supply with thermTrip := true } } : State).supply.thermTrip = true ∧
    on.supply.brakePin = false ∧ (s .overvoltage).supply.openCause = .overvoltage ∧ (s .overcurrent).supply.openCause = .overcurrent ∧
    (s .mateReleased).supply.switchClosed = false ∧ (s .lossOfInput).supply.openCause = .lossOfInput ∧
    (s .none).supply.openCause = .none ∧ (s .none).supply.switchClosed = false := by decide +kernel

theorem witness_ResetsAndResetSequence :
    let cold : State := { on with supply := { on.supply with inputPresent := false } }
    let held : State := { on with supply := { on.supply with perst := true, causes := [2] } }
    let low : State := { State.reset with security := { Security.reset with minSecVersion := 1 } }
    cold.supply.brakePin = false ∧ cold.supply.inputPresent = false ∧ on.supply.brakePin = false ∧ on.supply.corePower = true ∧
    on.supply.perst = false ∧ on.running = true ∧ State.reset.supply.inReset = true ∧ on.supply.inReset = false ∧
    (0 : Word32) ≠ 0xB0640001 ∧ held.supply.perst = true ∧ State.reset.supply.corePower = true ∧ State.reset.supply.causes = [] ∧
    State.reset.regs.recoveryLoader = false ∧ State.reset.security.boot.valid = true ∧
    State.reset.security.minSecVersion ≤ State.reset.security.boot.secVersion ∧
    low.security.boot.secVersion < low.security.minSecVersion := by decide +kernel

theorem witness_BrakeAndGrantRound :
    let braked : State :=
      { job with supply := { on.supply with brakePin := true }, power := { on.power with braked := true, hysteresis := true } }
    State.reset.supply.corePower = true ∧ State.reset.running = false ∧ on.supply.corePower = true ∧ on.supply.causes = [] ∧ on.power.braked = false ∧ braked.supply.brakePin = true ∧
    braked.power.braked = true ∧ braked.power.hysteresis = true ∧ (ringAt braked 9).setupStatus = 0 ∧ on.running = true ∧
    (∃ j ∈ [(118 : Int)], 118 ≤ j) ∧ (∀ j ∈ [(117 : Int), 110], j < 118) ∧ (∃ d < 64, (110 : Int) ≤ nth [(117 : Int), 110] d 0) := by
  decide +kernel

def unitIn (u : Nat) (st : UnitState) (recorded : Bool) : State :=
  { on with power := { on.power with units := (List.replicate 74 { state := .on, recorded := false }).set u { state := st, recorded := recorded } } }

theorem witness_UnitsChangePower :
    on.running = true ∧ 73 < 74 ∧ (18 ≤ 73 ∧ 73 ≤ 73) ∧
    routeUses { on with cfg := { on.cfg with routes := [{ dest := 1, distance := 1, ports := 1 }], routeSet := true } } 0 = true ∧
    holdsHomes { on with tables := { on.tables with pages := [{ (default : Page) with home := .cxlPort, port := 1 }] } } 1 = true ∧
    (unitIn 17 .draining false).power.units[17]? = some { state := .draining, recorded := false } ∧
    unitState (unitIn 0 .waking false) 0 = .waking ∧ unitState (unitIn 0 .on false) 16 = .on ∧ unitState (unitIn 17 .off false) 17 = .off ∧
    routeUses on 15 = false ∧ holdsHomes on 0 = false ∧ unitState (unitIn 0 .on false) 15 = .on ∧
    (unitIn 73 .draining true).power.units[73]? = some { state := .draining, recorded := true } ∧
    (unitIn 16 .waking false).power.units[16]? = some { state := .waking, recorded := false } ∧
    (portAt (port on 0 upPort) 0).link = .up ∧ (readyOn (unitIn 0 .on false) 39).isEmpty = true ∧
    (unitIn 0 .on false).spindles.contexts.all (fun c => c.1.die != 39) = true ∧ channelIdle (unitIn 0 .on false) 15 = true := by
  decide +kernel

theorem witness_LinkBringUp :
    let conf : Port := { Port.reset with link := .confirming, salt := [1] }
    on.links.ports[15]? = some Port.reset ∧ Port.reset.link = .training ∧ on.supply.corePower = true ∧
    ((List.range 4).filter (fun l => [0, 1].contains l)).length < 3 ∧
    3 ≤ ((List.range 4).filter (fun l => [0, 1, 2].contains l)).length ∧
    ((List.range 4).filter (fun l => [0, 1, 2].contains l && [0, 1].contains l)).length < 3 ∧
    3 ≤ ((List.range 4).filter (fun l => [0, 1, 2].contains l && [0, 1, 2].contains l)).length ∧
    on.security.jobKey = none ∧ job.security.jobKey ≠ none ∧
    (port job 0 { Port.reset with link := .failed, reason := 3 }).links.ports[0]? = some { Port.reset with link := .failed, reason := 3 } ∧
    (port job 0 conf).links.ports[0]? = some conf ∧ conf.hello = none ∧ conf.confirmed = false ∧
    [(1 : Byte)] ≠ job.security.jobId ∧ 2 ∉ job.members ∧ 0 ∈ job.members ∧ 0 = job.member ∧ 1 ∈ job.members ∧ 1 ≠ job.member ∧
    ({ conf with hello := some (1, 0, [2]) } : Port).hello = some (1, 0, [2]) ∧ job.links.waiting = [] ∧
    ({ upPort with lanes := [0, 1, 3] } : Port).lanes = (List.range 4).filter (· != 2) := by decide +kernel

theorem witness_LinkServiceFrames :
    linked.links.ports[0]? = some { upPort with peer := some (1, 0) } ∧ upPort.link = .up ∧
    (14 + if true then 1 else 0) < 16 ∧ rx.port = 0 ∧ rx.seq = BitVec.ofNat 32 upPort.rxCount ∧
    rx.keyEpoch = bitAt upPort.rxCount 32 := by decide +kernel

theorem witness_PortsFailAndReStripe :
    linked.links.ports[0]? = some { upPort with peer := some (1, 0) } ∧ upPort.link = .up ∧ 15 ≤ ({ upPort with badTags := 15 } : Port).badTags ∧
    (2 ∈ [0, 1, 2] ∧ ([0, 1, 2].filter (· != 2)).length < 3) ∧ (3 ∈ upPort.lanes ∧ 3 ≤ (upPort.lanes.filter (· != 3)).length) ∧
    ((List.range 4).filter (fun l => bitAt 6 l)).length < 3 ∧ 3 ≤ ((List.range 4).filter (fun l => bitAt 7 l)).length ∧
    upPort.paused = false ∧ ({ upPort with paused := true } : Port).paused = true := by decide +kernel

theorem witness_FramesTakenInOrder :
    (portAt on 0).link ≠ .up ∧ ({ rx with seq := 1 } : Rx).seq ≠ BitVec.ofNat 32 (portAt linked 0).rxCount ∧
    ({ rx with keyEpoch := true } : Rx).keyEpoch ≠ bitAt (portAt linked 0).rxCount 32 ∧ rx.keyEpoch = bitAt upPort.rxCount 32 ∧
    linked.links.ports[rx.port]? = some { upPort with peer := some (1, 0) } ∧ rx.seq = BitVec.ofNat 32 upPort.rxCount := by decide +kernel

/-- What a frame at port 0 leaves before its payload is looked at. -/
def taken (cls : Nat) (stream : Bool) : State := (acceptFrame linked rx cls stream).getD linked

def routed (dist : Nat) : State := { linked with cfg := { linked.cfg with routes := [{ dest := 1, distance := dist, ports := 1 }], routeSet := true } }

theorem witness_FramesForwarded :
    let r : Rx := { rx with hops := 1 }
    let a (d : Nat) : State := (acceptFrame (routed d) r 0 false).getD linked
    r.seq = BitVec.ofNat 32 (portAt (routed 1) 0).rxCount ∧ r.keyEpoch = bitAt (portAt (routed 1) 0).rxCount 32 ∧
    1 ≠ (routed 1).member ∧ acceptFrame (routed 1) r 0 false = some (a 1) ∧ travels 0 false 0x01 = true ∧
    travels 0 false 0x43 = false ∧ headerOk r = true ∧ headerOk { r with length := 8 } = false ∧
    routeFor (a 1) false 1 = some (1, 1) ∧ 1 ≤ r.hops ∧ routeFor (a 1) false 9 = none ∧
    acceptFrame (routed 2) r 0 false = some (a 2) ∧ (routeFor (a 2) false 1 = some (2, 1) ∧ r.hops < 2) := by decide +kernel

def decision1 (committed : Bool) : CommitDecisionF := { step := 1, overflow := false, committed := committed, loss := 0, evals := [] }

theorem witness_RouteTablesFree :
    let s (due : Option CommitDecisionF) : State := { linked with cfg := { linked.cfg with prevRoutes := some [], routeDue := due } }
    (s none).running = true ∧ (s none).cfg.prevRoutes.isSome = true ∧ oldEpochGone (s none) = true ∧ (s none).cfg.routeDue = none ∧
    oldEpochGone (s (some (decision1 true))) = true ∧ (s (some (decision1 true))).cfg.routeDue = some (decision1 true) := by
  decide +kernel

def leaving : OutFrame :=
  { (default : OutFrame) with dest := 1, cls := 4, kind := 0x40, length := 32, body := .grant [] }

theorem witness_FramesLeaveUnderCredit :
    leavesBy (routed 1) leaving = some (0, { leaving with hops := 0 }) ∧ acceptFrame linked rx 4 false = some (taken 4 false) ∧
    ({ cls := 0, pool := 0, flow := 7, units := 1 } : GrantF).cls ≠ 2 := by decide +kernel

/-- A frame from member 1 with the length of its payload. -/
def framed (b : MsgBody) : Rx := { rx with length := bodyLength b }

theorem witness_RowFramesTaken :
    let f : RowRequestF :=
      { step := 1, table := 2, pass := 0, pool := false, last := true, noGradient := false, rows := [(3, 0), (4, 1)], groups := [] }
    let d : RowDataF := { step := 1, table := 2, pass := 0, last := true, rows := [(3, List.replicate 16 0)] }
    let g (n : Nat) : PartialSumF := { step := 1, table := 2, pass := 0, last := true, frags := [{ item := 0, first := 0, values := List.replicate n 0 }] }
    acceptFrame linked rx 0 false = some (taken 0 false) ∧ Framed (framed (.rowRequest f)) (.rowRequest f) ∧ rowRequestOk f = true ∧
    acceptFrame linked (framed (.rowRequest f)) 0 false ≠ none ∧ linked.owners.requests = [] ∧
    rowRequestOk { f with rows := [(3, 0), (3, 1)] } = false ∧ ¬ Framed { rx with length := 4096 } (.rowRequest f) ∧
    Framed (framed (.rowData d)) (.rowData d) ∧ rowDataOk d = true ∧ rowDataOk { d with rows := d.rows ++ [(4, [])] } = false ∧
    Framed (framed (.partialSum (g 4))) (.partialSum (g 4)) ∧ partialSumOk (g 4) = true ∧ partialSumOk (g 3) = false := by decide +kernel

def stream1 : StreamRx :=
  { step := 1, table := 2, member := 1, pass := 0, lastRow := none, part := none, count := 0, ended := false, faulty := false, flow := 7 }

theorem witness_StreamFramesTaken :
    let data : StreamDataF := { step := 1, table := 2, pass := 0, frags := [{ item := 3, first := 0, values := [0, 0, 0, 0] }] }
    let fin : StreamEndF := { step := 1, table := 2, pass := 0, rowCount := 0 }
    let s : State := { linked with owners := { linked.owners with streams := [stream1] } }
    let t : State := { s with steps := { s.steps with admitted := [{ (default : AdmStep) with n := 1 }] } }
    acceptFrame linked (framed (.streamData data)) 0 true ≠ none ∧ Framed (framed (.streamData data)) (.streamData data) ∧
    stepAt linked 1 = none ∧ Framed (framed (.streamEnd fin)) (.streamEnd fin) ∧ acceptFrame s (framed (.streamEnd fin)) 0 true ≠ none ∧
    findStream s 1 2 1 0 = some stream1 ∧ stream1.faulty = false ∧ stepAt s 1 = none ∧ stepAt t 1 ≠ none ∧
    stream1.ended = false ∧ stream1.part = none ∧ stream1.count = fin.rowCount ∧
    stream1.count = (streamRows t 1 2 1 0).length := by decide +kernel

/-- A row whose merge has yet to grant, and a die that withholds credit. -/
theorem witness_StreamFramesTaken_grants :
    let e : Entry := { (default : Entry) with step := 1, table := 2, row := 3, state := .open_, expected := [(1, 0)] }
    let s : State := { linked with owners := { linked.owners with entries := [e], withheld := [9] } }
    openEntries s 2 = [e] ∧ e.next = some (1, 0) ∧ s.owners.withheld.contains 9 = true ∧
    entrySlots { s with owners := { s.owners with entries := [] } } e = 0 := by decide +kernel

theorem witness_ContributionsFoldInOrder :
    let e : Entry := { (default : Entry) with expected := [(3, 0), (8, 1)], held := [(3, [0x3F800000]), (8, [0x40000000])] }
    e.acc = [] ∧ e.folded = [] ∧ (e.expected.map (·.1)).Nodup ∧ aGet e.held 3 = some [0x3F800000] ∧ aGet e.held 8 = some [0x40000000] ∧
    aGet ({ e with held := [] } : Entry).held 3 = none := by decide +kernel

/-- A parameter tensor of one block, optimiser 1, and its lattice. -/
def weights : TensorDecl :=
  { (default : TensorDecl) with id := 5, role := 5, format := 4, rank := 1, dims := [64, 1, 1, 1], optimiser := 1, stateFormat := 4 }

def stepLat : Lattice := { (default : Lattice) with handle := 1, params := [5], decls := [weights] }

def admitted (n : Nat) : AdmStep := { (default : AdmStep) with n := n, inst := Inst.fresh (.step n) 1 }

/-- Step 1 admitted, nothing committed. -/
def stepping : State :=
  { linked with lattices := [stepLat], steps := { linked.steps with a := 1, admitted := [admitted 1] } }

def tableV : Version :=
  { (default : Version) with
    table := 2, number := 1, rowCount := 64, width := 16, elemFormat := 1, blockLog2 := 4, skeinLog2 := 6,
    optimiser := 1, stateFormat := 4, inEffect := true, loaded := true }

def pageRef : PageRef := { table := 2, version := 1, skein := 0, page := 0 }

def page : Page := { (default : Page) with ref := pageRef, rows := [3], home := .flash, tier := .gddr }

/-- Step 1 with a table bound to it, one page of which this member holds. -/
def tabled (v : Version) (p : Page) : State :=
  { stepping with
    tables := { stepping.tables with versions := [v], pages := [p] },
    steps := { stepping.steps with admitted := [{ admitted 1 with bindings := [(2, 1)], read := true }] } }

def entry3 : Entry := { (default : Entry) with step := 1, table := 2, row := 3, state := .parked }

theorem witness_PassesCardedAndServed :
    let c : Section := { (default : Section) with table := 2, offsets := [0, 1], indices := [3], window := 1, owners := [0] }
    let carding : State := { tabled tableV page with
      steps := { stepping.steps with admitted := [{ admitted 1 with bindings := [(2, 1)], read := true, sections := [c] }] } }
    let q : OwnReq := { source := 1, step := 1, table := 2, pass := 0, pool := false, noGradient := false, eval := false, flow := 0, complete := true, rows := [(3, 0)], groups := [] }
    let bad : OwnReq := { q with rows := [(64, 0)] }
    let asked (v : Version) (p : Page) (q : OwnReq) : State := { tabled v p with owners := { stepping.owners with requests := [q] } }
    carding.running = true ∧ sectionAt carding (.step 1) 2 = some c ∧ instVersion carding (.step 1) 2 = some tableV ∧
    c.passes[0]? = some (c.passes.headD (0, 0)) ∧ c.isCarded 0 = false ∧ ({ c with cards := [c.cardOf tableV 0 (0, 1)] } : Section).isCarded 0 = true ∧ (stepAt carding 1).any AdmStep.read = true ∧
    (asked tableV page q).spindles.stopped = false ∧
    (asked tableV page q).owners.requests.find? (fun q => q.source == 1 && q.step == 1 && q.table == 2 && q.pass == 0 && q.complete) = some q ∧
    requestDue (asked tableV page q) q = true ∧ requestFault (asked tableV page q) q = false ∧
    servedVersion (asked tableV page q) q = some tableV ∧ rowsServable (asked tableV page q) q tableV = true ∧
    rowsServable (asked tableV { page with tier := .flash } q) q tableV = false ∧
    requestFault (asked tableV page bad) bad = true ∧ requestDue (asked tableV page bad) bad = true ∧
    requestDue (asked tableV page { q with step := 2 }) { q with step := 2 } = false := by decide +kernel

theorem witness_PassesCardedAndServed_parked :
    let parked (v : Version) (p : Page) : State := { tabled v p with owners := { stepping.owners with entries := [entry3] } }
    (parked tableV page).owners.entries.find? (fun e => e.table == 2 && e.row == 3 && e.state == .parked) = some entry3 ∧
    (stepAt (parked tableV page) 1).bind (fun a => boundVersion (parked tableV page) a 2) = some tableV ∧
    pageOfRow (parked tableV page) 2 1 3 = some page ∧ updateGate (parked tableV page) 1 = true ∧
    pageReady (parked tableV page) page = true ∧ 3 ∉ tableV.poisoned ∧ tableV.optimiser ≠ 5 ∧
    ({ tableV with poisoned := [3] } : Version).poisoned.contains 3 = true ∧ ({ tableV with optimiser := 5 } : Version).optimiser = 5 ∧
    pageReady (parked tableV { page with tier := .flash }) { page with tier := .flash } = false ∧
    (parked tableV page).owners.withheld.contains 0 = false := by decide +kernel

def node1 (sum : List Word32) : TreeNode := { emptyNode 1 (treeIdOf 5 0) 0 with sum := sum, die := 0 }

def growing (x : TreeNode) (d : TensorDecl) (members : List Nat) : State :=
  { stepping with
    lattices := [{ stepLat with decls := [d] }], regs := { stepping.regs with members := members },
    dense := { stepping.dense with nodes := [x] } }

theorem witness_TreeBlocksCombine :
    let full : TreeNode := { node1 [] with localVals := (List.range 64).map (fun i => (i, 0)) }
    let s : State := growing full weights [0]
    let t : Nat := treeIdOf 5 0
    acceptFrame linked rx 1 false = some (taken 1 false) ∧ 2047 + [(0 : Word32)].length ≤ 2048 ∧ 2048 < 2048 + [(0 : Word32)].length ∧
    (treeLeft linked.members 0 linked.member = some 1 ∨ treeParent linked.members 0 linked.member = some 1) ∧
    s.running = true ∧ s.dense.nodes.find? (fun y => y.treeId == t && y.block == 0 && !y.done && y.sum.isEmpty) = some full ∧
    parameterDecl s (treeTensor t) = some weights ∧ 0 < blockLength weights 0 ∧ nodeReady s full (blockLength weights 0) = true ∧
    inWindow s 1 weights 0 = true ∧ treeParent s.members t s.member = none := by decide +kernel

theorem witness_GradientTilesDrain :
    let p : ProductD := { (default : ProductD) with arrangement := 2, out := 0, rows := 1, inn := 1, outpos := 64 }
    let q : QCmd := { (default : QCmd) with
      body := .product 0, inst := .step 1, ply := { module_ [] with tensors := [weights], products := [p] } }
    let at_ : QueueId := { die := 39, spindle := 63, kind := .array }
    let s : State := { stepping with spindles := { stepping.spindles with queues := [(at_, { cmds := [q], count := 1, offers := [] })] } }
    s.running = true ∧ (queueAt s at_).cmds = q :: [] ∧ q.body = .product 0 ∧ p.arrangement = 2 ∧ q.held = false ∧
    parameterDecl s (tensorAt q.ply p.out).id = some weights ∧ 1 ≤ 64 ∧ 0 + 64 ≤ p.outpos ∧ 0 ∈ productBands q p ∧ q.drained = [] ∧
    (∀ b ∈ productBands q p, ¬ b < 0) ∧
    (∀ c ∈ List.range 64, inWindow s 1 weights (0 * weights.cols + c) = true) := by decide +kernel

theorem witness_DenseBlocksUpdate :
    let t : Nat := treeIdOf 5 0
    let s (x : TreeNode) (d : TensorDecl) : State := growing x d [0]
    let fine : TreeNode := node1 [0x3F800000]
    let inf : TreeNode := node1 [0x7F800000]
    let kernel : TensorDecl := { weights with optimiser := 5 }
    (s fine weights).running = true ∧
    (s fine weights).dense.nodes.find? (fun y => y.treeId == t && y.block == 0 && !y.done && !y.sum.isEmpty) = some fine ∧
    parameterDecl (s fine weights) (treeTensor t) = some weights ∧ updateGate (s fine weights) 1 = true ∧
    readsOver (s fine weights) 1 5 0 (blockLength weights 0) = true ∧ fine.sum.all (fun v => (of32 v).finite) = true ∧
    weights.optimiser ≠ 5 ∧ inf.sum.any (fun v => !(of32 v).finite) = true ∧ parameterDecl (s fine kernel) (treeTensor t) = some kernel ∧
    kernel.optimiser = 5 ∧ stepAt (s fine weights) 1 = some (admitted 1) := by decide +kernel

theorem witness_DigestsAndSlices :
    let r : Replica := { (default : Replica) with treeId := treeIdOf 5 0, held := some 9 }
    let s : State := { stepping with dense := { stepping.dense with replicas := [r] } }
    acceptFrame s rx 2 false ≠ none ∧ findReplica s (treeIdOf 5 0) = some r ∧ parameterDecl s (treeTensor (treeIdOf 5 0)) = some weights ∧
    r.held = some 9 ∧ r.held ≠ some 8 ∧ r.fetching ≠ some 1 := by decide +kernel

def hank5 : Hank := { (default : Hank) with boundary := 5, uncopied := [pageRef], nextLoss := some 1, localDone := true, sent := true, sealedLoss := none }

def hanked (h : Hank) : State := { linked with securing := { linked.securing with hanks := [h], hold := some 5 } }

theorem witness_HanksCopyHoldSeal :
    (hanked hank5).running = true ∧ hank5 ∈ (hanked hank5).securing.hanks ∧ pageRef ∈ hank5.uncopied ∧
    (hanked hank5).securing.hold = some 5 ∧
    ((hanked hank5).securing.hanks.filter (fun h => !h.localDone && h.boundary != 5)).length < 2 ∧
    linked.securing.hold ≠ some 5 ∧
    (hanked hank5).securing.hanks.find? (fun h => h.boundary == 5) = some hank5 ∧ hank5.nextLoss = some 1 ∧
    hankTargets (hanked hank5) hank5 ≠ 1 ∧ hank5.sealedLoss = none ∧ hank5.unusable = false ∧
    buddyOf (hanked hank5) (hanked hank5).cfg.buddies (hanked hank5).member = some 1 ∧ buddyOf on on.cfg.buddies on.member = none ∧
    hankTargets (hanked { hank5 with sent := false }) { hank5 with sent := false } = 1 ∧ (hanked hank5).jobSize ≠ 1 ∧
    acceptFrame linked rx 3 false = some (taken 3 false) ∧ (List.replicate 56 0).length ≤ 56 ∧ 3 ≤ 3 := by decide +kernel

/-- Member 1 of a job of two, below the root, with its port to the root UP. -/
def below : State := { linked with regs := { linked.regs with members := [0, 1], memberNumber := 0 } }

theorem witness_SecuringRound :
    acceptFrame below rx 4 false ≠ none ∧
    (1 ∈ commitChildren below ∨ treeParent below.members 0 below.member = some 1) ∧ (3 ∉ commitChildren below) ∧
    treeParent below.members 0 below.member ≠ some 3 ∧ below.cfg.secure.mode = 0 ∧ 0 = below.securing.lastSched := by decide +kernel

theorem witness_CommitReports :
    let alone (skips : Nat) : State := { job with
      regs := { job.regs with members := [0] },
      steps := { job.steps with
        a := 1, admitted := [{ admitted 1 with read := true, loss := some 0, tested := 2 ^ 2560 - 1, skipRows := skips }] } }
    let told : State := { linked with steps := { linked.steps with a := 1, admitted := [{ admitted 1 with reported := true }] } }
    acceptFrame linked rx 4 false = some (taken 4 false) ∧
    (stepAt (alone 0) ((alone 0).steps.c + 1)).any (mayReport (alone 0)) = true ∧
    (stepAt (alone 2) 1).any (fun a => mayReport (alone 2) a && a.skipRows == 2 && !a.skipPosted) = true ∧
    childReports (alone 0) 1 = some [] ∧ treeParent (alone 0).members 0 (alone 0).member = none ∧ childReports linked 1 = none ∧
    stepAt linked 1 = none ∧ sortBy (fun x y => decide (x ≤ y)) [1, 2] = [1, 2] ∧ 2 ∉ commitChildren linked ∧
    1 ∈ commitChildren told ∧ (stepAt told (told.steps.c + 1)).any AdmStep.reported = true ∧ told.steps.halted = false ∧
    told.steps.decision = none := by decide +kernel

theorem witness_CommitDecisionsApply :
    let f : CommitDecisionF := { step := 1, overflow := false, committed := true, loss := 0, evals := [] }
    let root : State := { job with regs := { job.regs with members := [0] }, steps := { job.steps with decision := some f } }
    f.step = root.steps.c + 1 ∧ treeParent root.members 0 root.member = none ∧ root.running = true ∧ root.steps.decision = some f ∧
    root.cfg.lossPolicy.fixed = false ∧ ({ root.cfg.lossPolicy with fixed := true } : LossPolicy).fixed = true ∧
    ({ root with steps := { root.steps with clean := 1999 } } : State).steps.clean + 1 = root.cfg.lossPolicy.growth ∧
    root.steps.clean + 1 ≠ root.cfg.lossPolicy.growth := by decide +kernel

/-- The parent of this member on the commit tree, if it has one, sends the decision of a step that it has reported. -/
theorem witness_CommitDecisionsApply_parent :
    let s (m : Nat) : State := { linked with
      regs := { linked.regs with members := [0, 1], memberNumber := m },
      steps := { linked.steps with a := 1, admitted := [{ admitted 1 with reported := true }] } }
    (∃ m, m < 2 ∧ treeParent (s m).members 0 (s m).member = some (1 - m) ∧
      acceptFrame (s m) { rx with source := 1 - m } 4 false ≠ none ∧ (stepAt (s m) 1).any AdmStep.reported = true) := by
  decide +kernel

theorem witness_SkeinsLand :
    let s : State := tabled tableV page
    acceptFrame s rx 0 false ≠ none ∧ findVersion s 2 1 = some tableV ∧
    pageAt s { table := 2, version := 1, skein := 0, page := 0 } = some page := by decide +kernel

theorem witness_HardwareFaults :
    let s : State := tabled tableV page
    let dirty : State := tabled tableV { page with dirty := true }
    let memory (home : Tier) : State := { on with
      regs := { on.regs with memPorts := List.replicate 2 { present := true, capacityGB := 512, lanes := 16, rate := 2, failed := false } },
      tables := { on.tables with pages := [{ page with tier := .cxlPort, port := 1, home := home }] } }
    s.running = true ∧ stepAt s (s.steps.c + 1) ≠ none ∧ 39 < 40 ∧ 63 < 64 ∧
    (stepAt s 1).any (fun a => !bitAt a.tested (64 * 39 + 63) && arrayWorkOver s a { die := 39, spindle := 63, kind := .array }) = true ∧
    111 < 112 ∧ pageAt s { pageRef with page := 9 } = none ∧ pageAt s pageRef = some page ∧ page.tier = .gddr ∧ page.dirty = false ∧
    page.home = .flash ∧ pageAt dirty pageRef = some { page with dirty := true } ∧ findVersion dirty 2 1 = some tableV ∧
    3 ∉ tableV.poisoned ∧ 3 < tableV.rowCount ∧ 3 ∈ ({ tableV with poisoned := [3] } : Version).poisoned ∧
    (memory .flash).regs.memPorts[1]? = some { present := true, capacityGB := 512, lanes := 16, rate := 2, failed := false } ∧
    (∀ p ∈ (memory .flash).tables.pages.filter (fun p => p.tier == .cxlPort && p.port == 1), cxlTier p.home = false) ∧
    (∃ p ∈ (memory .cxlPort).tables.pages.filter (fun p => p.tier == .cxlPort && p.port == 1), cxlTier p.home = true) := by
  decide +kernel

theorem witness_PagesMove :
    let s (p : Page) : State := tabled tableV p
    let cold : Page := { page with tier := .flash }
    (s cold).running = true ∧ pageAt (s cold) pageRef = some cold ∧ moveAllowed (s cold) cold .gddr = true ∧
    moveAllowed (s page) page .flash = true ∧ moveAllowed (s page) page .gddr = false ∧ page.moving = none ∧
    pageAt (s { page with moving := some .flash, dirty := true, wanted := true }) pageRef =
      some { page with moving := some .flash, dirty := true, wanted := true } ∧
    pageAt (s { cold with moving := some .gddr }) pageRef = some { cold with moving := some .gddr } ∧ page.rereading = false ∧
    pageAt (s { page with rereading := true }) pageRef = some { page with rereading := true } ∧
    on.supply.corePower = true ∧ (0 : Int) ≤ 5 ∧ ((5 : Int) < (6 : Nat)) ∧ ((-1 : Int) < 0) ∧ (7 : Nat) ≤ on.tables.wear := by
  decide +kernel

/-- The state with bytes in the window. -/
def placed (s : State) (off : Nat) (bytes : List Byte) : State := { s with window := memWrites s.window off bytes }

/-- The turn of this command has come and R243 and R349 let it pass. -/
def mayRun (s : State) (d : Sub) (opcode : Nat) : Bool :=
  canBegin (sent s d) d && d.opcode == opcode && entryStatus (sent s d) d == none

/-- Body fields from their offsets and values. -/
def body (fields : List (Nat × Nat)) : Nat := (fields.map (fun f => f.2 * 2 ^ (8 * f.1))).foldl (· + ·) 0

theorem witness_EntryChecksAnswer :
    let input : Sub := cmd 0x0010 1
    let odd : Sub := { ring := 0, index := 0, desc := BitVec.ofNat 512 (0x0010 + 2 ^ 24) }
    let keyless : State := { job with security := { job.security with jobKey := none } }
    canBegin (sent job odd) odd = true ∧ odd.headerOk = false ∧ entryStatus (sent job odd) odd = some .malformed ∧
    canBegin (sent on input) input = true ∧ entryStatus (sent on input) input = some .rejectedConfig ∧
    entryStatus (sent keyless input) input = some .security ∧ entryStatus (sent job input) input = none ∧
    canBegin (sent job (cmd 0x7F 0)) (cmd 0x7F 0) = true ∧ (cmd 0x7F 0).headerOk = true := by decide +kernel

theorem witness_CommandsBeginAndComplete :
    let d : Sub := cmd 0x0010 1
    canBegin (sent job d) d = true ∧ canBegin job d = false ∧ d.opcode ≠ 0x0011 ∧ (ringAt job 8).active = true ∧
    (ringAt job 8).used < (ringAt job 8).size ∧ job.rings.ring.length = 12 ∧ job.rings.heldEvents = [] ∧
    (ringAt on 8).active = false := by decide +kernel

def ringed (n : Nat) (r : Ring) : State := { job with rings := { job.rings with ring := job.rings.ring.set n r } }

theorem witness_DoorbellsAndConsumerLines :
    let used : Ring := { Ring.reset with enable := true, active := true, setupStatus := 0, sizeLog2 := 6, producer := 3 }
    let full : Event := { (default : Event) with die := 1 }
    (ringAt job 0).active = false ∧ (ringAt (ringed 0 used) 0).active = true ∧ (ringAt (ringed 0 used) 0).halted = false ∧
    (ringAt (ringed 0 used) 0).size < ((65 : Word32) - (ringAt (ringed 0 used) 0).consumer).toNat ∧
    ((64 : Word32) - (ringAt (ringed 0 used) 0).consumer).toNat ≤ (ringAt (ringed 0 used) 0).size ∧
    ((2 : Word32) - (ringAt (ringed 8 used) 8).consumer).toNat ≤ (ringAt (ringed 8 used) 8).used ∧
    ¬ ((4 : Word32) - (ringAt (ringed 9 used) 9).consumer).toNat ≤ (ringAt (ringed 9 used) 9).used ∧
    ((3 : Word32) - (ringAt (ringed 9 used) 9).consumer).toNat ≤ (ringAt (ringed 9 used) 9).used ∧
    (4294967295 : Nat) + 1 ≤ 2 ^ 32 ∧ job.rings.accepted.length ≤ 4096 ∧
    eventRoom { ringed 9 used with rings := { (ringed 9 used).rings with heldEvents := [full] } } = true := by decide +kernel

theorem witness_RingsSetUp :
    let used : Ring := { Ring.reset with enable := true, active := true, setupStatus := 0, sizeLog2 := 6 }
    (ringAt job 7).enable = false ∧ (0x505 : Word).toNat / 2 ^ 8 % 2 ^ 5 < 6 ∧ 16 < (0x1101 : Word).toNat / 2 ^ 8 % 2 ^ 5 ∧
    6 ≤ (0x601 : Word).toNat / 2 ^ 8 % 2 ^ 5 ∧ (0x1001 : Word).toNat / 2 ^ 8 % 2 ^ 5 ≤ 16 ∧ (ringAt job 8).active = true ∧
    (ringAt job 9).active = true ∧ (ringAt on 8).active = false ∧ (ringAt (ringed 0 used) 0).enable = true ∧
    disableIgnored (ringed 0 used) 0 = false ∧ disableIgnored (ringed 0 used) 8 = true ∧
    (ringAt (ringed 0 { used with halted := true }) 0).halted = true ∧
    (ringAt (ringed 0 { Ring.reset with halted := true }) 0).active = false := by decide +kernel

theorem witness_RegisterWritesStore :
    on.running = true ∧ on.regs.jobSet = false ∧ job.regs.jobSet = true ∧ 0x127 < 0x128 ∧ (ringAt job 0).enable = false ∧
    (ringAt job 8).enable = true ∧ (0x600 : Word).toNat % 2 = 0 ∧ 0x104 % 8 ≠ 0 := by decide +kernel

/-- The smallest Ply module: one vertex function, RETIRE (R203 to R211). -/
def retireModule : List Byte :=
  let dir (kind off len n : Nat) : List Byte := leBytes 2 kind ++ leBytes 2 0 ++ leBytes 4 off ++ leBytes 4 len ++ leBytes 4 n
  let rest := dir 1 0x80 0 0 ++ dir 2 0x80 48 1 ++ dir 4 0xC0 8 1 ++ leBytes 16 0 ++
    (leBytes 4 0 ++ leBytes 4 0 ++ leBytes 4 1 ++ leBytes 20 0 ++ leBytes 4 1 ++ leBytes 12 0) ++ leBytes 16 0 ++
    leBytes 8 0x36F ++ leBytes 56 0
  leBytes 4 0x31594C50 ++ leBytes 2 1 ++ leBytes 2 0 ++ leBytes 4 256 ++ leBytes 2 3 ++ leBytes 2 0 ++
    leBytes 4 (crc32c rest) ++ leBytes 44 0 ++ rest

/-- An evaluation lattice of one vertex of program 1. -/
def oneVertex : List Byte :=
  let rest := leBytes 4 1 ++ leBytes 2 0 ++ leBytes 1 0 ++ leBytes 1 0 ++ leBytes 1 0xFF ++ leBytes 23 0
  leBytes 4 0x3154414C ++ leBytes 2 1 ++ leBytes 2 0 ++ leBytes 4 96 ++ leBytes 4 (crc32c rest) ++ leBytes 4 1 ++ leBytes 12 0 ++
    leBytes 4 64 ++ leBytes 4 64 ++ leBytes 4 64 ++ leBytes 4 64 ++ leBytes 4 64 ++ leBytes 12 0 ++ rest

def image1 (state : SlotState) : Image :=
  { slot := 0, handle := 1, state := state, granules := 1, ply := readModule retireModule, 
    load := if state = .loading then some (cmd 0x0002 0) else none }

def programmed : State := { job with programs := { job.programs with images := [image1 .current] } }

def submitOne : Sub := cmd 0x0001 (body [(0, 7), (5, 1), (0xC, 96)])

def removeSeven : Sub := cmd 0x0001 (body [(0, 7), (4, 1)])

def resident (isEval : Bool) : State := { programmed with lattices := [{ (default : Machine.Lattice) with handle := 7, isEval := isEval }] }

theorem witness_LatticesSubmitted :
    let s : State := placed programmed 0 oneVertex
    let bad : Sub := cmd 0x0001 (body [(0, 7), (5, 2)])
    mayRun s submitOne 0x0001 = true ∧ submitOne.body 4 1 ≠ 1 ∧
    (match checkLattice (markBegun (sent s submitOne) submitOne) submitOne with | .ok _ => true | .error _ => false) = true ∧
    mayRun s bad 0x0001 = true ∧
    (match checkLattice (markBegun (sent s bad) bad) bad with | .ok _ => false | .error _ => true) = true ∧
    mayRun programmed removeSeven 0x0001 = true ∧ removeSeven.body 4 1 = 1 ∧ removeSeven.zeroFrom 0x10 = true ∧
    latticeAt programmed 7 = none ∧ (latticeAt (resident true) 7).isSome = true ∧ (resident false).steps.a = (resident false).steps.c ∧
    (resident true).steps.evals = [] := by decide +kernel

theorem witness_ProgramsLoad :
    let s : State := placed job 0 retireModule
    let load : Sub := cmd 0x0002 (body [(0, 1), (0xC, 256)])
    let loaded := markBegun (sent s load) load
    let unload : Sub := cmd 0x0003 (body [(0, 1)])
    let waits : State := { sent job load with programs := { job.programs with
      waiting := [{ sub := load, handle := 1, granules := 1, ply := readModule retireModule }] } }
    let fetched : State := { programmed with spindles := { programmed.spindles with contexts := [(ctx0, ctxOf 0)] } }
    mayRun s load 0x0002 = true ∧ load.body 4 4 = 0 ∧ load.zeroFrom 0x10 = true ∧ load.body 0 4 ≠ 0 ∧
    blockOk (load.body 8 4) (load.body 0xC 4) = true ∧ load.body 0xC 4 = 256 ∧
    (loadViolation loaded 1 (windowBytes s 0 256)).isNone = true ∧ (loadViolation loaded 1 (windowBytes job 0 256)).isSome = true ∧
    imageGranules retireModule ≤ Constants.granules ∧ noRoom loaded (imageGranules retireModule) = false ∧
    waits.running = true ∧ (∀ i ∈ waits.programs.images, i.slot ≠ 0) ∧ granulesOf waits.programs.images + 1 ≤ Constants.granules ∧
    (image1 .loading).load = some (cmd 0x0002 0) ∧ loadsInProgress programmed 1 = [] ∧ nextLoad waits = some { sub := load, handle := 1, granules := 1, ply := readModule retireModule } ∧
    mayRun programmed unload 0x0003 = true ∧ unload.zeroFrom 4 = true ∧ currentImage job 1 = none ∧
    currentImage programmed 1 = some (image1 .current) ∧ isReferenced programmed 1 = false ∧
    slotFetched programmed 0 = false ∧ slotFetched fetched 0 = true ∧
    loadsInProgress { job with programs := { job.programs with images := [image1 .loading] } } 1 ≠ [] := by decide +kernel

/-- A step lattice with no input tensors, or an evaluation lattice. -/
def bare (isEval : Bool) : State := { job with lattices := [{ (default : Machine.Lattice) with handle := 7, isEval := isEval }] }

def unreadStep : AdmStep := { (default : AdmStep) with n := 1, sub := cmd 0x0010 1 }

def heldEval (running : Bool) : EvalReq :=
  { (default : EvalReq) with boundary := 1, handle := 7, sub := cmd 0x0011 (body [(0, 1), (8, 7)]), running := running,
                             delivered := true, inst := Inst.fresh (.eval 1 7) 7, read := running }

theorem witness_StepInputsAdmit :
    let d : Sub := cmd 0x0010 1
    let s : State := { bare false with steps := { job.steps with a := 1, admitted := [unreadStep] } }
    mayRun (bare false) d 0x0010 = true ∧ stepRefusal (markBegun (sent (bare false) d) d) d = none ∧
    mayRun job d 0x0010 = true ∧ stepRefusal (markBegun (sent job d) d) d = some .rejectedConfig ∧
    nextToRead s = some unreadStep ∧ (stepLattice s).isSome = true ∧
    (match readStep s unreadStep ((stepLattice s).getD default) [] with | .ok _ => true | .error _ => false) = true ∧
    stepAt s unreadStep.n = some unreadStep := by decide +kernel

theorem witness_EvaluationsHeld :
    let d : Sub := cmd 0x0011 (body [(0, 1), (8, 7)])
    let s (running : Bool) : State := { bare true with steps := { job.steps with evals := [heldEval running] } }
    mayRun (bare true) d 0x0011 = true ∧ evalRefusal (markBegun (sent (bare true) d) d) d = none ∧
    evalRefusal (markBegun (sent job d) d) d = some .rejectedConfig ∧ (latticeAt (s false) 7).isSome = true ∧
    (s false).steps.evals.find? (fun x => x.boundary == 1 && x.handle == 7 && !x.read) = some (heldEval false) ∧
    (match readEval (s false) (heldEval false) ((latticeAt (s false) 7).getD default) [] with | .ok _ => true | .error _ => false) =
      true ∧
    (s true).steps.evals.find? (fun x => x.boundary == 1 && x.handle == 7 && x.running) = some (heldEval true) ∧
    instDone (s true) (heldEval true).inst = true ∧ (heldEval true).delivered = true := by decide +kernel

/-- A version of table 2 with 64 rows of 16 elements in 8 bits, blocks of 16 and stochastic gradient descent without state. -/
def versionBody (phase : Nat) : Nat :=
  body ([(0, 2), (2, phase), (4, 1)] ++
    (if phase = 0 then [(8, 64), (0x10, 16), (0x12, 1), (0x13, 4), (0x14, 6), (0x15, 0)] else []))

theorem witness_TableVersionsLoad :
    let d (phase : Nat) : Sub := cmd 0x0020 (versionBody phase)
    let v : Version := describedVersion (d 0) []
    let s : State := { job with tables := { job.tables with versions := [v] } }
    let full : State := { job with tables := { job.tables with versions := [{ v with loaded := true }] } }
    let retire : Sub := cmd 0x0021 (body [(0, 2), (4, 1)])
    mayRun job (d 0) 0x0020 = true ∧ loadMalformed (d 0) = false ∧ loadPhase (d 0) = 0 ∧ layoutBad v = false ∧
    findVersion job 2 1 = none ∧ v.rowCount ≤ 2 ^ 40 ∧
    mayRun s (d 1) 0x0020 = true ∧ loadMalformed (d 1) = false ∧ loadPhase (d 1) = 1 ∧ findVersion s 2 1 = some v ∧ v.loaded = false ∧
    (d 1).body 0x24 4 % (8 + v.recordSize) = 0 ∧ dataFault s v [] = none ∧ (findVersion full 2 1).any Version.loaded = true ∧
    mayRun s (d 2) 0x0020 = true ∧ loadMalformed (d 2) = false ∧ loadPhase (d 2) = 2 ∧ (unsettledPages s v).isEmpty = true ∧
    mayRun s retire 0x0021 = true ∧ retire.zeroFrom 8 = true ∧ v.inEffect = false ∧ namedInSets s 2 1 = false ∧
    versionUsed s v = false := by decide +kernel

/-- A set of one item, EVAL_POLICY with this value, in the window. -/
def evalItem (value : Nat) : List Byte := leBytes 2 12 ++ leBytes 2 0 ++ leBytes 4 1 ++ leBytes 1 value ++ leBytes 7 0

theorem witness_ConfigurationSets :
    let stage (flag : Nat) : Sub := cmd 0x0030 (body [(0, 5), (4, flag), (12, 16)])
    let held : CfgSet := { id := 5, items := [(12, [4])], boundary := none }
    let s (value : Nat) : State := placed job 0 (evalItem value)
    let withSet (x : CfgSet) : State := { job with cfg := { job.cfg with sets := [x] } }
    let commit : Sub := cmd 0x0031 (body [(0, 5), (8, 2)])
    let drop : Sub := cmd 0x0032 (body [(0, 5)])
    mayRun (s 4) (stage 0) 0x0030 = true ∧ (stage 0).body 5 3 = 0 ∧ (stage 0).zeroFrom 0x10 = true ∧
    parseItems 16 0 (windowBytes (s 4) 0 16) = some [(0, 12, [4])] ∧ (knownKey 12 = true ∧ itemReserved 12 [4] = false) ∧
    checkItems (s 4) 0 [] (itemOrder [(0, 12, [4])]) = none ∧ checkItems (s 17) 0 [] (itemOrder [(0, 12, [17])]) ≠ none ∧
    mayRun (s 4) (stage 1) 0x0030 = true ∧ (s 4).steps.a = (s 4).steps.c ∧ (s 4).securing.restoring = none ∧
    mayRun (withSet held) commit 0x0031 = true ∧ commit.body 4 4 = 0 ∧ commit.zeroFrom 0x10 = true ∧
    (withSet held).cfg.sets.find? (fun x => x.id == 5 && x.boundary.isNone) = some held ∧
    checkItems (afterSets (withSet held) 2) 2 [] (setItems held) = none ∧
    checkItems (afterSets (withSet { held with items := [(12, [17])] }) 2) 2 [] (setItems { held with items := [(12, [17])] }) ≠ none ∧
    job.cfg.sets = [] ∧ mayRun (withSet held) drop 0x0032 = true ∧ drop.zeroFrom 4 = true := by decide +kernel

theorem witness_SecuringDeltaDebugCommands :
    let secure (b : Nat) : Sub := cmd 0x0040 b
    let report : Sub := cmd 0x0042 (body [(0, 1), (2, 0xFFFF)])
    let delta (op : Nat) : Sub := cmd 0x0051 op
    let snap (len : Nat) : Sub := cmd 0x0060 (body [(4, len)])
    let arm (op : Nat) : Sub := cmd 0x0070 (body [(0, 1), (1, op), (8, 3)])
    let far : Sub := cmd 0x0070 (body [(0, 4), (1, 1)])
    let stopped : State := { job with spindles := { job.spindles with stopped := true } }
    let out : State := ringed 11 { Ring.reset with enable := true, active := true, setupStatus := 0 }
    mayRun job (secure 0) 0x0040 = true ∧ mayRun job (secure 2) 0x0040 = true ∧ (secure 2).zeroFrom 8 = true ∧
    job.steps.c < 2 ∧ 2 ∉ job.securing.requested ∧ job.steps.a ≤ 2 ∧ mayRun job report 0x0042 = true ∧ report.body 0 2 ≠ 0 ∧
    report.zeroFrom 4 = true ∧ report.body 2 2 = 0xFFFF ∧ mayRun job (delta 1) 0x0051 = true ∧ (delta 1).zeroFrom 1 = true ∧
    (ringAt job 11).active = false ∧ (ringAt out 11).active = true ∧ mayRun out (delta 0) 0x0051 = true ∧
    mayRun job (delta 2) 0x0051 = true ∧ 1 < (delta 2).body 0 1 ∧
    mayRun job (snap 4096) 0x0060 = true ∧ (snap 4096).zeroFrom 8 = true ∧ blockOk ((snap 4096).body 0 4) 4096 = true ∧
    (snap 4095).body 4 4 < 4096 ∧ job.links.ports.length = 16 ∧ job.telemetry.metered.length = 42 ∧
    job.telemetry.tiers.length = 4 ∧ job.regs.chords.length = 112 ∧ (∀ p ∈ job.links.ports, p.counters.length = 10) ∧
    (∀ r ∈ job.telemetry.tiers, r.length = 6) ∧ mayRun job (arm 1) 0x0070 = true ∧ breakMalformed (arm 1) = false ∧
    breakMalformed (arm 0) = false ∧ mayRun job far 0x0070 = true ∧ breakMalformed far = true ∧
    mayRun stopped (cmd 0x0071 0) 0x0071 = true ∧ (cmd 0x0071 0).zeroFrom 0 = true ∧ stopped.spindles.stopped = true ∧
    job.spindles.stopped = false := by decide +kernel

theorem witness_RestoresFromHanks :
    let d : Sub := cmd 0x0041 (body [(0, 5)])
    let keyless : State := { job with security := { job.security with jobKey := none } }
    let i : HankImage := { (default : HankImage) with boundary := 5, members := [0, 1], versions := [], rows := [] }
    let h : Hank := { (default : Hank) with boundary := 5, sealedLoss := some 0, localDone := true, image := i }
    let s : State := { job with securing := { job.securing with hanks := [h] } }
    let r : Restore := { sub := d, image := i, source := 0, setId := 0, newest := 5 }
    canBegin (sent s d) d = true ∧ d.opcode = 0x0041 ∧ entryStatus (sent keyless d) d = some .security ∧
    entryStatus (sent s d) d = none ∧ (sourceHank s d .absent).isSome = true ∧
    restoreRefusal (markBegun (sent s d) d) d .absent = none ∧ restoreRefusal (markBegun (sent job d) d) d .absent ≠ none ∧
    ({ s with securing := { s.securing with restoring := some r } } : State).running = true := by decide +kernel

theorem witness_ExportsWrite :
    let d : Sub := cmd 0x0050 (body [(0, 2), (4, 1), (8, 1), (0x14, 1), (0x1C, 2 ^ 20)])
    let owned : Version := { tableV with inEffect := true }
    let s : State := { ringed 10 { Ring.reset with enable := true, active := true, setupStatus := 0, sizeLog2 := 6 } with
      tables := { job.tables with versions := [owned] }, regs := { job.regs with members := [0], memberCount := 1 } }
    let e : ExportJob := { newExport d with started := true }
    let row : Nat × Nat × List Byte × Bool := (0, 3, owned.record 3, false)
    mayRun job d 0x0050 = true ∧ exportRefusal (markBegun (sent job d) d) d = some .rejectedConfig ∧
    mayRun s d 0x0050 = true ∧ exportRefusal (markBegun (sent s d) d) d = none ∧ s.running = true ∧ (ringAt s 10).active = true ∧
    (ringAt s 10).free ≠ 0 ∧ findVersion s e.table e.version = some owned ∧ e.todo = [] ∧ e.count = 1 ∧ exportWaits s e 0 = false ∧
    (exportEntry s e owned row).length ≤ 2 ^ 20 ∧ (∀ c ∈ liveChunks s e, False) := by decide +kernel

def spdmAt (c : Spdm) : State := { job with security := { job.security with doe := c } }

def allSet (session : Option Bool) : Spdm :=
  { version := true, caps := true, algs := true, brainpool := true, session := session, updates := 0 }

theorem witness_SpdmResponder :
    answers job .doe = true ∧ answers job .mctp = true ∧ (connection (spdmAt (allSet none)) .doe) = allSet none ∧
    (connection job .doe).version = false ∧ (connection job .doe).caps = false ∧ (connection job .doe).algs = false ∧
    (allSet none).session = none ∧ (allSet (some false)).session = some false ∧ (allSet (some true)).session = some true ∧
    (allSet none).brainpool = true ∧ job.regs.recoveryLoader = false := by decide +kernel

theorem witness_ModuleProtocol_keys :
    let s : State := spdmAt (allSet (some true))
    let keyless : State := { s with security := { s.security with jobKey := none } }
    let key : List Byte := List.replicate 48 7
    let install : List Byte := leBytes 1 1 ++ leBytes 1 0 ++ leBytes 2 96 ++ key ++ jobBlockDigest s
    let query : List Byte := [0x02, 0, 0, 0]
    let challenge : List Byte := [0x20, 0, 0, 0]
    let unlock : List Byte := [0x21, 0, 4, 0, 1, 2, 3, 4]
    leAt install 0 1 = 0x01 ∧ payloadOk install 96 96 = true ∧
    installRefusal s .doe true ((install.drop 4).drop 48) = some 4 ∧ installRefusal keyless .doe true ((install.drop 4).drop 48) = none ∧
    leAt query 0 1 = 0x02 ∧ payloadOk query 0 0 = true ∧ leAt challenge 0 1 = 0x20 ∧ payloadOk challenge 0 0 = true ∧
    leAt unlock 0 1 = 0x21 ∧ payloadOk unlock 0 65535 = true ∧ job.security.nonce = none ∧ job.security.transfer = none ∧
    answers s .doe = true ∧ s.regs.recoveryLoader = false := by decide +kernel

theorem witness_ModuleProtocol_firmware :
    let begin_ (len : Nat) : List Byte := leBytes 1 0x10 ++ leBytes 1 0 ++ leBytes 2 52 ++ leBytes 4 len ++ List.replicate 48 1
    let data : List Byte := leBytes 1 0x11 ++ leBytes 1 0 ++ leBytes 2 5 ++ leBytes 4 0 ++ [9]
    let x : Transfer := { transport := .doe, length := 64, hash := [], bytes := [] }
    let s : State := { job with security := { job.security with transfer := some x } }
    leAt (begin_ 64) 0 1 = 0x10 ∧ payloadOk (begin_ 64) 52 52 = true ∧ leAt ((begin_ 64).drop 4) 0 4 = 64 ∧
    leAt ((begin_ 63).drop 4) 0 4 < 64 ∧ 32 * 2 ^ 20 < leAt ((begin_ 33554433).drop 4) 0 4 ∧ job.security.transfer = none ∧
    leAt data 0 1 = 0x11 ∧ payloadOk data 5 4100 = true ∧ leAt (data.drop 4) 0 4 = x.bytes.length ∧
    x.bytes.length + ((data.drop 4).length - 4) ≤ x.length ∧ s.security.transfer = some x ∧ x.transport ≠ .mctp ∧
    payloadOk [0x12, 0, 0, 0] 0 0 = true ∧ payloadOk [0x13, 0, 0, 0] 0 0 = true ∧ answers s .doe = true := by decide +kernel

/-- The first instruction of a running context is this word. -/
def issues (m : PlyModule) (w : Word) (opcode : Nat) : Prop :=
  Issues (spinning m (ctxOf 0)) ctx0 w opcode (ctxOf 0)
    { slot := 0, handle := 1, state := .current, granules := 1, ply := m, load := none }

/-- The one running context of a spindle has the turn. -/
theorem spinning_turn (m : PlyModule) : nextIssue (spinning m (ctxOf 0)) ctx0.die ctx0.spindle = some ctx0.ctx := by
  have h : canIssue (spinning m (ctxOf 0)) { die := 0, spindle := 0, ctx := 0 } = true := rfl
  have l : aGet (spinning m (ctxOf 0)).spindles.issued (0, 0) = none := rfl
  have e : (List.range 4).map (fun k => (3 + 1 + k) % 4) = [0, 1, 2, 3] := by decide
  simp only [nextIssue, show ctx0.die = 0 from rfl, show ctx0.spindle = 0 from rfl, l, Option.getD_none, e, List.find?, h]
  rfl

theorem issues_of (m : PlyModule) (w : Word) (opcode : Nat) (hc : m.code[0]? = some w) (ho : plyOp w = opcode) :
    issues m w opcode := ⟨rfl, rfl, rfl, rfl, rfl, rfl, rfl, hc, ho, spinning_turn m⟩

/-- A module of one instruction issues it: every statement about an instruction has such a state. -/
theorem witness_Issues (w : Word) : issues (module_ [w]) w (plyOp w) := issues_of _ _ _ rfl rfl

/-- The view of one instruction of each row that a statement names, as the spec's Table 9.9 places the fields. -/
theorem witness_RegistersWritten :
    plyView (word 0x01 3 0) = 3 ∧ plyView (word 0x01 0 0) = 0 ∧ plyView (word 0x13 2 0) ≠ 3 ∧ plyView (word 0x10 3 0) = 3 ∧
    plyView (word 0x20 1 0) = 1 ∧ plyOp (word 0x02 3 0) = 0x02 ∧ plyOp (word 0x03 3 0) = 0x03 ∧ plyOp (word 0x11 1 0) = 0x11 ∧
    plyOp (word 0x12 2 0) = 0x12 ∧ plyOp (word 0x23 1 0) = 0x23 ∧ plyPredicated (word 0x01 0 1) = true ∧
    ctxAt job ctx0 = none ∧ State.reset.running = false := by decide +kernel

theorem witness_LanesAndIntegers :
    (List.replicate 64 1).length = laneCount 0 ∧ (List.replicate 16 true).length = laneCount 2 ∧ 8 ≤ (8 : BitVec 8).toNat := by
  decide +kernel

theorem witness_WidenNarrowReduce :
    let widen : Word := word 0x21 0 (1 <<< 24)
    let reduce (view funct : Nat) : Word := word 0x24 view (funct <<< 24)
    plyOp widen = 0x21 ∧ plyView widen < plyFunctR widen ∧ plyFunctR widen ≤ 2 ∧ plyDst widen + 2 ^ (plyFunctR widen - plyView widen) ≤ 32 ∧
    plyOp (word 0x22 2 0) = 0x22 ∧ plyView (reduce 1 0) = 1 ∧ plyFunctR (reduce 1 0) % 4 = 0 ∧
    plyView (reduce 2 1) = 2 ∧ plyFunctR (reduce 2 1) % 4 = 1 ∧ plyFunctR (reduce 2 2) % 4 = 2 ∧ plyPredicated (reduce 2 2) = false ∧
    (ctxOf 0).vregs.length = 32 ∧ (ctxOf 0).tags.length = 32 := by decide +kernel

/-- Tensors of 64 elements, in 16-bit, blocked 8-bit and binary32 formats, under footprints that read and write them. -/
def declared (format blockLog2 : Nat) : TensorDecl :=
  { (default : TensorDecl) with id := format, role := 6, format := format, blockLog2 := blockLog2, rank := 1, dims := [64, 1, 1, 1] }

def tensored (w : Word) : PlyModule :=
  { module_ [w] with
    tensors := [declared 4 0, declared 1 4, declared 6 0, { declared 4 0 with id := 9, role := 9 }],
    foots := [{ (default : FootEntry) with slot := 0, access := 3, length := 64 }],
    funcs := [{ (default : FuncEntry) with fpCount := 1, codeCount := 1 }] }

theorem witness_TensorLoadsAndStores :
    let load (slot view : Nat) : Word := word 0x30 view (slot <<< 22)
    let store (slot view : Nat) : Word := word 0x31 view (slot <<< 22)
    let d (slot view : Nat) : TensorDecl := tensorAt (tensored (load slot view)) slot
    let kernel : Context := { ctxOf 0 with target := 5 }
    plyOp (load 0 1) = 0x30 ∧ plySlot (load 1 0) = 1 ∧ (plyView (load 0 1) = 1 ∧ (d 0 1).format = 4) ∧
    (plyView (load 2 2) = 2 ∧ (d 2 2).format = 6) ∧ (plyView (load 1 0) = 0 ∧ isBlocked (d 1 0).format = true) ∧
    (ctxOf 0).target = 0 ∧ (sreg (ctxOf 0) 0).toNat % 16 = 0 ∧
    (sreg { ctxOf 0 with sregs := List.replicate 32 5 } 0).toNat % 16 ≠ 0 ∧
    plyOp (store 0 1) = 0x31 ∧ plyByte3 (store 0 1) = 0 ∧ (d 3 1).role = 9 ∧ kernel.target ≠ 0 ∧
    plyByte3 (word 0x31 1 (3 <<< 14)) = 3 ∧ isBlocked (d 0 1).format = false ∧
    memoriesOk (spinning (tensored (store 0 1)) (ctxOf 0)) = true := by decide +kernel

theorem witness_TilesAndLayersRun :
    let tile (op : Nat) : TileD := { (default : TileD) with op := op, rows := 1, view := 1 }
    let layer (mode : Nat) : LayerD := { (default : LayerD) with mode := mode, rows := 1, rowLength := 16 }
    let m : PlyModule := { tensored (word 0x33 3 0) with tiles := [tile 0, tile 8], layers := [layer 0, layer 1] }
    plyOp (word 0x33 3 0) = 0x33 ∧ plyOp (word 0x41 3 0) = 0x41 ∧ (nth m.tiles 0 default).op < 8 ∧ 8 ≤ (nth m.tiles 1 default).op ∧
    (nth m.layers 0 default).mode = 0 ∧ (nth m.layers 1 default).mode ≠ 0 ∧
    (tensorAt m (nth m.tiles 0 default).dst).format = 4 ∧ (tensorAt m (nth m.layers 0 default).outSlot).format = 4 ∧
    memoriesOk (spinning m (ctxOf 0)) = true := by decide +kernel

theorem witness_QueuesAcceptAndComplete :
    let at_ (kind : QueueKind) : QueueId := { die := 0, spindle := 0, kind := kind }
    let move : QCmd := { (default : QCmd) with
      body := .move 0, owner := ctx0, inst := .step 1,
      ply := { tensored 0 with tensors := [declared 4 0, { declared 4 0 with id := 7 }], moves := [{ src := 0, dst := 1, elements := 4 }] } }
    let p (arrangement : Nat) : QCmd := { (default : QCmd) with
      body := .product 0, inst := .step 1,
      ply := { tensored 0 with products := [{ (default : ProductD) with arrangement := arrangement, rows := 1, inn := 128, outpos := 16 }] } }
    let s (kind : QueueKind) (cmds : List QCmd) : State :=
      { job with spindles := { job.spindles with queues := [(at_ kind, { cmds := cmds, count := cmds.length, offers := [] })] } }
    let stalled : State := { job with spindles := { job.spindles with
      contexts := [(ctx0, { ctxOf 0 with state := .stalled, heldCmd := some move })],
      queues := [(at_ .move, { cmds := [], count := 0, offers := [ctx0] })] } }
    plyOp (word 0x32 3 0) = 0x32 ∧ plyOp (word 0x40 3 0) = 0x40 ∧
    Constants.moveQueueDepth ≤ (queueAt (s .move (List.replicate 32 move)) (at_ .move)).cmds.length ∧
    (queueAt job (at_ .array)).cmds.length < Constants.arrayQueueDepth ∧ job.spindles.breaks.all Option.isNone = true ∧
    (queueAt stalled (at_ .move)).offers = ctx0 :: [] ∧ (queueAt job (at_ .array)).offers = [] ∧
    ctxAt stalled ctx0 = some { ctxOf 0 with state := .stalled, heldCmd := some move } ∧ cmdQueue move = .move ∧
    (queueAt stalled (at_ .move)).cmds.length < queueDepth .move ∧
    (queueAt (s .move [move]) (at_ .move)).cmds = move :: [] ∧ move.held = false ∧ testDue (s .move [move]) (at_ .move) move = false ∧
    ({ move with held := true } : QCmd).held = true ∧ (nth (p 0).ply.products 0 default).arrangement ≠ 2 ∧
    (nth (p 2).ply.products 0 default).arrangement = 2 ∧
    (productBands (p 2) (nth (p 2).ply.products 0 default)).any (fun b => !bandDrained (p 2) 16 b) = true ∧
    memoriesOk (s .move [move]) = true ∧ (tensorAt move.ply 0).format = 4 ∧ (tensorAt move.ply 0).id ≠ (tensorAt move.ply 1).id := by decide +kernel

theorem witness_CountersSignalAndWait :
    let s (x : Context) : State := { job with spindles := { job.spindles with contexts := [(ctx0, x)] } }
    let e : Context := { ctxOf 0 with state := .waiting, waitE := true }
    let w : Context := { ctxOf 0 with state := .waiting, waitOn := some (3, 2) }
    let known : State := { s e with steps := { job.steps with a := 1, admitted := [{ admitted 1 with exponent := some 15 }] } }
    plyOp (word 0x50 3 0) = 0x50 ∧ plyOp (word 0x51 3 0) = 0x51 ∧ plyOp (word 0x52 3 0) = 0x52 ∧ plyOp (word 0x70 3 0) = 0x70 ∧
    ((0 : Word32) - 0).toNat < 2 ^ 31 ∧ ¬ ((0 : Word32) - 1).toNat < 2 ^ 31 ∧ plyByte3 (word 0x70 3 (1 <<< 14)) = 1 ∧
    exponentKnown (s e) e.inst = false ∧ exponentKnown known e.inst = true ∧ ctxAt (s w) ctx0 = some w ∧ w.state = .waiting ∧
    w.waitE = false ∧ w.waitOn = some (3, 2) ∧ ¬ (counterAt (s w) ctx0 3 - 2).toNat < 2 ^ 31 := by decide +kernel

theorem witness_ControlFlow :
    let l : LoopLevel := { first := 1, last := 3, count := 2, remaining := 2, index := 0, depth := 0 }
    let x (i : Nat) : Context := { ctxOf 3 with loops := [{ l with index := i, remaining := 2 - i }] }
    let s (i : Nat) : State := { job with spindles := { job.spindles with contexts := [(ctx0, x i)] } }
    plyOp (word 0x60 3 0) = 0x60 ∧ plyOp (word 0x61 3 0) = 0x61 ∧ plyOp (word 0x62 3 0) = 0x62 ∧ plyOp (word 0x63 3 0) = 0x63 ∧
    plyOp (word 0x64 3 0) = 0x64 ∧ sreg (ctxOf 0) 0 = 0 ∧ sreg { ctxOf 0 with sregs := List.replicate 32 5 } 0 ≠ 0 ∧
    ctxAt (s 0) ctx0 = some (x 0) ∧ (x 0).loops = l :: [] ∧ l.last = (x 0).pc ∧ l.depth = (x 0).calls.length ∧
    dueLevel (x 0).calls.length (x 0).pc [] (x 0).loops = some ([], l, []) ∧ 1 < l.remaining ∧
    dueLevel (x 1).calls.length (x 1).pc [] (x 1).loops = some ([], { l with index := 1, remaining := 1 }, []) ∧
    ({ ctxOf 0 with calls := [(0, 4)] } : Context).calls = (0, 4) :: [] := by decide +kernel

theorem witness_VerticesStartAndRetire :
    let v : Vertex := { (default : Vertex) with program := 1, function := 0 }
    let img : Image := { image1 .current with ply := module_ [] }
    let s : State := { job with
      programs := { job.programs with images := [img] },
      lattices := [{ (default : Machine.Lattice) with handle := 1, vertices := [v] }],
      steps := { job.steps with a := 1, admitted := [{ admitted 1 with read := true, delivered := true }] },
      power := { linked.power with balance := List.replicate 40 1000000 } }
    let i : Inst := (admitted 1).inst
    instAt s i.ref = some i ∧ (instLattice s i.ref).isSome = true ∧ groupOf ((instLattice s i.ref).getD default) 0 = [0] ∧
    vertexReady s i 0 = true ∧ unitState s (dieUnit 0) = .on ∧ readyOn s 0 ≠ [] ∧ energyGate s 0 (readyOn s 0) i.ref [0] = true ∧
    currentImage s 1 = some img ∧
    placeVertex s 0 img.ply 0 [0] i.ref = some ctx0 ∧ s.running = true ∧
    s.spindles.stopped = false ∧ plyOp (word 0x6F 3 0) = 0x6F ∧ outstanding (spinning (module_ []) (ctxOf 0)) ctx0 = false ∧
    (ctxOf 0).target = 0 := by decide +kernel

theorem witness_VerticesStartAndRetire_kernel :
    let k : Kernel := { (default : Kernel) with target := 5, program := 1, function := 0 }
    let d : TensorDecl := { weights with optimiser := 5 }
    let s : State := { programmed with
      lattices := [{ stepLat with kernels := [k], decls := [d] }],
      steps := { job.steps with a := 1, admitted := [admitted 1] },
      regs := { job.regs with members := [0], memberCount := 1 },
      dense := { job.dense with nodes := [node1 [0x3F800000]] }, power := linked.power }
    kernelFor s 5 = some k ∧ currentImage s 1 = some (image1 .current) ∧ updateGate s (s.steps.c + 1) = true ∧
    unitTaken s 5 0 = false ∧ isTableTarget 5 = false ∧ parameterDecl s 5 = some d ∧ blockUnitReady s 1 d 0 = true ∧
    unitState s (dieUnit 0) = .on ∧ ctxFree s ctx0 = true ∧
    spindleFits s 0 0 (image1 .current).ply 0 [] (.step 1) = true ∧ s.running = true := by
  decide +kernel

theorem witness_TreeBlocksTaken :
    let f (n : Nat) : TreeBlockF := { step := 1, treeId := treeIdOf 5 0, block := 0, first := 60, values := List.replicate n 0 }
    let from_ (m n : Nat) : Rx := { framed (.treeBlock (f n)) with source := m }
    let s : State := growing (node1 []) weights [0, 1]
    let granted : State := { s with dense := { s.dense with granted := [((1, treeIdOf 5 0, 1), 1)] } }
    acceptFrame granted (from_ 1 4) 1 false ≠ none ∧ Framed (from_ 1 4) (.treeBlock (f 4)) ∧ treeBlockOk s (f 4) = true ∧
    treeBlockOk s (f 8) = false ∧ (aGet s.dense.granted (1, treeIdOf 5 0, 1)).getD 0 ≤ (f 4).block ∧
    (f 4).block < (aGet granted.dense.granted (1, treeIdOf 5 0, 1)).getD 0 ∧
    (treeLeft s.members (treeIdOf 5 0) 0 = some 1 ∨ treeLeft s.members (treeIdOf 5 0) 1 = some 0) ∧ (f 4).values[0]? = some 0 := by
  decide +kernel

/-- Right children: the member at the root of a tree of three has one. -/
theorem witness_TreeBlocksTaken_right :
    ∃ m ∈ [0, 1, 2], ∃ r ∈ [0, 1, 2], treeRight [0, 1, 2] (treeIdOf 5 0) m = some r ∧ treeLeft [0, 1, 2] (treeIdOf 5 0) m ≠ some r := by
  decide +kernel

theorem witness_DigestsAndSlices_frames :
    let d (kind : DigestKind) : DigestF := { step := 1, treeId := treeIdOf 5 0, kind := kind, digest := 0 }
    let f (n : Nat) : SliceDataF := { step := 1, treeId := treeIdOf 5 0, first := 0, values := List.replicate n 0 }
    let r : Replica := { (default : Replica) with treeId := treeIdOf 5 0, held := some 9, due := some (1, 9) }
    let s : State := { stepping with dense := { stepping.dense with replicas := [r] } }
    acceptFrame s (framed (.digest (d .published))) 2 false ≠ none ∧ Framed (framed (.digest (d .published))) (.digest (d .published)) ∧
    (d .recomputeRequest).digest = 0 ∧ acceptFrame s (framed (.sliceData (f 8))) 2 false ≠ none ∧
    Framed (framed (.sliceData (f 8))) (.sliceData (f 8)) ∧ sliceOk s (f 8) = true ∧ r.fetching ≠ some (f 8).step ∧
    (∀ x ∈ s.dense.replicas, ∀ p, x.due = some p → s.steps.c < p.1) ∧ findReplica s (treeIdOf 5 0) = some r := by decide +kernel

theorem witness_MirrorsStored :
    let f : HankDataF :=
      { boundary := 5, origin := 1, part := 3, position := 0, firstLine := 0, sealedLoss := 7, lines := [] }
    let g : HankDataF := { f with part := 1, lines := [(List.replicate 64 0, 0)] }
    acceptFrame linked (framed (.hankData f)) 3 false ≠ none ∧ Framed (framed (.hankData f)) (.hankData f) ∧
    Framed (framed (.hankData g)) (.hankData g) ∧ g.lines.length ≤ 56 ∧ (∀ l ∈ g.lines, l.1.length = 64) ∧
    (∀ m ∈ linked.securing.mirrors, mirrorOver linked m = false) ∧
    buddyOf linked linked.cfg.buddies 1 = some linked.member := by decide +kernel

theorem witness_ControlFrames :
    let report : SecuringReportF := { hank := 0, eSecure := 1, eStep := 1, r := 0, o := 0 }
    let next : SecuringDecisionF := { hank := 0, next := 50 }
    let halt : HaltF := { step := 1, reason := 3, named := none }
    let commit : CommitReportF := { step := 1, overflow := false, loss := 0, expected := 0, applied := 0, evals := [3, 4] }
    let g : GrantF := { cls := 2, pool := 0, flow := 7, units := 1 }
    Framed (framed (.securingReport report)) (.securingReport report) ∧ Framed (framed (.securingDecision next)) (.securingDecision next) ∧
    Framed (framed (.halt halt)) (.halt halt) ∧ Framed (framed (.commitReport commit)) (.commitReport commit) ∧
    rising commit.evals = true ∧ rising [4, 3] = false ∧ Framed (framed (.grant [g])) (.grant [g]) ∧ grantsOk [g] = true ∧ g.cls = 2 ∧
    acceptFrame linked (framed (.commitReport commit)) 4 false ≠ none ∧
    Framed (framed (.commitDecision (decision1 true))) (.commitDecision (decision1 true)) ∧ rising (decision1 true).evals = true ∧
    linked.cfg.routeDue = none := by decide +kernel

theorem witness_CommitDecisionsApply_routes :
    let due : CfgSet := { id := 3, items := [(2, [])], boundary := some 1 }
    let s : State := { linked with cfg := { linked.cfg with sets := [due], commitOrder := [3], prevRoutes := some [] } }
    let proving : State := { linked with securing := { linked.securing with toProve := some (0, 0) } }
    (decision1 true).step = s.steps.c + 1 ∧ (decision1 true).committed = true ∧ (decision1 false).committed = false ∧
    linked.cfg.prevRoutes = none ∧ routesDue linked 1 = false ∧ s.cfg.prevRoutes ≠ none ∧ routesDue s 1 = true ∧
    proving.securing.toProve = some (0, 0) ∧ 0 + 1 = (decision1 false).step := by decide +kernel

theorem witness_SkeinsLand_frames :
    let f (rows : List (Nat × Bool)) (bytes : List Byte) : SkeinTransferF :=
      { boundary := 1, table := 2, version := 1, skein := 0, page := 0, offset := 0, rowList := !rows.isEmpty, lastPage := false,
        last := false, rows := rows, bytes := bytes }
    Framed (framed (.skeinTransfer (f [(3, true)] []))) (.skeinTransfer (f [(3, true)] [])) ∧ transferOk (f [(3, true)] []) = true ∧
    (f [(3, true)] []).rowList = true ∧ Framed (framed (.skeinTransfer (f [] [1, 2]))) (.skeinTransfer (f [] [1, 2])) ∧
    transferOk (f [] [1, 2]) = true ∧ (f [] [1, 2]).rowList = false ∧ transferOk (f [(3, true)] [1]) = false ∧
    acceptFrame linked (framed (.skeinTransfer (f [] [1, 2]))) 0 false ≠ none := by decide +kernel

/-- Of two commands of a ring the second is ORDERED: it waits while the first has not completed. -/
theorem witness_InputsOrdered :
    let first : Sub := cmd 0x0032 5
    let d : Sub := { (cmd (0x0010 + 2 ^ 16) 1) with index := 1 }
    let a : AdmStep := { unreadStep with sub := d }
    let s (before : List Accepted) : State := { bare false with
      steps := { job.steps with a := 1, admitted := [a] },
      rings := { job.rings with accepted := before ++ [{ sub := d, begun := true }] } }
    d.ordered = true ∧ nextToRead (s [{ sub := first, begun := false }]) = some a ∧
    heldByOrder (s [{ sub := first, begun := false }]) a.sub = true ∧ heldByOrder (s []) a.sub = false ∧
    heldByOrder job (heldEval false).sub = false ∧
    heldByOrder (s [{ sub := first, begun := false }]) ({ heldEval false with sub := d } : EvalReq).sub = true := by decide +kernel

theorem witness_TableVersionsLoad_pages :
    let v : Version := describedVersion (cmd 0x0020 (versionBody 0)) []
    let s : State := { linked with
      tables := { linked.tables with versions := [v] }, cfg := { linked.cfg with skeinMaps := [(2, List.replicate 64 1)] } }
    pagesFit s (s.tables.pages ++ newPages v (ownedSkeins s v)) = true ∧ v.table < 4096 ∧
    (linked.tables.versions.filter (fun u => u.table == v.table)).length < 4 ∧ findVersion s v.table v.number = some v ∧
    (∀ p ∈ unsettledPages s v, p.tier = .flash → channelsOn s (pageChannels p.ref) = true) ∧
    unsettledPages { s with tables := { s.tables with
      pages := [{ page with ref := { pageRef with table := v.table, version := v.number }, tier := .flash, unsettled := true }] } } v ≠ [] := by
  decide +kernel

theorem witness_ParkedEntriesApply :
    let s (e : Entry) (streams : List StreamRx) : State :=
      { tabled tableV page with owners := { stepping.owners with entries := [e], streams := streams } }
    let from1 : Entry := { entry3 with expected := [(1, 0)] }
    updateGate (s entry3 []) 1 = true ∧ entryFaulty (s entry3 []) entry3 = false ∧
    entryFaulty (s from1 [{ stream1 with faulty := true }]) from1 = true ∧
    updateGate { s entry3 [] with securing := { linked.securing with hold := some 0 } } 1 = false ∧
    ({ entry3 with result := some [] } : Entry).result = some [] ∧ entry3.result = none ∧
    (s entry3 []).owners.withheld.contains 3 = false := by decide +kernel

theorem witness_PagesMove_channels :
    let s (st : UnitState) (p : Page) : State := { tabled tableV p with
      power := { linked.power with units := List.replicate 74 { state := st, recorded := false } } }
    let down : Page := { page with moving := some .flash, dirty := true }
    movesFlash down .flash = true ∧ movesFlash { down with dirty := false } .flash = false ∧
    channelsOn (s .on down) (List.range 16) = true ∧ channelsOn (s .off down) (List.range 16) = false ∧
    tierRoom (s .on page) .cxlPort = false ∧ pageAt (s .on down) pageRef = some down := by decide +kernel

/-- With every unit ON the channels of a page are ON, whichever they are. -/
theorem witness_channelsOn (s : State) (h : s.power.units = List.replicate 74 { state := .on, recorded := false }) (r : PageRef) :
    channelsOn s (pageChannels r) = true := by
  have units : ∀ c < 16, (unitState s (18 + c) == .on) = true := by
    intro c hc
    rw [unitState, h]
    revert c
    decide
  simp only [channelsOn, pageChannels, List.all_map, List.all_eq_true]
  exact fun i _ => units _ (Nat.mod_lt _ (by decide))

theorem witness_LinesFail :
    let s (p : Page) : State := tabled tableV p
    ({ page with tier := .sram } : Page).tier = .sram ∧ page.tier ≠ .sram ∧ page.rereading = false ∧ page.dirty = false ∧
    page.home = .flash ∧ page.tier ≠ .flash ∧ ({ page with dirty := true } : Page).dirty = true ∧
    findVersion (s page) 2 1 = some tableV ∧ pageAt (s page) pageRef = some page ∧ 3 ∉ tableV.poisoned ∧ 3 < tableV.rowCount := by
  decide +kernel

theorem witness_HanksCopyHoldSeal_staging :
    let roomy (s : State) : State := { s with cfg := { s.cfg with secure := { s.cfg.secure with stagingGB := 1 } } }
    let full (s : State) : State := { s with cfg := { s.cfg with secure := { s.cfg.secure with stagingGB := 0 } } }
    let on (s : State) : State := { s with power := { linked.power with units := List.replicate 74 { state := .on, recorded := false } } }
    let staged : Hank := { hank5 with uncopied := [], staged := [pageRef] }
    stagingRoom (roomy (hanked hank5)) 65536 = true ∧ stagingRoom (full (hanked hank5)) 65536 = false ∧
    pageAt (hanked hank5) pageRef = none ∧ pageRef ∈ staged.staged ∧ pageRef ∉ staged.uncopied ∧
    channelsOn (on (hanked staged)) (List.range 16) = true ∧ stagingRoom (roomy (hanked hank5)) (ownedDense linked) = true ∧
    stagingRoom (full (hanked hank5)) 1 = false := by decide +kernel

theorem witness_RestoreEnd :
    let r : Restore := { sub := cmd 0x0041 (body [(0, 5)]), image := { (default : HankImage) with boundary := 5 }, source := 0,
                         setId := 0, newest := 5 }
    let s (t : State) : State := { t with securing := { t.securing with restoring := some r } }
    (s linked).running = true ∧ (s linked).securing.restoring = some r ∧ channelsOn (s linked) (List.range 16) = true ∧
    channelsOn (s { linked with power := { linked.power with units := List.replicate 74 { state := .off, recorded := false } } })
      (List.range 16) = false := by decide +kernel

theorem witness_CountersSignalAndWait_group :
    groupSpindles (spinning (module_ []) (ctxOf 0)) ctx0 (ctxOf 0) 3 = [0] ∧
    (queueAt (spinning (module_ []) (ctxOf 0)) { die := 0, spindle := 0, kind := .move }).offers = [] := by decide +kernel

theorem witness_TensorStores_blocks :
    let store (slot : Nat) : Word := word 0x31 0 (slot <<< 22)
    let m : PlyModule := { tensored (store 1) with foots := [{ (default : FootEntry) with slot := 1, access := 3, length := 64 }] }
    let d : TensorDecl := tensorAt m 1
    isBlocked d.format = true ∧ (0 : Nat) % d.block = 0 ∧
    blockInRange (ctxRanges (spinning m (ctxOf 0)) (ctxOf 0) { slot := 0, handle := 1, state := .current, granules := 1, ply := m, load := none })
      2 1 d.block 0 = true ∧ 8 % 16 ≠ 0 ∧ 8 % d.block ≠ 0 := by decide +kernel

/-- Scratch of a new vertex lies where no other vertex's does (log 81). -/
theorem test_scratch_place :
    scratchPlace job 0 0 100 = some 0 ∧ scratchPlace job 0 0 (768 * 1024 + 1) = none := by decide +kernel

/-- R180: of the contexts of a spindle the one after the last that issued has the turn, and 0 follows 3. -/
theorem test_turns :
    let s (last : Nat) : State := { job with spindles := { job.spindles with
      contexts := [(ctx0, ctxOf 0), ({ ctx0 with ctx := 2 }, ctxOf 0)], issued := [((0, 0), last)] } }
    nextIssue (s 0) 0 0 = some 2 ∧ nextIssue (s 2) 0 0 = some 0 ∧ nextIssue (s 3) 0 0 = some 0 ∧ nextIssue job 0 0 = none := by
  decide +kernel

/-! ### Values that the spec's tables and worked examples give -/

/-- Table 3.6 (R53, R54): the conversion of elements 96 to 99 with their noise, and what the codes read as. -/
theorem test_table_3_6 :
    let values : List FVal := [.fin false 339 (-6), .fin true 3 (-8), .fin false 1 (-14), .fin false 3 (-17)]
    scaleByteOf 1 (maxMag values) = 121 ∧
    (values.zip [0x71C4, 0x0E2B, 0x5A10, 0x2F03]).map (fun v => sr 1 (v.1.scale 6) v.2) = [0x7B, 0xB4, 0x02, 0x00] ∧
    sr 1 ((FVal.fin false 339 (-6)).scale 6) 26623 = 0x7A ∧
    to32 (blockedValue 1 0x7B 121) = 0x40B00000 ∧ to32 (blockedValue 1 0x7A 121) = 0x40A00000 := by decide +kernel

/-- R65, the worked example: a step that overflows, then 2,000 clean ones. -/
theorem test_loss_scale :
    let s (e n : Nat) : State := { on with steps := { on.steps with exponent := e, clean := n } }
    let r (t : State) : Nat × Nat := (t.steps.exponent, t.steps.clean)
    r (passLossScale (s 15 700) true) = (14, 0) ∧ r (passLossScale (s 14 0) false) = (14, 1) ∧
    r (passLossScale (s 14 1999) false) = (15, 0) := by decide +kernel

/-- Table 4.8 (R81). -/
theorem test_table_4_8 : [1, 2, 3, 4, 5, 6, 7].map (fun r => skeinOf r 6) = [39, 15, 54, 30, 5, 45, 20] := by decide +kernel

/-- R85: the worked example of windows and passes, scaled down: bags that fill a window, the last one alone. -/
theorem test_passes :
    let c : Section := { (default : Section) with offsets := [0, 3, 4, 7], window := 2 }
    c.passes = [(0, 2), (2, 3)] := by decide +kernel

/-- The worked example of row records: w = 256, E4M3/32 elements, Adam with E4M3/32 moments. -/
theorem test_record_layout :
    let v : Version := { (default : Version) with
      width := 256, elemFormat := 1, blockLog2 := 5, optimiser := 3, stateFormat := 1, stateBlockLog2 := 5 }
    v.a0 = 0x110 ∧ v.end0 = 536 ∧ v.a1 = 0x220 ∧ v.lastEnd = 808 ∧ v.recordSize = 832 := by decide +kernel

/-- The worked example of parked entries: 1,088 bytes at w = 256. -/
theorem test_parked_bytes : parkedBytes 256 = 1088 ∧ 33554432 / parkedBytes 256 = 30840 := by decide +kernel

/-- R125, R143: the worked example of shards and trees. -/
theorem test_tree :
    let members := [3, 8, 12, 20, 41]
    let id := treeIdOf 2577 2
    (shardBlocks 5 (9000 * 2048) 2).head? = some 3600 ∧ (shardBlocks 5 (9000 * 2048) 2).getLast? = some 5399 ∧
    treeOrder members id = [41, 3, 8, 12, 20] ∧ treeLeft members id 41 = some 3 ∧ treeRight members id 41 = some 8 ∧
    treeLeft members id 3 = some 12 ∧ treeRight members id 3 = some 20 ∧ treeLeft members id 8 = none ∧
    treeParent members id 20 = some 3 ∧ treeParent members id 41 = none := by decide +kernel

/-- Table 9.17: three encoded instructions. -/
theorem test_table_9_17 :
    let wait : Word := 0x0000000006024351
    let fop : Word := 0x0000000C6208D520
    let signal : Word := 0x0000000106000350
    (plyOp wait = 0x51 ∧ plyView wait = 3 ∧ plyDst wait = 9 ∧ plyByte3 wait = 6) ∧
    (plyOp fop = 0x20 ∧ plyView fop = 1 ∧ plyPredicated fop = true ∧ plyPred fop = 2 ∧ plyDst fop = 3 ∧ plySrc1 fop = 1 ∧
      plySrc2 fop = 2 ∧ plySrc3 fop = 3 ∧ plyFunctR fop = 3) ∧
    (plyOp signal = 0x50 ∧ plyView signal = 3 ∧ plyByte3 signal = 6 ∧ plyImm signal = 1) := by decide +kernel

/-- R186, R189: an FOP multiply-add under a predicate changes the selected lanes only: 2 x 3 + 1 = 7 in BF16. -/
theorem test_fop_multiply_add :
    let x : Context := { ctxOf 0 with
      vregs := (((ctxOf 0).vregs.set 1 0x4000).set 2 0x4040).set 3 0x3F803F80, preds := (ctxOf 0).preds.set 2 1 }
    let t := nextOf (exec (.fop ctx0 0x0000000C6208D520) (spinning (module_ [0x0000000C6208D520]) x))
    (ctxAt t ctx0).map (fun y => (vreg y 3, y.pc)) = some (0x3F8040E0, 1) := by decide +kernel

/-- The worked example of waiting: target 0 is not met at 0xFFFFFFFF and is met at 0. -/
theorem test_wait_wraps :
    waitMet 0xFFFFFFFF 0xFFFFFFFF = true ∧ waitMet 0xFFFFFFFF 0 = false ∧ waitMet 0 0 = true := by decide +kernel

/-- The worked example of rings: the index 0x103FF of a ring of 1,024 carries PHASE 1, the next PHASE 0. -/
theorem test_phase :
    let r : Ring := { Ring.reset with sizeLog2 := 10 }
    r.phase 0x103FF = true ∧ r.phase 0x10400 = false ∧ ((1 : Word32) - 0xFFFFFFFE).toNat = 3 := by decide +kernel

/-- R306: the flow of the worked example leaves on the second port of its mask. -/
theorem test_flow_port : maskPorts 0x0024 = [2, 5] ∧ flowPlace 9 40 0x00011203 2 = 1 := by decide +kernel

/-- R319: the worked example of the securing interval. -/
theorem test_young : youngInterval 96000000000 4787200000 7 2 400000 100000 = 1416 := by decide +kernel

/-- R8, R206 to R208: the smallest module passes the whole check, and a lattice of one vertex is taken. -/
theorem test_smallest_module : (checkModule (fun _ => none) retireModule).isNone = true ∧ imageGranules retireModule = 1 := by decide +kernel

/-- R237 to R240: a doorbell at a ring that is not in use reads nothing; its store is visible. -/
theorem test_doorbell_unused :
    exec (.doorbell 0 1 [] [{ offset := 64, bytes := [5] }]) on = .next { on with window := [(64, 5)] } := rfl

/-- R243: a descriptor with an unknown opcode is answered with MALFORMED. -/
theorem test_unknown_opcode :
    let t := nextOf (exec (.unknownOpcodeDescriptor (cmd 0x7F 0)) (sent job (cmd 0x7F 0)))
    t.rings.completions.map (fun c => c.2.status) = [.malformed] ∧ t.rings.accepted = [] := by decide +kernel

/-- The check value of CRC-32C for the digits 1 to 9, SHA-384 of the letters a, b, c (FIPS 180-4) and AES-256 of FIPS 197
appendix C.3: the first bytes. -/
theorem test_digests_and_ciphers :
    crc32c [0x31, 0x32, 0x33, 0x34, 0x35, 0x36, 0x37, 0x38, 0x39] = 0xE3069283 ∧
    (sha384 [0x61, 0x62, 0x63]).take 4 = [0xCB, 0x00, 0x75, 0x3F] ∧
    (aes256 ((List.range 32).map (BitVec.ofNat 8)) ((List.range 16).map (17 * ·))).take 4 = [0x8E, 0xA2, 0xB7, 0xCA] := by
  decide +kernel

end Sys2Proof.Tests
end

section
/-! SUPPORT. The job block (R348): what COMMIT checks, and that a locked block stays over every command but a reset. -/

namespace Sys2Proof.Machine

/-! ### The checks of COMMIT -/

theorem ascending_cons_cons (x y : Nat) (r : List Nat) :
    ascending (x :: y :: r) = true ↔ x < y ∧ ascending (y :: r) = true := by
  simp only [ascending, Bool.and_eq_true, decide_eq_true_eq]

/-- The test of neighbours gives the order of every two entries, since `<` is transitive. -/
theorem ascending_iff_pairwise (l : List Nat) : ascending l = true ↔ l.Pairwise (· < ·) := by
  induction l using ascending.induct with
  | case1 => exact ⟨fun _ => .nil, fun _ => rfl⟩
  | case2 x => exact ⟨fun _ => List.pairwise_singleton _ x, fun _ => rfl⟩
  | case3 x y r ih =>
    rw [ascending_cons_cons, ih, List.pairwise_cons (a := x)]
    refine ⟨fun ⟨hxy, hr⟩ => ⟨?below, hr⟩, fun ⟨hx, hr⟩ => ⟨hx y List.mem_cons_self, hr⟩⟩
    case below =>
      intro z hz
      rcases List.mem_cons.mp hz with rfl | hz
      · exact hxy
      · exact Nat.lt_trans hxy (List.rel_of_pairwise_cons hr hz)

/-- Reading as many entries as a list has gives the list. -/
theorem map_nth_range_length (l : List Nat) : (List.range l.length).map (fun i => nth l i 0) = l := by
  refine List.ext_getElem (by simp) ?_
  intro i h _
  have hi : i < l.length := by simpa using h
  simp [nth, List.getElem?_eq_getElem hi]

/-- The list that COMMIT reads has between 1 and 4,096 entries, none above 4095, strictly ascending (R348). -/
def JobListSized (s : State) (list : List Nat) : Prop :=
  1 ≤ s.regs.memberCount ∧ s.regs.memberCount ≤ 4096 ∧ (∀ m ∈ list, m ≤ 4095) ∧ list.Pairwise (· < ·)

/-- This member is in the list, and the fabric window fits (R348). -/
def JobListSound (s : State) (list : List Nat) : Prop :=
  s.regs.memberNumber ∈ list ∧ s.regs.fabricLength.toNat ≤ 16 * 10 ^ 12

/-- The first test of `commitCode` is the negation of `JobListSized`. -/
theorem not_jobListSized_iff (s : State) (list : List Nat) :
    ¬ JobListSized s list ↔ s.regs.memberCount = 0 ∨ 4096 < s.regs.memberCount ∨
      list.any (fun m => decide (4095 < m)) ∨ ascending list = false := by
  have hany : list.any (fun m => decide (4095 < m)) ↔ ¬ ∀ m ∈ list, m ≤ 4095 := by
    simp only [List.any_eq_true, decide_eq_true_eq, Classical.not_forall, Nat.not_le, exists_prop]
  have hasc : ascending list = false ↔ ¬ list.Pairwise (· < ·) := by rw [← ascending_iff_pairwise, Bool.not_eq_true]
  have hnone : s.regs.memberCount = 0 ↔ ¬ 1 ≤ s.regs.memberCount := by rw [Nat.not_le, Nat.lt_one_iff]
  rw [hany, hasc, hnone, ← Nat.not_le, JobListSized]
  simp only [Classical.not_and_iff_not_or_not]

theorem commitCode_of_not_sized {s : State} {list : List Nat} (hsized : ¬ JobListSized s list) :
    commitCode s list = .malformed :=
  if_pos ((not_jobListSized_iff s list).mp hsized)

theorem commitCode_of_sized {s : State} {list : List Nat} (hsized : JobListSized s list) :
    commitCode s list = if !list.contains s.regs.memberNumber || decide (16 * 10 ^ 12 < s.regs.fabricLength.toNat) then
      .rejectedConfig else .ok :=
  if_neg fun hbad => (not_jobListSized_iff s list).mpr hbad hsized

theorem commitCode_of_sound {s : State} {list : List Nat} (hsized : JobListSized s list) (hsound : JobListSound s list) :
    commitCode s list = .ok := by
  obtain ⟨hmem, hfabric⟩ := hsound
  rw [commitCode_of_sized hsized, if_neg (by simpa [hmem] using hfabric)]

theorem commitCode_of_not_sound {s : State} {list : List Nat} (hsized : JobListSized s list) (hsound : ¬ JobListSound s list) :
    commitCode s list = .rejectedConfig := by
  have hbad : s.regs.memberNumber ∉ list ∨ 16 * 10 ^ 12 < s.regs.fabricLength.toNat := by
    rw [← Nat.not_le]
    exact Classical.not_and_iff_not_or_not.mp hsound
  rw [commitCode_of_sized hsized, if_pos]
  simpa only [Bool.or_eq_true, Bool.not_eq_true', List.contains_eq_mem, decide_eq_false_iff_not, decide_eq_true_eq] using hbad

/-- A commit that is not OK leaves its status and nothing else. -/
theorem execJobCommit_refused {s : State} {list : List Nat} {st : Status} (hrun : s.running = true)
    (hset : s.regs.jobSet = false) (hlen : list.length = s.regs.memberCount) (hcode : commitCode s list = st) (hst : st ≠ .ok) :
    execJobCommit list s = .next { s with regs := { s.regs with commitStatus := BitVec.ofNat 8 (statusCode st) } } := by
  simp [execJobCommit, hrun, hset, ← hlen, map_nth_range_length, hcode, hst, State.setRegs]

/-- A commit that is OK locks the job block and keeps the list. -/
theorem execJobCommit_ok {s : State} {list : List Nat} (hrun : s.running = true) (hset : s.regs.jobSet = false)
    (hlen : list.length = s.regs.memberCount) (hcode : commitCode s list = .ok) :
    execJobCommit list s = .next { s with regs := { s.regs with commitStatus := 0x00, jobSet := true, members := list } } := by
  simp [execJobCommit, hrun, hset, ← hlen, map_nth_range_length, hcode, statusCode, State.setRegs]

theorem execJobCommit_locked {s : State} (list : List Nat) (hset : s.regs.jobSet = true) :
    execJobCommit list s = .next s := by
  simp [execJobCommit, hset]

/-! ### The lock -/

/-- The job block and the member list of `t` are those of `s`. -/
def SameJobBlock (s t : State) : Prop :=
  t.regs.jobSet = s.regs.jobSet ∧ t.regs.memberCount = s.regs.memberCount ∧ t.regs.memberNumber = s.regs.memberNumber ∧
    t.regs.jobSeed = s.regs.jobSeed ∧ t.regs.listAddress = s.regs.listAddress ∧ t.regs.fabricBase = s.regs.fabricBase ∧
    t.regs.fabricLength = s.regs.fabricLength ∧ t.regs.members = s.regs.members

/-- A reset has come and its sequence has not ended: the job block is unlocked again. -/
def JobCleared (t : State) : Prop := t.regs.jobSet = false ∧ t.regs.ready = false ∧ t.supply.inReset = true

/-- From `s` to `t` the job block stays, or a reset clears it. -/
def JobHeld (s t : State) : Prop := SameJobBlock s t ∨ JobCleared t

theorem sameJobBlock_of_regs {s t : State} (h : t.regs = s.regs) : SameJobBlock s t := by
  simp only [SameJobBlock, h, and_self]

theorem jobHeld_of_regs {s t : State} (h : t.regs = s.regs) : JobHeld s t := .inl (sameJobBlock_of_regs h)

theorem jobHeld_ite {s a b : State} (c : Prop) [Decidable c] (ha : JobHeld s a) (hb : JobHeld s b) :
    JobHeld s (if c then a else b) := by
  split
  · exact ha
  · exact hb

/-- A command that does not touch group 25 keeps the job block. -/
theorem sameJobBlock_of_forget {ks : List Nat} {s t : State} (h : forget ks t = forget ks s) (h25 : 25 ∉ ks) :
    SameJobBlock s t := by
  have hr := congrArg State.regs h
  by_cases h2 : 2 ∈ ks
  · simp only [forget, forgetRegs, h2, h25, if_true, if_false, Regs.mk.injEq] at hr
    simp only [SameJobBlock, hr, and_self]
  · exact sameJobBlock_of_regs (by simpa only [forget, h2, if_false] using hr)

/-! ### Resets clear the job block -/

theorem startSequence_regs (s : State) : (startSequence s).regs = s.regs := by
  have h := forget_startSequence [3, 15, 16, 20] (by decide) (by decide) (by decide) (by decide) s
  simpa [forget] using congrArg State.regs h

theorem startSequence_supply (s : State) : (startSequence s).supply = s.supply := by
  have h := forget_startSequence [3, 15, 16, 20] (by decide) (by decide) (by decide) (by decide) s
  simpa [forget] using congrArg State.supply h

theorem jobCleared_resetBy (s : State) (code : Nat) (lasting : Bool) : JobCleared (resetBy s code lasting) := by
  simp [JobCleared, resetBy, startSequence_regs, startSequence_supply, clearedState, Regs.reset]

theorem jobCleared_powerOn (s : State) : JobCleared (powerOn s) := by
  simp [JobCleared, powerOn, clearedState, Regs.reset]

/-- The first closing of the switch brings no reset; every other one does. -/
theorem jobHeld_closeSwitch (s : State) : JobHeld s (closeSwitch s) := by
  by_cases h : s.supply.openCause = .none
  · exact jobHeld_of_regs (by simp [closeSwitch, startSequence_regs, h])
  · obtain ⟨hjob, hready, hreset⟩ := jobCleared_powerOn s
    exact .inr (by simp [JobCleared, closeSwitch, startSequence_regs, startSequence_supply, h, hjob, hready, hreset])

theorem jobHeld_execInputSwitchClose (s : State) : JobHeld s (endState s (execInputSwitchClose s)) := by
  unfold execInputSwitchClose
  rw [endState_ite]
  exact jobHeld_ite _ (jobHeld_of_regs rfl) (jobHeld_closeSwitch (s.setSupply { s.supply with mateJoined := true }))

theorem jobHeld_execPerstNAsserted (nanoseconds : Nat) (s : State) :
    JobHeld s (endState s (execPerstNAsserted nanoseconds s)) := by
  have pinned (x : State) : JobCleared ((resetBy x 2 true).setSupply { (resetBy x 2 true).supply with perst := true }) :=
    jobCleared_resetBy x 2 true
  unfold execPerstNAsserted
  simp only [endState_ite, endState_next]
  refine jobHeld_ite _ (jobHeld_of_regs rfl) (jobHeld_ite _ (jobHeld_of_regs ?pinOnly) (jobHeld_ite _ (.inr (pinned s)) ?short))
  case pinOnly => split <;> rfl
  case short => exact jobHeld_ite _ (.inr (pinned s.bump)) (jobHeld_of_regs rfl)

/-! ### A locked block over every command -/

theorem writeJob_locked {s : State} (reg value : Nat) (hset : s.regs.jobSet = true) : writeJob s reg value = s :=
  if_pos hset

theorem writeRing_regs (s : State) (reg value : Nat) : (writeRing s reg value).regs = s.regs := by
  simpa [forget] using congrArg State.regs (forget_writeRing [3] (by decide) s reg value)

theorem execRegisterWrite_regs {s : State} (offset : Nat) (wide : Bool) (value : Word) (hset : s.regs.jobSet = true) :
    (endState s (execRegisterWrite offset wide value s)).regs = s.regs := by
  unfold execRegisterWrite
  simp only [endState_ite, endState_next, writeJob_locked _ _ hset, apply_ite State.regs, writeRing_regs, ite_self]

/-- Only the commands that reach group 25 need a look: COMMIT and a register write, which the lock stops, and the resets. -/
theorem exec_jobHeld (i : Instr) {s : State} (hset : s.regs.jobSet = true) : JobHeld s (endState s (exec i s)) := by
  by_cases h25 : 25 ∈ touches i
  case neg => exact .inl (sameJobBlock_of_forget (exec_forget i s) h25)
  case pos =>
    have stays : JobHeld s s := jobHeld_of_regs rfl
    cases i with
    | jobCommit list => simpa only [exec, execJobCommit_locked list hset, endState_next] using stays
    | registerWrite offset wide value => exact jobHeld_of_regs (execRegisterWrite_regs offset wide value hset)
    | registerReset value => exact jobHeld_ite _ (.inr (jobCleared_resetBy s 5 false)) stays
    | linkReset => exact jobHeld_ite _ (.inr (jobCleared_resetBy s 3 false)) stays
    | functionLevelReset => exact jobHeld_ite _ (.inr (jobCleared_resetBy s 4 false)) stays
    | perstNAsserted nanoseconds => exact jobHeld_execPerstNAsserted nanoseconds s
    | powerOnReset => exact jobHeld_ite _ stays (.inr (jobCleared_powerOn s))
    | inputSwitchClose => exact jobHeld_execInputSwitchClose s
    | overcurrentRetry => exact jobHeld_ite _ (jobHeld_closeSwitch s) stays
    | overvoltageReclose => exact jobHeld_ite _ (jobHeld_closeSwitch s) stays
    | _ => simp [touches] at h25

theorem step_jobHeld {s t : State} (hset : s.regs.jobSet = true) (h : step s = .next t) : JobHeld s t := by
  unfold step at h
  split at h
  case h_1 =>
    cases h
    exact jobHeld_of_regs rfl
  case h_2 c rest _ =>
    have held := exec_jobHeld c (s := { s with pending := rest }) hset
    rw [h] at held
    exact held

/-- Settles O8: the checks of COMMIT case by case, and the lock by the frame of every command. -/
theorem jobBlockCommitsAndLocks : Obligations.JobBlockCommitsAndLocks := by
  refine ⟨?commit, ?lock⟩
  case commit =>
    intro s list hrun hlen
    refine ⟨fun hset => ⟨?ok, ?unsound, ?unsized⟩, execJobCommit_locked list⟩
    case ok => exact fun hsized hsound => execJobCommit_ok hrun hset hlen (commitCode_of_sound hsized hsound)
    case unsound =>
      exact fun hsized hsound => execJobCommit_refused hrun hset hlen (commitCode_of_not_sound hsized hsound) (by decide)
    case unsized => exact fun hsized => execJobCommit_refused hrun hset hlen (commitCode_of_not_sized hsized) (by decide)
  case lock =>
    intro s t hset h
    rcases step_jobHeld hset h with ⟨hjob, rest⟩ | cleared
    · exact .inl ⟨hjob.trans hset, rest⟩
    · exact .inr cleared

end Sys2Proof.Machine
end

section
/-! SUPPORT. The checks before a command's own pass (R243, R349), and the answer they give whatever the command. -/

namespace Sys2Proof.Machine

/-! ### What the entry checks answer -/

theorem entryStatus_of_badHeader (s : State) {d : Sub} (h : d.headerOk = false) : entryStatus s d = some .malformed := by
  simp [entryStatus, h]

theorem entryStatus_of_headerOk (s : State) {d : Sub} (h : d.headerOk = true) :
    entryStatus s d =
      if s.regs.jobSet = false ∧ d.opcode ∉ jobFreeOpcodes then some .rejectedConfig
      else if s.security.jobKey = none ∧ d.opcode ∈ keyOpcodes then some .security
      else none := by
  simp [entryStatus, h]

theorem entryStatus_eq_malformed_iff (s : State) (d : Sub) :
    entryStatus s d = some .malformed ↔ d.headerOk = false := by
  cases hok : d.headerOk with
  | false => exact ⟨fun _ => rfl, fun _ => entryStatus_of_badHeader s hok⟩
  | true =>
    rw [entryStatus_of_headerOk s hok]
    refine ⟨fun h => ?_, nofun⟩
    split at h
    · cases h
    · split at h <;> cases h

theorem entryStatus_eq_rejectedConfig_iff (s : State) {d : Sub} (h : d.headerOk = true) :
    entryStatus s d = some .rejectedConfig ↔ s.regs.jobSet = false ∧ d.opcode ∉ jobFreeOpcodes := by
  rw [entryStatus_of_headerOk s h]
  split
  next hjob => exact ⟨fun _ => hjob, fun _ => rfl⟩
  next hjob =>
    refine ⟨fun hst => ?_, fun hno => absurd hno hjob⟩
    split at hst <;> cases hst

theorem entryStatus_eq_security_iff (s : State) {d : Sub} (h : d.headerOk = true)
    (hjob : s.regs.jobSet = true ∨ d.opcode ∈ jobFreeOpcodes) :
    entryStatus s d = some .security ↔ s.security.jobKey = none ∧ d.opcode ∈ keyOpcodes := by
  have hpass : ¬ (s.regs.jobSet = false ∧ d.opcode ∉ jobFreeOpcodes) := fun ⟨hset, hfree⟩ =>
    hjob.elim (fun k => Bool.noConfusion (hset.symm.trans k)) hfree
  rw [entryStatus_of_headerOk s h, if_neg hpass]
  split
  next hkey => exact ⟨fun _ => hkey, fun _ => rfl⟩
  next hkey => exact ⟨nofun, fun hno => absurd hno hkey⟩

@[simp] theorem entryStatus_markBegun (s : State) (d e : Sub) : entryStatus (markBegun s d) e = entryStatus s e := rfl

/-! ### Every row answers with them -/

/-- The command completes with this status before any check of its own. -/
def AnsweredAtEntry (s : State) (d : Sub) (status : Status) (o : Out) : Prop :=
  ∃ d0 d1, o = .next (finishWith (markBegun s d) d status 0 d0 d1)

theorem beginCommand_answeredAtEntry {s : State} {d : Sub} {mine : Bool} {status : Status} (na : Nat) (run : State → State)
    (hbegin : canBegin s d = true) (hmine : mine = true) (hentry : entryStatus s d = some status) :
    AnsweredAtEntry s d status (beginCommand s d mine na run) :=
  ⟨na, na, by simp [beginCommand, hbegin, hmine, hentry]⟩

/-- The rows that begin a command, RESTORE_FROM_HANK apart: the opcode, and what else in the descriptor spells the row. -/
def commandRows (d : Sub) : List (Instr × Nat × Bool) :=
  [(.submitLattice d, 0x0001, d.body 4 1 != 1), (.submitLatticeRemove d, 0x0001, d.body 4 1 == 1),
    (.loadProgram d, 0x0002, true), (.unloadProgram d, 0x0003, true), (.stepInput d, 0x0010, true),
    (.evalRequest d, 0x0011, true), (.loadTableVersionBegin d, 0x0020, loadPhase d != 1 && loadPhase d != 2),
    (.loadTableVersionData d, 0x0020, loadPhase d == 1), (.loadTableVersionEnd d, 0x0020, loadPhase d == 2),
    (.retireTableVersion d, 0x0021, true), (.stageConfig d, 0x0030, true), (.commitConfig d, 0x0031, true),
    (.discardConfig d, 0x0032, true), (.secureNow d, 0x0040, true), (.reportFailure d, 0x0042, true),
    (.exportSkein d, 0x0050, true), (.deltaControlStart d, 0x0051, d.body 0 1 != 0),
    (.deltaControlStop d, 0x0051, d.body 0 1 == 0), (.telemetrySnapshot d, 0x0060, true),
    (.debugBreakArm d, 0x0070, d.body 1 1 != 0), (.debugBreakClear d, 0x0070, d.body 1 1 == 0),
    (.debugResume d, 0x0071, true)]

/-- Every row of the table is `beginCommand` with its own opcode and its own test. -/
theorem commandRows_answeredAtEntry {s : State} {d : Sub} {status : Status} (hbegin : canBegin s d = true)
    (hentry : entryStatus s d = some status) :
    ∀ row ∈ commandRows d, d.opcode = row.2.1 → row.2.2 = true → AnsweredAtEntry s d status (exec row.1 s) := by
  simp only [commandRows, List.forall_mem_cons, List.not_mem_nil, false_imp_iff, implies_true, and_true]
  and_intros
  all_goals
    intro hop hmine
    exact beginCommand_answeredAtEntry _ _ hbegin (by simp [hop, hmine]) hentry

/-- RESTORE_FROM_HANK reports the newest usable hank with every answer. -/
theorem restoreFromHank_answeredAtEntry {s : State} {d : Sub} {status : Status} (read : HankRead) (newest : Option Nat)
    (hbegin : canBegin s d = true) (hop : d.opcode = 0x0041) (hentry : entryStatus s d = some status) :
    AnsweredAtEntry s d status (exec (.restoreFromHank d read newest) s) :=
  ⟨newestUsable s d newest, notApplicable, by simp [exec, execRestoreFromHank, hbegin, hop, hentry]⟩

/-- A descriptor that spells no row is MALFORMED (R243). -/
theorem unknownOpcodeDescriptor_malformed {s : State} {d : Sub} (hbegin : canBegin s d = true)
    (h : d.opcode ∉ knownOpcodes ∨ d.headerOk = false) :
    exec (.unknownOpcodeDescriptor d) s =
      .next (finishWith (markBegun s d) d .malformed 0 (headerDetail d) (headerDetail d)) := by
  have hbad : (canBegin s d && (!knownOpcodes.contains d.opcode || !d.headerOk)) = true := by simpa [hbegin] using h
  simp only [exec, execUnknownOpcodeDescriptor, hbad, if_true]

/-- Settles O36: the order of the checks, and that every row answers with them before a check of its own. -/
theorem entryChecksAnswer : Obligations.EntryChecksAnswer := by
  intro s d hbegin
  refine ⟨entryStatus_eq_malformed_iff s d, entryStatus_eq_rejectedConfig_iff s, entryStatus_eq_security_iff s, ?rows,
    unknownOpcodeDescriptor_malformed hbegin⟩
  case rows =>
    rintro i opcode mine status hop hmine hentry (hrow | ⟨read, newest, rfl, rfl⟩)
    · exact commandRows_answeredAtEntry hbegin hentry _ hrow hop hmine
    · exact restoreFromHank_answeredAtEntry read newest hbegin hop hentry

end Sys2Proof.Machine
end

section
/-! SUPPORT. The fused minimum security version and the start of an image (R390): only the end of a reset sequence moves the
minimum or raises READY. -/

namespace Sys2Proof.Machine

/-! ### What a step can do to the minimum -/

/-- From `s` to `t` no image starts: the fused minimum stays, and READY does not come. -/
def NoImageStarts (s t : State) : Prop :=
  t.security.minSecVersion = s.security.minSecVersion ∧ (t.regs.ready = true → s.regs.ready = true)

/-- From `s` to `t` the ROM starts the image of the boot slot, which is not below the fused minimum, and raises the minimum to
its version. -/
def BootImageStarts (s t : State) : Prop :=
  t.security.running = s.security.boot ∧ s.security.minSecVersion ≤ t.security.running.secVersion ∧
    t.security.minSecVersion = max s.security.minSecVersion t.security.running.secVersion

/-! ### Commands that leave group 22 or 26 alone -/

theorem minSecVersion_of_forget {ks : List Nat} {s t : State} (h : forget ks t = forget ks s) (h22 : 22 ∉ ks) :
    t.security.minSecVersion = s.security.minSecVersion := by
  have hs := congrArg State.security h
  by_cases h18 : 18 ∈ ks
  · simpa only [forget, forgetSecurity, h18, h22, if_true, if_false] using congrArg Security.minSecVersion hs
  · exact congrArg Security.minSecVersion (by simpa only [forget, h18, if_false] using hs)

theorem ready_of_forget {ks : List Nat} {s t : State} (h : forget ks t = forget ks s) (h26 : 26 ∉ ks) :
    t.regs.ready = s.regs.ready := by
  have hr := congrArg (fun x => x.regs.ready) h
  by_cases h2 : 2 ∈ ks
  · by_cases h25 : 25 ∈ ks <;> simpa only [forget, forgetRegs, h2, h25, h26, if_true, if_false] using hr
  · simpa only [forget, h2, if_false] using hr

/-- Of all commands only the end of the reset sequence reaches the fused minimum. -/
theorem resetSequenceEnd_of_touches_minimum {i : Instr} (h : 22 ∈ touches i) : ∃ found, i = .resetSequenceEnd found := by
  cases i with
  | resetSequenceEnd found => exact ⟨found, rfl⟩
  | _ => simp [touches] at h

/-! ### Resets take READY away -/

@[simp] theorem resetBy_regs (s : State) (code : Nat) (lasting : Bool) :
    (resetBy s code lasting).regs = Regs.reset s.regs.energyCount :=
  startSequence_regs _

@[simp] theorem powerOn_regs (s : State) : (powerOn s).regs = Regs.reset 0 := rfl

/-- The first closing of the switch brings no reset; every other one is a power-on reset. -/
theorem closeSwitch_regs (s : State) :
    (closeSwitch s).regs = if s.supply.openCause = .none then s.regs else Regs.reset 0 := by
  rw [closeSwitch, startSequence_regs, State.setSupply_regs, apply_ite State.regs, powerOn_regs]

/-- From `s` to `t` the registers stay, or have their reset values but for the energy counter. -/
def RegsKeptOrReset (s t : State) : Prop := t.regs = s.regs ∨ ∃ energy, t.regs = Regs.reset energy

theorem RegsKeptOrReset.ready {s t : State} (h : RegsKeptOrReset s t) (ht : t.regs.ready = true) : s.regs.ready = true := by
  rcases h with hregs | ⟨energy, hregs⟩
  · exact hregs ▸ ht
  · rw [hregs] at ht
    exact Bool.noConfusion ht

theorem regsKeptOrReset_ite {s a b : State} (c : Prop) [Decidable c] (ha : RegsKeptOrReset s a) (hb : RegsKeptOrReset s b) :
    RegsKeptOrReset s (if c then a else b) := by
  split
  · exact ha
  · exact hb

theorem regsKeptOrReset_resetBy (s : State) (code : Nat) (lasting : Bool) : RegsKeptOrReset s (resetBy s code lasting) :=
  .inr ⟨_, resetBy_regs s code lasting⟩

theorem regsKeptOrReset_closeSwitch (s : State) : RegsKeptOrReset s (closeSwitch s) := by
  rw [RegsKeptOrReset, closeSwitch_regs]
  split
  · exact .inl rfl
  · exact .inr ⟨0, rfl⟩

theorem regsKeptOrReset_execInputSwitchClose (s : State) : RegsKeptOrReset s (endState s (execInputSwitchClose s)) := by
  rw [execInputSwitchClose, endState_ite]
  exact regsKeptOrReset_ite _ (.inl rfl) (regsKeptOrReset_closeSwitch (s.setSupply { s.supply with mateJoined := true }))

/-- Without core power only the pin is known; with it the length of the pulse, or the free choice, decides on the reset. -/
theorem regsKeptOrReset_execPerstNAsserted (nanoseconds : Nat) (s : State) :
    RegsKeptOrReset s (endState s (execPerstNAsserted nanoseconds s)) := by
  simp only [execPerstNAsserted, endState_ite, endState_next]
  refine regsKeptOrReset_ite _ (.inl rfl) (regsKeptOrReset_ite _ (.inl ?pinOnly) (regsKeptOrReset_ite _ ?long ?short))
  case pinOnly => split <;> rfl
  case long => exact regsKeptOrReset_resetBy s 2 true
  case short => exact regsKeptOrReset_ite _ (regsKeptOrReset_resetBy s.bump 2 true) (.inl rfl)

/-- READY does not come with any command but the end of the reset sequence: of the commands that reach group 26 the others are
resets. -/
theorem exec_ready {i : Instr} (hi : ∀ found, i ≠ .resetSequenceEnd found) (s : State)
    (ht : (endState s (exec i s)).regs.ready = true) : s.regs.ready = true := by
  by_cases h26 : 26 ∈ touches i
  case neg => exact ready_of_forget (exec_forget i s) h26 ▸ ht
  case pos =>
    refine RegsKeptOrReset.ready ?_ ht
    cases i with
    | resetSequenceEnd found => exact absurd rfl (hi found)
    | registerReset value => exact regsKeptOrReset_ite _ (regsKeptOrReset_resetBy s 5 false) (.inl rfl)
    | linkReset => exact regsKeptOrReset_ite _ (regsKeptOrReset_resetBy s 3 false) (.inl rfl)
    | functionLevelReset => exact regsKeptOrReset_ite _ (regsKeptOrReset_resetBy s 4 false) (.inl rfl)
    | perstNAsserted nanoseconds => exact regsKeptOrReset_execPerstNAsserted nanoseconds s
    | powerOnReset => exact regsKeptOrReset_ite _ (.inl rfl) (.inr ⟨0, powerOn_regs s⟩)
    | inputSwitchClose => exact regsKeptOrReset_execInputSwitchClose s
    | overcurrentRetry => exact regsKeptOrReset_ite _ (regsKeptOrReset_closeSwitch s) (.inl rfl)
    | overvoltageReclose => exact regsKeptOrReset_ite _ (regsKeptOrReset_closeSwitch s) (.inl rfl)
    | _ => simp [touches] at h26

/-! ### The end of the reset sequence -/

/-- RESET_SEQUENCE_END does nothing, or starts the boot image, or stops at the recovery loader. -/
theorem execResetSequenceEnd_startsOrNot (found : SelfTest) (s : State) :
    NoImageStarts s (endState s (execResetSequenceEnd found s)) ∨
      BootImageStarts s (endState s (execResetSequenceEnd found s)) := by
  unfold execResetSequenceEnd
  split
  case isTrue => exact .inl ⟨rfl, id⟩
  case isFalse =>
    split
    case isTrue hboot =>
      have hmin : s.security.minSecVersion ≤ s.security.boot.secVersion := of_decide_eq_true (Bool.and_eq_true_iff.mp hboot).2
      exact .inr ⟨rfl, hmin, rfl⟩
    case isFalse => exact .inl ⟨rfl, id⟩

/-! ### Every step -/

theorem exec_startsOrNot (i : Instr) (s : State) :
    NoImageStarts s (endState s (exec i s)) ∨ BootImageStarts s (endState s (exec i s)) := by
  by_cases hi : ∃ found, i = .resetSequenceEnd found
  case pos =>
    obtain ⟨found, rfl⟩ := hi
    exact execResetSequenceEnd_startsOrNot found s
  case neg =>
    have hmin := minSecVersion_of_forget (exec_forget i s) (fun h22 => hi (resetSequenceEnd_of_touches_minimum h22))
    exact .inl ⟨hmin, exec_ready (not_exists.mp hi) s⟩

/-- A step moves the fused minimum, or raises READY, only where it starts the boot image. -/
theorem step_startsOrNot {s t : State} (h : step s = .next t) : NoImageStarts s t ∨ BootImageStarts s t := by
  unfold step at h
  split at h
  case h_1 =>
    cases h
    exact .inl ⟨rfl, id⟩
  case h_2 c rest _ =>
    have held := exec_startsOrNot c { s with pending := rest }
    rw [h] at held
    exact held

/-- Settles O6: a step that starts no image keeps the minimum and READY at 0; one that does takes the maximum. -/
theorem fusedMinimumNeverDecreases : Obligations.FusedMinimumNeverDecreases := by
  intro s t h
  rcases step_startsOrNot h with ⟨hmin, hready⟩ | started
  · refine ⟨Nat.le_of_eq hmin.symm, fun hs ht => ?_⟩
    exact Bool.noConfusion (hs.symm.trans (hready ht))
  · have ⟨_, _, hmax⟩ := started
    exact ⟨hmax ▸ Nat.le_max_left _ _, fun _ _ => started⟩

end Sys2Proof.Machine
end

section
/-! SUPPORT. The frame of an operation, read group by group: from the groups it can change (Laws/Frame.lean) the groups that
stay, and how the frames of Safety.SameBut compose. -/

namespace Sys2Proof.Machine

open Sys2Proof.Safety

/-! ### What an operation leaves -/

theorem supply_of_forget {ks : List Nat} {s t : State} (h : forget ks t = forget ks s) (hk : 1 ∉ ks) : t.supply = s.supply := by
  simpa only [forget, hk, if_false] using congrArg State.supply h

theorem regs_of_forget {ks : List Nat} {s t : State} (h : forget ks t = forget ks s) (hk : 2 ∉ ks) : t.regs = s.regs := by
  simpa only [forget, hk, if_false] using congrArg State.regs h

theorem rings_of_forget {ks : List Nat} {s t : State} (h : forget ks t = forget ks s) (hk : 3 ∉ ks) : t.rings = s.rings := by
  simpa only [forget, hk, if_false] using congrArg State.rings h

theorem cfg_of_forget {ks : List Nat} {s t : State} (h : forget ks t = forget ks s) (hk : 4 ∉ ks) : t.cfg = s.cfg := by
  simpa only [forget, hk, if_false] using congrArg State.cfg h

theorem steps_of_forget {ks : List Nat} {s t : State} (h : forget ks t = forget ks s) (hk : 5 ∉ ks) : t.steps = s.steps := by
  simpa only [forget, hk, if_false] using congrArg State.steps h

theorem tables_of_forget {ks : List Nat} {s t : State} (h : forget ks t = forget ks s) (hk : 6 ∉ ks) : t.tables = s.tables := by
  simpa only [forget, hk, if_false] using congrArg State.tables h

theorem programs_of_forget {ks : List Nat} {s t : State} (h : forget ks t = forget ks s) (hk : 7 ∉ ks) : t.programs = s.programs := by
  simpa only [forget, hk, if_false] using congrArg State.programs h

theorem lattices_of_forget {ks : List Nat} {s t : State} (h : forget ks t = forget ks s) (hk : 8 ∉ ks) : t.lattices = s.lattices := by
  simpa only [forget, hk, if_false] using congrArg State.lattices h

theorem window_of_forget {ks : List Nat} {s t : State} (h : forget ks t = forget ks s) (hk : 9 ∉ ks) : t.window = s.window := by
  simpa only [forget, hk, if_false] using congrArg State.window h

theorem tensors_of_forget {ks : List Nat} {s t : State} (h : forget ks t = forget ks s) (hk : 10 ∉ ks) : t.tensors = s.tensors := by
  simpa only [forget, hk, if_false] using congrArg State.tensors h

theorem spindles_of_forget {ks : List Nat} {s t : State} (h : forget ks t = forget ks s) (hk : 11 ∉ ks) : t.spindles = s.spindles := by
  simpa only [forget, hk, if_false] using congrArg State.spindles h

theorem owners_of_forget {ks : List Nat} {s t : State} (h : forget ks t = forget ks s) (hk : 12 ∉ ks) : t.owners = s.owners := by
  simpa only [forget, hk, if_false] using congrArg State.owners h

theorem dense_of_forget {ks : List Nat} {s t : State} (h : forget ks t = forget ks s) (hk : 13 ∉ ks) : t.dense = s.dense := by
  simpa only [forget, hk, if_false] using congrArg State.dense h

theorem links_of_forget {ks : List Nat} {s t : State} (h : forget ks t = forget ks s) (hk : 14 ∉ ks) : t.links = s.links := by
  simpa only [forget, hk, if_false] using congrArg State.links h

theorem power_of_forget {ks : List Nat} {s t : State} (h : forget ks t = forget ks s) (hk : 15 ∉ ks) : t.power = s.power := by
  simpa only [forget, hk, if_false] using congrArg State.power h

theorem securing_of_forget {ks : List Nat} {s t : State} (h : forget ks t = forget ks s) (hk : 16 ∉ ks) : t.securing = s.securing := by
  simpa only [forget, hk, if_false] using congrArg State.securing h

theorem outputs_of_forget {ks : List Nat} {s t : State} (h : forget ks t = forget ks s) (hk : 17 ∉ ks) : t.outputs = s.outputs := by
  simpa only [forget, hk, if_false] using congrArg State.outputs h

theorem security_of_forget {ks : List Nat} {s t : State} (h : forget ks t = forget ks s) (hk : 18 ∉ ks) : t.security = s.security := by
  simpa only [forget, hk, if_false] using congrArg State.security h

theorem telemetry_of_forget {ks : List Nat} {s t : State} (h : forget ks t = forget ks s) (hk : 19 ∉ ks) : t.telemetry = s.telemetry := by
  simpa only [forget, hk, if_false] using congrArg State.telemetry h

theorem sequences_of_forget {ks : List Nat} {s t : State} (h : forget ks t = forget ks s) (hk : 20 ∉ ks) : t.sequences = s.sequences := by
  simpa only [forget, hk, if_false] using congrArg State.sequences h

/-! ### Frames -/

theorem SameBut.supply {gs : List Group} {s t : State} (h : SameBut gs s t) (hg : Group.supply ∉ gs) : t.supply = s.supply := by
  simpa only [SameBut, hg, false_or] using h.2.1

theorem SameBut.regs {gs : List Group} {s t : State} (h : SameBut gs s t) (hg : Group.regs ∉ gs) : t.regs = s.regs := by
  simpa only [SameBut, hg, false_or] using h.2.2.1

theorem SameBut.rings {gs : List Group} {s t : State} (h : SameBut gs s t) (hg : Group.rings ∉ gs) : t.rings = s.rings := by
  simpa only [SameBut, hg, false_or] using h.2.2.2.1

theorem SameBut.cfg {gs : List Group} {s t : State} (h : SameBut gs s t) (hg : Group.cfg ∉ gs) : t.cfg = s.cfg := by
  simpa only [SameBut, hg, false_or] using h.2.2.2.2.1

theorem SameBut.steps {gs : List Group} {s t : State} (h : SameBut gs s t) (hg : Group.steps ∉ gs) : t.steps = s.steps := by
  simpa only [SameBut, hg, false_or] using h.2.2.2.2.2.1

theorem SameBut.tables {gs : List Group} {s t : State} (h : SameBut gs s t) (hg : Group.tables ∉ gs) : t.tables = s.tables := by
  simpa only [SameBut, hg, false_or] using h.2.2.2.2.2.2.1

theorem SameBut.programs {gs : List Group} {s t : State} (h : SameBut gs s t) (hg : Group.programs ∉ gs) : t.programs = s.programs := by
  simpa only [SameBut, hg, false_or] using h.2.2.2.2.2.2.2.1

theorem SameBut.lattices {gs : List Group} {s t : State} (h : SameBut gs s t) (hg : Group.lattices ∉ gs) : t.lattices = s.lattices := by
  simpa only [SameBut, hg, false_or] using h.2.2.2.2.2.2.2.2.1

theorem SameBut.window {gs : List Group} {s t : State} (h : SameBut gs s t) (hg : Group.window ∉ gs) : t.window = s.window := by
  simpa only [SameBut, hg, false_or] using h.2.2.2.2.2.2.2.2.2.1

theorem SameBut.tensors {gs : List Group} {s t : State} (h : SameBut gs s t) (hg : Group.tensors ∉ gs) : t.tensors = s.tensors := by
  simpa only [SameBut, hg, false_or] using h.2.2.2.2.2.2.2.2.2.2.1

theorem SameBut.spindles {gs : List Group} {s t : State} (h : SameBut gs s t) (hg : Group.spindles ∉ gs) : t.spindles = s.spindles := by
  simpa only [SameBut, hg, false_or] using h.2.2.2.2.2.2.2.2.2.2.2.1

theorem SameBut.owners {gs : List Group} {s t : State} (h : SameBut gs s t) (hg : Group.owners ∉ gs) : t.owners = s.owners := by
  simpa only [SameBut, hg, false_or] using h.2.2.2.2.2.2.2.2.2.2.2.2.1

theorem SameBut.dense {gs : List Group} {s t : State} (h : SameBut gs s t) (hg : Group.dense ∉ gs) : t.dense = s.dense := by
  simpa only [SameBut, hg, false_or] using h.2.2.2.2.2.2.2.2.2.2.2.2.2.1

theorem SameBut.links {gs : List Group} {s t : State} (h : SameBut gs s t) (hg : Group.links ∉ gs) : t.links = s.links := by
  simpa only [SameBut, hg, false_or] using h.2.2.2.2.2.2.2.2.2.2.2.2.2.2.1

theorem SameBut.power {gs : List Group} {s t : State} (h : SameBut gs s t) (hg : Group.power ∉ gs) : t.power = s.power := by
  simpa only [SameBut, hg, false_or] using h.2.2.2.2.2.2.2.2.2.2.2.2.2.2.2.1

theorem SameBut.securing {gs : List Group} {s t : State} (h : SameBut gs s t) (hg : Group.securing ∉ gs) : t.securing = s.securing := by
  simpa only [SameBut, hg, false_or] using h.2.2.2.2.2.2.2.2.2.2.2.2.2.2.2.2.1

theorem SameBut.outputs {gs : List Group} {s t : State} (h : SameBut gs s t) (hg : Group.outputs ∉ gs) : t.outputs = s.outputs := by
  simpa only [SameBut, hg, false_or] using h.2.2.2.2.2.2.2.2.2.2.2.2.2.2.2.2.2.1

theorem SameBut.security {gs : List Group} {s t : State} (h : SameBut gs s t) (hg : Group.security ∉ gs) : t.security = s.security := by
  simpa only [SameBut, hg, false_or] using h.2.2.2.2.2.2.2.2.2.2.2.2.2.2.2.2.2.2.1

theorem SameBut.telemetry {gs : List Group} {s t : State} (h : SameBut gs s t) (hg : Group.telemetry ∉ gs) : t.telemetry = s.telemetry := by
  simpa only [SameBut, hg, false_or] using h.2.2.2.2.2.2.2.2.2.2.2.2.2.2.2.2.2.2.2.1

theorem SameBut.sequences {gs : List Group} {s t : State} (h : SameBut gs s t) (hg : Group.sequences ∉ gs) : t.sequences = s.sequences := by
  simpa only [SameBut, hg, false_or] using h.2.2.2.2.2.2.2.2.2.2.2.2.2.2.2.2.2.2.2.2.1

theorem SameBut.freeCount {gs : List Group} {s t : State} (h : SameBut gs s t) (hg : Group.freeCount ∉ gs) : t.freeCount = s.freeCount := by
  simpa only [SameBut, hg, false_or] using h.2.2.2.2.2.2.2.2.2.2.2.2.2.2.2.2.2.2.2.2.2

theorem SameBut.refl (gs : List Group) (s : State) : SameBut gs s s := by
  simp only [SameBut, or_true, and_self]

/-- One group of a frame, over two operations. -/
theorem frame_trans {α : Type} {p : Prop} {a b c : α} (h : p ∨ b = a) (k : p ∨ c = b) : p ∨ c = a :=
  h.elim .inl fun h => k.imp_right fun k => k.trans h

theorem SameBut.trans {gs : List Group} {s t u : State} (h : SameBut gs s t) (k : SameBut gs t u) : SameBut gs s u := by
  obtain ⟨h0, h1, h2, h3, h4, h5, h6, h7, h8, h9, h10, h11, h12, h13, h14, h15, h16, h17, h18, h19, h20, h21⟩ := h
  obtain ⟨k0, k1, k2, k3, k4, k5, k6, k7, k8, k9, k10, k11, k12, k13, k14, k15, k16, k17, k18, k19, k20, k21⟩ := k
  exact ⟨k0.trans h0, frame_trans h1 k1, frame_trans h2 k2, frame_trans h3 k3, frame_trans h4 k4, frame_trans h5 k5,
    frame_trans h6 k6, frame_trans h7 k7, frame_trans h8 k8, frame_trans h9 k9, frame_trans h10 k10, frame_trans h11 k11,
    frame_trans h12 k12, frame_trans h13 k13, frame_trans h14 k14, frame_trans h15 k15, frame_trans h16 k16, frame_trans h17
    k17, frame_trans h18 k18, frame_trans h19 k19, frame_trans h20 k20, frame_trans h21 k21⟩

/-- A frame that leaves more groups out. -/
theorem SameBut.mono {gs hs : List Group} {s t : State} (h : SameBut gs s t) (k : ∀ g ∈ gs, g ∈ hs) : SameBut hs s t := by
  obtain ⟨h0, h1, h2, h3, h4, h5, h6, h7, h8, h9, h10, h11, h12, h13, h14, h15, h16, h17, h18, h19, h20, h21⟩ := h
  exact ⟨h0, h1.imp_left (k _), h2.imp_left (k _), h3.imp_left (k _), h4.imp_left (k _), h5.imp_left (k _), h6.imp_left (k
    _), h7.imp_left (k _), h8.imp_left (k _), h9.imp_left (k _), h10.imp_left (k _), h11.imp_left (k _), h12.imp_left (k _),
    h13.imp_left (k _), h14.imp_left (k _), h15.imp_left (k _), h16.imp_left (k _), h17.imp_left (k _), h18.imp_left (k _),
    h19.imp_left (k _), h20.imp_left (k _), h21.imp_left (k _)⟩

end Sys2Proof.Machine
end

section
/-! SUPPORT. What every step does and keeps: it runs the command at the front, and keeps the frames of that command and the
canonical form of the byte memories. -/

namespace Sys2Proof.Machine

open Sys2Proof.Safety

theorem step_of_pending_nil {s : State} (h : s.pending = []) : step s = .next s := by
  simp only [step, h]

theorem step_of_pending_cons {s : State} {c : Instr} {rest : List Instr} (h : s.pending = c :: rest) :
    step s = exec c { s with pending := rest } := by
  simp only [step, h]

/-- Settles O1, by the two cases of the queue. -/
theorem stepRunsFrontCommand : Obligations.StepRunsFrontCommand :=
  ⟨fun _ _ _ => step_of_pending_cons, fun _ => step_of_pending_nil⟩

/-- Settles O2: each value stands in State.reset. -/
theorem resetValues : Obligations.ResetValues := by
  refine ⟨?values, ?canonical⟩
  case values => and_intros <;> rfl
  case canonical => rfl

/-- The groups that a command touches are among those that it is said to reach. -/
theorem touches_subset_reach (i : Instr) : (touches i).all (fun k => (stateGroup k).all (reach i).contains) = true := by
  cases i <;> rfl

/-- Settles O4, by the frame of every command (Laws/Same.lean). -/
theorem commandsReachOnlyTheirGroups : Obligations.CommandsReachOnlyTheirGroups :=
  fun i s t h => exec_sameBut i (reach i) s t h (touches_subset_reach i)

/-- Settles O5: an idle step changes nothing, and every command keeps the canonical form (Laws/Touch.lean). -/
theorem stepKeepsMemoriesCanonical : Obligations.StepKeepsMemoriesCanonical := by
  intro s t hok h
  cases hq : s.pending with
  | nil =>
    rw [step_of_pending_nil hq] at h
    cases h
    exact hok
  | cons c rest =>
    have kept := exec_memoriesOk c { s with pending := rest } hok
    rwa [← step_of_pending_cons hq, h, endState_next] at kept

end Sys2Proof.Machine
end

section
/-! SUPPORT. Every command answers (R341, log entry 2): the one fault is a host store past the window. -/

namespace Sys2Proof.Machine

/-- The command ends in a next state. -/
def Answers (o : Out) : Prop := ∃ t, o = .next t

theorem answers_next (t : State) : Answers (.next t) := ⟨t, rfl⟩

theorem answers_ite {c : Prop} [Decidable c] {a b : Out} (ha : Answers a) (hb : Answers b) : Answers (if c then a else b) := by
  split
  · exact ha
  · exact hb

theorem beginCommand_answers (s : State) (d : Sub) (mine : Bool) (na : Nat) (run : State → State) :
    Answers (beginCommand s d mine na run) := by
  unfold beginCommand
  refine answers_ite ?_ (answers_next _)
  split
  all_goals exact answers_next _

theorem receive_answers (s : State) (rx : Rx) (kind : Nat) (body : MsgBody) (layoutOk : Bool) (run : State → State) :
    Answers (receive s rx kind body layoutOk run) := by
  unfold receive
  split
  · exact answers_next _
  · exact answers_ite (answers_next _) (answers_next _)

theorem plyStep_answers (s : State) (c : CtxId) (w : Word) (op : Nat) (run : Context → Image → FuncEntry → State) :
    Answers (plyStep s c w op run) := by
  unfold plyStep
  split
  · exact answers_next _
  · split
    · exact answers_next _
    · exact answers_ite (answers_next _) (answers_next _)

theorem registerStep_answers (s : State) (c : CtxId) (w : Word) (op : Nat) (f : Context → Context) :
    Answers (registerStep s c w op f) :=
  plyStep_answers s c w op _

/-- DOORBELL faults on the first store past the window, and answers otherwise. -/
theorem execDoorbell_answers_or_faults (ring : Nat) (producer : Word32) (descs : List Wide) (stores : List Store) (s : State) :
    Answers (execDoorbell ring producer descs stores s) ∨
      ∃ w ∈ stores, 2 ^ 32 < w.offset + w.bytes.length ∧
        execDoorbell ring producer descs stores s = .fault (.windowRange w.offset) := by
  unfold execDoorbell
  split
  case isTrue => exact .inl (answers_next s)
  case isFalse =>
    split
    case h_1 w hfind =>
      have hout : storeOutside w = true := List.find?_some hfind
      exact .inr ⟨w, List.mem_of_find?_eq_some hfind, of_decide_eq_true hout, rfl⟩
    case h_2 =>
      exact .inl (answers_ite (answers_next _)
        (answers_ite (answers_next _) (answers_ite (answers_next _) (answers_next _))))

/-- COMMIT_DECISION is received from the parent, and is the root's own without one. -/
theorem execCommitDecision_answers (rx : Rx) (f : CommitDecisionF) (s : State) : Answers (execCommitDecision rx f s) := by
  unfold execCommitDecision
  split
  · exact answers_ite (answers_next _) (answers_next _)
  · exact receive_answers _ _ _ _ _ _

/-- Every command but DOORBELL answers. -/
theorem exec_answers (i : Instr) (s : State) (hi : ∀ ring producer descs stores, i ≠ .doorbell ring producer descs stores) :
    Answers (exec i s) := by
  cases i with
  | doorbell ring producer descs stores => exact absurd rfl (hi ring producer descs stores)
  | commandAcceptanceResume _ | unknownOpcodeDescriptor _ | registerReset _ | getVersion _ | getCapabilities _
  | negotiateAlgorithms _ _ | getDigests _ | getCertificate _ _ _ _ | challenge _ _ _ | getMeasurements _ _ _ _
  | keyExchange _ _ | finish _ _ | heartbeat _ | keyUpdate _ _ | endSession _ | powerOnReset | linkReset | functionLevelReset
  | inputOvervoltage | inputOvercurrent | overcurrentRetry | heldEventPost _ | overvoltageReclose =>
    exact answers_next _
  | submitLattice _ | submitLatticeRemove _ | loadProgram _ | unloadProgram _ | stepInput _ | evalRequest _
  | loadTableVersionBegin _ | loadTableVersionData _ | loadTableVersionEnd _ | retireTableVersion _ | stageConfig _
  | commitConfig _ | discardConfig _ | secureNow _ | reportFailure _ | exportSkein _ | deltaControlStart _
  | deltaControlStop _ | telemetrySnapshot _ | debugBreakArm _ | debugBreakClear _ | debugResume _ =>
    exact beginCommand_answers _ _ _ _ _
  | rowRequest _ _ | rowData _ _ | partialSum _ _ | streamData _ _ | streamEnd _ _ | skeinTransfer _ _ | treeBlock _ _
  | sliceData _ _ | digest _ _ | hankData _ _ | commitReport _ _ | securingReport _ _ | securingDecision _ _ | halt _ _
  | grant _ _ =>
    exact receive_answers _ _ _ _ _ _
  | jobCommit _ | ringDisable _ | ringRearm _ _ _ | energyCountLowRead | installJobKey _ _ _ | queryState _ _
  | firmwareBegin _ _ | firmwareData _ _ | firmwareEnd _ _ | firmwareAbort _ _ | debugChallenge _ _ | debugUnlock _ _
  | inputSwitchClose | perstNDeasserted | mateSenseReleased | lossOfInput | pwrBrakeNDeasserted | brakeEnd | thermTripClear
  | wearBudgetAccrual | diePark _ | nandChannelIdle _ | portRetry _ | keepaliveSend _ | livenessLost _
  | creditAdvertisement _ _ | keepalive _ | replayRequest _ _ | credit _ _ _ | chordModuleFailure _ | securingHoldEnd _ =>
    exact answers_ite (answers_next _) (answers_next _)
  | resetSequenceEnd _ | laneFailure _ _ | frameDiscard _ _ | flashReclaim =>
    exact answers_ite (answers_next _) (answers_ite (answers_next _) (answers_next _))
  | mov c w => exact (registerStep_answers _ _ _ _ _ : Answers (execMov c w s))
  | movi c w => exact (registerStep_answers _ _ _ _ _ : Answers (execMovi c w s))
  | movhi c w => exact (registerStep_answers _ _ _ _ _ : Answers (execMovhi c w s))
  | alu c w => exact (registerStep_answers _ _ _ _ _ : Answers (execAlu c w s))
  | alui c w => exact (registerStep_answers _ _ _ _ _ : Answers (execAlui c w s))
  | cmp c w => exact (registerStep_answers _ _ _ _ _ : Answers (execCmp c w s))
  | sel c w => exact (registerStep_answers _ _ _ _ _ : Answers (execSel c w s))
  | fop c w => exact (registerStep_answers _ _ _ _ _ : Answers (execFop c w s))
  | widen c w => exact (registerStep_answers _ _ _ _ _ : Answers (execWiden c w s))
  | narrow c w => exact (registerStep_answers _ _ _ _ _ : Answers (execNarrow c w s))
  | bcast c w => exact (registerStep_answers _ _ _ _ _ : Answers (execBcast c w s))
  | reduce c w => exact (registerStep_answers _ _ _ _ _ : Answers (execReduce c w s))
  | tload c w => exact (plyStep_answers _ _ _ _ _ : Answers (execTload c w s))
  | tstore c w => exact (plyStep_answers _ _ _ _ _ : Answers (execTstore c w s))
  | tmove c w => exact (plyStep_answers _ _ _ _ _ : Answers (execTmove c w s))
  | tile c w => exact (plyStep_answers _ _ _ _ _ : Answers (execTile c w s))
  | product c w => exact (plyStep_answers _ _ _ _ _ : Answers (execProduct c w s))
  | layer c w => exact (plyStep_answers _ _ _ _ _ : Answers (execLayer c w s))
  | signal c w => exact (plyStep_answers _ _ _ _ _ : Answers (execSignal c w s))
  | wait c w => exact (plyStep_answers _ _ _ _ _ : Answers (execWait c w s))
  | readctr c w => exact (registerStep_answers _ _ _ _ _ : Answers (execReadctr c w s))
  | br c w => exact (plyStep_answers _ _ _ _ _ : Answers (execBr c w s))
  | brc c w => exact (plyStep_answers _ _ _ _ _ : Answers (execBrc c w s))
  | loop c w => exact (plyStep_answers _ _ _ _ _ : Answers (execLoop c w s))
  | call c w => exact (plyStep_answers _ _ _ _ _ : Answers (execCall c w s))
  | ret c w => exact (plyStep_answers _ _ _ _ _ : Answers (execRet c w s))
  | retire c w => exact (plyStep_answers _ _ _ _ _ : Answers (execRetire c w s))
  | query c w => exact (plyStep_answers _ _ _ _ _ : Answers (execQuery c w s))
  | commitDecision rx f => exact execCommitDecision_answers rx f s
  | loadProgramSlotTaken _ | translationEnd _ | stepInputBlocksRead _ _ | evalBlocksRead _ _ _ | evalComplete _ _
  | restoreFromHank _ _ _ | restoreEnd | exportChunk _ _ _ | unitEnable _ | unitDisable _ | ringEnable _ _ _ _ _
  | registerWrite _ _ _ | perstNAsserted _ | brakeEntered _ | grantRound _ | unitDrainEnd _ | unitWakeEnd _ _
  | portTrainingEnd _ _ _ _ | hello _ _ _ _ _ | confirmation _ _ _ _ | reStripe _ _ _ _ | frameForward _ _ _ _ _ _ _ _ _ _
  | rowRequestServe _ _ _ _ | commitReportSend | sliverColumnTest _ _ _ | cardingPassEnd _ _ _
  | placementMove _ _ | pageMoveEnd _ | flashRereadEnd _ | backgroundScrub _ _ _ | memoryPortFailure _ | parkedEntryApply _ _
  | updateKernelInvocation _ _ _ | treeBlockForward _ _ | denseBlockUpdate _ _ | weightGradientTileDrain _ _ _ _
  | vertexDispatch _ _ _ | waitSatisfied _ | queueAccept _ | queueCommandComplete _ | loopEnd _ | hankPageCopy _ _
  | hankSeal _ | routeTableFree | reservedFrameKind _ _ | recordsReachedTier _ _ =>
    simp only [exec, execLoadProgramSlotTaken, execTranslationEnd, execStepInputBlocksRead, execEvalBlocksRead,
      execEvalComplete, execRestoreFromHank, execRestoreEnd, execExportChunk, execUnitEnable, execUnitDisable,
      execRingEnable, execRegisterWrite, execPerstNAsserted, execBrakeEntered, execGrantRound, execUnitDrainEnd,
      execUnitWakeEnd, execPortTrainingEnd, execHello, execConfirmation, execReStripe, execFrameForward, execRowRequestServe,
      execCommitReportSend, execSliverColumnTest, execCardingPassEnd, execPlacementMove, execPageMoveEnd,
      execFlashRereadEnd, execBackgroundScrub, execMemoryPortFailure, execParkedEntryApply, execUpdateKernelInvocation,
      execTreeBlockForward, execDenseBlockUpdate, execWeightGradientTileDrain, execVertexDispatch, execWaitSatisfied,
      execQueueAccept, execQueueCommandComplete, execLoopEnd, execHankPageCopy, execHankSeal, execRouteTableFree,
      execReservedFrameKind, execRecordsReachedTier]
    repeat' split
    all_goals exact answers_next _

/-- Settles O3: DOORBELL faults on a store past the window (log entry 2), and every other command answers. -/
theorem everyCommandAnswers : Obligations.EveryCommandAnswers := by
  intro i s
  by_cases hi : ∃ ring producer descs stores, i = .doorbell ring producer descs stores
  case pos =>
    obtain ⟨ring, producer, descs, stores, rfl⟩ := hi
    rcases execDoorbell_answers_or_faults ring producer descs stores s with hnext | ⟨w, hw, hout, hfault⟩
    · exact .inl hnext
    · exact .inr ⟨ring, producer, descs, stores, w, rfl, hw, hout, hfault⟩
  case neg =>
    exact .inl (exec_answers i s (fun ring producer descs stores h => hi ⟨ring, producer, descs, stores, h⟩))

end Sys2Proof.Machine
end

section
/-! SUPPORT. The frames of a flow never pass one another (R306): each waiting frame that is tried goes behind the frames of
its flow, sent or waiting, and the order in which they are tried keeps the order within a flow. -/

namespace Sys2Proof.Machine

/-! ### Flows -/

theorem sameFlow_iff (f g : OutFrame) :
    sameFlow f g = true ↔ f.source = g.source ∧ f.dest = g.dest ∧ f.cls = g.cls ∧ f.flow = g.flow := by
  simp only [sameFlow, Bool.and_eq_true, beq_iff_eq, and_assoc]

/-- Two frames of one flow are of a flow with the same frames. -/
theorem sameFlow_congr {f g : OutFrame} (h : sameFlow f g = true) : sameFlow f = sameFlow g := by
  obtain ⟨hsource, hdest, hcls, hflow⟩ := (sameFlow_iff f g).mp h
  funext x
  simp only [sameFlow, hsource, hdest, hcls, hflow]

@[simp] theorem sameFlow_withHops (f g : OutFrame) (n : Nat) : sameFlow f (g.withHops n) = sameFlow f g := rfl

@[simp] theorem sameFlow_counted (f g : OutFrame) (n : Nat) : sameFlow f (g.counted n) = sameFlow f g := rfl

/-- A frame without what a link changes in it: HOPS, SEQUENCE and KEY_EPOCH. -/
def OutFrame.endToEnd (g : OutFrame) : OutFrame := { g with hops := 0, seq := 0, keyEpoch := false }

@[simp] theorem endToEnd_withHops (g : OutFrame) (n : Nat) : (g.withHops n).endToEnd = g.endToEnd := rfl

@[simp] theorem endToEnd_counted (g : OutFrame) (n : Nat) : (g.counted n).endToEnd = g.endToEnd := rfl

/-- The frames of the flow of `f` in a list, as their members sent them. -/
def flowOf (f : OutFrame) (l : List OutFrame) : List OutFrame := (l.filter (sameFlow f)).map OutFrame.endToEnd

theorem flowOf_append (f : OutFrame) (l r : List OutFrame) : flowOf f (l ++ r) = flowOf f l ++ flowOf f r := by
  simp only [flowOf, List.filter_append, List.map_append]

theorem flowOf_cons (f g : OutFrame) (l : List OutFrame) : flowOf f (g :: l) = flowOf f [g] ++ flowOf f l :=
  flowOf_append f [g] l

/-- The frames of a flow that have been sent or wait, oldest first. -/
def flowFrames (f : OutFrame) (s : State) : List OutFrame := flowOf f (s.links.sent.map (·.2) ++ s.links.waiting)

/-- A flow is of one class, so that trying class 4 first keeps its order. -/
theorem flowOf_sendOrder (f : OutFrame) (l : List OutFrame) : flowOf f (sendOrder l) = flowOf f l := by
  have hcls : ∀ g, sameFlow f g = true → g.cls = f.cls := fun g h => ((sameFlow_iff f g).mp h).2.2.1.symm
  have kept : ∀ p : OutFrame → Bool, (∀ g, sameFlow f g = true → p g = true) →
      (l.filter p).filter (sameFlow f) = l.filter (sameFlow f) := by
    intro p hp
    rw [List.filter_filter]
    refine List.filter_congr fun g _ => ?_
    cases hg : sameFlow f g
    · rfl
    · simp only [hp g hg, Bool.and_self]
  have dropped : ∀ p : OutFrame → Bool, (∀ g, sameFlow f g = true → p g = false) →
      (l.filter p).filter (sameFlow f) = [] := by
    intro p hp
    rw [List.filter_filter, List.filter_eq_nil_iff]
    intro g _ hg
    simp only [Bool.and_eq_true] at hg
    exact Bool.noConfusion ((hp g hg.1).symm.trans hg.2)
  rw [flowOf, sendOrder, List.filter_append]
  by_cases h4 : f.cls = 4
  · rw [kept (fun g => g.cls == 4) (by simp +contextual [hcls, h4]),
      dropped (fun g => g.cls != 4) (by simp +contextual [hcls, h4]), List.append_nil, flowOf]
  · rw [dropped (fun g => g.cls == 4) (by simp +contextual [hcls, h4]),
      kept (fun g => g.cls != 4) (by simp +contextual [hcls, h4]), List.nil_append, flowOf]

/-! ### Sending -/

theorem emit_sent (s : State) (n : Nat) (f : OutFrame) :
    (emit s n f).links.sent = s.links.sent ++ [(n, f.counted (portAt s n).txCount)] := rfl

theorem emit_waiting (s : State) (n : Nat) (f : OutFrame) : (emit s n f).links.waiting = s.links.waiting := rfl

/-- A frame that leaves has no frame of its flow waiting, and leaves with its count of hops set. -/
theorem leavesBy_eq_some {s : State} {f g : OutFrame} {n : Nat} (h : leavesBy s f = some (n, g)) :
    s.links.waiting.any (sameFlow f) = false ∧ ∃ hops, g = f.withHops hops := by
  unfold leavesBy at h
  split at h
  case isTrue => cases h
  case isFalse hwait =>
    refine ⟨Bool.eq_false_iff.mpr hwait, ?_⟩
    obtain ⟨r, -, hr⟩ := Option.bind_eq_some_iff.mp h
    split at hr
    · cases hr
    · split at hr
      · cases hr
        exact ⟨r.2, rfl⟩
      · cases hr

/-- A frame that is tried goes behind the frames of its flow. -/
theorem flowFrames_pumpOne (f g : OutFrame) (s : State) : flowFrames f (pumpOne s g) = flowFrames f s ++ flowOf f [g] := by
  unfold pumpOne
  split
  case h_1 n g' hleaves =>
    obtain ⟨hwait, hops, rfl⟩ := leavesBy_eq_some hleaves
    have hnone : sameFlow f g = true → flowOf f s.links.waiting = [] := by
      intro hfg
      rw [flowOf, sameFlow_congr hfg, List.filter_eq_nil_iff.mpr (List.any_eq_false.mp hwait), List.map_nil]
    simp only [flowFrames, emit_sent, emit_waiting, List.map_append, List.map_cons, List.map_nil, flowOf_append, List.append_assoc]
    cases hfg : sameFlow f g with
    | true =>
      rw [hnone hfg]
      simp [flowOf, hfg]
    | false => simp [flowOf, hfg]
  case h_2 => simp only [flowFrames, State.setLinks_links, ← List.append_assoc, flowOf_append]

theorem flowFrames_foldl_pumpOne (f : OutFrame) (l : List OutFrame) (s : State) :
    flowFrames f (l.foldl pumpOne s) = flowFrames f s ++ flowOf f l := by
  induction l generalizing s with
  | nil => exact (List.append_nil _).symm
  | cons g l ih => rw [List.foldl_cons, ih, flowFrames_pumpOne, flowOf_cons f g l, List.append_assoc]

theorem flowFrames_pump (f : OutFrame) (s : State) : flowFrames f (pump s) = flowFrames f s := by
  rw [pump, flowFrames_foldl_pumpOne, flowOf_sendOrder]
  simp only [flowFrames, State.setLinks_links, List.append_nil, flowOf_append]

/-- Settles O10, frame by frame in the order in which they are tried. -/
theorem flowOrderKept : Obligations.FlowOrderKept := fun s f => flowFrames_pump f s

end Sys2Proof.Machine
end

section
/-! SUPPORT. The job key (R382, R383): only INSTALL_JOB_KEY brings one, and a reset, a thermal trip or a debug unlock takes it
away. -/

namespace Sys2Proof.Machine

/-- Something has erased the job key: a reset, a thermal trip or a debug unlock. -/
def KeyErased (t : State) : Prop :=
  t.security.jobKey = none ∧
    (t.regs.ready = false ∧ t.supply.inReset = true ∨ t.supply.thermTrip = true ∧ t.supply.corePower = false ∨
      t.security.debugUnlocked = true)

/-- From `s` to `t` the job key stays or is erased. -/
def KeyKept (s t : State) : Prop := t.security.jobKey = s.security.jobKey ∨ KeyErased t

theorem keyKept_of_security {s t : State} (h : t.security = s.security) : KeyKept s t := .inl (congrArg Security.jobKey h)

theorem keyKept_ite {s a b : State} (c : Prop) [Decidable c] (ha : KeyKept s a) (hb : KeyKept s b) :
    KeyKept s (if c then a else b) := by
  split
  · exact ha
  · exact hb

/-- A command that does not touch group 23 keeps the job key. -/
theorem jobKey_of_forget {ks : List Nat} {s t : State} (h : forget ks t = forget ks s) (h23 : 23 ∉ ks) :
    t.security.jobKey = s.security.jobKey := by
  have hs := congrArg State.security h
  by_cases h18 : 18 ∈ ks
  · simpa only [forget, forgetSecurity, h18, h23, if_true, if_false] using congrArg Security.jobKey hs
  · exact congrArg Security.jobKey (by simpa only [forget, h18, if_false] using hs)

/-! ### Resets -/

theorem startSequence_security (s : State) : (startSequence s).security = s.security :=
  security_of_forget (forget_startSequence [3, 15, 16, 20] (by decide) (by decide) (by decide) (by decide) s) (by decide)

theorem resetBy_security (s : State) (code : Nat) (lasting : Bool) : (resetBy s code lasting).security = keptSecurity s :=
  startSequence_security _

/-- A state that a reset has cleared, without a job key. -/
theorem keyErased_of_jobCleared {t : State} (h : JobCleared t) (hkey : t.security.jobKey = none) : KeyErased t := by
  obtain ⟨-, hready, hreset⟩ := h
  exact ⟨hkey, .inl ⟨hready, hreset⟩⟩

theorem keyErased_resetBy (s : State) (code : Nat) (lasting : Bool) : KeyErased (resetBy s code lasting) :=
  keyErased_of_jobCleared (jobCleared_resetBy s code lasting) (congrArg Security.jobKey (resetBy_security s code lasting))

theorem keyErased_powerOn (s : State) : KeyErased (powerOn s) := keyErased_of_jobCleared (jobCleared_powerOn s) rfl

/-- The first closing of the switch brings no reset; every other one does. -/
theorem keyKept_closeSwitch (s : State) : KeyKept s (closeSwitch s) := by
  by_cases h : s.supply.openCause = .none
  · exact keyKept_of_security (by simp [closeSwitch, startSequence_security, h])
  · obtain ⟨hkey, -⟩ := keyErased_powerOn s
    obtain ⟨-, hready, hreset⟩ := jobCleared_powerOn s
    refine .inr ⟨?key, .inl ⟨?ready, ?reset⟩⟩
    case key => simpa [closeSwitch, startSequence_security, h] using hkey
    case ready => simpa [closeSwitch, startSequence_regs, h] using hready
    case reset => simpa [closeSwitch, startSequence_supply, h] using hreset

theorem keyKept_execInputSwitchClose (s : State) : KeyKept s (endState s (execInputSwitchClose s)) := by
  unfold execInputSwitchClose
  rw [endState_ite]
  exact keyKept_ite _ (.inl rfl) (keyKept_closeSwitch (s.setSupply { s.supply with mateJoined := true }))

theorem keyKept_execPerstNAsserted (nanoseconds : Nat) (s : State) :
    KeyKept s (endState s (execPerstNAsserted nanoseconds s)) := by
  have pinned (x : State) : KeyErased ((resetBy x 2 true).setSupply { (resetBy x 2 true).supply with perst := true }) :=
    keyErased_resetBy x 2 true
  unfold execPerstNAsserted
  simp only [endState_ite, endState_next]
  refine keyKept_ite _ (.inl rfl) (keyKept_ite _ (.inl ?pinOnly) (keyKept_ite _ (.inr (pinned s)) ?short))
  case pinOnly => split <;> rfl
  case short => exact keyKept_ite _ (.inr (pinned s.bump)) (.inl rfl)

/-! ### The thermal trip and the debug unlock -/

theorem keyErased_tripPower (s : State) : KeyErased (tripPower s) := ⟨rfl, .inr (.inl ⟨rfl, rfl⟩)⟩

theorem takeReadings_security (s : State) (r : RoundReadings) : (takeReadings s r).security = s.security :=
  security_of_forget (forget_takeReadings [2, 11, 15, 19] (by decide) (by decide) (by decide) (by decide) s r) (by decide)

theorem actOnRound_security (s : State) (power : Nat) (before levels : List Nat) :
    (actOnRound s power before levels).security = s.security :=
  security_of_forget
    (forget_actOnRound [3, 15, 16, 20] (by decide) (by decide) (by decide) (by decide) s power before levels) (by decide)

theorem keyKept_execGrantRound (r : RoundReadings) (s : State) : KeyKept s (endState s (execGrantRound r s)) := by
  have read : (if s.running then takeReadings s r else countEnergy s r.moduleDrawn).security = s.security := by
    split
    · exact takeReadings_security s r
    · rfl
  unfold execGrantRound
  simp only [endState_ite, endState_next]
  refine keyKept_ite _ (.inl rfl) (keyKept_ite _ (.inr (keyErased_tripPower _)) (keyKept_ite _ ?idle ?acts))
  case idle => exact keyKept_of_security read
  case acts => exact keyKept_of_security ((actOnRound_security _ _ _ _).trans read)

theorem eraseMemories_security (s : State) : (eraseMemories s).security = s.security :=
  security_of_forget (forget_eraseMemories [3, 5, 6, 7, 8, 9, 10, 11, 12, 13, 16, 17, 24, 29] (by decide) (by decide) (by decide)
    (by decide) (by decide) (by decide) (by decide) (by decide) (by decide) (by decide) (by decide) (by decide) (by decide)
    (by decide) s) (by decide)

/-- The ports that fail leave the security state as it is. -/
theorem eraseJobKey_security (s : State) :
    (eraseJobKey s).security = { s.security with jobKey := none, jobId := List.replicate 16 0 } := by
  refine security_of_forget (ks := [3, 14, 16, 20])
    (s := s.setSecurity { s.security with jobKey := none, jobId := List.replicate 16 0 }) ?_ (by decide)
  refine forget_foldl _ _ (fun u n => ?_) _ _
  rw [forget_ite, forget_failPort _ (by decide) (by decide) (by decide) (by decide), ite_self]

theorem unlockDebug_security (s : State) (scope : List Byte) :
    (unlockDebug s scope).security =
      { s.security with
        jobKey := none, jobId := List.replicate 16 0, keyGeneration := s.security.keyGeneration + 1, debugUnlocked := true,
        debugScope := scope, nonce := none } := by
  simp only [unlockDebug, State.setSecurity_security, eraseMemories_security, eraseJobKey_security]

theorem keyErased_unlockDebug (s : State) (scope : List Byte) : KeyErased (unlockDebug s scope) := by
  simp only [KeyErased, unlockDebug_security, or_true, and_self]

/-- What holds where a module command answers and where it does nothing holds of it. -/
theorem moduleCommand_endState {P : State → Prop} {s : State} {t : Transport} {payload : List Byte} {command low high : Nat}
    {inLoader : Bool} {run : List Byte → State → State} (stays : P s) (told : ∀ r, P (respond s t r))
    (ran : P (run (payload.drop 4) s)) : P (endState s (moduleCommand s t payload command low high inLoader run)) := by
  simp only [moduleCommand, onTransport, endState_ite, endState_next]
  split
  · exact stays
  · split
    · split
      · exact told _
      · split
        · exact told _
        · exact ran
    · exact stays

theorem keyKept_respond (s : State) (t : Transport) (r : Response) : KeyKept s (respond s t r) := .inl rfl

theorem keyErased_answer {s : State} (h : KeyErased s) (t : Transport) (command result : Nat) :
    KeyErased (answer s t command result) := h

/-- A nonce that is used leaves the key. -/
theorem keyKept_answer_used (s : State) (t : Transport) (command result : Nat) :
    KeyKept s (answer (s.setSecurity { s.security with nonce := none }) t command result) := .inl rfl

/-- A debug unlock keeps the key wherever it is refused. -/
theorem keyKept_execDebugUnlock (t : Transport) (payload : List Byte) (s : State) :
    KeyKept s (endState s (execDebugUnlock t payload s)) := by
  refine moduleCommand_endState (P := KeyKept s) (.inl rfl) (keyKept_respond s t) ?_
  split
  · exact keyKept_respond s t _
  · refine keyKept_ite _ (keyKept_answer_used s t _ _) (keyKept_ite _ (keyKept_answer_used s t _ _) (.inr ?_))
    exact keyErased_answer (keyErased_unlockDebug s _) _ _ _

/-! ### The installation -/

/-- A job key comes: none was held, and the job block is committed. -/
def KeyComes (s : State) : Prop := s.security.jobKey = none ∧ s.regs.jobSet = true

theorem keyComes_of_installRefusal {s : State} {t : Transport} {inSession : Bool} {digest : List Byte}
    (h : installRefusal s t inSession digest = none) : KeyComes s := by
  unfold installRefusal at h
  split at h
  · cases h
  split at h
  · cases h
  split at h
  · cases h
  next hset hkey => exact ⟨by simpa using hkey, by simpa using hset⟩

theorem keyKept_or_comes_execInstallJobKey (t : Transport) (inSession : Bool) (payload : List Byte) (s : State) :
    KeyKept s (endState s (execInstallJobKey t inSession payload s)) ∨ KeyComes s := by
  refine moduleCommand_endState (P := fun u => KeyKept s u ∨ KeyComes s) (.inl (.inl rfl)) (fun _ => .inl (.inl rfl)) ?_
  split
  · exact .inl (.inl rfl)
  · next h => exact .inr (keyComes_of_installRefusal h)

/-! ### Every step -/

/-- Of the commands that reach group 23 only the installation brings a key. -/
theorem exec_keyKept {i : Instr} (hi : ∀ tr inSession payload, i ≠ .installJobKey tr inSession payload) (s : State) :
    KeyKept s (endState s (exec i s)) := by
  by_cases h23 : 23 ∈ touches i
  case neg => exact .inl (jobKey_of_forget (exec_forget i s) h23)
  case pos =>
    have stays : KeyKept s s := .inl rfl
    cases i with
    | installJobKey tr inSession payload => exact absurd rfl (hi tr inSession payload)
    | debugUnlock tr payload => exact keyKept_execDebugUnlock tr payload s
    | grantRound readings => exact keyKept_execGrantRound readings s
    | registerReset value => exact keyKept_ite _ (.inr (keyErased_resetBy s 5 false)) stays
    | linkReset => exact keyKept_ite _ (.inr (keyErased_resetBy s 3 false)) stays
    | functionLevelReset => exact keyKept_ite _ (.inr (keyErased_resetBy s 4 false)) stays
    | perstNAsserted nanoseconds => exact keyKept_execPerstNAsserted nanoseconds s
    | powerOnReset => exact keyKept_ite _ stays (.inr (keyErased_powerOn s))
    | inputSwitchClose => exact keyKept_execInputSwitchClose s
    | overcurrentRetry => exact keyKept_ite _ (keyKept_closeSwitch s) stays
    | overvoltageReclose => exact keyKept_ite _ (keyKept_closeSwitch s) stays
    | _ => simp [touches] at h23

theorem exec_keyKept_or_comes (i : Instr) (s : State) :
    KeyKept s (endState s (exec i s)) ∨ KeyComes s ∧ ∃ tr inSession payload, i = .installJobKey tr inSession payload := by
  by_cases hi : ∃ tr inSession payload, i = .installJobKey tr inSession payload
  case pos =>
    obtain ⟨tr, inSession, payload, rfl⟩ := hi
    exact (keyKept_or_comes_execInstallJobKey tr inSession payload s).imp_right fun h => ⟨h, tr, inSession, payload, rfl⟩
  case neg => exact .inl (exec_keyKept (fun tr inSession payload h => hi ⟨tr, inSession, payload, h⟩) s)

theorem step_keyKept_or_comes {s t : State} (h : step s = .next t) :
    KeyKept s t ∨ KeyComes s ∧ ∃ tr inSession payload, s.pending.head? = some (.installJobKey tr inSession payload) := by
  unfold step at h
  split at h
  case h_1 =>
    cases h
    exact .inl (.inl rfl)
  case h_2 c rest hq =>
    have held := exec_keyKept_or_comes c { s with pending := rest }
    rw [h] at held
    exact held.imp_right fun ⟨hcomes, tr, inSession, payload, hc⟩ => ⟨hcomes, tr, inSession, payload, by rw [hq, hc]; rfl⟩

/-- Settles O7: a key that is held does not come, and one that comes was not kept. -/
theorem jobKeyHeldUntilErased : Obligations.JobKeyHeldUntilErased := by
  intro s t h
  refine ⟨fun k hk => ?held, fun k hs ht => ?comes⟩
  case held =>
    rcases step_keyKept_or_comes h with (same | erased) | ⟨⟨hnone, -⟩, -⟩
    · exact .inl (same.trans hk)
    · exact .inr erased
    · exact nomatch hk.symm.trans hnone
  case comes =>
    rcases step_keyKept_or_comes h with (same | ⟨hnone, -⟩) | ⟨⟨-, hset⟩, hcmd⟩
    · exact nomatch (ht.symm.trans same).trans hs
    · exact nomatch ht.symm.trans hnone
    · exact ⟨hset, hcmd⟩

end Sys2Proof.Machine
end

section
/-! SUPPORT. The input switch, the resets and the end of the reset sequence (R359 to R361, R403 to R409), with PWR_BRAKE_N
deasserted. -/

namespace Sys2Proof.Machine

open Sys2Proof.Safety

/-! ### What a reset leaves -/

/-- With PWR_BRAKE_N deasserted the sequence starts without the brake (R409). -/
theorem startSequence_of_not_pinned {s : State} (h : s.supply.brakePin = false) : startSequence s = s := by
  simp [startSequence, h]

/-- A reset clears the state whatever it leaves of the supply, as long as the reset is in progress and the thermal latch
stays. -/
theorem resetLeaves_clearedState (s : State) (energy : Word) {v : Supply} (hreset : v.inReset = true)
    (htrip : v.thermTrip = s.supply.thermTrip) : ResetLeaves s ((clearedState s energy).setSupply v) := by
  have older : ∀ p ∈ s.tables.pages, p.home = .flash → (p.ref, p.logSeq) ∈ flashVersions s := by
    intro p hp hhome
    exact List.mem_append_right _ (List.mem_map_of_mem (List.mem_filter.mpr ⟨hp, beq_iff_eq.mpr hhome⟩))
  refine ⟨rfl, rfl, rfl, rfl, rfl, rfl, rfl, rfl, rfl, rfl, rfl, rfl, rfl, rfl, rfl, rfl, rfl, rfl, rfl, rfl, older,
    fun p hp => List.mem_append_left _ hp, rfl, rfl, rfl, rfl, rfl, rfl, rfl, rfl, rfl, rfl, rfl, rfl, hreset, htrip⟩

/-- What a reset of the state before leaves of the supply (R359, R409). -/
def resetSupply (s : State) (code : Nat) (lasting : Bool) : Supply :=
  { s.supply with
    inReset := true, lastReset := if resetGoesOn s then s.supply.lastReset else code,
    causes := if lasting && !s.supply.causes.contains code then s.supply.causes ++ [code] else s.supply.causes }

theorem resetBy_of_not_pinned {s : State} (h : s.supply.brakePin = false) (code : Nat) (lasting : Bool) :
    resetBy s code lasting = (clearedState s s.regs.energyCount).setSupply (resetSupply s code lasting) :=
  startSequence_of_not_pinned h

/-- What a power-on reset leaves of the supply: its cause lasts until the switch has closed (R359). -/
def powerOnSupply (s : State) : Supply :=
  { s.supply with
    inReset := true, inputPresent := true, switchClosed := false, openCause := .none, corePower := false, lastReset := 1,
    causes := if s.supply.perst then [1, 2] else [1] }

theorem powerOn_eq (s : State) : powerOn s = (clearedState s 0).setSupply (powerOnSupply s) := rfl

/-- What a closing of the switch that was open leaves of the supply (R403, R404). -/
def closedSupply (s : State) : Supply :=
  { powerOnSupply s with
    switchClosed := true, corePower := !s.supply.thermTrip, causes := if s.supply.perst then [2] else [] }

/-- A closing after the switch has opened is a power-on reset. -/
theorem closeSwitch_of_opened {s : State} (hpin : s.supply.brakePin = false) (hcause : s.supply.openCause ≠ .none) :
    closeSwitch s = (clearedState s 0).setSupply (closedSupply s) := by
  have hcauses : (powerOnSupply s).causes.filter (· != 1) = (closedSupply s).causes := by
    cases hperst : s.supply.perst <;> simp [powerOnSupply, closedSupply, hperst]
  rw [closeSwitch, if_neg hcause, powerOn_eq, startSequence_of_not_pinned (by exact hpin)]
  exact congrArg _ (by rw [State.setSupply_supply, hcauses]; rfl)

/-- The first closing brings no second reset. -/
theorem closeSwitch_first {s : State} (hpin : s.supply.brakePin = false) (hcause : s.supply.openCause = .none) :
    closeSwitch s = s.setSupply { s.supply with
      switchClosed := true, corePower := !s.supply.thermTrip, causes := s.supply.causes.filter (· != 1) } := by
  rw [closeSwitch, if_pos hcause]
  exact startSequence_of_not_pinned hpin

/-! ### The input switch -/

/-- Settles O11: what opens the switch, and the closing with and without a reset. -/
theorem inputSwitchOpensAndCloses : Obligations.InputSwitchOpensAndCloses := by
  refine ⟨fun s => ⟨fun h => ⟨?_, ?_⟩, fun h => ?_, fun h => ?_, fun h => ?_⟩, fun s hpin hinput => ⟨?closes, ?first⟩⟩
  · simp [exec, execInputOvervoltage, openSwitch, State.setSupply, h]
  · simp [exec, execInputOvercurrent, openSwitch, State.setSupply, h]
  · simp [exec, execMateSenseReleased, openSwitch, State.setSupply, h]
  · simp [exec, execLossOfInput, openSwitch, State.setSupply, h]
  · simp [exec, execThermTripClear, openSwitch, State.setSupply, h]
  case closes =>
    have closed : ∀ u : State, u = s ∨ u = s.setSupply { s.supply with mateJoined := true } → u.supply.mateJoined = true →
        u.supply.openCause ≠ .none →
        ∃ t, Host.Outcome.next (closeSwitch u) = (.next t : Out) ∧ ResetLeaves s t ∧ t.regs.energyCount = 0 ∧
          t.supply.lastReset = 1 ∧ t.supply.switchClosed = true ∧ t.supply.mateJoined = true ∧
          t.supply.corePower = !s.supply.thermTrip ∧ t.supply.causes = (if s.supply.perst then [2] else []) := by
      rintro u (rfl | rfl) hmate hcause
      · refine ⟨_, congrArg _ (closeSwitch_of_opened hpin hcause), resetLeaves_clearedState u 0 rfl rfl, rfl, rfl, rfl, hmate, rfl, rfl⟩
      · refine ⟨_, congrArg _ (closeSwitch_of_opened hpin hcause), resetLeaves_clearedState s 0 rfl rfl, rfl, rfl, rfl, rfl, rfl, rfl⟩
    rintro i (⟨rfl, hmate, hcause⟩ | ⟨rfl, hmate, hcause⟩ | ⟨rfl, hopen, hcause⟩)
    · simpa [exec, execOvervoltageReclose, hinput, hmate, hcause] using closed s (.inl rfl) hmate (by simp [hcause])
    · simpa [exec, execOvercurrentRetry, hinput, hmate, hcause] using closed s (.inl rfl) hmate (by simp [hcause])
    · have hown : (s.supply.openCause == .overvoltage || s.supply.openCause == .overcurrent) = false := by
        rcases hcause with h | h <;> simp [h]
      have hne : s.supply.openCause ≠ .none := by rcases hcause with h | h <;> simp [h]
      simpa [exec, execInputSwitchClose, hinput, hopen, hown] using closed _ (.inr rfl) rfl hne
  case first =>
    intro hcause hopen
    have hexec : exec .inputSwitchClose s = .next (closeSwitch (s.setSupply { s.supply with mateJoined := true })) := by
      simp [exec, execInputSwitchClose, hinput, hopen, hcause]
    rw [hexec, closeSwitch_first (s := s.setSupply { s.supply with mateJoined := true }) hpin hcause]
    rfl

/-! ### The resets and the end of the sequence -/

/-- A reset by one of the pins, links or registers: what it leaves of the energy counter and of the supply. -/
theorem resetBy_leaves {s : State} (hpin : s.supply.brakePin = false) (code : Nat) (lasting : Bool) :
    ResetLeaves s (resetBy s code lasting) ∧ (resetBy s code lasting).regs.energyCount = s.regs.energyCount ∧
      (resetBy s code lasting).supply = resetSupply s code lasting := by
  rw [resetBy_of_not_pinned hpin]
  exact ⟨resetLeaves_clearedState s _ rfl rfl, rfl, rfl⟩

/-- A cause that lasts stands among the causes after the reset. -/
theorem mem_causes_resetSupply (s : State) (code : Nat) : code ∈ (resetSupply s code true).causes := by
  by_cases h : code ∈ s.supply.causes <;> simp [resetSupply, h]

theorem resetSupply_lastReset_new {s : State} (h : s.supply.inReset = false) (code : Nat) (lasting : Bool) :
    (resetSupply s code lasting).lastReset = code := by simp [resetSupply, resetGoesOn, h]

/-- A reset in progress keeps the code of its first cause (R409). -/
theorem resetSupply_lastReset_kept {s : State} (h : s.supply.inReset = true) (hload : s.regs.recoveryLoader = false)
    (code : Nat) (lasting : Bool) : (resetSupply s code lasting).lastReset = s.supply.lastReset := by
  simp [resetSupply, resetGoesOn, h, hload]

/-- Settles O12: the resets, PERST_N, and the two ends of the reset sequence. -/
theorem resetsAndResetSequence : Obligations.ResetsAndResetSequence := by
  refine ⟨fun s hpin => ⟨fun hinput => ?power, ?resets, fun value h => ?_, fun ns h => ?_⟩, fun s => ⟨fun hperst hpin => ?pin,
    fun hcore hreset hcauses hload found => ⟨fun hok hvalid hsec => ?runs, fun hbad => ?loader⟩⟩⟩
  case power =>
    refine ⟨_, by simp only [exec, execPowerOnReset, hinput]; rfl, ?_, rfl, rfl, rfl, rfl⟩
    exact resetLeaves_clearedState s 0 rfl rfl
  case resets =>
    have left : ∀ code, code ≠ 2 → ∃ t, Host.Outcome.next (resetBy s code false) = (.next t : Out) ∧ ResetLeaves s t ∧
        t.regs.energyCount = s.regs.energyCount ∧ t.supply.corePower = s.supply.corePower ∧
        (code = 2 → t.supply.perst = true ∧ 2 ∈ t.supply.causes) ∧
        (s.supply.inReset = false → t.supply.lastReset = code) ∧
        (s.supply.inReset = true → s.regs.recoveryLoader = false → t.supply.lastReset = s.supply.lastReset) := by
      intro code hcode
      obtain ⟨hleaves, henergy, hsupply⟩ := resetBy_leaves hpin code false
      exact ⟨_, rfl, hleaves, henergy, by rw [hsupply]; rfl, fun h => absurd h hcode,
        fun h => by rw [hsupply, resetSupply_lastReset_new h], fun h hl => by rw [hsupply, resetSupply_lastReset_kept h hl]⟩
    rintro i code (⟨rfl, rfl, h⟩ | ⟨rfl, rfl, h⟩ | ⟨rfl, rfl, h⟩ | ⟨ns, rfl, hns, rfl, hcore, hperst⟩)
    · simpa [exec, execLinkReset, h] using left 3 (by decide)
    · simpa [exec, execFunctionLevelReset, h] using left 4 (by decide)
    · simpa [exec, execRegisterReset, h] using left 5 (by decide)
    · have hexec : exec (.perstNAsserted ns) s =
          .next ((resetBy s 2 true).setSupply { (resetBy s 2 true).supply with perst := true }) := by
        simp [exec, execPerstNAsserted, hcore, hperst, hns, show ¬ ns < 1000 by omega]
      rw [hexec, resetBy_of_not_pinned hpin]
      exact ⟨_, rfl, resetLeaves_clearedState s _ rfl rfl, rfl, rfl, fun _ => ⟨rfl, mem_causes_resetSupply s 2⟩,
        fun h => resetSupply_lastReset_new h 2 true, fun h hl => resetSupply_lastReset_kept h hl 2 true⟩
  · rw [exec, execRegisterReset, beq_false_of_ne h, Bool.and_false, if_neg Bool.false_ne_true]
  · simp [exec, execPerstNAsserted, h]
  case pin =>
    have hexec : exec .perstNDeasserted s = .next (startSequence (s.setSupply { s.supply with
        perst := false, causes := s.supply.causes.filter (· != 2) })) := by simp [exec, execPerstNDeasserted, hperst]
    rw [hexec, startSequence_of_not_pinned (by exact hpin)]
    rfl
  case runs =>
    simp [exec, execResetSequenceEnd, hcore, hreset, hcauses, hload, hok, hvalid, hsec, State.setSupply, State.setRegs,
      State.setSecurity]
  case loader =>
    have hnot : (found.firmwareOk && s.security.boot.valid && decide (s.security.minSecVersion ≤ s.security.boot.secVersion)) =
        false := by
      rcases hbad with h | h
      · simp [h]
      · simp [show ¬ s.security.minSecVersion ≤ s.security.boot.secVersion by omega]
    simp [exec, execResetSequenceEnd, hcore, hreset, hcauses, hload, hnot, State.setRegs]

end Sys2Proof.Machine
end

section
/-! SUPPORT. PWR_BRAKE_N and a grant round (R271 to R283, R407 to R409). -/

namespace Sys2Proof.Machine

open Sys2Proof.Safety

/-! ### The brake -/

theorem enterBrake_forget (ks : List Nat) (h3 : 3 ∈ ks) (h15 : 15 ∈ ks) (h20 : 20 ∈ ks) (s : State) :
    forget ks (enterBrake s) = forget ks s := by
  rw [enterBrake, postEvent_forget ks h3 h20 _ _ _ _ (fun _ => rfl), floorLevels, forget_setPower _ h15, forget_setPower _ h15]

/-- What entering the brake leaves (R278). -/
theorem enterBrake_leaves (s : State) :
    (enterBrake s).supply = s.supply ∧
      (enterBrake s).power = { s.power with braked := true, hysteresis := false, levels := List.replicate 64 0 } ∧
      EventPosted (enterBrake s) 47 (.brakeEntered s.regs.energyCount) ∧
      (enterBrake s).sequences = modifyAt s.sequences 47 (· + 1) := by
  have hpost := fun (u : State) =>
    postEvent_forget [3, 20] (by decide) (by decide) u controllerDie (stepNow u) (.brakeEntered s.regs.energyCount) (fun _ => rfl)
  exact ⟨supply_of_forget (enterBrake_forget [3, 15, 20] (by decide) (by decide) (by decide) s) (by decide),
    power_of_forget (hpost _) (by decide), postEvent_posted _ _ _ _, postEvent_sequences _ _ _ _⟩

/-! ### A grant round -/

/-- The metered-energy counters after a round (R275). -/
def meteredTelemetry (s : State) (r : RoundReadings) : Telemetry :=
  { s.telemetry with
    metered := s.telemetry.metered.mapIdx (fun i x => x + nth r.metered i 0 + (if i < 40 then nth r.idleDrawn i 0 else 0)) }

theorem meterRound_forget (s : State) (r : RoundReadings) :
    forget [11, 15] (meterRound s r) =
      forget [11, 15] ((countEnergy s r.moduleDrawn).setTelemetry (meteredTelemetry s r)) :=
  forget_foldl [11, 15] _ (fun u d => forget_chargeDie [11, 15] (by decide) (by decide) u d _ _) _ _

/-- Charging a die changes its balance only. -/
theorem chargeDie_power (s : State) (die metered idle : Nat) :
    ∃ b, (chargeDie s die metered idle).power = { s.power with balance := b } := by
  unfold chargeDie
  dsimp only
  split
  · exact ⟨_, rfl⟩
  · exact ⟨_, rfl⟩

theorem meterRound_power (s : State) (r : RoundReadings) : ∃ b, (meterRound s r).power = { s.power with balance := b } := by
  have hfold : ∀ (l : List Nat) (u : State),
      ∃ b, (l.foldl (fun s d => chargeDie s d (nth r.metered d 0) (nth r.idleDrawn d 0)) u).power = { u.power with balance := b } := by
    intro l
    induction l with
    | nil => exact fun u => ⟨_, rfl⟩
    | cons d l ih =>
      intro u
      obtain ⟨b, hb⟩ := chargeDie_power u d (nth r.metered d 0) (nth r.idleDrawn d 0)
      obtain ⟨b', hb'⟩ := ih (chargeDie u d (nth r.metered d 0) (nth r.idleDrawn d 0))
      exact ⟨b', by rw [List.foldl_cons, hb', hb]⟩
  exact hfold _ ((countEnergy s r.moduleDrawn).setTelemetry (meteredTelemetry s r))

/-- The module is held at the floor by heat from 110 °C until every die reads below 107 °C (R281). -/
def hotAfter (s : State) (r : RoundReadings) : Bool :=
  r.junctions.any (fun j => decide (110 ≤ j)) || (s.power.hotFloor && r.junctions.any (fun j => decide (107 ≤ j)))

theorem takeReadings_forget (s : State) (r : RoundReadings) :
    forget [11, 15] (takeReadings s r) = forget [11, 15] ((countEnergy s r.moduleDrawn).setTelemetry (meteredTelemetry s r)) := by
  rw [takeReadings, forget_setPower _ (by decide), meterRound_forget]

/-- The readings of a round set the junctions, the thermal actions and the floor of heat. -/
theorem takeReadings_power (s : State) (r : RoundReadings) :
    ∃ b thermal, (takeReadings s r).power =
      { s.power with balance := b, thermal := thermal, junctions := r.junctions, hotFloor := hotAfter s r } := by
  obtain ⟨b, hb⟩ := meterRound_power s r
  refine ⟨b, (List.range 64).map (fun d => thermalOf (nth (meterRound s r).power.thermal d 0) (nth r.junctions d 0)), ?_⟩
  rw [takeReadings, State.setPower_power, hb, hotAfter]

/-- Posting the throttle events of a round leaves all but rings, the failure record and sequence numbers. -/
theorem actOnRound_forget (s : State) (p : Nat) (before levels : List Nat) :
    forget [3, 16, 20] (actOnRound s p before levels) =
      forget [3, 16, 20] (if s.power.hotFloor then floorLevels (setLevels (shareGrant s p)) else setLevels (shareGrant s p)) :=
  forget_postThrottles [3, 16, 20] (by decide) (by decide) (by decide) _ _ _

/-- What the rest of a round leaves of the power state. -/
theorem actOnRound_power (s : State) (p : Nat) (before levels : List Nat) :
    (actOnRound s p before levels).power.braked = s.power.braked ∧ (actOnRound s p before levels).power.units = s.power.units ∧
      (actOnRound s p before levels).power.junctions = s.power.junctions ∧
      (actOnRound s p before levels).power.hotFloor = s.power.hotFloor ∧
      (s.power.hotFloor = true → (actOnRound s p before levels).power.levels = List.replicate 64 0) := by
  rw [power_of_forget (actOnRound_forget s p before levels) (by decide)]
  cases hhot : s.power.hotFloor
  · exact ⟨rfl, rfl, rfl, hhot, fun h => absurd h Bool.false_ne_true⟩
  · exact ⟨rfl, rfl, rfl, hhot, fun _ => rfl⟩

/-- Settles O13: the brake, and a grant round by whether a junction trips and whether firmware runs. -/
theorem brakeAndGrantRound : Obligations.BrakeAndGrantRound := by
  refine ⟨fun s => ⟨fun ns h => ?ignored, fun ns h hcore hcauses hfree => ?enters, fun hpin hbraked => ?deasserted,
    fun hbraked hhyst hring => ?ends⟩, fun s r hcore => ?round⟩
  case ignored => simp [exec, execBrakeEntered, h]
  case enters =>
    have hexec : exec (.brakeEntered ns) s = .next (enterBrake (s.setSupply { s.supply with brakePin := true })) := by
      simp [exec, execBrakeEntered, brakeWatched, hcore, hcauses, hfree, h, show ¬ ns < 500 by omega]
    obtain ⟨hsupply, hpower, hevent, hseq⟩ := enterBrake_leaves (s.setSupply { s.supply with brakePin := true })
    exact ⟨_, hexec, hsupply, hpower, hevent, hseq, sameBut_of_forget [1, 3, 15, 20] _ _ _
      (enterBrake_forget [1, 3, 15, 20] (by decide) (by decide) (by decide) _) (by decide)⟩
  case deasserted => simp [exec, execPwrBrakeNDeasserted, hpin, hbraked, State.setSupply, State.setPower]
  case ends =>
    simp only [exec, execBrakeEnd, hbraked, hhyst, Bool.and_self, if_true]
    exact congrArg _ (if_pos hring)
  case round =>
    have hround : exec (.grantRound r) s =
        (if r.junctions.any (fun j => decide (118 ≤ j)) then
          .next (tripPower (if s.running then takeReadings s r else countEnergy s r.moduleDrawn))
        else if s.running then .next (actOnRound (takeReadings s r) r.powerMilliwatt s.power.thermal s.power.levels)
        else .next (countEnergy s r.moduleDrawn)) := by
      cases hrun : s.running <;> simp [exec, execGrantRound, hcore, hrun]
    have hread := takeReadings_forget s r
    obtain ⟨b, thermal, hpower⟩ := takeReadings_power s r
    have hregs := regs_of_forget hread (by decide)
    have hsupply := supply_of_forget hread (by decide)
    have hsecurity := security_of_forget hread (by decide)
    have htelemetry := telemetry_of_forget hread (by decide)
    have hrings := rings_of_forget hread (by decide)
    have hseq := sequences_of_forget hread (by decide)
    clear hread
    have hpbraked : (takeReadings s r).power.braked = s.power.braked := by rw [hpower]
    have hpunits : (takeReadings s r).power.units = s.power.units := by rw [hpower]
    have hpjunctions : (takeReadings s r).power.junctions = r.junctions := by rw [hpower]
    have hphot : (takeReadings s r).power.hotFloor = hotAfter s r := by rw [hpower]
    generalize takeReadings s r = u at *
    by_cases htrip : ∃ j ∈ r.junctions, 118 ≤ j
    · have hnot : ¬ ∀ j ∈ r.junctions, j < 118 := fun h => by
        obtain ⟨j, hj, hle⟩ := htrip
        exact absurd (h j hj) (by omega)
      rw [if_pos (by simpa using htrip)] at hround
      cases hrun : s.running
      · rw [if_neg (by simp [hrun])] at hround
        exact ⟨_, hround, rfl, rfl, rfl, fun _ => ⟨rfl, rfl, rfl, rfl⟩, fun h => absurd h hnot, fun _ => ⟨rfl, rfl, rfl, rfl⟩, nofun,
          exec_sameBut _ _ _ _ hround rfl⟩
      · rw [if_pos hrun] at hround
        refine ⟨_, hround, hregs, hpbraked, hpunits, fun _ => ⟨?_, ?_, ?_, ?_⟩, fun h => absurd h hnot,
          nofun, fun _ => ⟨hpjunctions, htelemetry, hphot, fun h => absurd h hnot⟩,
          exec_sameBut _ _ _ _ hround rfl⟩
        · exact congrArg (fun v : Supply => { v with thermTrip := true, corePower := false }) hsupply
        · exact congrArg (fun v : Security => { v with jobKey := none }) hsecurity
        · exact hrings
        · exact hseq
    · rw [if_neg (by simpa using htrip)] at hround
      cases hrun : s.running
      · rw [if_neg (by simp [hrun])] at hround
        exact ⟨_, hround, rfl, rfl, rfl, fun h => absurd h htrip, fun _ => ⟨rfl, rfl⟩, fun _ => ⟨rfl, rfl, rfl, rfl⟩, nofun,
          exec_sameBut _ _ _ _ hround rfl⟩
      · rw [if_pos hrun] at hround
        have hact := forget_actOnRound [3, 15, 16, 20] (by decide) (by decide) (by decide) (by decide) u
          r.powerMilliwatt s.power.thermal s.power.levels
        obtain ⟨hbraked, hunits, hjunctions, hhot, hlevels⟩ :=
          actOnRound_power u r.powerMilliwatt s.power.thermal s.power.levels
        refine ⟨_, hround, (regs_of_forget hact (by decide)).trans hregs, hbraked.trans hpbraked,
          hunits.trans hpunits, fun h => absurd h htrip,
          fun _ => ⟨(supply_of_forget hact (by decide)).trans hsupply, (security_of_forget hact (by decide)).trans hsecurity⟩,
          nofun, fun _ => ⟨hjunctions.trans hpjunctions,
            (telemetry_of_forget hact (by decide)).trans htelemetry, hhot.trans hphot, fun _ h => ?_⟩,
          exec_sameBut _ _ _ _ hround rfl⟩
        exact hlevels (hhot ▸ h)

end Sys2Proof.Machine
end

section
/-! SUPPORT. Units that are switched on and off (R284 to R286). -/

namespace Sys2Proof.Machine

open Sys2Proof.Safety

/-! ### Requests -/

theorem unitRefusal_enable (s : State) {u : Nat} (h : u < 18) : unitRefusal s u true = none := by
  simp [unitRefusal, show ¬ 73 < u by omega, show ¬ 18 ≤ u by omega]

/-- A disable of a link or memory port that is not in use is not refused. -/
theorem unitRefusal_disable {s : State} {u : Nat}
    (h : u < 16 ∧ routeUses s u = false ∨ (u = 16 ∨ u = 17) ∧ holdsHomes s (u - 16) = false) : unitRefusal s u false = none := by
  rcases h with ⟨hu, hroute⟩ | ⟨rfl | rfl, hhomes⟩
  · simp [unitRefusal, show ¬ 73 < u by omega, show ¬ 18 ≤ u by omega, hu, hroute]
  · simp [unitRefusal, show holdsHomes s 0 = false from hhomes]
  · simp [unitRefusal, show holdsHomes s 1 = false from hhomes]

theorem unitState_of_unit {s : State} {u : Nat} {x : PowerUnit} (h : s.power.units[u]? = some x) : unitState s u = x.state := by
  rw [unitState, h]; rfl

theorem unitEnable_refused {s : State} (hrun : s.running = true) {u code : Nat} (h : unitRefusal s u true = some code) :
    exec (.unitEnable u) s = .next (answerUnit s code) := by
  simp [exec, execUnitEnable, hrun, h]

theorem unitDisable_refused {s : State} (hrun : s.running = true) {u code : Nat} (h : unitRefusal s u false = some code) :
    exec (.unitDisable u) s = .next (answerUnit s code) := by
  simp [exec, execUnitDisable, hrun, h]

/-- A wake starts with the unit WAKING, whatever its bring-up then does. -/
theorem wakeUnit_power (s : State) (u : Nat) :
    (wakeUnit s u).power = { s.power with units := s.power.units.set u { state := .waking, recorded := false } } := by
  rw [wakeUnit]
  split
  · exact power_of_forget (forget_startTraining [14] (by decide) _ u) (by decide)
  · rfl

theorem wakeUnit_of_not_link (s : State) {u : Nat} (h : 16 ≤ u) :
    wakeUnit s u = setUnit s u { state := .waking, recorded := false } := if_neg (by omega)

theorem drainUnit_of_not_die (s : State) {u : Nat} (h : u < 34) :
    drainUnit s u = setUnit s u { state := .draining, recorded := false } := if_neg (by omega)

theorem drainUnit_units (s : State) (u : Nat) :
    (drainUnit s u).power.units = s.power.units.set u { state := .draining, recorded := false } := by
  rw [drainUnit]
  split <;> rfl

/-! ### Transitions -/

theorem switchOff_power (s : State) (u : Nat) :
    (switchOff s u).power = { s.power with units := s.power.units.set u { state := .off, recorded := false } } := by
  rw [switchOff]
  split
  · exact power_of_forget (ks := [14]) ((forget_setPort _ (by decide) _ _ _).trans
      (forget_startTraining _ (by decide) (setUnit s u { state := .off, recorded := false }) u)) (by decide)
  · split <;> rfl

/-- Only ports show less once they are OFF. -/
theorem switchOff_of_die (s : State) {u : Nat} (h : 34 ≤ u) :
    switchOff s u = setUnit s u { state := .off, recorded := false } := by
  rw [switchOff, if_neg (by omega), if_neg (by omega)]

/-- A unit as it is ON, before what was recorded of it: a memory port shows what it found, a die has its level back. -/
def wokenUnit (s : State) (u : Nat) (expander : Option Expander) : State :=
  let t := setUnit s u { state := .on, recorded := false }
  if u = 16 ∨ u = 17 then t.setRegs { t.regs with memPorts := t.regs.memPorts.set (u - 16) (trainedPort expander) }
  else if 34 ≤ u then
    let limit := levelLimit t.cfg.maxLevel (nth t.power.thermal (u - 34) 0) (atFloor t.power)
    t.setPower { t.power with levels := t.power.levels.set (u - 34) (min (nth t.power.parkLevels (u - 34) 4) limit) }
  else t

theorem wokenUnit_units (s : State) (u : Nat) (expander : Option Expander) :
    (wokenUnit s u expander).power.units = s.power.units.set u { state := .on, recorded := false } := by
  rw [wokenUnit]
  split
  · rfl
  · split <;> rfl

theorem wokenUnit_regs (s : State) {u : Nat} (h : u = 16 ∨ u = 17) (expander : Option Expander) :
    (wokenUnit s u expander).regs = { s.regs with memPorts := s.regs.memPorts.set (u - 16) (trainedPort expander) } := by
  rw [wokenUnit, if_pos h]
  rfl

/-- Settles O14: requests by the unit and its state, the ends of a drain and of a wake, and what drains on its own. -/
theorem unitsChangePower : Obligations.UnitsChangePower := by
  refine ⟨fun s u hrun => ⟨fun h => ⟨?_, ?_⟩, fun h h' => ⟨?_, ?_⟩, fun h huses => ?_, fun h hholds => ?_, fun h hunit => ?deferred,
      fun h hstate => ?_, fun h hstate => ?_, fun h hstate => ?off, fun h => ⟨fun hstate => ?drain, fun hstate => ?_, fun hstate => ?_⟩⟩,
    fun s u recorded hrun hlen => ⟨fun hunit hdrained => ?drainEnd, fun expander hunit hlink => ?wakeEnd⟩,
    fun s hrun => ⟨fun die hdie hon hready hctx => ?park, fun channel hchannel hon hidle => ?idle⟩⟩
  · exact unitEnable_refused hrun (if_pos h)
  · exact unitDisable_refused hrun (if_pos h)
  · exact unitEnable_refused hrun (by simp [unitRefusal, h, show ¬ 73 < u by omega])
  · exact unitDisable_refused hrun (by simp [unitRefusal, h, show ¬ 73 < u by omega])
  · exact unitDisable_refused hrun (by simp [unitRefusal, h, huses, show ¬ 73 < u by omega, show ¬ 18 ≤ u by omega])
  · have hu : ¬ 73 < u ∧ ¬ 18 ≤ u ∧ ¬ u < 16 := by omega
    exact unitDisable_refused hrun (by simp [unitRefusal, hholds, hu])
  case deferred =>
    simp only [exec, execUnitEnable, hrun, unitRefusal_enable s h, unitState_of_unit hunit]
    rfl
  · simp only [exec, execUnitEnable, hrun, unitRefusal_enable s h, hstate]
    rfl
  · have hu : ¬ u < 16 := by omega
    simp only [exec, execUnitEnable, hrun, unitRefusal_enable s (show u < 18 by omega), hstate, hu]
    rfl
  case off =>
    have hexec : exec (.unitEnable u) s = .next (wakeUnit (answerUnit s 0x00) u) := by
      simp [exec, execUnitEnable, hrun, unitRefusal_enable s h, hstate]
    refine ⟨_, hexec, regs_of_forget (forget_wakeUnit [14, 15] (by decide) (by decide) (answerUnit s 0x00) u) (by decide),
      wakeUnit_power _ u, fun h16 => ?_, exec_sameBut _ _ _ _ hexec rfl⟩
    rw [wakeUnit_of_not_link _ h16]
    rfl
  case drain =>
    simp only [exec, execUnitDisable, hrun, unitRefusal_disable h, hstate, drainUnit_of_not_die _ (show u < 34 by omega)]
    rfl
  · simp only [exec, execUnitDisable, hrun, unitRefusal_disable h, hstate]
    rfl
  · rcases hstate with hstate | hstate <;> simp only [exec, execUnitDisable, hrun, unitRefusal_disable h, hstate] <;> rfl
  case drainEnd =>
    have hexec : exec (.unitDrainEnd u) s = .next (if recorded then wakeUnit (switchOff s u) u else switchOff s u) := by
      simp [exec, execUnitDrainEnd, hunit, hrun, hdrained]
    refine ⟨_, hexec, exec_sameBut _ _ _ _ hexec rfl, ?_, fun hdie => ?_⟩
    · cases recorded
      · exact congrArg Power.units (switchOff_power s u)
      · simp only [if_true, wakeUnit_power, switchOff_power, List.set_set]
    · rw [switchOff_of_die s hdie, wakeUnit_of_not_link _ (by omega)]
      cases recorded <;> exact ⟨rfl, rfl, rfl⟩
  case wakeEnd =>
    have hdone : (decide (u < 16) && ((portAt s u).link == .training || (portAt s u).link == .confirming)) = false := by
      rcases hlink with h | h | h
      · simp [show ¬ u < 16 by omega]
      · simp [h]
      · simp [h]
    have hexec : exec (.unitWakeEnd u expander) s =
        .next (if recorded then drainUnit (wokenUnit s u expander) u else pump (wokenUnit s u expander)) := by
      simp [exec, execUnitWakeEnd, hunit, hrun, hdone, wokenUnit]
    refine ⟨_, hexec, exec_sameBut _ _ _ _ hexec rfl, ?_, fun hport => ?_⟩
    · cases recorded
      · simp only [Bool.false_eq_true, if_false, power_of_forget (forget_pump [14] (by decide) _) (by decide : 15 ∉ [14]), wokenUnit_units]
      · simp only [if_true, drainUnit_units, wokenUnit_units, List.set_set]
    · rw [← wokenUnit_regs s hport expander]
      cases recorded
      · exact regs_of_forget (forget_pump [14] (by decide) _) (by decide)
      · exact regs_of_forget (forget_drainUnit [15] (by decide) _ u) (by decide)
  case park =>
    have hidle : dieIdle s die = true := by
      rw [dieIdle, hready, Bool.true_and, Bool.not_eq_true', List.any_eq_false]
      intro c hc
      simpa using List.all_eq_true.mp hctx c hc
    have hlen : 34 + die - 34 = die := by omega
    have hexec : exec (.diePark die) s = .next (drainUnit s (34 + die)) := by
      simp [exec, execDiePark, hrun, hdie, hidle, dieUnit, hon]
    rw [hexec, drainUnit, if_pos (by omega), hlen]
    rfl
  case idle =>
    have hexec : exec (.nandChannelIdle channel) s = .next (drainUnit s (18 + channel)) := by
      simp [exec, execNandChannelIdle, hrun, hchannel, hidle, hon]
    rw [hexec, drainUnit_of_not_die _ (by omega)]
    rfl

end Sys2Proof.Machine
end

section
/-! SUPPORT. Ports: what setting one leaves of the others, control frames, and the bring-up and service of a link (R289 to
R300, R310). -/

namespace Sys2Proof.Machine

open Sys2Proof.Safety

/-! ### Ports -/

theorem portAt_of_port {s : State} {n : Nat} {p : Port} (h : s.links.ports[n]? = some p) : portAt s n = p := by
  rw [portAt, nth, h]; rfl

/-- A port that is set reads back. -/
theorem port_setPort {s : State} {n : Nat} {p : Port} (h : s.links.ports[n]? = some p) (v : Port) :
    (setPort s n v).links.ports[n]? = some v :=
  List.getElem?_set_self (List.getElem?_eq_some_iff.mp h).1

theorem portAt_setPort {s : State} {n : Nat} {p : Port} (h : s.links.ports[n]? = some p) (v : Port) :
    portAt (setPort s n v) n = v := portAt_of_port (port_setPort h v)

theorem portAt_setPort_ne (s : State) {n q : Nat} (h : q ≠ n) (v : Port) : portAt (setPort s n v) q = portAt s q := by
  rw [portAt, portAt, nth, nth, setPort, State.setLinks_links, List.getElem?_set_ne h.symm]

theorem setPort_setPort (s : State) (n : Nat) (v w : Port) : setPort (setPort s n v) n w = setPort s n w := by
  simp only [setPort, State.setLinks, List.set_set]

theorem sameBut_setPort (s : State) (n : Nat) (v : Port) : SameBut [.links] s (setPort s n v) :=
  sameBut_of_forget [14] _ _ _ (forget_setPort [14] (by decide) s n v) (by decide)

/-- A port with a control frame sent on it; a counted one takes the next frame counter and is kept for replay. -/
def Port.withControl (p : Port) (m : LinkMsg) (counted : Bool) : Port :=
  { p with
    control := p.control ++ [m],
    controlSeq := p.controlSeq ++ [if counted then (BitVec.ofNat 32 p.txCount, bitAt p.txCount 32) else (0, false)],
    controlOut := if counted then p.controlOut ++ [(BitVec.ofNat 32 p.txCount, m)] else p.controlOut,
    txCount := if counted then p.txCount + 1 else p.txCount,
    counters := modifyAt p.counters 0 (· + 1) }

theorem sendControl_eq {s : State} {n : Nat} {p : Port} (h : s.links.ports[n]? = some p) (m : LinkMsg) (counted : Bool) :
    sendControl s n m counted = setPort s n (p.withControl m counted) := by
  rw [sendControl, portAt_of_port h]
  rfl

/-- A control frame on a port that has just been set. -/
theorem sendControl_setPort {s : State} {n : Nat} {p : Port} (h : s.links.ports[n]? = some p) (v : Port) (m : LinkMsg)
    (counted : Bool) : sendControl (setPort s n v) n m counted = setPort s n (v.withControl m counted) := by
  rw [sendControl_eq (port_setPort h v), setPort_setPort]

/-- A port that is not UP fails with nothing in flight to lose. -/
theorem failPort_of_not_up {s : State} {n : Nat} {p : Port} (h : s.links.ports[n]? = some p) (hup : p.link ≠ .up) (reason : Nat) :
    failPort s n reason = setPort s n { p with link := .failed, reason := reason } := by
  simp [failPort, portAt_of_port h, hup]

/-- What a state with one port changed keeps: the other ports and every other group. -/
theorem portChanged {s : State} {n : Nat} (v : Port) :
    (∀ q, q ≠ n → portAt (setPort s n v) q = portAt s q) ∧ SameBut [.links] s (setPort s n v) :=
  ⟨fun _ h => portAt_setPort_ne s h v, sameBut_setPort s n v⟩

/-! ### Bring-up -/

/-- LANE_DEGRADED for a port that comes up without one of its four lanes (R291). -/
def postMissingLane (s : State) (port : Nat) (lanes : List Nat) : State :=
  match (List.range 4).find? (fun l => !lanes.contains l) with
  | some l => postEvent s (dieL port) (stepNow s) (.laneDegraded port l 3)
  | none => s

theorem forget_postMissingLane (ks : List Nat) (h3 : 3 ∈ ks) (h20 : 20 ∈ ks) (s : State) (port : Nat) (lanes : List Nat) :
    forget ks (postMissingLane s port lanes) = forget ks s := by
  unfold postMissingLane
  split
  · exact postEvent_forget ks h3 h20 _ _ _ _ (fun _ => rfl)
  · rfl

theorem find_missing_lane {l : Nat} (h : l < 4) :
    (List.range 4).find? (fun i => !((List.range 4).filter (· != l)).contains i) = some l := by
  obtain rfl | rfl | rfl | rfl : l = 0 ∨ l = 1 ∨ l = 2 ∨ l = 3 := by omega
  all_goals rfl

/-- Settles O15, stage by stage. -/
theorem linkBringUp : Obligations.LinkBringUp := by
  intro s port p hlt hport hcore
  have hp := portAt_of_port hport
  have hlanes : ∀ trained locked : List Nat, ((List.range 4).filter (fun l => trained.contains l)).filter (fun l => locked.contains l) =
      (List.range 4).filter (fun l => trained.contains l && locked.contains l) := by
    intro trained locked
    rw [List.filter_filter]
    exact List.filter_congr fun l _ => Bool.and_comm _ _
  refine ⟨fun hlink => ?training, fun hlink hlow hhigh => ?retry, fun hlink hhello jobId member peerPort salt => ?hello,
    fun member peerPort salt hlink hconf hhello => ?confirmation, fun hlink hconf sizes => ?advertisement⟩
  case training =>
    have hfail := failPort_of_not_up hport (by simp [hlink])
    have hfew : ∀ trained locked : List Nat, 3 ≤ ((List.range 4).filter (fun l => trained.contains l && locked.contains l)).length →
        3 ≤ ((List.range 4).filter (fun l => trained.contains l)).length := by
      intro trained locked h
      rw [← hlanes] at h
      exact Nat.le_trans h (List.length_filter_le _ _)
    refine ⟨fun trained locked => ⟨_, ?_, rfl⟩, fun trained locked hfewer => ⟨_, ?_, rfl⟩, fun trained locked htrained hfewer => ⟨_, ?_, rfl⟩,
      fun trained locked hlocked => ⟨fun hkey => ⟨_, ?_, rfl⟩, fun hkey => ?_⟩⟩
    · simp [exec, execPortTrainingEnd, hp, hlink, hcore, hfail, Nat.not_le.mpr hlt]
      rfl
    · simp only [exec, execPortTrainingEnd, hp, hlink, hcore, hfail, Nat.not_le.mpr hlt, hfewer]
      rfl
    · simp only [exec, execPortTrainingEnd, hp, hlink, hcore, hfail, Nat.not_le.mpr hlt, Nat.not_lt.mpr htrained, hlanes, hfewer]
      rfl
    · simp only [exec, execPortTrainingEnd, hp, hlink, hcore, hfail, Nat.not_le.mpr hlt, Nat.not_lt.mpr (hfew _ _ hlocked), hlanes, Nat.not_lt.mpr hlocked, hkey]
      rfl
    · let v : Port := { p with
        link := .confirming, lanes := (List.range 4).filter (fun l => trained.contains l && locked.contains l),
        salt := (drawBytes s 16).2 }
      let m : LinkMsg := .hello s.security.jobId s.member port (drawBytes s 16).2
      have hexec : exec (.portTrainingEnd port true trained locked) s = .next (setPort s.bump port (v.withControl m false)) := by
        rw [← sendControl_setPort (s := s.bump) hport]
        simp only [exec, execPortTrainingEnd, hp, hlink, hcore, Nat.not_le.mpr hlt, Nat.not_lt.mpr (hfew _ _ hlocked), hlanes, Nat.not_lt.mpr hlocked,
          Option.isNone_iff_eq_none, hkey]
        rfl
      have hport' := portAt_setPort (s := s.bump) hport (v.withControl m false)
      refine ⟨_, (drawBytes s 16).2, hexec, ?_, ?_, ?_, fun q hq => portAt_setPort_ne s.bump hq _,
        sameBut_of_forget [14, 21] _ _ _ (forget_setPort [14, 21] (by decide) s.bump port _) (by decide)⟩
      · rw [hport']; rfl
      · rw [hport']; rfl
      · rw [hport']; rfl
  case retry =>
    have hexec : exec (.portRetry port) s = .next (startTraining s port) := by
      simp [exec, execPortRetry, hp, hlink, hlow, hhigh]
    refine ⟨_, hexec, ?_, (portChanged _).1, (portChanged _).2⟩
    rw [startTraining, portAt_setPort hport]
  case hello =>
    have hfail := failPort_of_not_up hport (by simp [hlink])
    refine ⟨fun hjob => ⟨_, ?_, rfl⟩, fun hjob hmem => ⟨_, ?_, rfl⟩, fun hjob hmem hself => ⟨_, ?_, rfl⟩, fun hjob hmem hself => ?_⟩
    · simp [exec, execHello, hp, hlink, hhello, hjob, hfail, setPort, State.setLinks]
    · simp [exec, execHello, hp, hlink, hhello, hjob, hmem, hfail, setPort, State.setLinks]
    · simp [exec, execHello, hp, hlink, hhello, hjob, ← hself, hmem, hfail, setPort, State.setLinks]
    · have hexec : exec (.hello port jobId member peerPort salt) s = .next (setPort s port
          (Port.withControl { p with hello := some (member, peerPort, salt) } (.confirmation p.salt salt) true)) := by
        simp [exec, execHello, hp, hlink, hhello, hjob, hself, hmem, sendControl_setPort hport]
      have hport' := portAt_setPort hport
        (Port.withControl { p with hello := some (member, peerPort, salt) } (.confirmation p.salt salt) true)
      refine ⟨_, hexec, ?_, ?_, ?_, ?_, (portChanged _).1, (portChanged _).2⟩
      · rw [hport']; rfl
      · rw [hport']; exact hlink
      · rw [hport']; rfl
      · rw [hport']; rfl
  case confirmation =>
    have hfail := failPort_of_not_up hport (by simp [hlink])
    refine ⟨fun a b tagValid hbad => ⟨_, ?_, rfl⟩, ?_⟩
    · have hnot : (tagValid && a == salt && b == p.salt) = false := by
        rcases hbad with h | h | h <;> simp [h]
      simp [exec, execConfirmation, hp, hlink, hhello, hconf, hnot, hfail, setPort, State.setLinks]
    · let v : Port := { p with confirmed := true, peer := some (member, peerPort), rxCount := 1 }
      have hexec : exec (.confirmation port salt p.salt true) s = .next (setPort s port
          (v.withControl (.creditAdvertisement bufferSizes) true)) := by
        simp [exec, execConfirmation, hp, hlink, hhello, hconf, sendControl_setPort hport, v]
      have hport' := portAt_setPort hport (v.withControl (.creditAdvertisement bufferSizes) true)
      refine ⟨_, hexec, ?_, ?_, ?_, (portChanged _).1, (portChanged _).2⟩
      · rw [hport']; rfl
      · rw [hport']; rfl
      · rw [hport']; rfl
  case advertisement =>
    let v : Port := { p with
      link := .up, credits := sizes, rxCount := p.rxCount + 1, counters := modifyAt p.counters 9 (· + 1) }
    have hport' := portAt_setPort hport v
    have hothers : ∀ q, q ≠ port → portAt (setPort s port v) q = portAt s q := (portChanged v).1
    have hexec : exec (.creditAdvertisement port sizes) s = .next (pump (postMissingLane (setPort s port v) port p.lanes)) := by
      simp only [exec, execCreditAdvertisement, hp]
      exact if_neg (by simp [hlink, hconf])
    have hsame := forget_postMissingLane [3, 20] (by decide) (by decide) (setPort s port v) port p.lanes
    have hports : ∀ q, portAt (postMissingLane (setPort s port v) port p.lanes) q = portAt (setPort s port v) q := fun q => by
      rw [portAt, portAt, links_of_forget hsame (by decide)]
    refine ⟨_, hexec, ?_, ?_, fun q hq => ?_, fun l hl hall => ?_, fun hall => ?_, ?_⟩
    · rw [hports, hport']
    · rw [hports, hport']
    · rw [hports, hothers q hq]
    · rw [postMissingLane, hall, find_missing_lane hl]
      exact postEvent_posted _ _ _ _
    · rw [postMissingLane, hall]
      rfl
    · exact sameBut_of_forget [3, 14, 20] _ _ _ ((forget_postMissingLane [3, 14, 20] (by decide) (by decide) _ _ _).trans
        (forget_setPort _ (by decide) _ _ _)) (by decide)

/-! ### Service -/

/-- An UP port as it takes a valid frame: the frame counter moves and a run of failed tags ends (R296). -/
def Port.tookFrame (p : Port) : Port :=
  { p with rxCount := p.rxCount + 1, badTags := 0, counters := modifyAt p.counters 1 (· + 1) }

theorem countPort_eq {s : State} {n : Nat} {p : Port} (h : s.links.ports[n]? = some p) (field k : Nat) :
    countPort s n field k = setPort s n { p with counters := modifyAt p.counters field (· + k) } := by
  rw [countPort, modifyAt, h]
  rfl

/-- Settles O16, frame by frame. -/
theorem linkServiceFrames : Obligations.LinkServiceFrames := by
  intro s port p hport hup
  have hp := portAt_of_port hport
  refine ⟨?send, ?take, fun seq => ?replay, fun badTag hfew => ?discard, fun rx ack units hrx hseq hepoch => ?credit⟩
  case send => simp [exec, execKeepaliveSend, hp, hup, sendControl_eq hport, Port.withControl]
  case take => simp [exec, execKeepalive, hp, hup]
  case replay =>
    let due (r : Word32) : Bool := decide ((r - seq).toNat < 2 ^ 31)
    let control := p.controlOut.filter (fun f => due f.1)
    let count (f : Word32) : Nat := p.txCount - (BitVec.ofNat 32 p.txCount - f).toNat
    let q : Port := { p.tookFrame with
      control := p.control ++ control.map (·.2), controlSeq := p.controlSeq ++ control.map (fun f => (f.1, bitAt (count f.1) 32)),
      counters := modifyAt p.tookFrame.counters 7 (· + 1) }
    have hexec : exec (.replayRequest port seq) s = .next (resendFrom (setPort s port p.tookFrame) port seq) := by
      simp [exec, execReplayRequest, hp, hup, Port.tookFrame]
    have hports : (resendFrom (setPort s port p.tookFrame) port seq).links.ports = s.links.ports.set port q := by
      rw [resendFrom, portAt_setPort hport, countPort_eq (p := { q with counters := p.tookFrame.counters })]
      · simp only [setPort, State.setLinks_links, List.set_set]
        rfl
      · simp only [setPort, State.setLinks_links, List.set_set]
        exact List.getElem?_set_self (List.getElem?_eq_some_iff.mp hport).1
    refine ⟨_, q, hexec, exec_sameBut _ _ _ _ hexec rfl, hports, rfl, rfl, hup, rfl, rfl, rfl, rfl, rfl, ?_, rfl⟩
    rw [resendFrom, portAt_setPort hport]
    rfl
  case discard =>
    let v : Port := { p with
      badTags := if badTag then p.badTags + 1 else p.badTags,
      counters := modifyAt p.counters (if badTag then 6 else 5) (· + 1) }
    have hbad : v.badTags = p.badTags + (if badTag then 1 else 0) := by cases badTag <;> rfl
    have hexec : exec (.frameDiscard port badTag) s =
        .next (setPort s port (v.withControl (.replayRequest (nextSeq v)) true)) := by
      rw [← sendControl_setPort hport]
      simp only [exec, execFrameDiscard, hp]
      exact (if_neg (by simp [hup])).trans (if_neg (show ¬ 16 ≤ v.badTags by rw [hbad]; omega))
    exact ⟨_, hexec, rfl, rfl, rfl, hup, rfl, rfl, hbad, rfl, rfl⟩
  case credit =>
    subst hrx
    have horder : inOrder p rx = true := by simp [inOrder, nextSeq, hseq, hepoch]
    simp [exec, execCredit, hp, hup, horder]

end Sys2Proof.Machine
end

section
/-! SUPPORT. Events that stay once they are posted, ports that fail and ports that go on over three lanes (R296, R308 to
R310). -/

namespace Sys2Proof.Machine

open Sys2Proof.Safety

/-! ### Posted events stay -/

/-- An event of a kind that never merges (R251). -/
def NeverMerges (b : EventBody) : Prop := ∀ c, sameMergedKind b c = false

theorem neverMerges_memberLost (named : Option Nat) (reason : Nat) : NeverMerges (.memberLost named reason) := fun _ => rfl

theorem neverMerges_laneDegraded (port lane remaining : Nat) : NeverMerges (.laneDegraded port lane remaining) := fun _ => rfl

theorem mergeHeld_keeps {e x : Event} (hx : NeverMerges x.body) {l l' : List Event} (h : mergeHeld e l = some l') (hmem : x ∈ l) :
    x ∈ l' := by
  induction l generalizing l' with
  | nil => cases hmem
  | cons a l ih =>
    rw [mergeHeld] at h
    split at h
    case isTrue hmerges =>
      cases h
      rcases List.mem_cons.mp hmem with rfl | hmem
      · simp [hx e.body] at hmerges
      · exact List.mem_cons_of_mem _ hmem
    case isFalse =>
      obtain ⟨r, hr, rfl⟩ := Option.map_eq_some_iff.mp h
      rcases List.mem_cons.mp hmem with rfl | hmem
      · exact List.mem_cons_self
      · exact List.mem_cons_of_mem _ (ih hr hmem)

theorem eventPosted_writeEvent {s : State} {die : Nat} {b : EventBody} (h : EventPosted s die b) (e : Event) :
    EventPosted (writeEvent s e) die b := by
  rcases h with ⟨r, hr, hbody⟩ | hheld
  · exact .inl ⟨r, List.mem_append_left _ hr, hbody⟩
  · exact .inr hheld

theorem eventPosted_holdEvent {s : State} {die : Nat} {b : EventBody} (hb : NeverMerges b) (h : EventPosted s die b) (e : Event) :
    EventPosted (holdEvent s e) die b := by
  rcases h with hwritten | ⟨x, hx, rfl, hdie⟩
  · exact .inl hwritten
  · refine .inr ⟨x, ?_, rfl, hdie⟩
    rw [holdEvent]
    cases hm : mergeHeld e s.rings.heldEvents with
    | none => exact List.mem_append_left _ hx
    | some l => exact mergeHeld_keeps hb hm hx

/-- A later event leaves one that never merges where it stands. -/
theorem eventPosted_postEvent {s : State} {die : Nat} {b : EventBody} (hb : NeverMerges b) (h : EventPosted s die b)
    (die' step : Nat) (body : EventBody) : EventPosted (postEvent s die' step body) die b := by
  unfold postEvent postEventFor
  dsimp only
  split <;> split
  · exact eventPosted_writeEvent (by exact h) _
  · exact eventPosted_holdEvent hb (by exact h) _
  · exact eventPosted_writeEvent (by exact h) _
  · exact eventPosted_holdEvent hb (by exact h) _

theorem eventPosted_memberLost {s : State} {die : Nat} {b : EventBody} (hb : NeverMerges b) (h : EventPosted s die b)
    (named : Option Nat) (reason step : Nat) : EventPosted (memberLost s named reason step) die b :=
  eventPosted_postEvent hb h _ _ _

theorem memberLost_posted (s : State) (named : Option Nat) (reason step : Nat) :
    EventPosted (memberLost s named reason step) 47 (.memberLost named reason) := postEvent_posted _ _ _ _

/-- An event posted on a state leaves its links. -/
theorem postEvent_links (s : State) (die step : Nat) (body : EventBody) : (postEvent s die step body).links = s.links :=
  links_of_forget (forget_postEvent [3, 16, 20] (by decide) (by decide) (by decide) s die step body) (by decide)

theorem memberLost_links (s : State) (named : Option Nat) (reason step : Nat) : (memberLost s named reason step).links = s.links :=
  postEvent_links s _ _ _

/-! ### A port that fails -/

/-- A member named lost as a frame for it is left without an UP port. -/
def loseFrame (s : State) (f : OutFrame) : State := memberLost s (some f.dest) 8 (stepNow s)

theorem forget_loseFrames (ks : List Nat) (h3 : 3 ∈ ks) (h16 : 16 ∈ ks) (h20 : 20 ∈ ks) (s : State) (l : List OutFrame) :
    forget ks (l.foldl loseFrame s) = forget ks s :=
  forget_foldl ks loseFrame (fun _ _ => forget_memberLost ks h3 h16 h20 _ _ _ _) l s

/-- Naming several members lost leaves the events posted before. -/
theorem eventPosted_loseFrames {die : Nat} {b : EventBody} (hb : NeverMerges b) (l : List OutFrame) (s : State)
    (h : EventPosted s die b) : EventPosted (l.foldl loseFrame s) die b := by
  induction l generalizing s with
  | nil => exact h
  | cons x l ih => exact ih _ (eventPosted_memberLost hb h _ _ _)

/-- A failing UP port: it is FAILED, the peer is lost where a frame was in flight, and so are the members that frames can no
longer reach. -/
theorem failPort_of_up {s : State} {n : Nat} {p : Port} (h : s.links.ports[n]? = some p) (hup : p.link = .up) (reason : Nat) :
    ∃ (inFlight : Bool) (l : List OutFrame), (p.replay ≠ [] → inFlight = true) ∧
      failPort s n reason =
        let u := setPort s n { p with link := .failed, reason := reason }
        l.foldl loseFrame (if inFlight then memberLost u (p.peer.map (·.1)) 8 (stepNow u) else u) := by
  let inFlight := !p.replay.isEmpty || s.links.waiting.any (fun f => s.links.sent.any (fun g => g.1 == n && sameFlow f g.2))
  let u := setPort s n { p with link := .failed, reason := reason }
  let t := if inFlight then memberLost u (p.peer.map (·.1)) 8 (stepNow u) else u
  refine ⟨inFlight, t.links.waiting.filter (fun f => strandedFrame t f && !strandedFrame s f),
    fun hreplay => by simp [inFlight, hreplay], ?_⟩
  rw [failPort, portAt_of_port h]
  exact if_pos (by simp [hup])

/-- What a failing UP port leaves: its own state, the peer named lost where a frame was in flight, and every event that was
posted before (R310). -/
theorem failPort_leaves {s : State} {n : Nat} {p : Port} (h : s.links.ports[n]? = some p) (hup : p.link = .up) (reason : Nat) :
    (failPort s n reason).links = (setPort s n { p with link := .failed, reason := reason }).links ∧
      (p.replay ≠ [] → EventPosted (failPort s n reason) 47 (.memberLost (p.peer.map (·.1)) 8)) ∧
      (∀ die b, NeverMerges b → EventPosted s die b → EventPosted (failPort s n reason) die b) := by
  obtain ⟨inFlight, l, hflight, hfail⟩ := failPort_of_up h hup reason
  rw [hfail]
  dsimp only
  refine ⟨?links, fun hreplay => ?peer, fun die b hb hposted => ?kept⟩
  case links =>
    rw [links_of_forget (forget_loseFrames [3, 16, 20] (by decide) (by decide) (by decide) _ l) (by decide)]
    cases inFlight
    · rfl
    · rw [if_pos rfl, memberLost_links]
  case peer =>
    rw [if_pos (hflight hreplay)]
    exact eventPosted_loseFrames (neverMerges_memberLost _ _) l _ (memberLost_posted _ _ _ _)
  case kept =>
    refine eventPosted_loseFrames hb l _ ?_
    have hset : EventPosted (setPort s n { p with link := .failed, reason := reason }) die b := hposted
    cases inFlight
    · rw [if_neg Bool.false_ne_true]
      exact hset
    · rw [if_pos rfl]
      exact eventPosted_memberLost hb hset _ _ _

/-- The peer's announcement, and the request for replay behind it (R308). -/
def Port.announcing (p : Port) (lane : Nat) (lanes : List Nat) : Port :=
  let q := p.withControl (.reStripe lane (laneMask lanes) (BitVec.ofNat 32 p.txCount)) true
  q.withControl (.replayRequest (nextSeq q)) true

theorem announceStripe_setPort {s : State} {n : Nat} {p : Port} (h : s.links.ports[n]? = some p) (v : Port) (lane : Nat)
    (lanes : List Nat) : announceStripe (setPort s n v) n lane lanes = setPort s n (v.announcing lane lanes) := by
  rw [announceStripe, portAt_setPort h, sendControl_setPort h, portAt_setPort h, sendControl_setPort h]
  rfl

/-- Settles O17: the ways in which a port fails, then the two ends of a new striping. -/
theorem portsFailAndReStripe : Obligations.PortsFailAndReStripe := by
  refine ⟨fun s port p hlt hport hup => ?fails, fun s port p hlt hport hup => ?stripes⟩
  case fails =>
    have hp := portAt_of_port hport
    have hfailed : ∀ (u : State) (v : Port) (reason : Nat), u.links = (setPort s port v).links → v.link = .up →
        v.replay = p.replay → v.peer = p.peer → SameBut [.rings, .links, .sequences] s u →
        let b := failPort u port reason
        (portAt b port).link = .failed ∧ (portAt b port).reason = reason ∧ (portAt b port).replay = p.replay ∧
          (∀ q, q ≠ port → portAt b q = portAt s q) ∧ b.links.waiting = s.links.waiting ∧ b.links.sent = s.links.sent ∧
          (p.replay ≠ [] → EventPosted b 47 (.memberLost (p.peer.map (·.1)) 8)) ∧
          SameBut [.rings, .links, .sequences, .securing] s b := by
      intro u v reason hlinks hv hreplay hpeer hsame b
      have hu : u.links.ports[port]? = some v := by rw [hlinks]; exact port_setPort hport v
      obtain ⟨hlinks', hlost, -⟩ := failPort_leaves hu hv reason
      have hb : b.links = (setPort s port { v with link := .failed, reason := reason }).links := by
        rw [hlinks']
        simp only [setPort, State.setLinks_links, hlinks, List.set_set]
      have hports : ∀ q, portAt b q = portAt (setPort s port { v with link := .failed, reason := reason }) q := fun q => by
        rw [portAt, portAt, hb]
      have hself : portAt b port = { v with link := .failed, reason := reason } := by rw [hports, portAt_setPort hport]
      refine ⟨by rw [hself], by rw [hself], by rw [hself]; exact hreplay,
        fun q hq => by rw [hports, portAt_setPort_ne s hq], by rw [hb]; rfl, by rw [hb]; rfl,
        fun h => hpeer ▸ hlost (by rw [hreplay]; exact h), ?_⟩
      exact SameBut.trans (SameBut.mono hsame (by decide)) (sameBut_of_forget [3, 14, 16, 20] _ _ _
        (forget_failPort [3, 14, 16, 20] (by decide) (by decide) (by decide) (by decide) u port reason) (by decide))
    have hset : ∀ v : Port, SameBut [.rings, .links, .sequences] s (setPort s port v) := fun v =>
      SameBut.mono (sameBut_setPort s port v) (by decide)
    have hpost : ∀ (v : Port) (body : EventBody), (∀ u, ownFault u body = false) →
        SameBut [.rings, .links, .sequences] s (postEvent (setPort s port v) (dieL port) (stepNow (setPort s port v)) body) :=
      fun v body h => sameBut_of_forget [3, 14, 20] _ _ _
        ((postEvent_forget [3, 14, 20] (by decide) (by decide) _ _ _ _ h).trans (forget_setPort _ (by decide) _ _ _)) (by decide)
    have hkept : ∀ (v : Port) (die step reason lane remaining : Nat), v.link = .up →
        EventPosted (failPort (postEvent (setPort s port v) die step (.laneDegraded port lane remaining)) port reason) die
          (.laneDegraded port lane remaining) := fun v die step reason lane remaining hv => by
      have hu : (postEvent (setPort s port v) die step (.laneDegraded port lane remaining)).links.ports[port]? = some v := by
        rw [postEvent_links]
        exact port_setPort hport v
      exact (failPort_leaves hu hv reason).2.2 _ _ (neverMerges_laneDegraded _ _ _) (postEvent_posted _ _ _ _)
    refine ⟨?liveness, fun htags => ?tags, fun lane hlane hfew => ?lane, fun lane bits seq hfew => ?stripe⟩
    case liveness =>
      have hself : setPort s port p = s := by
        obtain ⟨hlen, hget⟩ := List.getElem?_eq_some_iff.mp hport
        rw [setPort, ← hget, List.set_getElem_self]
        rfl
      refine ⟨failPort s port 9, ?_, ?_⟩
      · simp only [exec, execLivenessLost, hp]
        exact if_pos (by simp [hup])
      · exact hfailed s p 9 (by rw [hself]) hup rfl rfl (SameBut.refl _ s)
    case tags =>
      let v : Port := { p with badTags := p.badTags + 1, counters := modifyAt p.counters 6 (· + 1) }
      refine ⟨failPort (setPort s port v) port 10, ?_, hfailed _ v 10 rfl hup rfl rfl (hset v)⟩
      simp only [exec, execFrameDiscard, hp]
      exact (if_neg (by simp [hup])).trans (if_pos (show 16 ≤ p.badTags + 1 by omega))
    case lane =>
      let v : Port := { p with lanes := p.lanes.filter (· != lane), counters := modifyAt p.counters 8 (· + 1) }
      refine ⟨failPort (postEvent (setPort s port v) (dieL port) (stepNow (setPort s port v))
          (.laneDegraded port lane v.lanes.length)) port 11, ?_,
        hfailed _ v 11 (postEvent_links _ _ _ _) hup rfl rfl (hpost v _ fun _ => rfl), hkept v _ _ 11 _ _ hup⟩
      simp only [exec, execLaneFailure, hp]
      exact (if_neg (by simp [hup, hlane])).trans (if_pos hfew)
    case stripe =>
      let v : Port := { p with
        lanes := (List.range 4).filter (fun l => bitAt bits l), rxCount := p.rxCount + 1, badTags := 0,
        counters := modifyAt (modifyAt p.counters 1 (· + 1)) 8 (· + 1) }
      refine ⟨failPort (postEvent (setPort s port v) (dieL port) (stepNow (setPort s port v))
          (.laneDegraded port lane v.lanes.length)) port 11, ?_,
        hfailed _ v 11 (postEvent_links _ _ _ _) hup rfl rfl (hpost v _ fun _ => rfl), hkept v _ _ 11 _ _ hup⟩
      simp only [exec, execReStripe, hp]
      exact (if_neg (by simp [hup])).trans (if_pos hfew)
  case stripes =>
    have hp := portAt_of_port hport
    have hposted : ∀ (v : Port) (lane remaining : Nat),
        let u := setPort s port v
        let t := postEvent u (dieL port) (stepNow u) (.laneDegraded port lane remaining)
        portAt t port = v ∧ (∀ q, q ≠ port → portAt t q = portAt s q) ∧ t.links.waiting = s.links.waiting ∧
          EventPosted t (48 + port) (.laneDegraded port lane remaining) ∧ SameBut [.rings, .links, .sequences] s t := by
      intro v lane remaining u t
      have hlinks : ∀ q, portAt t q = portAt u q := fun q => by rw [portAt, portAt, postEvent_links]
      refine ⟨(hlinks port).trans (portAt_setPort hport v), fun q hq => (hlinks q).trans (portAt_setPort_ne s hq v), ?_,
        postEvent_posted _ _ _ _, ?_⟩
      · rw [postEvent_links]
        rfl
      · exact sameBut_of_forget [3, 14, 20] _ _ _
          ((postEvent_forget [3, 14, 20] (by decide) (by decide) u _ _ _ (fun _ => rfl)).trans
            (forget_setPort _ (by decide) _ _ _)) (by decide)
    refine ⟨fun lane hlane hmany => ?lane, fun lane bits seq hmany => ⟨fun hpaused => ?answers, fun hpaused => ?resumes⟩⟩
    case lane =>
      let v : Port := { p with lanes := p.lanes.filter (· != lane), counters := modifyAt p.counters 8 (· + 1), paused := true }
      obtain ⟨hself, hothers, -, hevent, hsame⟩ := hposted (v.announcing lane v.lanes) lane v.lanes.length
      refine ⟨_, ?_, ⟨?_, ?_, ?_, ?_, ?_⟩, ?_, ?_, hothers, hevent, hsame⟩
      · rw [← announceStripe_setPort hport]
        simp only [exec, execLaneFailure, hp]
        refine (if_neg (by simp [hup, hlane])).trans ((if_neg (Nat.not_lt.mpr hmany)).trans ?_)
        rw [portAt_setPort hport, setPort_setPort]
      all_goals rw [hself]
      · rfl
      · exact hup
      · rfl
      · rfl
      · simp only [Port.announcing, Port.withControl, List.append_assoc]
        rfl
      · rfl
      · rfl
    case answers =>
      let v : Port := { p with
        lanes := (List.range 4).filter (fun l => bitAt bits l), rxCount := p.rxCount + 1, badTags := 0,
        counters := modifyAt (modifyAt p.counters 1 (· + 1)) 8 (· + 1) }
      obtain ⟨hself, hothers, hwaiting, hevent, hsame⟩ := hposted (v.announcing lane v.lanes) lane v.lanes.length
      refine ⟨_, ?_, ⟨?_, ?_, ?_, ?_, ?_⟩, ?_, hothers, hwaiting, hevent, hsame⟩
      · rw [← announceStripe_setPort hport]
        simp only [exec, execReStripe, hp]
        exact (if_neg (by simp [hup])).trans ((if_neg (Nat.not_lt.mpr hmany)).trans (if_neg (by simp [hpaused])))
      all_goals rw [hself]
      · rfl
      · exact hup
      · rfl
      · rfl
      · simp only [Port.announcing, Port.withControl, List.append_assoc]
        rfl
      · rfl
    case resumes =>
      simp only [exec, execReStripe, hp]
      exact (if_neg (by simp [hup])).trans ((if_neg (Nat.not_lt.mpr hmany)).trans (if_pos hpaused))

end Sys2Proof.Machine
end

section
/-! SUPPORT. Frames that are received, forwarded and granted (R294 to R307). -/

namespace Sys2Proof.Machine

open Sys2Proof.Safety

/-! ### Receiving a frame -/

theorem sameBut_acceptFrame {s a : State} {rx : Rx} {cls : Nat} {stream : Bool} (h : acceptFrame s rx cls stream = some a) :
    SameBut [.links] s a :=
  sameBut_of_forget [14] _ _ _ (forget_acceptFrame [14] (by decide) s rx cls stream a h) (by decide)

/-- A frame that is taken and keeps to its layout is handled, and its room granted again. -/
theorem receive_taken {s a : State} {rx : Rx} {kind : Nat} {body : MsgBody} {layoutOk : Bool}
    (h : acceptFrame s rx ((kindClass kind).getD 0) (kindStream kind) = some a) (hframed : Framed rx body) (hok : layoutOk = true)
    (run : State → State) : receive s rx kind body layoutOk run = .next (replenish (run a) rx kind) := by
  obtain ⟨hheader, hlength⟩ := hframed
  simp [receive, h, hheader, hlength, hok]

/-- A frame whose header or payload breaks its layout loses its source. -/
theorem receive_broken {s a : State} {rx : Rx} {kind : Nat} {body : MsgBody} {layoutOk : Bool}
    (h : acceptFrame s rx ((kindClass kind).getD 0) (kindStream kind) = some a) (hbad : ¬ Framed rx body ∨ layoutOk = false)
    (run : State → State) :
    receive s rx kind body layoutOk run = .next (memberLost a (some rx.source) 8 (stepNow a)) := by
  have hnot : (layoutOk && headerOk rx && rx.length == bodyLength body) = false := by
    rcases hbad with hbad | hbad
    · rw [Bool.eq_false_iff]
      intro hall
      simp only [Bool.and_eq_true, beq_iff_eq] at hall
      exact hbad ⟨hall.1.2, hall.2⟩
    · simp [hbad]
  simp [receive, h, hnot]

/-- What a frame that is taken and loses its source leaves (R294, R298). -/
theorem memberLost_taken {s a : State} {rx : Rx} {cls : Nat} {stream : Bool} (h : acceptFrame s rx cls stream = some a)
    (named : Option Nat) :
    EventPosted (memberLost a named 8 (stepNow a)) 47 (.memberLost named 8) ∧
      (memberLost a named 8 (stepNow a)).links = a.links ∧
      SameBut [.rings, .links, .securing, .sequences] s (memberLost a named 8 (stepNow a)) :=
  ⟨memberLost_posted _ _ _ _, memberLost_links _ _ _ _,
    SameBut.trans (SameBut.mono (sameBut_acceptFrame h) (by decide)) (sameBut_of_forget [3, 16, 20] _ _ _
      (forget_memberLost [3, 16, 20] (by decide) (by decide) (by decide) a named 8 (stepNow a)) (by decide))⟩

/-! ### Forwarding -/

/-- The frame that is offered for forwarding is the one that its port expects next. -/
theorem forwarded_rx {s : State} {rx : Rx} (hseq : rx.seq = BitVec.ofNat 32 (portAt s rx.port).rxCount)
    (hepoch : rx.keyEpoch = bitAt (portAt s rx.port).rxCount 32) :
    ({ port := rx.port, source := rx.source, hops := rx.hops, epoch := rx.epoch, length := rx.length, flow := rx.flow,
       seq := nextSeq (portAt s rx.port), keyEpoch := bitAt (portAt s rx.port).rxCount 32 } : Rx) = rx := by
  rw [nextSeq, ← hseq, ← hepoch]

/-- Settles O19: a frame to forward by its header and its route, a reserved kind, and the release of a route table. -/
theorem framesForwarded : Obligations.FramesForwarded := by
  refine ⟨fun s a rx dest cls kind stream hseq hepoch ha => ⟨fun hdest => ⟨fun hbad => ?fault, fun dist mask htravels hheader hroute hhops hdist =>
      ?forward⟩, ?reserved⟩, fun s hrun hprev hgone => ⟨fun hdue => ?free, fun f hdue => ?passes⟩⟩
  case fault =>
    obtain ⟨hposted, hlinks, hsame⟩ := memberLost_taken ha (some rx.source)
    refine ⟨_, ?_, hposted, hlinks, hsame⟩
    simp only [exec, execFrameForward, forwarded_rx hseq hepoch, ha]
    rw [if_neg (by simpa using hdest)]
    by_cases hform : (!travels cls stream kind || !headerOk rx) = true
    · rw [if_pos hform]
    · rw [if_neg hform]
      simp only [Bool.or_eq_true, Bool.not_eq_true', not_or, Bool.not_eq_false] at hform
      cases hroute : routeFor a rx.epoch dest with
      | none => rfl
      | some r =>
        refine if_pos ?_
        rcases hbad with h | h | h | h | ⟨r', h, hlt⟩
        · exact absurd h (by simp [hform.1])
        · exact absurd h (by simp [hform.2])
        · exact absurd h (by simp [hroute])
        · exact .inl h
        · cases hroute.symm.trans h
          exact .inr hlt
  case forward =>
    let f : OutFrame :=
      { dest := dest, source := rx.source, cls := cls, stream := stream, hops := dist - 1, epoch := rx.epoch, kind := kind,
        length := rx.length, flow := rx.flow, body := .forwarded kind, granted := true, seq := 0, keyEpoch := false }
    refine ⟨if strandedFrame a f then memberLost a (some dest) 8 (stepNow a) else a, ?_, ?_⟩
    · split
      · exact .inr rfl
      · exact .inl rfl
    · simp only [exec, execFrameForward, forwarded_rx hseq hepoch, ha, hroute]
      rw [if_neg (by simpa using hdest), if_neg (by simp [htravels, hheader]), if_neg (by omega)]
      rfl
  case reserved =>
    obtain ⟨hposted, hlinks, hsame⟩ := memberLost_taken ha (some rx.source)
    exact ⟨_, by simp only [exec, execReservedFrameKind, ha], hposted, hlinks, hsame⟩
  case free =>
    have hheld : s.cfg.prevRoutes.isNone = false := by simpa [← Option.not_isSome] using hprev
    simp only [exec, execRouteTableFree, hrun, hheld, hgone, hdue]
    rfl
  case passes =>
    have hheld : s.cfg.prevRoutes.isNone = false := by simpa [← Option.not_isSome] using hprev
    simp only [exec, execRouteTableFree, hrun, hheld, hgone, hdue]
    rfl

/-! ### Leaving under credit -/

/-- The port of a flow is an UP port of the mask (R306). -/
theorem pickPort_eq_some {s : State} {mask source dest n : Nat} {flow : Word32} (h : pickPort s mask source dest flow = some n) :
    n < 16 ∧ bitAt mask n = true ∧ (portAt s n).link = .up := by
  have hmem := List.mem_of_find?_eq_some h
  have hports : n ∈ maskPorts mask := by
    rcases List.mem_append.mp hmem with h | h
    · exact List.mem_of_mem_drop h
    · exact List.mem_of_mem_take h
  simp only [maskPorts, List.mem_filter, List.mem_range] at hports
  exact ⟨hports.1, hports.2, by simpa using List.find?_some h⟩

theorem frameRoute_eq_some {s : State} {f : OutFrame} {n hops : Nat} (h : frameRoute s f = some (n, hops)) :
    ∃ dist mask, routeFor s f.epoch f.dest = some (dist, mask) ∧ hops = dist - 1 ∧ pickPort s mask f.source f.dest f.flow = some n := by
  obtain ⟨⟨dist, mask⟩, hroute, hpick⟩ := Option.bind_eq_some_iff.mp h
  obtain ⟨m, hm, hpair⟩ := Option.map_eq_some_iff.mp hpick
  cases hpair
  exact ⟨dist, mask, hroute, rfl, hm⟩

/-- A frame that can leave through a port has a grant where it needs one, credit, and room for replay (R300, R302). -/
theorem canLeave_iff (s : State) (f : OutFrame) (p : Port) : canLeave s f p = true ↔
    (f.granted = true ∨ needsGrant f.kind = false ∨ frameUnits f.length ≤ (aGet s.links.grants (grantKey f)).getD 0) ∧
      frameUnits f.length ≤ nth p.credits (poolIndex f.cls f.stream (3 - f.hops)) 0 ∧ p.paused = false ∧
      sumOf (p.replay.map (fun r => r.2.length + 32)) + f.length + 32 ≤ 262144 := by
  simp [canLeave, and_assoc, or_assoc]

/-- What a frame that leaves has met. -/
theorem leavesBy_conditions {s : State} {f g : OutFrame} {n : Nat} (h : leavesBy s f = some (n, g)) :
    s.links.waiting.any (sameFlow f) = false ∧ ∃ hops, frameRoute s f = some (n, hops) ∧ g = f.withHops hops ∧
      s.links.waiting.any (fun w => w.cls == f.cls && queuedAt s n w) = false ∧
      canLeave s (f.withHops hops) (portAt s n) = true ∧ unitState s n ≠ .draining := by
  unfold leavesBy at h
  split at h
  case isTrue => cases h
  case isFalse hflow =>
    obtain ⟨⟨m, hops⟩, hroute, hr⟩ := Option.bind_eq_some_iff.mp h
    split at hr
    case isTrue => cases hr
    case isFalse hclass =>
      split at hr
      case isTrue hcan =>
        cases hr
        simp only [Bool.and_eq_true, bne_iff_ne] at hcan
        exact ⟨Bool.eq_false_iff.mpr hflow, hops, hroute, rfl, Bool.eq_false_iff.mpr hclass, hcan.1, hcan.2⟩
      case isFalse => cases hr

/-- Only a grant of class 2 asks for a slice. -/
theorem sliceGranted_of_cls {g : GrantF} (h : g.cls ≠ 2) (s : State) (source : Nat) : sliceGranted s source g = s := by
  unfold sliceGranted
  split
  · rfl
  · exact if_pos (by simp [h])

/-- Settles O20: what a frame that leaves has met, and what a grant adds. -/
theorem framesLeaveUnderCredit : Obligations.FramesLeaveUnderCredit := by
  refine ⟨fun s f g n h => ?leaves, fun s a rx gs ha hframed hok => ?grant, fun b source g hcls => ?adds, fun b source g hcls => ?slice⟩
  case leaves =>
    obtain ⟨hflow, hops, hroute, rfl, hclass, hcan, hdrain⟩ := leavesBy_conditions h
    obtain ⟨dist, mask, hentry, rfl, hpick⟩ := frameRoute_eq_some hroute
    obtain ⟨hn, hbit, hup⟩ := pickPort_eq_some hpick
    obtain ⟨hgrant, hcredit, hpaused, hroom⟩ := (canLeave_iff _ _ _).mp hcan
    refine ⟨hup, hpaused, hdrain, hn, ⟨dist, mask, hentry, hbit, rfl⟩, hcredit, hroom, fun hg hkind => ?_, fun w hw hcls => ?_,
      fun w hw hsame => ?_⟩
    · rcases hgrant with h | h | h
      · exact absurd (hg.symm.trans h) Bool.false_ne_true
      · exact absurd h (by simp [needsGrant, OutFrame.withHops, hkind])
      · exact h
    · simpa [hcls] using List.any_eq_false.mp hclass w hw
    · obtain ⟨hsource, hdest, hcls, hflow'⟩ := hsame
      exact absurd (List.any_eq_false.mp hflow w hw) (by simp [sameFlow, hsource, hdest, hcls, hflow'])
  case grant => exact receive_taken ha hframed hok _
  case adds => exact sliceGranted_of_cls hcls _ _
  case slice => rfl

end Sys2Proof.Machine
end

section
/-! SUPPORT. Row requests, row-gradient streams and the contributions of an entry (R84 to R89, R127 to R132, R142). -/

namespace Sys2Proof.Machine

open Sys2Proof.Safety

/-! ### Row requests -/

/-- Recording a request leaves the list of requests. -/
theorem expectRow_requests (s : State) (step table pass source row : Nat) :
    (expectRow s step table pass source row).owners.requests = s.owners.requests := by
  unfold expectRow
  split <;> rfl

theorem recordRequest_requests (s : State) (q : OwnReq) : (recordRequest s q).owners.requests = s.owners.requests := by
  have hpages : ∀ (l : List PageRef) (u : State), (l.foldl (fun s p =>
      match pageAt s p with
      | none => s
      | some g => wantPage (setPage s { g with heat := min (g.heat + 1) 65535 }) { g with heat := min (g.heat + 1) 65535 }) u).owners =
        u.owners := by
    intro l u
    refine owners_of_forget (forget_foldl [6, 15] _ (fun v p => ?_) l u) (by decide)
    split
    · rfl
    · exact (forget_wantPage _ (by decide) (by decide) _ _).trans (forget_setPage _ (by decide) _ _)
  have hrows : ∀ (l : List (Nat × Nat)) (u : State),
      (l.foldl (fun s r => expectRow s q.step q.table q.pass q.source r.1) u).owners.requests = u.owners.requests := by
    intro l
    induction l with
    | nil => exact fun _ => rfl
    | cons r l ih => exact fun u => (ih _).trans (expectRow_requests u _ _ _ _ _)
  unfold recordRequest
  dsimp only
  split
  · exact congrArg Owners.requests (hpages _ s)
  · rw [hrows]
    exact congrArg Owners.requests (hpages _ s)

/-- The first frame of a request that no other frame has begun. -/
theorem takeRequest_first {s : State} {source : Nat} {flow : Word32} {f : RowRequestF} {eval : Bool}
    (h : ∀ q ∈ s.owners.requests, ¬ (q.source = source ∧ q.step = f.step ∧ q.table = f.table ∧ q.pass = f.pass ∧
      q.flow = flow ∧ q.complete = false)) :
    (takeRequest s source flow f eval).owners.requests = s.owners.requests ++
      [{ source := source, step := f.step, table := f.table, pass := f.pass, pool := f.pool, noGradient := f.noGradient,
         eval := eval, flow := flow, complete := f.last, rows := f.rows, groups := f.groups }] := by
  have hmine : ∀ q ∈ s.owners.requests, (q.source == source && q.step == f.step && q.table == f.table && q.pass == f.pass &&
      q.flow == flow && !q.complete) = false := by
    intro q hq
    rw [Bool.eq_false_iff]
    intro hall
    simp only [Bool.and_eq_true, beq_iff_eq, Bool.not_eq_true', and_assoc] at hall
    exact h q hq hall
  have hfind : s.owners.requests.find? (fun q => q.source == source && q.step == f.step && q.table == f.table && q.pass == f.pass &&
      q.flow == flow && !q.complete) = none := List.find?_eq_none.mpr fun q hq => by simp [hmine q hq]
  have hrest : s.owners.requests.filter (fun q => !(q.source == source && q.step == f.step && q.table == f.table &&
      q.pass == f.pass && q.flow == flow && !q.complete)) = s.owners.requests :=
    List.filter_eq_self.mpr fun q hq => by simp [hmine q hq]
  unfold takeRequest
  simp only [hfind, hrest, Option.getD_none, List.nil_append]
  split
  · rw [recordRequest_requests]
    split <;> rfl
  · rfl

/-- Settles O21: a request is kept, rows and sums go to their look-up, and a broken layout loses the source. -/
theorem rowFramesTaken : Obligations.RowFramesTaken := by
  intro s a rx ha lost
  have hlost : ∀ i, exec i s = .next (memberLost a (some rx.source) 8 (stepNow a)) → lost i := fun i hi =>
    ⟨_, hi, memberLost_taken ha (some rx.source)⟩
  refine ⟨fun f => ⟨fun hframed hok => ?request, fun hbad => hlost (.rowRequest rx f) (receive_broken (kind := 0x01) ha hbad _)⟩,
    fun f => ⟨fun hframed hok => receive_taken (kind := 0x02) ha hframed hok _,
      fun hbad => hlost (.rowData rx f) (receive_broken (kind := 0x02) ha hbad _)⟩,
    fun f => ⟨fun hframed hok => receive_taken (kind := 0x03) ha hframed hok _,
      fun hbad => hlost (.partialSum rx f) (receive_broken (kind := 0x03) ha hbad _)⟩⟩
  case request =>
    have howners : a.owners = s.owners := owners_of_forget (forget_acceptFrame [14] (by decide) s rx 0 false a ha) (by decide)
    refine ⟨takeRequest a rx.source rx.flow f (arrivesEval a rx.source f), receive_taken ha hframed hok _, ?_, fun hnew => ?_⟩
    · exact SameBut.trans (SameBut.mono (sameBut_acceptFrame ha) (by decide)) (sameBut_of_forget [6, 12, 15] _ _ _
        (forget_takeRequest [6, 12, 15] (by decide) (by decide) (by decide) a rx.source rx.flow f _) (by decide))
    · rw [takeRequest_first (by rw [howners]; exact hnew), howners]

/-! ### Streams -/

/-- A stream that is found is one of its member, and so is a new one. -/
theorem streamOf_member (s : State) (step table source pass : Nat) (flow : Word32) :
    (streamOf s step table source pass flow).member = source := by
  rw [streamOf]
  cases h : findStream s step table source pass with
  | none => rfl
  | some x =>
    have hx := List.find?_some h
    simp only [Bool.and_eq_true, beq_iff_eq] at hx
    exact hx.1.2

/-- A stream that breaks a rule withholds the reports and names its member lost (R132). -/
theorem streamFault_leaves (s : State) (x : StreamRx) :
    (streamFault s x).steps.halted = true ∧ EventPosted (streamFault s x) 47 (.memberLost (some x.member) 1) := by
  refine ⟨?_, memberLost_posted _ _ _ _⟩
  rw [streamFault, steps_of_forget (forget_memberLost [3, 16, 20] (by decide) (by decide) (by decide) _ _ _ _) (by decide)]
  rfl

/-- The layout of stream data does not depend on the links. -/
theorem streamLayout_setLinks (s : State) (v : Links) (rx : Rx) (f : StreamDataF) :
    streamLayout (s.setLinks v) rx f = streamLayout s rx f := rfl

/-- A frame that is taken changes the links only. -/
theorem acceptFrame_eq_setLinks {s a : State} {rx : Rx} {cls : Nat} {stream : Bool} (h : acceptFrame s rx cls stream = some a) :
    a = s.setLinks a.links := by
  simp only [acceptFrame] at h
  split at h
  · cases h
    rfl
  · cases h

/-- The merge's own grant gives one contribution of its lowest incomplete row, or the row has it. -/
theorem grantOne_granted (s : State) (e : Entry) (m pass : Nat) : isGranted (grantOne s e m pass) e m = true := by
  have hgranted : (grantOne s e m pass).owners.granted = s.owners.granted ++ [(e.step, e.table, e.row, m)] := by
    unfold grantOne
    dsimp only
    split
    · rfl
    · exact congrArg Owners.granted
        (owners_of_forget (forget_sendTo [3, 14, 16, 20] (by decide) (by decide) (by decide) (by decide) _ _ _ _) (by decide))
  rw [isGranted, hgranted]
  simp

/-- Settles O22: stream data, the end marker by what is wrong with it, the reserve's grant, and credit withheld. -/
theorem streamFramesTaken : Obligations.StreamFramesTaken := by
  refine ⟨fun s a rx ha => ?frames, fun s table e rest x hopen hnext => ?reserve, fun s die use x rest stopped hheld hslots => ?withheld⟩
  case frames =>
    have hlinks := acceptFrame_eq_setLinks ha
    have hsteps : stepAt a = stepAt s := by rw [hlinks]; rfl
    intro faulted
    have hfault : ∀ x : StreamRx, x.member = rx.source → faulted (streamFault a x) := fun x hx => by
      obtain ⟨hhalted, hposted⟩ := streamFault_leaves a x
      exact ⟨hhalted, hx ▸ hposted⟩
    refine ⟨fun f hframed hok => ⟨?data, fun hnone => ?noStep⟩, fun f hframed => ⟨receive_taken ha hframed rfl _, fun x hfind hgood => ?marker⟩⟩
    case data =>
      refine receive_taken ha hframed ?_ _
      rw [hlinks, streamLayout_setLinks] at hok
      rcases hok with h | h <;> simp [h]
    case noStep =>
      rw [takeStream, hsteps, hnone]
      exact hfault _ (streamOf_member a _ _ _ _ _)
    case marker =>
      have hfound : findStream a f.step f.table rx.source f.pass = some x := by rw [hlinks]; exact hfind
      have hof : streamOf a f.step f.table rx.source f.pass rx.flow = x := by rw [streamOf, hfound]; rfl
      have hmember : x.member = rx.source := hof ▸ streamOf_member a _ _ _ _ _
      have hrows : streamRows a f.step f.table rx.source f.pass = streamRows s f.step f.table rx.source f.pass := by rw [hlinks]; rfl
      have htake : takeStreamEnd a rx.source rx.flow f =
          if (stepAt s f.step).isNone || x.ended || x.part.isSome || x.count != f.rowCount ||
            x.count != (streamRows s f.step f.table rx.source f.pass).length then streamFault a x
          else putStream a { x with ended := true } := by
        simp only [takeStreamEnd, hof, hgood, hsteps, hrows]
        rfl
      refine ⟨fun hbad => ?_, fun hstep hended hpart hcount hrows => ?_⟩
      · rw [htake, if_pos]
        · exact hfault x hmember
        · rcases hbad with h | h | h | h | h
          · simp [h]
          · simp [h]
          · simp [Option.isSome_iff_ne_none.mpr h]
          · simp [h]
          · simp [h]
      · rw [htake, if_neg]
        simp [hstep, hended, hpart, hcount, ← hrows]
  case reserve =>
    rw [grantReserve, hopen]
    simp only [hnext]
    split
    case isTrue h => exact Bool.or_eq_true _ _ ▸ h
    case isFalse => exact .inl (grantOne_granted s e x.1 x.2)
  case withheld =>
    rw [grantRest]
    by_cases hstop : stopped.contains (x.1.table, x.2.1, x.2.2) = true
    · exact ⟨stopped, if_pos hstop⟩
    · exact ⟨_, (if_neg hstop).trans (if_pos (by rw [hheld, hslots]; rfl))⟩

/-! ### Folding contributions -/

theorem aGet_aDel_ne {κ α : Type} [DecidableEq κ] {k m : κ} (h : m ≠ k) (l : Assoc κ α) : aGet (aDel l k) m = aGet l m := by
  induction l with
  | nil => rfl
  | cons x l ih =>
    rw [aDel] at ih ⊢
    by_cases hk : x.1 = k
    · rw [List.filter_cons_of_neg (by simpa using hk), ih, aGet, if_neg (hk ▸ h.symm)]
    · rw [List.filter_cons_of_pos (by simpa using hk), aGet, aGet, ih]

/-- The binary32 sums of two rows of values. -/
def addRows (acc vals : List Word32) : List Word32 := List.zipWith (fun x y => to32 ((of32 x).add (of32 y))) acc vals

/-- The accumulator of an entry, +0 before its first contribution. -/
def Entry.start (e : Entry) (n : Nat) : List Word32 := if e.acc.isEmpty then List.replicate n 0 else e.acc

/-- The first member that has not been folded. -/
theorem find_first_unfolded {order done rest : List Nat} {m : Nat} (hnodup : order.Nodup) (horder : order = done ++ m :: rest) :
    order.find? (fun x => !done.contains x) = some m := by
  subst horder
  have hm : m ∉ done := fun h => (List.nodup_append.mp hnodup).2.2 m h m List.mem_cons_self rfl
  rw [List.find?_append, List.find?_eq_none.mpr (fun x hx => by simpa using hx), Option.none_or,
    List.find?_cons_of_pos (by simpa using hm)]

/-- With the contributions of the members that remain held, each is folded in its turn. -/
theorem foldTurns_all {vals : Nat → List Word32} {n : Nat} (hlen : ∀ m, (vals m).length = n) (hpos : 0 < n) :
    ∀ (rest done : List Nat) (e : Entry) (fuel : Nat), e.expected.map (·.1) = done ++ rest → (e.expected.map (·.1)).Nodup →
      e.folded = done → (∀ m ∈ rest, aGet e.held m = some (vals m)) → (e.acc = [] ∨ e.acc.length = n) → rest.length ≤ fuel →
      (foldTurns fuel e).folded = done ++ rest ∧
        (e.acc ≠ [] ∨ rest ≠ [] → (foldTurns fuel e).acc = rest.foldl (fun acc m => addRows acc (vals m)) (e.start n)) := by
  intro rest
  induction rest with
  | nil =>
    intro done e fuel horder _ hfolded _ _ _
    have hend : (e.expected.map (·.1)).find? (fun m => !e.folded.contains m) = none :=
      List.find?_eq_none.mpr fun x hx => by simpa [hfolded, horder] using hx
    have hsame : foldTurns fuel e = e := by
      cases fuel with
      | zero => rfl
      | succ fuel => rw [foldTurns, hend]
    rw [hsame, List.append_nil]
    refine ⟨hfolded, fun h => ?_⟩
    have hne : e.acc ≠ [] := h.resolve_right (fun h => h rfl)
    simp [Entry.start, hne]
  | cons m rest ih =>
    intro done e fuel horder hnodup hfolded hheld hacc hfuel
    obtain ⟨fuel, rfl⟩ : ∃ k, fuel = k + 1 := ⟨fuel - 1, by rw [List.length_cons] at hfuel; omega⟩
    have hfind : (e.expected.map (·.1)).find? (fun x => !e.folded.contains x) = some m :=
      hfolded ▸ find_first_unfolded hnodup horder
    have hstart : (e.start n).length = n := by
      rcases hacc with h | h
      · simp [Entry.start, h]
      · have hne : e.acc ≠ [] := fun h0 => by rw [h0] at h; exact absurd h (by simpa using Nat.ne_of_lt hpos)
        simpa [Entry.start, hne] using h
    have hsum : (addRows (e.start n) (vals m)).length = n := by simp [addRows, hstart, hlen]
    have hother : ∀ x ∈ rest, aGet (aDel e.held m) x = some (vals x) := by
      intro x hx
      have hne : x ≠ m := by
        rintro rfl
        rw [horder] at hnodup
        exact (List.nodup_cons.mp (List.nodup_append.mp hnodup).2.1).1 hx
      rw [aGet_aDel_ne hne, hheld x (List.mem_cons_of_mem _ hx)]
    rw [foldTurns, hfind]
    simp only [hheld m List.mem_cons_self, hlen]
    obtain ⟨hfold, hfoldacc⟩ := ih (done ++ [m]) { e with
        acc := addRows (e.start n) (vals m), folded := e.folded ++ [m], held := aDel e.held m,
        bad := e.bad || (vals m).any (fun x => !(of32 x).finite) || (addRows (e.start n) (vals m)).any (fun x => !(of32 x).finite) }
      fuel (by simp [horder]) hnodup (by simp [hfolded]) hother (.inr hsum) (by simpa using hfuel)
    refine ⟨hfold.trans (by simp), fun _ => ?_⟩
    have hne : addRows (e.start n) (vals m) ≠ [] := fun h => by rw [h] at hsum; exact absurd hsum (by simpa using Nat.ne_of_lt hpos)
    refine (hfoldacc (.inl hne)).trans ?_
    rw [List.foldl_cons, Entry.start, if_neg (by simpa using hne)]

/-- Settles O23: the whole fold with every contribution held, and a fold that waits for the first. -/
theorem contributionsFoldInOrder : Obligations.ContributionsFoldInOrder := by
  intro e vals n hacc hfolded hnodup hlen hpos order r
  refine ⟨fun hheld => ?folds, fun first rest horder hnone => ?waits⟩
  case folds =>
    obtain ⟨hall, hsum⟩ := foldTurns_all hlen hpos order [] e (e.expected.length + 1) rfl hnodup hfolded hheld (.inl hacc)
      (by simp [order])
    refine ⟨hall, fun hne => (hsum (.inr hne)).trans ?_⟩
    rw [Entry.start, hacc]
    rfl
  case waits =>
    have hfind : (e.expected.map (·.1)).find? (fun x => !e.folded.contains x) = some first := by
      rw [show e.expected.map (·.1) = first :: rest from horder, hfolded]
      rfl
    show foldTurns (e.expected.length + 1) e = e
    rw [foldTurns, hfind]
    simp only [hnone]

end Sys2Proof.Machine
end

section
/-! SUPPORT. Carded passes, served requests and parked entries; dense blocks at their root; digests and slices (R76 to R87,
R119, R131, R140 to R150). -/

namespace Sys2Proof.Machine

open Sys2Proof.Safety

/-! ### Passes and requests -/

/-- Credit returns only below three quarters of the limit (R142). -/
theorem releaseCredit_of_full {s : State} {die : Nat}
    (h : s.owners.withheld.contains die = false ∨ parkLimit s die * 3 ≤ parkedOn s die * 4) : releaseCredit s die = s := by
  refine if_neg ?_
  rcases h with h | h
  · rw [h, Bool.false_and]
    exact Bool.false_ne_true
  · simp [Nat.not_lt.mpr h]

/-- A parked entry whose row can be settled now. -/
theorem parkedEntryApply_ready {s : State} {table row : Nat} {e : Entry} {v : Version} {p : Page} (hrun : s.running = true)
    (hfind : s.owners.entries.find? (fun e => e.table == table && e.row == row && e.state == .parked) = some e)
    (hversion : (stepAt s e.step).bind (fun a => boundVersion s a e.table) = some v)
    (hpage : pageOfRow s table v.number row = some p) (hgate : updateGate s e.step = true) (hgood : entryFaulty s e = false)
    (hready : pageReady s p = true) :
    exec (.parkedEntryApply table row) s = .next (ownersGo (releaseCredit
      (if v.poisoned.contains row then skipPoisoned s e
        else match e.result with
          | some bs => writeResult s v e bs
          | none =>
            if v.optimiser = 5 then setEntry s { e with state := .complete }
            else setEntry (applyRow s v e) { e with state := .done }) (mergeDieOf s table))) := by
  simp only [exec, execParkedEntryApply, hfind, hversion, hpage, hrun, hgate, hgood, hready]
  rfl

/-- Settles O24: a pass, a request by what its owner finds, and a parked entry by what its row needs. -/
theorem passesCardedAndServed : Obligations.PassesCardedAndServed := by
  refine ⟨fun s hrun => ⟨fun inst table pass c v p hsection hversion hpass => ⟨fun hcarded => ?carded, fun hnew hstep heval => ⟨?sends, ?frame⟩⟩,
      fun source step table pass q hfind hstop => ⟨fun hdue => ?waits, fun hdue hfault => ?fault, fun hdue hok v hv => ⟨fun hserves => ?served,
        fun hserves => ?notServed⟩⟩⟩,
    fun s table row e v p hrun hfind hversion hpage => ⟨fun hnot => ?idle, fun hgate hgood hready => ⟨fun hbad => ?poisoned,
      fun hclean bs hresult => ?result, fun hclean hresult hkernel => ?kernel, fun hclean hresult hbuiltin => ⟨?builtin, ?overflow⟩⟩,
      fun die h => releaseCredit_of_full h⟩⟩
  case carded => simp [exec, execCardingPassEnd, hsection, hversion, hpass, hcarded]
  case sends =>
    cases inst with
    | step n => simp [exec, execCardingPassEnd, hsection, hversion, hpass, hnew, hrun, hstep n rfl]
    | eval b h => simp [exec, execCardingPassEnd, hsection, hversion, hpass, hnew, hrun, heval b h rfl]
  case frame =>
    exact sameBut_of_forget [3, 6, 12, 14, 15, 16, 20] _ _ _ (forget_sendRequests [3, 6, 12, 14, 15, 16, 20] (by decide)
      (by decide) (by decide) (by decide) (by decide) (by decide) (by decide) s inst c v p _) (by decide)
  case waits => simp [exec, execRowRequestServe, hfind, hdue]
  case fault =>
    refine ⟨memberLost (s.setOwners { s.owners with requests := s.owners.requests.erase q }) (some source) 2 step, ?_,
      memberLost_posted _ _ _ _, ?_, ?_⟩
    · simp [exec, execRowRequestServe, hfind, hdue, hrun, hstop, hfault]
    · exact owners_of_forget (forget_memberLost [3, 16, 20] (by decide) (by decide) (by decide) _ _ _ _) (by decide)
    · exact sameBut_of_forget [3, 12, 16, 20] _ _ _ ((forget_memberLost [3, 12, 16, 20] (by decide) (by decide) (by decide) _ _ _ _).trans
        (forget_setOwners _ (by decide) _ _)) (by decide)
  case served =>
    simp only [exec, execRowRequestServe, hfind, hdue, hrun, hstop, hok, hv, hserves]
    rfl
  case notServed => simp [exec, execRowRequestServe, hfind, hdue, hrun, hstop, hok, hv, hserves]
  case idle =>
    rcases hnot with h | h | h <;> simp [exec, execParkedEntryApply, hfind, hversion, hpage, h]
  case poisoned =>
    rw [parkedEntryApply_ready hrun hfind hversion hpage hgate hgood hready, if_pos (by simpa using hbad)]
    rfl
  case result =>
    rw [parkedEntryApply_ready hrun hfind hversion hpage hgate hgood hready, if_neg (by simpa using hclean)]
    simp only [hresult]
  case kernel =>
    rw [parkedEntryApply_ready hrun hfind hversion hpage hgate hgood hready, if_neg (by simpa using hclean)]
    simp only [hresult]
    rw [if_pos hkernel]
  case builtin =>
    rw [parkedEntryApply_ready hrun hfind hversion hpage hgate hgood hready, if_neg (by simpa using hclean)]
    simp only [hresult]
    rw [if_neg hbuiltin]
  case overflow => exact fun h => if_neg (by simp [h])

/-! ### Dense blocks -/

/-- Settles O27: a block by its sum and by its optimiser. -/
theorem denseBlocksUpdate : Obligations.DenseBlocksUpdate := by
  intro s treeId block x d hrun hfind hdecl hgate hreads
  have hany : ∀ b, (x.sum.any (fun v => !(of32 v).finite) = b) →
      exec (.denseBlockUpdate treeId block) s =
        if b then .next (progress (finishBlock (skipBlock s x.step d.id block) d x))
        else if d.optimiser = 5 then .next s
        else .next (progress (finishBlock (applyBlockUnit s d x.step block
          (optimise d.optimiser (optParamsOf s d.id) (x.sum.map (fun v => unscale s.steps.exponent (of32 v))) (blockUnit s d block))) d x)) := by
    rintro b rfl
    simp only [exec, execDenseBlockUpdate, hfind, hdecl, hrun, hgate, hreads]
    rfl
  have hfinite : (∀ v ∈ x.sum, (of32 v).finite = true) → x.sum.any (fun v => !(of32 v).finite) = false := fun h => by
    simpa using h
  refine ⟨fun hover => ?_, fun hok hbuiltin => ?_, fun hok hkernel => ?_, fun a tensor hstep => ?_⟩
  · rw [hany true (by simpa using hover), if_pos rfl]
  · rw [hany false (hfinite hok), if_neg Bool.false_ne_true, if_neg hbuiltin]
    rfl
  · rw [hany false (hfinite hok), if_neg Bool.false_ne_true, if_pos hkernel]
  · rw [skipBlock, hstep]

/-! ### Digests and slices -/

theorem fetchSlice_dense (s : State) (owner : Nat) (flow : Word32) (elems : Nat) : (fetchSlice s owner flow elems).dense = s.dense :=
  dense_of_forget (forget_sendTo [3, 14, 16, 20] (by decide) (by decide) (by decide) (by decide) _ _ _ _) (by decide)

/-- Digests of boundaries still to come wait (R150). -/
theorem dueDigests_of_later {s : State} (h : ∀ r ∈ s.dense.replicas, ∀ p, r.due = some p → s.steps.c < p.1) : dueDigests s = s := by
  have hfold : ∀ l : List Replica, (∀ r ∈ l, ∀ p, r.due = some p → s.steps.c < p.1) → l.foldl (fun s r =>
      match r.due with
      | some p => if p.1 ≤ s.steps.c then actDigest s r p.1 p.2 else s
      | none => s) s = s := by
    intro l
    induction l with
    | nil => exact fun _ => rfl
    | cons r l ih =>
      intro hl
      rw [List.foldl_cons]
      cases hdue : r.due with
      | none => exact ih fun r' hr' => hl r' (List.mem_cons_of_mem _ hr')
      | some p =>
        simp only [if_neg (Nat.not_le.mpr (hl r List.mem_cons_self p hdue))]
        exact ih fun r' hr' => hl r' (List.mem_cons_of_mem _ hr')
  exact hfold _ h

/-- Settles O28: a published digest noted and acted on, and slice data without a fetch. -/
theorem digestsAndSlices : Obligations.DigestsAndSlices := by
  refine ⟨fun s a rx ha => ⟨fun f hframed hzero => ⟨?digest, fun r d hr hd hkind => ?noted⟩, fun f hframed hok => ⟨?slice, fun hnone => ?dropped⟩⟩,
    fun s h => dueDigests_of_later h, fun s r n digest => ⟨fun hheld => ?checked, fun d hheld hd => ?fetch⟩⟩
  case digest =>
    refine receive_taken (kind := 0x21) ha hframed ?_ _
    by_cases hkind : f.kind = .recomputeRequest
    · simp [hzero hkind]
    · simp [hkind]
  case noted =>
    have hlinks := acceptFrame_eq_setLinks ha
    have hr' : findReplica a f.treeId = some r := by rw [hlinks]; exact hr
    have hd' : parameterDecl a (treeTensor f.treeId) = some d := by rw [hlinks]; exact hd
    simp only [takeDigest, hr', hd', hkind]
    rfl
  case slice =>
    have hlinks := acceptFrame_eq_setLinks ha
    have hok' : sliceOk s f = true := by rw [hlinks] at hok; exact hok
    exact receive_taken (kind := 0x20) ha hframed hok' _
  case dropped =>
    have hlinks := acceptFrame_eq_setLinks ha
    have hfind : findReplica a f.treeId = findReplica s f.treeId := by rw [hlinks]; rfl
    rw [takeSlice, hfind]
    cases hr : findReplica s f.treeId with
    | none => rfl
    | some r => exact if_neg (hnone r hr)
  case checked =>
    simp only [actDigest, hheld]
    rfl
  case fetch =>
    simp only [actDigest, hheld, hd, if_false, fetchSlice_dense]

end Sys2Proof.Machine
end

section
/-! SUPPORT. Nodes of the trees: what they take, how they combine and what they send; the tiles that drain into them (R143 to
R146, R163, R164). -/

namespace Sys2Proof.Machine

open Sys2Proof.Safety

/-! ### Keyed values -/

theorem aGet_aPut {κ α : Type} [DecidableEq κ] (l : Assoc κ α) (k : κ) (v : α) : aGet (aPut l k v) k = some v := by
  induction l with
  | nil => exact if_pos rfl
  | cons x l ih =>
    rw [aPut]
    split
    · exact if_pos rfl
    · rename_i h
      rw [aGet, if_neg h, ih]

theorem aGet_aPut_ne {κ α : Type} [DecidableEq κ] {k m : κ} (h : m ≠ k) (l : Assoc κ α) (v : α) :
    aGet (aPut l k v) m = aGet l m := by
  induction l with
  | nil => exact if_neg h.symm
  | cons x l ih =>
    rw [aPut]
    split
    · rename_i hx
      rw [aGet, aGet, if_neg h.symm, if_neg (by rw [hx]; exact h.symm)]
    · rw [aGet, aGet, ih]

/-- Values put under keys that none of them has leave a key as it was. -/
theorem aGet_putVals_of_notMem {l : List (Nat × Word32)} {m : Nat} (h : ∀ x ∈ l, x.1 ≠ m) (a : Assoc Nat Word32) :
    aGet (putVals a l) m = aGet a m := by
  induction l generalizing a with
  | nil => rfl
  | cons x l ih =>
    refine (ih (fun y hy => h y (List.mem_cons_of_mem _ hy)) _).trans ?_
    exact aGet_aPut_ne (h x List.mem_cons_self).symm a x.2

/-- Values in a row from a first place on stand at their places. -/
theorem aGet_putVals_row (vals : List Word32) (first : Nat) (a : Assoc Nat Word32) {k : Nat} {v : Word32} (h : vals[k]? = some v) :
    aGet (putVals a (vals.zipIdx.map (fun x => (first + x.2, x.1)))) (first + k) = some v := by
  have hrow : ∀ (l : List Word32) (from_ : Nat) (a : Assoc Nat Word32) (k : Nat), l[k]? = some v →
      aGet (putVals a ((l.zipIdx from_).map (fun x => (first + x.2, x.1)))) (first + (from_ + k)) = some v := by
    intro l
    induction l with
    | nil => exact fun _ _ k h => by simp at h
    | cons x l ih =>
      intro from_ a k hk
      rw [List.zipIdx_cons, List.map_cons]
      cases k with
      | zero =>
        rw [List.getElem?_cons_zero] at hk
        cases hk
        refine (aGet_putVals_of_notMem (l := (l.zipIdx (from_ + 1)).map (fun x => (first + x.2, x.1))) ?_ _).trans (aGet_aPut _ _ _)
        intro y hy
        obtain ⟨z, hz, rfl⟩ := List.mem_map.mp hy
        have := (List.mem_zipIdx hz).1
        show first + z.2 ≠ first + (from_ + 0)
        omega
      | succ k =>
        rw [List.getElem?_cons_succ] at hk
        have := ih (from_ + 1) (aPut a (first + from_) x) k hk
        rwa [show from_ + 1 + k = from_ + (k + 1) by omega] at this
  simpa using hrow vals 0 a k h

/-! ### Nodes -/

/-- A node that is put is found. -/
theorem findNode_putNode (s : State) (x : TreeNode) : findNode (putNode s x) x.step x.treeId x.block = some x := by
  have hself : (x.step == x.step && x.treeId == x.treeId && x.block == x.block) = true := by simp
  have hmap : ∀ l : List TreeNode, l.any (fun y => y.step == x.step && y.treeId == x.treeId && y.block == x.block) = true →
      (l.map (fun y => if y.step == x.step && y.treeId == x.treeId && y.block == x.block then x else y)).find?
        (fun y => y.step == x.step && y.treeId == x.treeId && y.block == x.block) = some x := by
    intro l
    induction l with
    | nil => exact fun h => by simp at h
    | cons y l ih =>
      intro h
      rw [List.map_cons]
      cases hy : (y.step == x.step && y.treeId == x.treeId && y.block == x.block) with
      | true => exact List.find?_cons_of_pos (by simp)
      | false =>
        rw [if_neg Bool.false_ne_true, List.find?_cons_of_neg (by simp [hy])]
        exact ih (by simpa [List.any_cons, hy] using h)
  rw [findNode, putNode, State.setDense_dense]
  dsimp only
  split
  case isTrue h => exact hmap _ h
  case isFalse h =>
    rw [List.find?_append, List.find?_eq_none.mpr (fun y hy => by simpa using fun h1 h2 h3 => h (List.any_eq_true.mpr ⟨y, hy, by simp [h1, h2, h3]⟩)),
      Option.none_or]
    exact List.find?_cons_of_pos hself

/-- The node that a change begins from has its keys. -/
theorem nodeAt_keys (s : State) (step treeId block : Nat) :
    let x := (findNode s step treeId block).getD (emptyNode step treeId block)
    x.step = step ∧ x.treeId = treeId ∧ x.block = block := by
  cases h : findNode s step treeId block with
  | none => exact ⟨rfl, rfl, rfl⟩
  | some x =>
    have hx := List.find?_some h
    simp only [Bool.and_eq_true, beq_iff_eq] at hx
    exact ⟨hx.1.1, hx.1.2, hx.2⟩

/-- A node that is changed is found as it has become. -/
theorem findNode_withNode (s : State) (step treeId block : Nat) {f : TreeNode → TreeNode}
    (hf : ∀ x, (f x).step = x.step ∧ (f x).treeId = x.treeId ∧ (f x).block = x.block) :
    findNode (withNode s step treeId block f) step treeId block =
      some (f ((findNode s step treeId block).getD (emptyNode step treeId block))) := by
  obtain ⟨hstep, htree, hblock⟩ := nodeAt_keys s step treeId block
  obtain ⟨kstep, ktree, kblock⟩ := hf ((findNode s step treeId block).getD (emptyNode step treeId block))
  have := findNode_putNode s (f ((findNode s step treeId block).getD (emptyNode step treeId block)))
  rwa [kstep, ktree, kblock, hstep, htree, hblock] at this

/-- Settles O25: what a child's block leaves, and what a node that is ready sends. -/
theorem treeBlocksCombine : Obligations.TreeBlocksCombine := by
  refine ⟨fun s a rx f ha => ?takes, fun s treeId block x d hrun hfind hdecl hlen hready hwindow =>
    ⟨fun i => ?value, fun hroot => ?root, fun p hparent => ⟨fun hcredit => ?sends, fun hcredit => ?waits⟩⟩⟩
  case takes =>
    have hlinks := acceptFrame_eq_setLinks ha
    have hgranted : a.dense = s.dense := by rw [hlinks]; rfl
    have hmembers : a.members = s.members ∧ a.member = s.member := by rw [hlinks]; exact ⟨rfl, rfl⟩
    let shown := a.setLinks { a.links with flows := aPut a.links.flows [0x1010, rx.source, f.treeId] rx.flow }
    have htake : takeTreeBlock a rx.source rx.flow f =
        if (aGet s.dense.granted (f.step, f.treeId, rx.source)).getD 0 ≤ f.block then shown
        else if treeLeft s.members f.treeId s.member = some rx.source then
          withNode shown f.step f.treeId f.block (fun x => { x with leftVals := putVals x.leftVals (f.values.zipIdx.map (fun v => (f.first + v.2, v.1))) })
        else if treeRight s.members f.treeId s.member = some rx.source then
          withNode shown f.step f.treeId f.block (fun x => { x with rightVals := putVals x.rightVals (f.values.zipIdx.map (fun v => (f.first + v.2, v.1))) })
        else shown := by
      rw [← hgranted, ← hmembers.1, ← hmembers.2]
      rfl
    refine ⟨fun hframed hok => ⟨?exec, fun hno => ?denied, fun hroom hleft k v hv => ?left, fun hroom hleft hright k v hv => ?right⟩,
      fun hbad => ⟨_, ?broken, memberLost_taken ha (some rx.source)⟩⟩
    case exec =>
      have hok' : treeBlockOk s f = true := by rw [hlinks] at hok; exact hok
      exact receive_taken (kind := 0x10) ha hframed hok' _
    case denied => rw [htake, if_pos hno]; exact hgranted
    case left =>
      rw [htake, if_neg (Nat.not_le.mpr hroom), if_pos hleft]
      exact ⟨_, findNode_withNode _ _ _ _ (fun _ => ⟨rfl, rfl, rfl⟩), aGet_putVals_row _ _ _ hv⟩
    case right =>
      rw [htake, if_neg (Nat.not_le.mpr hroom), if_neg hleft, if_pos hright]
      exact ⟨_, findNode_withNode _ _ _ _ (fun _ => ⟨rfl, rfl, rfl⟩), aGet_putVals_row _ _ _ hv⟩
    case broken =>
      have hbad' : ¬ Framed rx (.treeBlock f) ∨ treeBlockOk s f = false := by rw [hlinks] at hbad; exact hbad
      exact receive_broken (kind := 0x10) ha hbad' _
  case value =>
    have htree : x.treeId = treeId := by
      have hx := List.find?_some hfind
      simp only [Bool.and_eq_true, beq_iff_eq] at hx
      exact hx.1.1.1
    simp only [nodeValue, htree]
    refine ⟨fun hl hr => ?_, fun hl hr => ?_, fun hl hr => ?_⟩
    · simp [hl, hr]
    · simp [Option.isSome_iff_ne_none.mpr hl, hr]
    · simp [Option.isSome_iff_ne_none.mpr hl, Option.isSome_iff_ne_none.mpr hr]
  case root =>
    simp only [exec, execTreeBlockForward, hfind, hdecl, hrun, hready, hwindow, hroot]
    exact if_neg (by simp [Nat.ne_of_gt hlen])
  case sends =>
    refine ⟨(blockFrames x.step treeId block ((List.range (blockLength d block)).map (nodeValue s x))).foldl
      (fun s f => sendTo s p [treeId] (.treeBlock f))
      (putNode (flowFor s [0x10, p, treeId]).1 { x with done := true, localVals := [], leftVals := [], rightVals := [] }), ?_, ?_, ?_⟩
    · simp only [exec, execTreeBlockForward, hfind, hdecl, hrun, hready, hwindow, hparent]
      exact (if_neg (by simp [Nat.ne_of_gt hlen])).trans (if_neg (Nat.not_lt.mpr hcredit))
    · rw [dense_of_forget (forget_foldl [3, 14, 16, 20] _ (fun _ _ => forget_sendTo _ (by decide) (by decide) (by decide) (by decide) _ _ _ _) _ _)
        (by decide)]
      have hflow : (flowFor s [0x10, p, treeId]).1.dense = s.dense :=
        dense_of_forget (forget_flowFor [14] (by decide) s _) (by decide)
      simp only [putNode, State.setDense_dense, hflow]
    · exact sameBut_of_forget [3, 13, 14, 16, 20] _ _ _ ((forget_foldl _ _
        (fun _ _ => forget_sendTo _ (by decide) (by decide) (by decide) (by decide) _ _ _ _) _ _).trans
        ((forget_putNode _ (by decide) _ _).trans (forget_flowFor _ (by decide) s _))) (by decide)
  case waits =>
    simp only [exec, execTreeBlockForward, hfind, hdecl, hrun, hready, hwindow, hparent]
    exact (if_neg (by simp [Nat.ne_of_gt hlen])).trans (if_pos hcredit)

/-! ### Tiles -/

/-- A tile that passes a sliver changes the slivers only. -/
theorem passTile_spindles (s : State) (qid : QueueId) (q : QCmd) (p : ProductD) (row col width : Nat) (val : Nat → Nat → Word32) :
    ∃ l, (passTile s qid q p row col width val).spindles = { s.spindles with slivers := l } := by
  have hfold : ∀ (gs : List Nat) (g : State → Nat → State), (∀ u k, ∃ l, (g u k).spindles = { u.spindles with slivers := l }) →
      ∀ u, ∃ l, (gs.foldl g u).spindles = { u.spindles with slivers := l } := by
    intro gs g hg
    induction gs with
    | nil => exact fun u => ⟨_, rfl⟩
    | cons k gs ih =>
      intro u
      obtain ⟨l, hl⟩ := hg u k
      obtain ⟨l', hl'⟩ := ih (g u k)
      exact ⟨l', by rw [List.foldl_cons, hl', hl]⟩
  unfold passTile
  refine hfold _ _ ?_ s
  exact fun u k => ⟨_, rfl⟩

theorem countOutOfFootprint_spindles (s : State) (n : Nat) : (countOutOfFootprint s n).spindles = s.spindles := rfl

theorem countOutOfFootprint_dense (s : State) (n : Nat) : (countOutOfFootprint s n).dense = s.dense := rfl

theorem setQueue_dense (s : State) (q : QueueId) (v : Queue) : (setQueue s q v).dense = s.dense := rfl

theorem setQueue_contexts (s : State) (q : QueueId) (v : Queue) : (setQueue s q v).spindles.contexts = s.spindles.contexts := rfl

theorem setQueue_counters (s : State) (q : QueueId) (v : Queue) : (setQueue s q v).spindles.counters = s.spindles.counters := rfl

theorem queueAt_setQueue (s : State) (q : QueueId) (v : Queue) : queueAt (setQueue s q v) q = v := by
  rw [queueAt, setQueue, State.setSpindles_spindles, aGet_aPut]
  rfl

/-- The cells of a tile, rows that the product has. -/
theorem tileCells_eq (q : QCmd) (p : ProductD) (band col width : Nat) : tileCells q p band col width =
    ((List.range 128).filterMap (fun r => if q.arg1 ≤ 128 * band + r ∧ 128 * band + r < p.inn then some (128 * band + r) else none)).flatMap
      (fun i => (List.range width).map (fun c => (i, col + c))) := by
  have hrows : ∀ l : List Nat, (l.map (128 * band + ·)).filter (fun i => decide (q.arg1 ≤ i ∧ i < p.inn)) =
      l.filterMap (fun r => if q.arg1 ≤ 128 * band + r ∧ 128 * band + r < p.inn then some (128 * band + r) else none) := by
    intro l
    induction l with
    | nil => rfl
    | cons r l ih =>
      rw [List.map_cons, List.filter_cons, List.filterMap_cons, ih]
      by_cases h : q.arg1 ≤ 128 * band + r ∧ 128 * band + r < p.inn <;> simp [h]
  rw [tileCells, hrows]

/-- Settles O26. -/
theorem gradientTilesDrain : Obligations.GradientTilesDrain := by
  intro s queue q rest slot band col width d p rows cells hrun hcmds hbody harr hheld htest hdecl hwidth hcols hband hfresh hearlier hwindow
  have hcells : tileCells q p band col width = cells := tileCells_eq q p band col width
  let n := instStep q.inst
  let nodes := cells.foldl (fun t x => putLocal t n d (x.1 * d.cols + x.2) (to32 (productElem s q p x.1 x.2))) s
  let passed := passTile nodes queue q p (128 * band) col width (fun i j => if cells.contains (i, j) then to32 (productElem s q p i j) else 0)
  let counted := countOutOfFootprint passed (if cells.any (fun x => operandMisses q p x.1 x.2) then 1 else 0)
  let left : QCmd := { q with drained := q.drained ++ [(band, col, width)] }
  let t := setQueue counted queue { queueAt s queue with cmds := left :: rest }
  have hleft : ({ q with body := .product slot, drained := q.drained ++ [(band, col, width)] } : QCmd) = left := by
    rw [← hbody]
  have hexec : exec (.weightGradientTileDrain queue band col width) s = .next t := by
    simp only [exec, execWeightGradientTileDrain, hcmds, hbody, show nth q.ply.products slot default = p from rfl, hdecl, hcells]
    rw [hleft]
    refine if_neg ?_
    have hover : q.drained.any (fun t => t.1 == band && decide (t.2.1 < col + width ∧ col < t.2.1 + t.2.2)) = false := by
      rw [List.any_eq_false]
      intro t ht hboth
      simp only [Bool.and_eq_true, beq_iff_eq, decide_eq_true_eq] at hboth
      exact hfresh t ht hboth.1 hboth.2
    have hbefore : ((productBands q p).filter (fun b => decide (b < band))).all (bandDrained q p.outpos) = true := by
      rw [List.all_eq_true]
      intro b hb
      simp only [List.mem_filter, decide_eq_true_eq] at hb
      exact hearlier b hb.1 hb.2
    have hinside : cells.all (fun x => inWindow s (instStep q.inst) d (x.1 * d.cols + x.2)) = true := List.all_eq_true.mpr hwindow
    simp only [hrun, harr, hheld, htest, hover, hbefore, hinside, List.contains_iff_mem.mpr hband, show ¬ width = 0 by omega,
      Nat.not_lt.mpr hcols]
    decide
  have hnodes : forget [13] nodes = forget [13] s := forget_foldl [13] _ (fun _ _ => forget_putLocal _ (by decide) _ _ _ _ _) _ _
  obtain ⟨l, hl⟩ := passTile_spindles nodes queue q p (128 * band) col width
    (fun i j => if cells.contains (i, j) then to32 (productElem s q p i j) else 0)
  have hspindles : counted.spindles = { s.spindles with slivers := l } := by
    rw [countOutOfFootprint_spindles, hl, spindles_of_forget hnodes (by decide)]
  refine ⟨t, hexec, exec_sameBut _ _ _ _ hexec rfl, ?_, ?_, ?_, ?_⟩
  · rw [setQueue_dense, countOutOfFootprint_dense, dense_of_forget (forget_passTile [11] (by decide) nodes queue q p (128 * band) col width _) (by decide)]
  · rw [queueAt_setQueue]
  · rw [setQueue_contexts, hspindles]
  · rw [setQueue_counters, hspindles]

end Sys2Proof.Machine
end

section
/-! SUPPORT. Hanks: copies, the securing hold, seals and mirrors; the securing round (R319 to R330). -/

namespace Sys2Proof.Machine

open Sys2Proof.Safety

/-! ### Copies -/

theorem notMem_movePage (p : PageRef) (x : List PageRef × List PageRef) : p ∉ (movePage p x).1 := by
  rw [movePage]
  split
  · simp
  · rename_i h
    simpa using h

theorem wakeChannels_securing (s : State) (l : List Nat) : (wakeChannels s l).securing = s.securing :=
  securing_of_forget (forget_wakeChannels [15] (by decide) s l) (by decide)

theorem wakeChannels_outputs (s : State) (l : List Nat) : (wakeChannels s l).outputs = s.outputs :=
  outputs_of_forget (forget_wakeChannels [15] (by decide) s l) (by decide)

/-- The hanks after a page has been copied. -/
theorem copyPage_hanks (s : State) (p : PageRef) : (copyPage s p).securing.hanks = s.securing.hanks.map (fun h =>
    { h with uncopied := (movePage p (h.uncopied, h.staged)).1, staged := (movePage p (h.uncopied, h.staged)).2 }) := by
  unfold copyPage
  dsimp only
  split
  · rw [wakeChannels_securing]
    rfl
  · rfl

/-- The exports after a page has been copied. -/
theorem copyPage_exports (s : State) (p : PageRef) : (copyPage s p).outputs.exports = s.outputs.exports.map (fun e =>
    { e with pinned := (movePage p (e.pinned, e.staged)).1, staged := (movePage p (e.pinned, e.staged)).2 }) := by
  unfold copyPage
  dsimp only
  split
  · rw [wakeChannels_outputs]
    rfl
  · rfl

/-! ### Mirrors -/

/-- A buddy's mirrors stay as they are while none serves a hank that is no longer kept. -/
theorem releaseMirrors_of_kept {s : State} (h : ∀ m ∈ s.securing.mirrors, mirrorOver s m = false) : releaseMirrors s = s := by
  have hout : s.securing.mirrors.filter (mirrorOver s) = [] := List.filter_eq_nil_iff.mpr fun m hm => by simp [h m hm]
  rw [releaseMirrors, hout]
  rfl

/-- The mirror that a frame of a hank becomes part of. -/
def joinedMirror (s : State) (f : HankDataF) : Mirror :=
  let old := (s.securing.mirrors.find? (fun m => m.origin == f.origin && m.boundary == f.boundary)).getD
    { origin := f.origin, boundary := f.boundary, data := [], sealedLoss := none }
  if f.part = 3 then { old with sealedLoss := some f.sealedLoss } else { old with data := old.data ++ [f] }

/-- The state with a hank's frame stored, before mirrors are released. -/
def withHankData (s : State) (f : HankDataF) : State :=
  let same (m : Mirror) : Bool := m.origin == f.origin && m.boundary == f.boundary
  let t := s.setTelemetry { s.telemetry with securedBytes := s.telemetry.securedBytes + 64 * f.lines.length }
  t.setSecuring { t.securing with
    mirrors := if s.securing.mirrors.any same then s.securing.mirrors.map (fun m => if same m then joinedMirror s f else m)
      else s.securing.mirrors ++ [joinedMirror s f] }

theorem takeHankData_eq (s : State) (f : HankDataF) : takeHankData s f = releaseMirrors (withHankData s f) := rfl

/-- The frame stands unchanged in its mirror; a seal carries its loss. -/
theorem joinedMirror_leaves (s : State) (f : HankDataF) :
    (joinedMirror s f).origin = f.origin ∧ (joinedMirror s f).boundary = f.boundary ∧ (f.part ≠ 3 → f ∈ (joinedMirror s f).data) ∧
      (f.part = 3 → (joinedMirror s f).sealedLoss = some f.sealedLoss) := by
  have hold : ∀ old : Mirror, old = (s.securing.mirrors.find? (fun m => m.origin == f.origin && m.boundary == f.boundary)).getD
      { origin := f.origin, boundary := f.boundary, data := [], sealedLoss := none } →
      old.origin = f.origin ∧ old.boundary = f.boundary := by
    rintro old rfl
    cases hm : s.securing.mirrors.find? (fun m => m.origin == f.origin && m.boundary == f.boundary) with
    | none => exact ⟨rfl, rfl⟩
    | some m => simpa using List.find?_some hm
  obtain ⟨horigin, hboundary⟩ := hold _ rfl
  unfold joinedMirror
  dsimp only
  by_cases h3 : f.part = 3
  · rw [if_pos h3]
    exact ⟨horigin, hboundary, fun h => absurd h3 h, fun _ => rfl⟩
  · rw [if_neg h3]
    exact ⟨horigin, hboundary, fun _ => List.mem_append_right _ (List.mem_singleton.mpr rfl), fun h => absurd h h3⟩

theorem joinedMirror_mem (s : State) (f : HankDataF) : joinedMirror s f ∈ (withHankData s f).securing.mirrors := by
  show joinedMirror s f ∈ (if _ then _ else _)
  split
  · rename_i h
    obtain ⟨m, hm, hsame⟩ := List.any_eq_true.mp h
    exact List.mem_map.mpr ⟨m, hm, if_pos hsame⟩
  · exact List.mem_append_right _ (List.mem_singleton.mpr rfl)

/-- The mirrors of other hanks stay. -/
theorem mem_withHankData {s : State} {f : HankDataF} {m : Mirror} (hm : m ∈ s.securing.mirrors)
    (hother : ¬ (m.origin = f.origin ∧ m.boundary = f.boundary)) : m ∈ (withHankData s f).securing.mirrors := by
  show m ∈ (if _ then _ else _)
  split
  · exact List.mem_map.mpr ⟨m, hm, if_neg (by simpa using hother)⟩
  · exact List.mem_append_left _ hm

/-! ### Sealing -/

/-- The state with a hank sealed, before the buddy and the host are told (R329). -/
def sealedHank (s : State) (boundary : Nat) (loss : Word32) (targets : Nat) : State :=
  let t := s.setSecuring { s.securing with
    hanks := s.securing.hanks.map (fun k =>
      if k.boundary == boundary then { k with sealedLoss := some loss, buddyDone := bitAt targets 1 } else k) }
  t.setTelemetry { t.telemetry with hanksSealed := t.telemetry.hanksSealed + 1 }

theorem sealedHank_eq (s : State) (boundary : Nat) (loss : Word32) (targets : Nat) : sealedHank s boundary loss targets =
    { s with
      securing := { s.securing with hanks := s.securing.hanks.map (fun k =>
        if k.boundary = boundary then { k with sealedLoss := some loss, buddyDone := bitAt targets 1 } else k) },
      telemetry := { s.telemetry with hanksSealed := s.telemetry.hanksSealed + 1 } } := by
  simp only [sealedHank, beq_iff_eq]
  rfl

/-- The seal for the buddy, where the mirror has reached it (R326). -/
def tellBuddy (s : State) (boundary : Nat) (loss : Word32) (targets : Nat) : State :=
  match buddyOf s s.cfg.buddies s.member with
  | some m =>
    if bitAt targets 1 then
      sendTo s m [boundary] (.hankData
        { boundary := boundary, origin := s.member, part := 3, position := 0, firstLine := 0, sealedLoss := loss, lines := [] })
    else s
  | none => s

theorem forget_tellBuddy (ks : List Nat) (h3 : 3 ∈ ks) (h14 : 14 ∈ ks) (h16 : 16 ∈ ks) (h20 : 20 ∈ ks) (s : State) (boundary : Nat)
    (loss : Word32) (targets : Nat) : forget ks (tellBuddy s boundary loss targets) = forget ks s := by
  unfold tellBuddy
  split
  · split
    · exact forget_sendTo ks h3 h14 h16 h20 _ _ _ _
    · rfl
  · rfl

/-- HANK_SEALED, and the release of the hanks and mirrors that it lets go (R329, R330). -/
def sealDone (s : State) (boundary : Nat) (loss : Word32) (targets : Nat) : State :=
  let t := postEvent s controllerDie (stepNow s) (.hankSealed boundary loss targets)
  tryRound (releaseMirrors (releaseHanks t t.cfg.secure.hanksKept))

/-- The event of a seal names the step in progress, and the schedule is that of the state sealed. -/
theorem sealDone_eq {s t : State} (hsteps : t.steps = s.steps) (hcfg : t.cfg = s.cfg) (boundary : Nat) (loss : Word32) (targets : Nat) :
    sealDone t boundary loss targets = tryRound (releaseMirrors (releaseHanks
      (postEvent t 47 (stepNow s) (.hankSealed boundary loss targets)) s.cfg.secure.hanksKept)) := by
  have hnow : stepNow t = stepNow s := by rw [stepNow, stepNow, hsteps]
  have hpost : (postEvent t controllerDie (stepNow s) (.hankSealed boundary loss targets)).cfg = s.cfg :=
    (cfg_of_forget (forget_postEvent [3, 16, 20] (by decide) (by decide) (by decide) t _ _ _) (by decide)).trans hcfg
  rw [sealDone, hnow, hpost]
  rfl

/-- Settles O29: copies, the end of the hold, the seal, and the buddy's store. -/
theorem hanksCopyHoldSeal : Obligations.HanksCopyHoldSeal := by
  refine ⟨fun s boundary hrun => ⟨fun page => ?pages, fun hhold => ?hold, fun hnot => ?noHold, fun h loss hfind hloss => ?seals⟩,
    fun s a rx f ha hframed hlines hpart hwhole => ?buddy⟩
  case pages =>
    intro waits mayCopy
    have hwaits : (s.securing.hanks.any (fun h => h.boundary == boundary && h.uncopied.contains page) ||
        s.outputs.exports.any (fun e => e.started && e.boundary == boundary && e.pinned.contains page)) = true ↔ waits := by
      simp [waits, and_assoc]
    have hmay : (stagingRoom s Constants.pageBytes && (pageAt s page).all (fun p => !p.unsettled)) = true ↔ mayCopy := by
      simp only [mayCopy, Bool.and_eq_true]
      refine and_congr Iff.rfl ?_
      cases pageAt s page <;> simp
    have hexec : exec (.hankPageCopy boundary page) s =
        if s.securing.hanks.any (fun h => h.boundary == boundary && h.uncopied.contains page) ||
            s.outputs.exports.any (fun e => e.started && e.boundary == boundary && e.pinned.contains page) then
          if stagingRoom s Constants.pageBytes && (pageAt s page).all (fun p => !p.unsettled) then
            .next (progress (settleHanks (copyPage s page))) else .next s
        else if s.securing.hanks.any (fun h => h.boundary == boundary && h.staged.contains page) && channelsOn s (pageChannels page) then
          .next (progress (settleHanks (writeCopy s page)))
        else .next s := by
      rw [exec, execHankPageCopy, hrun, if_neg (by decide)]
    refine ⟨fun hw hc => ?_, fun hw hc => ?_, fun hw hstaged hon => ?_, fun h hh => ?_, fun e he => ?_, fun h hh => ?_, ?_, ?_⟩
    · rw [hexec, if_pos (hwaits.mpr hw), if_pos (hmay.mpr hc)]
    · rw [hexec, if_pos (hwaits.mpr hw), if_neg (fun h => hc (hmay.mp h))]
    · rw [hexec, if_neg (fun h => hw (hwaits.mp h)), if_pos]
      rw [hon, Bool.and_true]
      simpa using hstaged
    · rw [copyPage_hanks] at hh
      obtain ⟨k, -, rfl⟩ := List.mem_map.mp hh
      exact notMem_movePage page _
    · rw [copyPage_exports] at he
      obtain ⟨k, -, rfl⟩ := List.mem_map.mp he
      exact notMem_movePage page _
    · obtain ⟨k, -, rfl⟩ := List.mem_map.mp hh
      simp
    · exact sameBut_of_forget [15, 16, 17] _ _ _ (forget_copyPage [15, 16, 17] (by decide) (by decide) (by decide) s page) (by decide)
    · rw [copyPage_hanks, List.map_map]
      rfl
  case hold =>
    have hother : (takenHanks s).filter (fun h => h.boundary != boundary) =
        s.securing.hanks.filter (fun h => !h.localDone && h.boundary != boundary) := by
      rw [takenHanks, List.filter_filter]
      exact List.filter_congr fun h _ => Bool.and_comm _ _
    intro others
    refine ⟨fun hfew hroom => ?_, fun hfull => ?_⟩
    · have hexec : exec (.securingHoldEnd boundary) s = .next (progress (settleHanks (s.setSecuring { s.securing with
          hold := none, hanks := s.securing.hanks.map (fun h => if h.boundary == boundary then { h with denseDone := true } else h) }))) := by
        rw [exec, execSecuringHoldEnd, hrun, hhold, hroom, hother]
        exact if_neg (by simpa using hfew)
      simp only [beq_iff_eq] at hexec
      exact hexec
    · rw [exec, execSecuringHoldEnd, hother]
      refine if_pos ?_
      rcases hfull with h | h
      · simp [show 2 ≤ (s.securing.hanks.filter (fun h => !h.localDone && h.boundary != boundary)).length from h]
      · simp [h]
  case noHold => simp [exec, execSecuringHoldEnd, hnot]
  case seals =>
    intro targets
    have hexec : exec (.hankSeal boundary) s =
        if !s.running || !h.localDone || h.sealedLoss.isSome || h.unusable ||
            (targets = 1 && !(s.jobSize == 1 && !s.cfg.secure.fabric)) then .next s
        else .next (sealDone (tellBuddy (sealedHank s boundary loss targets) boundary loss targets) boundary loss targets) := by
      simp only [exec, execHankSeal, hfind, hloss]
      rfl
    refine ⟨fun hnot => ?stays, fun hdone hopen hgood htargets => ?sealed_⟩
    case stays =>
      rw [hexec, if_pos]
      rcases hnot with h | h | h | ⟨h, h' | h'⟩
      · simp [h]
      · simp [Option.isSome_iff_ne_none.mpr h]
      · simp [h]
      · simp [h, h']
      · simp [h, h']
    case sealed_ =>
      rw [hexec, if_neg (by rcases htargets with h | ⟨h, h'⟩ <;> simp [*])]
      refine ⟨fun hbuddy => ?alone, fun m hbuddy => ?told⟩
      case alone =>
        have htell : tellBuddy (sealedHank s boundary loss targets) boundary loss targets = sealedHank s boundary loss targets := by
          rw [tellBuddy, show buddyOf (sealedHank s boundary loss targets) (sealedHank s boundary loss targets).cfg.buddies
            (sealedHank s boundary loss targets).member = none from hbuddy]
        rw [htell, sealDone_eq rfl rfl, sealedHank_eq]
        rfl
      case told =>
        have htell : tellBuddy (sealedHank s boundary loss targets) boundary loss targets =
            if bitAt targets 1 then sendTo (sealedHank s boundary loss targets) m [boundary] (.hankData
              { boundary := boundary, origin := s.member, part := 3, position := 0, firstLine := 0, sealedLoss := loss, lines := [] })
            else sealedHank s boundary loss targets := by
          rw [tellBuddy, show buddyOf (sealedHank s boundary loss targets) (sealedHank s boundary loss targets).cfg.buddies
            (sealedHank s boundary loss targets).member = some m from hbuddy]
          rfl
        have hsent := forget_tellBuddy [3, 14, 16, 20] (by decide) (by decide) (by decide) (by decide)
          (sealedHank s boundary loss targets) boundary loss targets
        rw [sealDone_eq (s := s) (steps_of_forget (s := sealedHank s boundary loss targets) hsent (by decide))
          (cfg_of_forget (s := sealedHank s boundary loss targets) hsent (by decide)), htell, sealedHank_eq]
  case buddy =>
    have hok : (decide (f.lines.length ≤ 56 ∧ f.part ≤ 3) && f.lines.all (fun l => l.1.length == 64)) = true := by
      simpa [hlines, hpart] using hwhole
    have hlinks := acceptFrame_eq_setLinks ha
    have hsecuring : a.securing = s.securing := by rw [hlinks]; rfl
    obtain ⟨horigin, hboundary, hdata, hsealed⟩ := joinedMirror_leaves a f
    refine ⟨receive_taken (kind := 0x30) ha hframed hok _, withHankData a f, takeHankData_eq a f,
      ⟨_, joinedMirror_mem a f, horigin, hboundary, hdata, hsealed⟩, fun m hm hother => mem_withHankData (hsecuring ▸ hm) hother, ?_,
      releaseMirrors_of_kept, fun m hbuddy hunsealed => ?_⟩
    · rw [hlinks]; rfl
    · rw [mirrorOver, if_pos hbuddy, hunsealed]
      rfl

/-! ### The securing round -/

/-- Young's interval lies within its limits, whatever number it is computed from. -/
theorem youngInterval_bounds (eSecure eStep r o c prior : Nat) :
    50 ≤ youngInterval eSecure eStep r o c prior ∧ youngInterval eSecure eStep r o c prior ≤ 1000000 := by
  unfold youngInterval
  dsimp only
  split
  · omega
  · have := Nat.mod_lt (Free.nonFinite eSecure eStep) (show 0 < 999951 by omega)
    omega

theorem postEvent_lastSched (s : State) (die step : Nat) (body : EventBody) :
    (postEvent s die step body).securing.lastSched = s.securing.lastSched := by
  unfold postEvent postEventFor
  dsimp only
  split <;> split <;> rfl

/-- A frame sent leaves the last scheduled hank. -/
theorem sendTo_lastSched (s : State) (dest : Nat) (key : List Nat) (body : MsgBody) :
    (sendTo s dest key body).securing.lastSched = s.securing.lastSched := by
  have hflow : ∀ k, (flowFor s k).1.securing = s.securing := fun k =>
    securing_of_forget (forget_flowFor [14] (by decide) s k) (by decide)
  unfold sendTo sendFlow
  dsimp only
  rw [securing_of_forget (forget_pump [14] (by decide) _) (by decide), State.setLinks_securing]
  split
  · rw [memberLost, postEvent_lastSched, hflow]
  · rw [hflow]

theorem passSecuring_lastSched (s : State) (f : SecuringDecisionF) : (passSecuring s f).securing.lastSched = s.securing.lastSched := by
  have hfold : ∀ (l : List Nat) (u : State),
      (l.foldl (fun s m => sendTo s m [0] (.securingDecision f)) u).securing.lastSched = u.securing.lastSched := by
    intro l
    induction l with
    | nil => exact fun _ => rfl
    | cons m l ih => exact fun u => (ih _).trans (sendTo_lastSched _ _ _ _)
  exact hfold _ s

/-- Settles O30: a report by its source, a decision by its source, and the limits of the interval. -/
theorem securingRound : Obligations.SecuringRound := by
  refine ⟨fun s a rx ha => ⟨fun f hframed => ?report, fun f hframed => ?decision⟩, youngInterval_bounds⟩
  case report =>
    have hlinks := acceptFrame_eq_setLinks ha
    have hkids : commitChildren a = commitChildren s := by rw [hlinks]; rfl
    have hexec : exec (.securingReport rx f) s = .next (if (commitChildren a).contains rx.source then
        tryRound (a.setSecuring { a.securing with reports := a.securing.reports ++ [(rx.source, f)] }) else a) :=
      receive_taken (kind := 0x40) ha hframed rfl _
    refine ⟨fun hchild => ⟨_, ?_, rfl⟩, fun hother => ?_⟩
    · rw [hexec, hkids, if_pos (by simpa using hchild)]
      rfl
    · rw [hexec, hkids, if_neg (by simpa using hother)]
  case decision =>
    have hlinks := acceptFrame_eq_setLinks ha
    have hparent : treeParent a.members 0 a.member = treeParent s.members 0 s.member := by rw [hlinks]; rfl
    have hexec : exec (.securingDecision rx f) s = .next (if treeParent a.members 0 a.member = some rx.source then
        takeSecuringDecision (passSecuring a f) f else a) := receive_taken (kind := 0x40) ha hframed rfl _
    refine ⟨fun hfrom => ⟨takeSecuringDecision (passSecuring a f) f, ?_, ?_, fun hmode hlast => ?_⟩, fun hother => ?_⟩
    · rw [hexec, hparent, if_pos hfrom]
    · exact SameBut.trans (SameBut.mono (sameBut_acceptFrame ha) (by decide)) (sameBut_of_forget [3, 14, 16, 20] _ _ _
        ((forget_takeSecuringDecision _ (by decide) _ _).trans
          (forget_passSecuring _ (by decide) (by decide) (by decide) (by decide) a f)) (by decide))
    · have hcfg : (passSecuring a f).cfg.secure.mode = 0 := by
        rw [cfg_of_forget (forget_passSecuring [3, 14, 16, 20] (by decide) (by decide) (by decide) (by decide) a f) (by decide), hlinks]
        exact hmode
      have hsched : f.hank = (passSecuring a f).securing.lastSched := by
        rw [passSecuring_lastSched, hlinks]
        exact hlast
      rw [takeSecuringDecision, if_pos ⟨hcfg, hsched⟩]
      exact ⟨rfl, rfl⟩
    · rw [hexec, hparent, if_neg hother]

end Sys2Proof.Machine
end

section
/-! SUPPORT. Commit reports and decisions, halts, and the skeins that land (R31, R32, R65, R85, R134, R298, R307, R336). -/

namespace Sys2Proof.Machine

open Sys2Proof.Safety

/-! ### Sending leaves what was posted -/

theorem eventPosted_of_rings {s t : State} (h : t.rings = s.rings) {die : Nat} {b : EventBody} (hp : EventPosted s die b) :
    EventPosted t die b := by
  rwa [EventPosted, h]

theorem eventPosted_setSteps {s : State} {die : Nat} {b : EventBody} (h : EventPosted s die b) (v : Steps) :
    EventPosted (s.setSteps v) die b := h

theorem eventPosted_sendTo {s : State} {die : Nat} {b : EventBody} (hb : NeverMerges b) (h : EventPosted s die b) (dest : Nat)
    (key : List Nat) (body : MsgBody) : EventPosted (sendTo s dest key body) die b := by
  have hflow : ∀ k, EventPosted (flowFor s k).1 die b := fun k =>
    eventPosted_of_rings (rings_of_forget (forget_flowFor [14] (by decide) s k) (by decide)) h
  unfold sendTo sendFlow
  dsimp only
  refine eventPosted_of_rings (rings_of_forget (forget_pump [14] (by decide) _) (by decide)) ?_
  split
  · exact eventPosted_memberLost hb (hflow _) _ _ _
  · exact hflow _

theorem eventPosted_sends {s : State} {die : Nat} {b : EventBody} (hb : NeverMerges b) (key : List Nat) (body : MsgBody)
    (l : List Nat) (h : EventPosted s die b) : EventPosted (l.foldl (fun s m => sendTo s m key body) s) die b := by
  induction l generalizing s with
  | nil => exact h
  | cons m l ih => exact ih (eventPosted_sendTo hb h _ _ _)

theorem eventPosted_sendDecision {s : State} {die : Nat} {b : EventBody} (hb : NeverMerges b) (h : EventPosted s die b)
    (f : CommitDecisionF) : EventPosted (sendDecision s f) die b := eventPosted_sends hb [0] (.commitDecision f) (commitChildren s) h

theorem neverMerges_overflowSkip (rows blocks : Nat) (lowRow lowBlock : Option (Nat × Nat)) :
    NeverMerges (.overflowSkip rows blocks lowRow lowBlock) := fun _ => rfl

/-! ### Reports -/

/-- A step's reports taken from those kept. -/
def takenReports (s : State) (a : AdmStep) : State :=
  s.setSteps { s.steps with reports := s.steps.reports.filter (fun r => r.2.step != a.n) }

/-- Below the root the combined report goes to the parent. -/
theorem tryReport_below {s : State} {a : AdmStep} {got : List CommitReportF} {p : Nat} (hgot : childReports s a.n = some got)
    (hparent : treeParent s.members 0 s.member = some p) :
    tryReport s a = sendTo (takenReports s a) p [0] (.commitReport (got.foldl joinReports (ownReport s a))) := by
  have hp : ∀ v, treeParent (s.setSteps v).members 0 (s.setSteps v).member = some p := fun _ => hparent
  simp only [tryReport, hgot, hp]
  rfl

/-- The root takes its decision and sends it down. -/
theorem tryReport_root {s : State} {a : AdmStep} {got : List CommitReportF} (hgot : childReports s a.n = some got)
    (hroot : treeParent s.members 0 s.member = none) :
    let d := rootDecision s (got.foldl joinReports (ownReport s a))
    tryReport s a = sendDecision ((takenReports s a).setSteps { (takenReports s a).steps with decision := some d }) d := by
  have hp : ∀ v, treeParent (s.setSteps v).members 0 (s.setSteps v).member = none := fun _ => hroot
  simp only [tryReport, hgot, hp]
  rfl

theorem eventPosted_tryReport {s : State} {die : Nat} {b : EventBody} (hb : NeverMerges b) (h : EventPosted s die b) (a : AdmStep) :
    EventPosted (tryReport s a) die b := by
  cases hgot : childReports s a.n with
  | none => simpa only [tryReport, hgot] using h
  | some got =>
    cases hparent : treeParent s.members 0 s.member with
    | none =>
      rw [tryReport_root hgot hparent]
      exact eventPosted_sendDecision hb (eventPosted_setSteps (eventPosted_setSteps h _) _) _
    | some p =>
      rw [tryReport_below hgot hparent]
      exact eventPosted_sendTo hb (eventPosted_setSteps h _) _ _ _

theorem sendDecision_steps (s : State) (f : CommitDecisionF) : (sendDecision s f).steps = s.steps :=
  steps_of_forget (forget_sendDecision [3, 14, 16, 20] (by decide) (by decide) (by decide) (by decide) s f) (by decide)

/-- The root's decision commits when the counts are equal and a restored loss is proven (R31, R336). -/
theorem rootDecision_committed (s : State) (f : CommitReportF) : (rootDecision s f).committed = true ↔
    f.expected = f.applied ∧ ∀ p, s.securing.toProve = some p → p.1 + 1 = f.step → p.2 = f.loss := by
  unfold rootDecision
  cases s.securing.toProve with
  | none => simp
  | some p =>
    have hproven : (p.1 + 1 != f.step || p.2 == f.loss) = true ↔ (p.1 + 1 = f.step → p.2 = f.loss) := by
      rw [Bool.or_eq_true, bne_iff_ne, beq_iff_eq]
      exact Decidable.imp_iff_not_or.symm
    simp only [Bool.and_eq_true, beq_iff_eq, hproven, Option.some.injEq, forall_eq']

/-- A member with a step that it may report. -/
theorem mayReport_step {s : State} {a : AdmStep} (h : mayReport s a = true) : a.n = s.steps.c + 1 := by
  simp only [mayReport, Bool.and_eq_true, beq_iff_eq] at h
  obtain ⟨⟨⟨⟨⟨⟨⟨⟨⟨-, -⟩, hn⟩, -⟩, -⟩, -⟩, -⟩, -⟩, -⟩, -⟩ := h
  exact hn

/-- Settles O31: the member's own report, the root's decision, the children's reports, and a halt. -/
theorem commitReports : Obligations.CommitReports := by
  refine ⟨fun s a hstep hmay => ⟨fun hrows hblocks => ?clean, fun hskips hposted => ?overflow, fun b hnone => ?waits,
      fun b got hgot hroot => ?root, fun x y => ⟨rfl, rfl, rfl, rfl⟩⟩,
    fun s a rx ha => ⟨fun f hframed hrising => ?report, fun f hframed => ?halt⟩⟩
  case clean =>
    have hown : stepAt s a.n = some a := by rw [mayReport_step hmay]; exact hstep
    have hpost : postOverflow s a = s := if_pos (.inl ⟨hrows, hblocks⟩)
    simp only [exec, execCommitReportSend, hstep, hmay, hpost, hown]
    rfl
  case overflow =>
    have hpost : EventPosted (postOverflow s a) 47 (.overflowSkip a.skipRows a.skipBlocks a.lowRow a.lowBlock) := by
      rw [postOverflow, if_neg (by rw [hposted]; rintro (⟨h, h'⟩ | h); omega; cases h)]
      exact postEvent_posted s 47 _ _
    simp only [exec, execCommitReportSend, hstep, hmay]
    cases stepAt (postOverflow s a) a.n with
    | none => exact ⟨_, rfl, hpost⟩
    | some a' =>
      refine ⟨_, rfl, eventPosted_tryReport (neverMerges_overflowSkip _ _ _ _) ?_ _⟩
      exact eventPosted_of_rings rfl hpost
  case waits => simp only [tryReport, hnone]
  case root =>
    intro f proven
    refine ⟨rootDecision s f, ?_, rfl, rfl, rfl, rfl, rootDecision_committed s f⟩
    rw [tryReport_root hgot hroot, sendDecision_steps]
    rfl
  case report =>
    have hlinks := acceptFrame_eq_setLinks ha
    have hkids : commitChildren a = commitChildren s := by rw [hlinks]; rfl
    have hsteps : a.steps = s.steps := by rw [hlinks]; rfl
    let kept : State := { a with steps := { a.steps with reports := a.steps.reports ++ [(rx.source, f)] } }
    have hexec : exec (.commitReport rx f) s = .next (if !(commitChildren a).contains rx.source then a else
        match stepAt kept f.step with
        | some x =>
          if x.reported && f.step == kept.steps.c + 1 && !kept.steps.halted && kept.steps.decision.isNone then tryReport kept x else kept
        | none => kept) := receive_taken (kind := 0x40) ha hframed hrising _
    refine ⟨fun hother => ?_, fun hchild => ⟨fun hunreported => ?_, fun x hx hreported hnow hlive hundecided => ?_⟩⟩
    · rw [hexec, hkids, if_pos (by simpa using hother)]
    · rw [hexec, hkids, if_neg (by simpa using hchild)]
      have hat : stepAt kept f.step = stepAt s f.step := by
        show stepAt a f.step = stepAt s f.step
        rw [stepAt, stepAt, hsteps]
      rw [hat]
      cases hx : stepAt s f.step with
      | none => rfl
      | some x =>
        simp only [hunreported x hx, Bool.false_and]
        rfl
    · rw [hexec, hkids, if_neg (by simpa using hchild), show stepAt kept f.step = some x from hx]
      refine congrArg _ (if_pos ?_)
      have hc : kept.steps.c = s.steps.c := (show kept.steps.c = a.steps.c from rfl).trans (congrArg Steps.c hsteps)
      have hh : kept.steps.halted = false := ((show kept.steps.halted = a.steps.halted from rfl).trans (congrArg Steps.halted hsteps)).trans hlive
      have hd : kept.steps.decision = none := ((show kept.steps.decision = a.steps.decision from rfl).trans (congrArg Steps.decision hsteps)).trans hundecided
      simp [hreported, hnow, hc, hh, hd]
  case halt =>
    have hlinks := acceptFrame_eq_setLinks ha
    have hsteps : a.steps = s.steps := by rw [hlinks]; rfl
    have hexec : exec (.halt rx f) s = .next (if a.steps.halted then a else
        sendHalt (a.setSteps { a.steps with halted := true }) f.step f.reason f.named (some rx.source)) :=
      receive_taken (kind := 0x40) ha hframed rfl _
    refine ⟨_, hexec, ?_, ?_⟩
    · split
      case isTrue h =>
        rw [hsteps] at h ⊢
        exact (show s.steps = { s.steps with halted := s.steps.halted } from rfl).trans (by rw [h])
      case isFalse h =>
        rw [steps_of_forget (forget_sendHalt [3, 14, 16, 20] (by decide) (by decide) (by decide) (by decide) _ _ _ _ _) (by decide),
          State.setSteps_steps, hsteps]
    · refine SameBut.trans (SameBut.mono (sameBut_acceptFrame ha) (by decide)) ?_
      split
      · exact SameBut.refl _ a
      · exact sameBut_of_forget [3, 5, 14, 16, 20] _ _ _ ((forget_sendHalt _ (by decide) (by decide) (by decide) (by decide) _ _ _ _ _).trans
          (forget_setSteps _ (by decide) _ _ (.inr rfl) (.inr rfl))) (by decide)

/-! ### Decisions -/

theorem highest_of_forget {ks : List Nat} {s t : State} (h : forget ks t = forget ks s) (hk : 27 ∉ ks) : t.steps.c = s.steps.c := by
  have hs := congrArg State.steps h
  by_cases h5 : 5 ∈ ks
  · simpa only [forget, forgetSteps, h5, hk, if_true, if_false] using congrArg Steps.c hs
  · exact congrArg Steps.c (by simpa only [forget, h5, if_false] using hs)

/-- Of the highest committed step a boundary that is passed changes what its first assignment says. -/
theorem forget_passBoundary_from (ks : List Nat) (h3 : 3 ∈ ks) (h4 : 4 ∈ ks) (h5 : 5 ∈ ks) (h6 : 6 ∈ ks) (h10 : 10 ∈ ks) (h12 : 12 ∈ ks)
    (h13 : 13 ∈ ks) (h14 : 14 ∈ ks) (h15 : 15 ∈ ks) (h16 : 16 ∈ ks) (h17 : 17 ∈ ks) (h19 : 19 ∈ ks) (h20 : 20 ∈ ks) (s : State)
    (f : CommitDecisionF) : forget ks (passBoundary s f) =
      forget ks (s.setSteps { s.steps with c := f.step, decision := none, evalSet := f.evals }) := by
  unfold passBoundary
  simp only [forget_ite, ite_self, or_true, forget_applySets, forget_decayHeat, forget_decideExponent, forget_dropStepWork,
    forget_dueDigests, forget_freeLanded, forget_noteLoss, forget_passDelta, forget_passLossScale, forget_postEvent, forget_progress,
    forget_rebalance, forget_releaseCredits, forget_scrubAt, forget_setSecuring, forget_setSteps, forget_settleEvals,
    forget_startEvals, forget_startExports, forget_takeHank, h3, h4, h5, h6, h10, h12, h13, h14, h15, h16, h17, h19, h20]

/-- A boundary that is passed is that of the decision's step. -/
theorem passBoundary_highest (s : State) (f : CommitDecisionF) : (passBoundary s f).steps.c = f.step :=
  highest_of_forget (forget_passBoundary_from [3, 4, 5, 6, 10, 12, 13, 14, 15, 16, 17, 19, 20] (by decide) (by decide) (by decide)
    (by decide) (by decide) (by decide) (by decide) (by decide) (by decide) (by decide) (by decide) (by decide) (by decide) s f)
    (by decide)

/-- The hank that a restored step had to prove is dropped with its mirrors (R336). -/
def dropProven (s : State) (f : CommitDecisionF) : State :=
  match s.securing.toProve with
  | some p =>
    if p.1 + 1 = f.step then
      let t := dropHank s p.1
      t.setSecuring { t.securing with mirrors := t.securing.mirrors.filter (fun m => m.boundary != p.1) }
    else s
  | none => s

theorem refuseCommit_eq (s : State) (f : CommitDecisionF) : refuseCommit s f =
    memberLost (dropProven (s.setSteps { s.steps with halted := true, decision := none }) f) none 3 f.step := rfl

theorem dropProven_steps (s : State) (f : CommitDecisionF) : (dropProven s f).steps = s.steps := by
  unfold dropProven
  split
  · split <;> rfl
  · rfl

/-- No hank of a boundary that was to be proven stays. -/
theorem dropProven_hanks {s : State} {f : CommitDecisionF} {p : Nat × Word32} (hp : s.securing.toProve = some p)
    (hstep : p.1 + 1 = f.step) : ∀ h ∈ (dropProven s f).securing.hanks, h.boundary ≠ p.1 := by
  intro h hh
  rw [dropProven, hp] at hh
  simp only [if_pos hstep] at hh
  simpa using (List.mem_filter.mp hh).2

/-- Settles O32: what a decision does, what a refusal leaves, and the loss scale. -/
theorem commitDecisionsApply : Obligations.CommitDecisionsApply := by
  refine ⟨fun s f hnext => ⟨fun rx hroot hrun hdecision => ?root, fun rx a hparent ha hframed hrising hdue hreported => ?below,
      fun hrefused => ?refuses, fun hcommits hfree => ?passes, fun hcommits hprev hroutes => ?waits, passBoundary_highest s f, ?refused⟩,
    fun s overflow => ⟨fun hfixed => ?fixed, fun hfixed => ⟨fun hover => ?lowers, fun hover hgrows => ?raises, fun hover hgrows => ?counts⟩⟩⟩
  case root => simp [exec, execCommitDecision, hroot, hrun, hdecision, ← hnext]
  case below =>
    have hlinks := acceptFrame_eq_setLinks ha
    have hexec : exec (.commitDecision rx f) s = .next
        (if rx.source = rx.source ∧ f.step = a.steps.c + 1 ∧ a.cfg.routeDue = none ∧ (stepAt a f.step).any AdmStep.reported = true then
          applyDecision (sendDecision a f) f else a) := by
      simp only [exec, execCommitDecision, hparent]
      exact receive_taken (kind := 0x40) ha hframed hrising _
    rw [hexec, if_pos ⟨rfl, by rw [hlinks]; exact hnext, by rw [hlinks]; exact hdue, by rw [hlinks]; exact hreported⟩]
  case refuses => simp [applyDecision, hrefused]
  case passes =>
    have hno : (s.cfg.prevRoutes.isSome && routesDue s f.step) = false := by
      rcases hfree with h | h <;> simp [h]
    simp [applyDecision, hcommits, hno]
  case waits =>
    have hyes : (s.cfg.prevRoutes.isSome && routesDue s f.step) = true := by
      simp [hroutes, Option.isSome_iff_ne_none.mpr hprev]
    rw [applyDecision, hcommits, hyes]
    rfl
  case refused =>
    have hsteps : (refuseCommit s f).steps = { s.steps with halted := true, decision := none } := by
      rw [refuseCommit_eq, steps_of_forget (forget_memberLost [3, 16, 20] (by decide) (by decide) (by decide) _ _ _ _) (by decide),
        dropProven_steps]
      rfl
    refine ⟨by rw [hsteps], by rw [hsteps], memberLost_posted _ _ _ _, fun p hp hstep => ?_⟩
    rw [refuseCommit_eq, memberLost, securing_of_forget (postEvent_forget [3, 20] (by decide) (by decide) _ _ _ _ (fun _ => rfl)) (by decide)]
    exact dropProven_hanks hp hstep
  case fixed => exact if_pos hfixed
  case lowers =>
    rw [passLossScale, hfixed, hover]
    rfl
  case raises =>
    simp only [passLossScale, hfixed, hover]
    exact if_pos hgrows
  case counts =>
    simp only [passLossScale, hfixed, hover]
    exact if_neg hgrows

/-! ### Skeins -/

/-- Settles O33. -/
theorem skeinsLand : Obligations.SkeinsLand := by
  intro s a rx f ha
  refine ⟨fun hframed hok => ⟨receive_taken (kind := 0x06) ha hframed hok _, fun v p hversion hpage hmore => ?moves, ?lands⟩, fun hbad => ?broken⟩
  case moves =>
    have hlinks := acceptFrame_eq_setLinks ha
    have hversion' : findVersion a f.table f.version = some v := by rw [hlinks]; exact hversion
    have hland : landingPage a v f = (a, p) := by
      have hpage' : pageAt a { table := f.table, version := f.version, skein := f.skein, page := f.page } = some p := by
        rw [hlinks]; exact hpage
      simp only [landingPage, hpage']
    refine ⟨fun hlist => ?_, fun hlist => ?_⟩
    · simp only [takeTransfer, hversion', hland, hlist, hmore]
      rfl
    · simp only [takeTransfer, hversion', hland, hlist, hmore]
      rfl
  case lands =>
    let u := (a.tables.pages.filter (fun p => p.ref.table == f.table && p.ref.skein == f.skein && p.unsettled)).foldl settlePage a
    refine ⟨u.setTables { u.tables with
      arriving := u.tables.arriving.filter (fun a => !(a.1 == f.boundary && a.2.1 == f.table && a.2.2.1 == f.skein)),
      landed := if u.steps.c < f.boundary then u.tables.landed ++ [(f.boundary, f.table, f.skein)] else u.tables.landed }, rfl, ?_⟩
    rintro x hx ⟨hboundary, htable, hskein⟩
    have hkept := (List.mem_filter.mp hx).2
    simp [hboundary, htable, hskein] at hkept
  case broken =>
    obtain ⟨hposted, hlinks, -⟩ := memberLost_taken ha (some rx.source)
    exact ⟨_, receive_broken (kind := 0x06) ha hbad _, hposted, hlinks⟩

end Sys2Proof.Machine
end

section
/-! SUPPORT. Failures of the hardware and the movement of pages: what is lost, and where a page lies. -/

namespace Sys2Proof.Machine

open Sys2Proof.Safety

/-! ### Records replaced by their key -/

/-- A record that stands in the place of the one with its key is found. -/
theorem find_replaced {α : Type} {p : α → Bool} {l : List α} {x v : α} (h : l.find? p = some x) (hv : p v = true) :
    (l.map (fun y => if p y then v else y)).find? p = some v := by
  induction l with
  | nil => cases h
  | cons y l ih =>
    cases hy : p y with
    | true => simp [hy, hv]
    | false => simpa [List.find?_cons, hy] using ih (by simpa [List.find?_cons, hy] using h)

/-- A record of another key is found as before. -/
theorem find_replaced_other {α : Type} {p q : α → Bool} (h : ∀ y, p y = true → q y = false) (l : List α) {v : α} (hv : q v = false) :
    (l.map (fun y => if p y then v else y)).find? q = l.find? q := by
  induction l with
  | nil => rfl
  | cons y l ih =>
    cases hy : p y with
    | true => simp [hy, hv, h y hy, ih]
    | false => simp [List.find?_cons, hy, ih]

theorem pageAt_ref {s : State} {r : PageRef} {p : Page} (h : pageAt s r = some p) : p.ref = r := by
  simpa using List.find?_some h

theorem pageAt_setPage {s : State} {r : PageRef} {p : Page} (h : pageAt s r = some p) {v : Page} (hv : v.ref = r) :
    pageAt (setPage s v) r = some v := by
  subst hv
  exact find_replaced h (by simp)

theorem pageAt_setPage_ne {s : State} {r : PageRef} {v : Page} (hv : r ≠ v.ref) : pageAt (setPage s v) r = pageAt s r :=
  find_replaced_other (fun y hy => by simp only [beq_iff_eq] at hy; simpa [hy] using hv.symm) _ (by simpa using hv.symm)

theorem findVersion_keys {s : State} {table number : Nat} {v : Version} (h : findVersion s table number = some v) :
    v.table = table ∧ v.number = number := by
  simpa using List.find?_some h

theorem findVersion_setVersion {s : State} {v w : Version} (h : findVersion s v.table v.number = some w) :
    findVersion (setVersion s v) v.table v.number = some v :=
  find_replaced h (by simp)

/-! ### A member that is lost -/

/-- Of the securing state an event changes the failure record only. -/
theorem postEvent_hanks (s : State) (die step : Nat) (body : EventBody) :
    (postEvent s die step body).securing.hanks = s.securing.hanks := by
  unfold postEvent postEventFor
  dsimp only
  split <;> split <;> rfl

theorem sendTo_hanks (s : State) (dest : Nat) (key : List Nat) (body : MsgBody) :
    (sendTo s dest key body).securing.hanks = s.securing.hanks := by
  have hflow : ∀ k, (flowFor s k).1.securing = s.securing := fun k =>
    securing_of_forget (forget_flowFor [14] (by decide) s k) (by decide)
  unfold sendTo sendFlow
  dsimp only
  rw [securing_of_forget (forget_pump [14] (by decide) _) (by decide), State.setLinks_securing]
  split
  · rw [memberLost, postEvent_hanks, hflow]
  · rw [hflow]

theorem sends_hanks (key : List Nat) (body : MsgBody) (l : List Nat) (s : State) :
    (l.foldl (fun s m => sendTo s m key body) s).securing.hanks = s.securing.hanks := by
  induction l generalizing s with
  | nil => rfl
  | cons m l ih => exact (ih _).trans (sendTo_hanks _ _ _ _)

theorem withhold_leaves (s : State) (step reason : Nat) (named : Option Nat) :
    (withhold s step reason named).steps = { s.steps with halted := true } ∧
    (withhold s step reason named).securing.hanks = s.securing.hanks ∧
    ∀ die b, NeverMerges b → EventPosted s die b → EventPosted (withhold s step reason named) die b := by
  refine ⟨?_, sends_hanks _ _ _ _, fun die b hb h => eventPosted_sends hb _ _ _ (eventPosted_setSteps h _)⟩
  rw [withhold, steps_of_forget (forget_sendHalt [3, 14, 16, 20] (by decide) (by decide) (by decide) (by decide) _ _ _ _ _) (by decide),
    State.setSteps_steps]

theorem loseSelf_leaves (s : State) (reason : Nat) :
    (loseSelf s reason).steps = { s.steps with halted := true, lost := true } ∧
    EventPosted (loseSelf s reason) 47 (.memberLost (some s.member) reason) ∧
    (loseSelf s reason).regs = s.regs ∧ (loseSelf s reason).sequences = modifyAt s.sequences 47 (· + 1) := by
  have h := forget_memberLost [3, 16, 20] (by decide) (by decide) (by decide) (s.setSteps { s.steps with halted := true, lost := true })
    (some s.member) reason (stepNow s)
  refine ⟨?_, memberLost_posted _ _ _ _, ?_, postEvent_sequences _ _ _ _⟩
  · rw [loseSelf, steps_of_forget h (by decide), State.setSteps_steps]
  · rw [loseSelf, regs_of_forget h (by decide), State.setSteps_regs]

/-! ### Poisoned rows -/

theorem poisonRow_of_poisoned {s : State} {v w : Version} (h : findVersion s v.table v.number = some w) (tier : Tier)
    (cause : Option (Nat × Word32)) {row : Nat} (hrow : row ∈ w.poisoned) : poisonRow s v tier cause row = s := by
  simp only [poisonRow, h]
  exact if_pos (by simp [hrow])

/-- A row poisoned for the first time, before its event is posted. -/
def poisonedState (s : State) (w : Version) (row : Nat) : State :=
  let s := setVersion s { w with poisoned := w.poisoned ++ [row] }
  let s := s.setTelemetry { s.telemetry with rowsPoisoned := s.telemetry.rowsPoisoned + 1 }
  let s := s.setOutputs { s.outputs with
    exports := s.outputs.exports.map (fun e =>
      if e.table == w.table && e.version == w.number then
        { e with todo := e.todo.map (fun x => if x.2.1 == row then (x.1, x.2.1, List.replicate w.recordSize 0, true) else x) }
      else e) }
  poisonHanks s w row

theorem poisonRow_of_clean {s : State} {v w : Version} (h : findVersion s v.table v.number = some w) (tier : Tier)
    (cause : Option (Nat × Word32)) {row : Nat} (hrow : row ∉ w.poisoned) (hlt : row < w.rowCount) :
    poisonRow s v tier cause row = postEventFor (poisonedState s w row) controllerDie (stepNow (poisonedState s w row))
      (.rowPoisoned w.table w.number row (tierCode tier)) cause := by
  simp only [poisonRow, h]
  exact if_neg (by simp [hrow, hlt])

theorem poisonedState_tables (s : State) (w : Version) (row : Nat) :
    (poisonedState s w row).tables = (setVersion s { w with poisoned := w.poisoned ++ [row] }).tables := by
  rw [poisonedState, tables_of_forget (forget_poisonHanks [16] (by decide) _ _ _) (by decide), State.setOutputs_tables,
    State.setTelemetry_tables]

theorem poisonedState_rowsPoisoned (s : State) (w : Version) (row : Nat) :
    (poisonedState s w row).telemetry.rowsPoisoned = s.telemetry.rowsPoisoned + 1 := by
  rw [poisonedState, telemetry_of_forget (forget_poisonHanks [16] (by decide) _ _ _) (by decide), State.setOutputs_telemetry,
    State.setTelemetry_telemetry]
  rfl

/-- A row poisoned for the first time (R119). -/
theorem poisonRow_first {s : State} {v w : Version} (h : findVersion s v.table v.number = some w) (tier : Tier)
    (cause : Option (Nat × Word32)) {row : Nat} (hrow : row ∉ w.poisoned) (hlt : row < w.rowCount) :
    EventPosted (poisonRow s v tier cause row) 47 (.rowPoisoned v.table v.number row (tierCode tier)) ∧
    findVersion (poisonRow s v tier cause row) v.table v.number = some { w with poisoned := w.poisoned ++ [row] } ∧
    (poisonRow s v tier cause row).telemetry.rowsPoisoned = s.telemetry.rowsPoisoned + 1 := by
  obtain ⟨htable, hnumber⟩ := findVersion_keys h
  rw [poisonRow_of_clean h tier cause hrow hlt, ← htable, ← hnumber]
  rw [← htable, ← hnumber] at h
  have hpost := forget_postEventFor [3, 16, 20] (by decide) (by decide) (by decide) (poisonedState s w row) controllerDie
    (stepNow (poisonedState s w row)) (.rowPoisoned w.table w.number row (tierCode tier)) cause
  refine ⟨postEventFor_posted _ _ _ _ _, ?_, ?_⟩
  · rw [findVersion, tables_of_forget hpost (by decide), poisonedState_tables]
    exact findVersion_setVersion (v := { w with poisoned := w.poisoned ++ [row] }) h
  · rw [telemetry_of_forget hpost (by decide), poisonedState_rowsPoisoned]

theorem poisonRows_of_version {s : State} {p : Page} {v : Version} (h : findVersion s p.ref.table p.ref.version = some v)
    (cause : Option (Nat × Word32)) (rows : List Nat) :
    poisonRows s p cause rows = (rows.filter p.rows.contains).foldl (fun u row => poisonRow u v p.tier cause row) s := by
  rw [poisonRows, h]

/-- Settles O34: the column test, the chord module, a bad line and a memory port. -/
theorem hardwareFaults : Obligations.HardwareFaults := by
  refine ⟨fun s hrun => ⟨fun a die sliver hstep hdie hsliver htest hover => ⟨?passes, ?fails⟩, fun chord hchord => ?chord⟩,
    fun s corrected rows reader hrun => ⟨?counts, fun r hnone => ?elsewhere, fun r p hpage => ⟨fun hno => ?quiet,
      fun htier hreading => ⟨fun hclean hhome hflash => ?reread, fun hpoisons v hv => ?poisons⟩⟩,
      fun v w tier cause row hw => ⟨fun hrow => poisonRow_of_poisoned hw tier cause hrow,
        fun hrow hlt => poisonRow_first hw tier cause hrow hlt⟩,
      fun port m hm hpresent hlive => ⟨fun hhomes => ?port, fun hhomes => ?homed⟩⟩⟩
  case passes =>
    simp only [exec, execSliverColumnTest, hstep]
    exact (if_neg (by simp [hrun, htest, hover]; omega)).trans (if_pos trivial)
  case fails =>
    have hexec : exec (.sliverColumnTest die sliver false) s = .next
        (let t := memberLost s (some s.member) 4 (s.steps.c + 1)
         withhold (t.setSecuring { t.securing with
          hanks := t.securing.hanks.filter (fun h => !(h.boundary == s.steps.c + 1 - 1 && h.sealedLoss.isNone)) }) (s.steps.c + 1) 4
            (some t.member)) := by
      simp only [exec, execSliverColumnTest, hstep]
      exact (if_neg (by simp [hrun, htest, hover]; omega)).trans (if_neg Bool.false_ne_true)
    refine ⟨_, hexec, ?_⟩
    dsimp only
    generalize ht : memberLost s (some s.member) 4 (s.steps.c + 1) = t
    have hforget := forget_memberLost [3, 16, 20] (by decide) (by decide) (by decide) s (some s.member) 4 (s.steps.c + 1)
    rw [ht] at hforget
    obtain ⟨hsteps, hhanks, hkept⟩ := withhold_leaves (t.setSecuring { t.securing with
      hanks := t.securing.hanks.filter (fun h => !(h.boundary == s.steps.c + 1 - 1 && h.sealedLoss.isNone)) }) (s.steps.c + 1) 4 (some t.member)
    refine ⟨?_, hkept _ _ (neverMerges_memberLost _ _) ?_, ?_⟩
    · rw [hsteps, State.setSecuring_steps, steps_of_forget hforget (by decide)]
    · exact eventPosted_of_rings (State.setSecuring_rings _ _) (ht ▸ memberLost_posted _ _ _ _)
    · rw [hhanks]
      intro h hh hboundary hsealed
      have := (List.mem_filter.mp hh).2
      simp [hboundary, hsealed] at this
  case chord =>
    have hexec : exec (.chordModuleFailure chord) s = .next (loseSelf s 8) := by
      simp only [exec, execChordModuleFailure]
      exact if_neg (by simp [hrun]; omega)
    obtain ⟨hsteps, hposted, -, hseq⟩ := loseSelf_leaves s 8
    exact ⟨_, hexec, hsteps, hposted, hseq, exec_sameBut _ _ _ _ hexec rfl⟩
  case counts => simp [exec, execBackgroundScrub, hrun, State.setTelemetry]
  case elsewhere =>
    have hnone' : ∀ t, pageAt (s.setTelemetry t) r = none := fun _ => hnone
    refine ⟨loseSelf (s.setTelemetry { s.telemetry with correctedLines := s.telemetry.correctedLines + corrected }) 5, ?_, ?_⟩
    · simp [exec, execBackgroundScrub, hrun, hnone']
    · obtain ⟨hsteps, hposted, -⟩ :=
        loseSelf_leaves (s.setTelemetry { s.telemetry with correctedLines := s.telemetry.correctedLines + corrected }) 5
      exact ⟨hsteps, hposted⟩
  case quiet =>
    have hpage' : ∀ t, pageAt (s.setTelemetry t) r = some p := fun _ => hpage
    have hskip : (lineTier p.tier && !p.rereading) = false := by
      rcases hno with h | h <;> simp [lineTier, h]
    simp only [exec, execBackgroundScrub, hrun, hpage', hskip]
    rfl
  case reread =>
    have hpage' : ∀ t, pageAt (s.setTelemetry t) r = some p := fun _ => hpage
    let counted := s.setTelemetry { s.telemetry with correctedLines := s.telemetry.correctedLines + corrected }
    let u := wakeChannels (counted.setTelemetry { counted.telemetry with rereadLines := counted.telemetry.rereadLines + 1 }) (pageChannels p.ref)
    refine ⟨setPage u { p with rereading := true }, ?_, ?_, ?_, ?_, rfl⟩
    · simp [exec, execBackgroundScrub, hrun, hpage', lineTier, htier, hreading, badLine, hclean, hhome, hflash, u, counted]
    · refine sameBut_of_forget [6, 15, 19] _ _ _ ?_ (by decide)
      rw [forget_setPage _ (by decide), forget_wakeChannels _ (by decide), forget_setTelemetry _ (by decide), forget_setTelemetry _ (by decide)]
    · rfl
    · have href := pageAt_ref hpage
      exact pageAt_setPage (s := u) (v := { p with rereading := true }) hpage href
  case poisons =>
    have hpage' : ∀ t, pageAt (s.setTelemetry t) r = some p := fun _ => hpage
    have hreader : ∀ t, readingCommand (s.setTelemetry t) reader = readingCommand s reader := fun _ => rfl
    have hbad : (!p.dirty && p.home == .flash && p.tier != .flash) = false := by
      rcases hpoisons with h | h | h <;> simp [h]
    have hv' : ∀ t, findVersion (s.setTelemetry t) p.ref.table p.ref.version = some v := fun _ => by
      rw [pageAt_ref hpage]; exact hv
    simp only [exec, execBackgroundScrub, hrun, hpage', hreader, badLine, hbad, poisonRows_of_version (hv' _)]
    exact (if_neg Bool.false_ne_true).trans ((if_pos (by simp [lineTier, htier, hreading])).trans rfl)
  case port =>
    have hany : (s.tables.pages.filter (fun p => p.tier == .cxlPort && p.port == port)).any (fun p => cxlTier p.home) = false := by
      rw [List.any_eq_false]
      exact fun p hp => by rw [hhomes p hp]; exact Bool.false_ne_true
    simp only [exec, execMemoryPortFailure, hm]
    rw [if_neg (by simp [hrun, hpresent, hlive]), hany]
    rfl
  case homed =>
    obtain ⟨p, hp, hhome⟩ := hhomes
    have hany : (s.tables.pages.filter (fun p => p.tier == .cxlPort && p.port == port)).any (fun p => cxlTier p.home) = true :=
      List.any_eq_true.mpr ⟨p, hp, hhome⟩
    obtain ⟨hsteps, hposted, hregs, -⟩ := loseSelf_leaves
      (s.setRegs { s.regs with memPorts := s.regs.memPorts.set port { m with failed := true } }) 5
    refine ⟨_, ?_, hsteps, hregs, hposted⟩
    simp only [exec, execMemoryPortFailure, hm]
    rw [if_neg (by simp [hrun, hpresent, hlive]), hany]
    rfl

/-! ### Where a page lands -/

theorem pageBytes_eq : (Constants.pageBytes : Int) = 65536 := rfl

theorem drawWear_tables (s : State) (n : Nat) : (drawWear s n).tables = { s.tables with wear := s.tables.wear - n } := rfl

theorem writeFlash_tables (s : State) (p : Page) :
    (writeFlash s p).tables.pages = (setPage s { p with logSeq := p.logSeq + 1, dirty := false }).tables.pages ∧
    (writeFlash s p).tables.versions = s.tables.versions ∧ (writeFlash s p).tables.wear = s.tables.wear - Constants.pageBytes := by
  have hnote : ∀ u : State, (noteSpare u).tables = { u.tables with spareLow := (noteSpare u).tables.spareLow } := by
    intro u
    rw [noteSpare]
    split <;> rfl
  dsimp only [writeFlash]
  rw [drawWear_tables, setPage, State.setTables_tables, hnote]
  exact ⟨rfl, rfl, rfl⟩

/-- The page as it lies in its new tier: its bits as before, in flash a new version where it was dirty. -/
def Page.landed (p : Page) (t : Tier) : Page :=
  let q := { p with tier := t, port := p.toPort, moving := none, wanted := false }
  if t = .flash ∧ p.dirty = true then { q with logSeq := p.logSeq + 1, dirty := false } else q

theorem landPage_tables (s : State) (p : Page) (t : Tier) :
    (landPage s p t).tables.pages = (setPage s (p.landed t)).tables.pages ∧
    (landPage s p t).tables.versions = s.tables.versions ∧
    (landPage s p t).tables.wear = if t = .flash ∧ p.dirty = true then s.tables.wear - Constants.pageBytes else s.tables.wear := by
  have hcount : (countMove s p t).tables = s.tables := tables_of_forget (forget_countMove [19] (by decide) s p t) (by decide)
  by_cases hflash : t = .flash
  · cases hdirty : p.dirty with
    | true =>
      obtain ⟨hpages, hversions, hwear⟩ := writeFlash_tables (countMove s p t)
        { p with tier := t, port := p.toPort, moving := none, wanted := false }
      have htables : (landPage s p t).tables =
          (writeFlash (countMove s p t) { p with tier := t, port := p.toPort, moving := none, wanted := false }).tables := by
        simp only [landPage, hdirty]
        rw [if_pos hflash]
        split
        · exact tables_of_forget (forget_flashCopy [16, 17] (by decide) (by decide) _ _) (by decide)
        · rfl
      rw [htables, hpages, hversions, hwear, hcount, if_pos ⟨hflash, rfl⟩, Page.landed, if_pos ⟨hflash, hdirty⟩]
      refine ⟨?_, rfl, rfl⟩
      simp only [setPage, State.setTables_tables, hcount]
    | false =>
      have htables : (landPage s p t).tables =
          (setPage (countMove s p t) { p with tier := t, port := p.toPort, moving := none, wanted := false }).tables := by
        simp only [landPage, hdirty]
        rw [if_pos hflash]
        split
        · exact tables_of_forget (forget_flashCopy [16, 17] (by decide) (by decide) _ _) (by decide)
        · rfl
      rw [htables, setPage, State.setTables_tables, hcount, if_neg (by simp), Page.landed, if_neg (by simp [hdirty])]
      exact ⟨rfl, rfl, rfl⟩
  · have htables : (landPage s p t).tables =
        (setPage (countMove s p t) { p with tier := t, port := p.toPort, moving := none, wanted := false }).tables :=
      congrArg State.tables (if_neg hflash)
    rw [htables, setPage, State.setTables_tables, hcount, if_neg (by simp [hflash]), Page.landed, if_neg (by simp [hflash])]
    exact ⟨rfl, rfl, rfl⟩

theorem Page.landed_leaves (p : Page) (t : Tier) : (p.landed t).ref = p.ref ∧ (p.landed t).tier = t ∧ (p.landed t).moving = none ∧
    (p.landed t).rows = p.rows ∧ (p.landed t).heat = p.heat := by
  rw [Page.landed]
  split <;> exact ⟨rfl, rfl, rfl, rfl, rfl⟩

theorem moveAllowed_false {s : State} {p : Page} {dest : Tier}
    (h : p.moving ≠ none ∨ (dest = p.tier ∧ dest ≠ .cxlPort) ∨ tierRoom s dest = false) : moveAllowed s p dest = false := by
  rcases h with h | ⟨h, hport⟩ | h
  · simp [moveAllowed, Page.still, h]
  · subst h
    simp [moveAllowed, hport]
  · simp [moveAllowed, h]

/-! ### Wear -/

/-- Flash with the older versions gone that nothing names, before what moved is drawn on the budget. -/
def withoutOlder (s : State) : State :=
  let s := s.bump
  let s := s.setTables { s.tables with older := s.tables.older.filter (versionNamed s) }
  s.setTables { s.tables with spareLow := spareShort s }

theorem flashReclaim_on {s : State} (hrun : s.running = true) (hon : channelsOn s (List.range 16) = true) :
    exec .flashReclaim s = .next (drawWear (withoutOlder s) (Free.reclaimedPages s.freeCount * Constants.pageBytes)) := by
  simp only [exec, execFlashReclaim, hrun, hon]
  rfl

theorem drawWear_overdraw (s : State) (n : Nat) : (drawWear s n).telemetry.wearOverdraw =
    s.telemetry.wearOverdraw + if s.tables.wear < 0 then n else n - s.tables.wear.toNat := rfl

/-- Settles O35: a move that starts, one that ends, a page read again, the wear budget and reclamation. -/
theorem pagesMove : Obligations.PagesMove := by
  refine ⟨fun s page p hrun hpage => ⟨fun dest => ⟨fun hallowed => ?starts, fun hno => ?stays, moveAllowed_false⟩, fun hstill lost => ?still,
      fun dest lost hmoving => ⟨fun hflash hoff => ?waits, fun hready => ⟨fun hcalm => ?lands, fun q hq hwanted hflash => ?promoted⟩,
        fun hlost => ?unharmed, ?landed, (landPage_tables s p dest).2.1, fun r hr => ?others, fun hflash hdirty => ?draws, fun hcalm => ?free⟩,
      fun lost => ⟨fun hreading hon => ?reread, fun hno => ?unread⟩⟩,
    fun s => ⟨fun hpower => ?accrues, fun hoff => ?unpowered, fun n => ⟨rfl, ?drawn, fun hle => ?within, fun hneg => ?below,
      fun hpos hover => ?across⟩, fun hrun => ⟨fun hon => ?reclaims, fun hoff => ?wakes⟩⟩⟩
  all_goals try have href := pageAt_ref hpage
  case starts =>
    have hexec : exec (.placementMove page dest) s = .next (startMove s p dest) := by
      simp only [exec, execPlacementMove, hpage, hrun, hallowed]
      rfl
    obtain ⟨u, hu, hstart⟩ : ∃ u : State, u.tables = s.tables ∧
        startMove s p dest = setPage u { p with moving := some dest, toPort := choosePort u p.ref } :=
      ⟨if p.tier = .flash ∨ dest = .flash then wakeChannels s (pageChannels p.ref) else s, by split <;> rfl, rfl⟩
    have hat : ∀ r, pageAt u r = pageAt s r := fun r => by rw [pageAt, pageAt, hu]
    refine ⟨_, { p with moving := some dest, toPort := choosePort u p.ref }, hexec, exec_sameBut _ _ _ _ hexec rfl, ?_, ?_, rfl,
      fun r hr => ?_⟩
    · rw [hstart, setPage, State.setTables_tables, hu]
    · rw [hstart]
      exact pageAt_setPage (v := { p with moving := some dest, toPort := choosePort u p.ref }) ((hat _).trans hpage) href
    · rw [hstart]
      exact (pageAt_setPage_ne (v := { p with moving := some dest, toPort := choosePort u p.ref }) (by rw [← href] at hr; exact hr)).trans
        (hat r)
  case stays => simp [exec, execPlacementMove, hpage, hno]
  case still => simp [exec, execPageMoveEnd, hpage, hstill]
  case waits =>
    simp only [exec, execPageMoveEnd, hpage, hmoving]
    exact if_pos (by simp [hflash, href, hoff])
  case lands =>
    simp only [exec, execPageMoveEnd, hpage, hmoving]
    refine (if_neg (by rw [href]; rcases hready with h | h <;> simp [hrun, h])).trans ?_
    split
    case h_1 q hq =>
      have hno : (p.wanted && q.tier == .flash) = false := by rcases hcalm q hq with h | h <;> simp [h]
      rw [hno]
      rfl
    case h_2 => rfl
  case promoted =>
    simp only [exec, execPageMoveEnd, hpage, hmoving, hq, hwanted, hflash]
    exact if_neg (by rw [href]; rcases hready with h | h <;> simp [hrun, h])
  case unharmed =>
    subst hlost
    simp only [lostInMove, List.filter_nil, List.isEmpty_nil, Bool.true_or, if_true]
  case landed =>
    obtain ⟨hsame, htier, hnone, hrows, hheat⟩ := p.landed_leaves dest
    refine ⟨p.landed dest, ?_, htier, hnone, hrows, hheat⟩
    rw [pageAt, (landPage_tables s p dest).1]
    exact pageAt_setPage hpage (hsame.trans href)
  case others =>
    rw [pageAt, (landPage_tables s p dest).1]
    exact pageAt_setPage_ne (by rw [(p.landed_leaves dest).1, href]; exact hr)
  case draws => rw [(landPage_tables s p dest).2.2, if_pos ⟨hflash, hdirty⟩, pageBytes_eq]
  case free => rw [(landPage_tables s p dest).2.2, if_neg (by rintro ⟨h, h'⟩; rcases hcalm with k | k <;> simp_all)]
  case reread =>
    simp only [exec, execFlashRereadEnd, hpage, hrun, hreading, href, hon]
    rfl
  case unread =>
    simp only [exec, execFlashRereadEnd, hpage, href]
    exact if_neg (by rcases hno with h | h <;> simp [h])
  case accrues =>
    simp only [exec, execWearBudgetAccrual, hpower, State.setTables]
    refine (if_neg Bool.false_ne_true).trans ?_
    have hmin : min (s.tables.wear + 500000000000) 12000000000000 =
        if 12 * 10 ^ 12 < s.tables.wear + 5 * 10 ^ 11 then 12 * 10 ^ 12 else s.tables.wear + 5 * 10 ^ 11 := by
      split <;> omega
    rw [hmin]
  case unpowered => simp [exec, execWearBudgetAccrual, hoff]
  case drawn => exact sameBut_of_forget [6, 19] _ _ _ (forget_drawWear _ (by decide) (by decide) s n) (by decide)
  case within =>
    rw [drawWear_overdraw, if_neg (by omega)]
    omega
  case below => rw [drawWear_overdraw, if_pos hneg]
  case across =>
    rw [drawWear_overdraw, if_neg (by omega)]
    omega
  case reclaims =>
    have hnamed : ∀ x, versionNamed s.bump x = true ↔ (∃ h ∈ s.securing.hanks, x ∈ h.names) ∨ ∃ e ∈ s.outputs.exports, x ∈ e.names := by
      intro x
      simp [versionNamed, State.bump]
    refine ⟨_, Free.reclaimedPages s.freeCount, flashReclaim_on hrun hon, ?_, fun x => ?_, ?_⟩
    · refine sameBut_of_forget [6, 19, 21] _ _ _ ?_ (by decide)
      rw [forget_drawWear _ (by decide) (by decide), withoutOlder, forget_setTables _ (by decide), forget_setTables _ (by decide),
        forget_bump _ (by decide)]
    · rw [drawWear_tables]
      exact List.mem_filter.trans (and_congr_right' (hnamed x))
    · rw [drawWear_tables]
      refine ⟨rfl, rfl, ?_⟩
      rw [Int.natCast_mul, pageBytes_eq, Int.mul_comm]
      rfl
  case wakes =>
    refine ⟨wakeChannels s (List.range 16), ?_, ?_⟩
    · simp [exec, execFlashReclaim, hrun, hoff]
    · exact sameBut_of_forget [15] _ _ _ (forget_wakeChannels _ (by decide) _ _) (by decide)

end Sys2Proof.Machine
end

section
/-! SUPPORT. The rings: which command begins, where a completion stands, what a doorbell and a consumer line do, and the
set-up registers. -/

namespace Sys2Proof.Machine

open Sys2Proof.Safety

/-! ### The order of commands (R241) -/

/-- The scan finds the command before it begins: no entry that could begin stands before it in its ring. -/
theorem beginScan_found {d : Sub} (l : List Accepted) (passed : List Accepted) (h : beginScan d passed l = true) :
    ∃ mid a after, l = mid ++ a :: after ∧ a.begun = false ∧ sameSub a.sub d = true ∧ orderedWait (passed ++ mid) a = false ∧
      ∀ pre b post, mid = pre ++ b :: post → b.sub.ring = d.ring → b.begun = false → orderedWait (passed ++ pre) b = true := by
  induction l generalizing passed with
  | nil => cases h
  | cons a l ih =>
    rw [beginScan] at h
    split at h
    case isTrue hsame =>
      obtain ⟨hsub, hbegun⟩ := by simpa only [Bool.and_eq_true, Bool.not_eq_true'] using hsame
      refine ⟨[], a, l, rfl, hbegun, hsub, by simpa using h, fun pre b post hmid => ?_⟩
      cases pre <;> cases hmid
    case isFalse hother =>
      split at h
      case isTrue => cases h
      case isFalse hwaits =>
        obtain ⟨mid, x, after, hl, hbegun, hsame, hgo, hfirst⟩ := ih _ h
        refine ⟨a :: mid, x, after, by rw [hl, List.cons_append], hbegun, hsame, ?_, fun pre b post hmid hring hb => ?_⟩
        · rwa [List.append_assoc, List.singleton_append] at hgo
        · cases pre with
          | nil =>
            obtain ⟨rfl, -⟩ := List.cons.inj hmid
            simpa [hring, hb] using hwaits
          | cons y pre =>
            obtain ⟨rfl, htail⟩ := List.cons.inj hmid
            have := hfirst pre b post htail hring hb
            rwa [List.append_assoc, List.singleton_append] at this

theorem orderedWait_iff (before : List Accepted) (a : Accepted) : orderedWait before a = true ↔
    takenAtAcceptance a.sub = false ∧ a.sub.ordered = true ∧ ∃ c ∈ before, c.sub.ring = a.sub.ring := by
  simp [orderedWait, orderedBehind]

theorem beginCommand_idle {s : State} {d : Sub} {mine : Bool} (h : (canBegin s d && mine) = false) (na : Nat) (run : State → State) :
    beginCommand s d mine na run = .next s := by
  rw [beginCommand, h]
  rfl

/-- Out of turn, or with another row's opcode, no row does anything (log entry 4). -/
theorem commandRows_idle {s : State} {d : Sub} : ∀ row ∈ commandRows d, canBegin s d = false ∨ d.opcode ≠ row.2.1 →
    exec row.1 s = .next s := by
  simp only [commandRows, List.forall_mem_cons, List.not_mem_nil, false_imp_iff, implies_true, and_true]
  and_intros
  all_goals
    intro h
    exact beginCommand_idle (by rcases h with h | h <;> simp [h]) _ _

/-! ### Completions -/

theorem ringAt_setRing {s : State} {n : Nat} (h : n < s.rings.ring.length) (r : Ring) : ringAt (setRing s n r) n = r := by
  simp [ringAt, setRing, nth, h]

theorem postDone_ready {s : State} {c : Completion} (h : doneReady s c = true) : postDone s c = writeDone s c := if_pos h

theorem postDone_held {s : State} {c : Completion} (h : doneReady s c = false) :
    postDone s c = s.setRings { s.rings with heldDone := s.rings.heldDone ++ [c] } := if_neg (by rw [h]; exact Bool.false_ne_true)

/-- Settles O37: the scan that a turn is, the rows out of turn, and where a completion stands. -/
theorem commandsBeginAndComplete : Obligations.CommandsBeginAndComplete := by
  refine ⟨fun s d => ⟨fun hbegin => ?turn, fun i opcode hno hrow => ?idle⟩, fun s d status error d0 d1 =>
    ⟨finishWith_answered s d status error d0 d1, ?frame, fun hactive hroom hlen hevents => ?written, fun hno => ?held⟩⟩
  case turn =>
    obtain ⟨before, a, after, hl, hbegun, hsame, hgo, hfirst⟩ := beginScan_found _ _ hbegin
    refine ⟨before, a, after, hl, hbegun, hsame, fun hordered htaken b hb hring => ?_, fun pre b post hmid hring hb => ?_⟩
    · exact Bool.false_ne_true (hgo.symm.trans ((orderedWait_iff _ _).mpr ⟨htaken, hordered, b, by simpa using hb, hring⟩))
    · obtain ⟨htaken, hordered, hwaits⟩ := (orderedWait_iff _ _).mp (hfirst pre b post hmid hring hb)
      exact ⟨hordered, htaken, hwaits⟩
  case idle =>
    obtain ⟨mine, hmem⟩ : ∃ mine, (i, opcode, mine) ∈ commandRows d := by
      have hrow : (i, opcode) ∈ (commandRows d).map (fun x => (x.1, x.2.1)) := hrow
      obtain ⟨x, hx, heq⟩ := List.mem_map.mp hrow
      obtain ⟨rfl, rfl⟩ := Prod.mk.inj heq
      exact ⟨x.2.2, hx⟩
    exact commandRows_idle _ hmem hno
  case frame => exact sameBut_of_forget [3] _ _ _ (forget_finishWith _ (by decide) _ _ _ _ _ _) (by decide)
  case written =>
    rw [finishWith, postDone_ready]
    · refine ⟨?_, rfl, _, rfl, rfl, fun hop a ha => ?_⟩
      · rw [writeDone, ringAt_setRing (by exact hlen ▸ (by decide : 8 < 12))]
        rfl
      · have hleft : a ∈ s.rings.accepted ∧ (¬a.sub.ring = d.ring ∨ ¬a.sub.index = d.index) := by
          simpa [writeDone, setRing, hop] using ha
        exact fun ⟨hring, hindex⟩ => hleft.2.elim (· hring) (· hindex)
    · have hcause : ∀ e ∈ s.rings.heldEvents, (e.cause == some (d.ring, d.index)) = false := fun e he => by simpa using hevents e he
      have hany : s.rings.heldEvents.any (fun e => e.cause == some (d.ring, d.index)) = false := List.any_eq_false.mpr
        fun e he => by rw [hcause e he]; exact Bool.false_ne_true
      simp [doneReady, causeHeld, hactive, hroom, hany]
  case held =>
    rw [finishWith, postDone_held]
    · exact ⟨rfl, by simp⟩
    · rcases hno with h | h
      · rw [doneReady, h, Bool.false_and, Bool.false_and]
      · rw [doneReady, decide_eq_false (Nat.not_lt.mpr h), Bool.and_false, Bool.false_and]

/-! ### Doorbells -/

theorem windowWrites_eq (stores : List Store) (s : State) :
    stores.foldl (fun s w => windowWrite s w.offset w.bytes) s =
      { s with window := stores.foldl (fun m w => memWrites m w.offset w.bytes) s.window } := by
  induction stores generalizing s with
  | nil => rfl
  | cons w stores ih => rw [List.foldl_cons, ih]; rfl

theorem acceptFrom_accepted (ring : Nat) (l : List (Word32 × Wide)) (s : State) (h : s.rings.accepted.length ≤ 4096) :
    (acceptFrom ring l s).rings.accepted.length ≤ 4096 ∧ s.rings.accepted <+: (acceptFrom ring l s).rings.accepted := by
  induction l generalizing s with
  | nil => exact ⟨h, List.prefix_rfl⟩
  | cons x l ih =>
    rw [acceptFrom]
    split
    case isTrue hroom =>
      have hlen : s.rings.accepted.length + 1 ≤ 4096 := (of_decide_eq_true hroom).2
      obtain ⟨hle, hprefix⟩ := ih ((setRing s ring { ringAt s ring with consumer := (ringAt s ring).consumer + 1, unaccepted := l }).setRings
        { (setRing s ring { ringAt s ring with consumer := (ringAt s ring).consumer + 1, unaccepted := l }).rings with
          accepted := s.rings.accepted ++ [{ sub := { ring := ring, index := x.1, desc := x.2 }, begun := false }] })
        (by simpa using hlen)
      exact ⟨hle, (List.prefix_append _ _).trans hprefix⟩
    case isFalse => exact ⟨h, List.prefix_rfl⟩

/-- Acceptance goes on behind what is accepted, up to 4,096 commands. -/
theorem acceptAll_accepted (s : State) (h : s.rings.accepted.length ≤ 4096) :
    (acceptAll s).rings.accepted.length ≤ 4096 ∧ s.rings.accepted <+: (acceptAll s).rings.accepted := by
  unfold acceptAll
  generalize List.range 8 = l
  induction l generalizing s with
  | nil => exact ⟨h, List.prefix_rfl⟩
  | cons n l ih =>
    rw [List.foldl_cons]
    split
    case isTrue =>
      obtain ⟨hle, hprefix⟩ := acceptFrom_accepted n (ringAt s n).unaccepted s h
      exact ⟨(ih _ hle).1, hprefix.trans (ih _ hle).2⟩
    case isFalse => exact ih s h

/-! ### Consumer lines -/

theorem postDone_events (s : State) (c : Completion) : (postDone s c).rings.events = s.rings.events := by
  rw [postDone]
  split <;> rfl

theorem flushDone_events (s : State) : (flushDone s).rings.events = s.rings.events := by
  have hfold : ∀ (l : List Completion) (u : State), (l.foldl postDone u).rings.events = u.rings.events := by
    intro l
    induction l with
    | nil => exact fun _ => rfl
    | cons c l ih => exact fun u => (ih _).trans (postDone_events u c)
  exact hfold _ _

/-- Held events are written behind those that stand on the ring. -/
theorem flushEventsN_events (n : Nat) (s : State) : s.rings.events <+: (flushEventsN n s).rings.events := by
  induction n generalizing s with
  | zero => exact List.prefix_rfl
  | succ n ih =>
    rw [flushEventsN]
    split
    case h_1 => exact List.prefix_rfl
    case h_2 e rest _ =>
      split
      · exact (List.prefix_append s.rings.events [_]).trans (ih (writeEvent (s.setRings { s.rings with heldEvents := rest }) e))
      · exact List.prefix_rfl

theorem flushEvents_first {s : State} {e : Event} {rest : List Event} (h : s.rings.heldEvents = e :: rest) (hroom : eventRoom s = true) :
    ∃ later, (flushEvents s).rings.events = s.rings.events ++
      ((ringAt s 9).producer, { e with phase := (ringAt s 9).phase (ringAt s 9).producer }) :: later := by
  have hstep : flushEventsN s.rings.heldEvents.length s =
      flushEventsN rest.length (writeEvent (s.setRings { s.rings with heldEvents := rest }) e) := by
    rw [h, List.length_cons, flushEventsN, h]
    exact if_pos hroom
  obtain ⟨later, hlater⟩ := flushEventsN_events rest.length (writeEvent (s.setRings { s.rings with heldEvents := rest }) e)
  refine ⟨later, ?_⟩
  rw [flushEvents, flushDone_events, hstep, ← hlater]
  exact List.append_assoc _ [_] later

theorem storeConsumer_fits {s : State} {ring : Nat} {consumer : Word32} (h : (ringAt s ring).active = true ∧
    (consumer - (ringAt s ring).consumer).toNat ≤ (ringAt s ring).used) :
    storeConsumer s ring consumer = setRing s ring { ringAt s ring with consumer := consumer } :=
  if_pos (by rw [h.1, Bool.true_and, decide_eq_true h.2])

theorem storeConsumer_past {s : State} {ring : Nat} {consumer : Word32} (h : ¬ ((ringAt s ring).active = true ∧
    (consumer - (ringAt s ring).consumer).toNat ≤ (ringAt s ring).used)) : storeConsumer s ring consumer = s :=
  if_neg (by rwa [Bool.and_eq_true, decide_eq_true_eq])

/-- Settles O38: the doorbell, the bound of acceptance, and the consumer lines of rings 8 and 9. -/
theorem doorbellsAndConsumerLines : Obligations.DoorbellsAndConsumerLines := by
  refine ⟨fun s ring producer descs stores hrun hfit => ⟨fun hring => ?bell, fun v hv => ?bound⟩, fun s consumer hrun =>
    ⟨fun hfits => ?room8, fun hpast => ?past8, fun hfits => ?room9, fun hpast => ?past9, fun v e rest hheld hroom _ =>
      flushEvents_first hheld hroom⟩⟩
  case bell =>
    have hnone : stores.find? storeOutside = none := List.find?_eq_none.mpr fun w hw => by
      have := hfit w hw
      rw [storeOutside, decide_eq_true_eq, Constants.windowBytes]
      omega
    have hexec : exec (.doorbell ring producer descs stores) s = .next
        (let u : State := { s with window := stores.foldl (fun m w => memWrites m w.offset w.bytes) s.window }
         if (ringAt s ring).active && !(ringAt s ring).halted then readProducer u ring producer descs else u) := by
      simp only [exec, execDoorbell, hrun, hnone, windowWrites_eq, if_pos hring]
      rfl
    rw [hexec]
    dsimp only
    refine ⟨fun hno => ?_, fun hactive hlive hmore => ?_, fun hactive hlive hle => ?_⟩
    · exact congrArg _ (if_neg (by rcases hno with h | h <;> simp [h]))
    · rw [if_pos (by simp [hactive, hlive])]
      exact congrArg _ (if_pos hmore)
    · rw [if_pos (by simp [hactive, hlive])]
      exact congrArg _ (if_neg (Nat.not_lt.mpr hle))
  case bound =>
    obtain ⟨hle, hprefix⟩ := acceptAll_accepted v hv
    exact ⟨hle, hprefix, sameBut_of_forget [3] _ _ _ (forget_acceptAll _ (by decide) v) (by decide)⟩
  case room8 => simp only [exec, execCommandAcceptanceResume, hrun, if_true, resumeAcceptance, storeConsumer_fits hfits]
  case past8 => simp only [exec, execCommandAcceptanceResume, hrun, if_true, resumeAcceptance, storeConsumer_past hpast]
  case room9 => simp only [exec, execHeldEventPost, hrun, if_true, resumeEvents, storeConsumer_fits hfits]
  case past9 => simp only [exec, execHeldEventPost, hrun, if_true, resumeEvents, storeConsumer_past hpast]

/-! ### Set-up -/

theorem enableStatus_size {s : State} {ring size : Nat} (h : size < 6 ∨ 16 < size) : enableStatus s ring size = 0x08 := if_pos h

theorem enableStatus_order {s : State} {ring size : Nat} (h : 6 ≤ size) (h' : size ≤ 16) (h8 : ring ≠ 8) (h9 : ring ≠ 9)
    (htwo : ¬ ((ringAt s 8).active = true ∧ (ringAt s 9).active = true)) : enableStatus s ring size = 0x03 :=
  (if_neg (by omega)).trans (if_pos ⟨h8, h9, by rwa [Bool.not_eq_true', ← Bool.not_eq_true, Bool.and_eq_true]⟩)

theorem enableStatus_ok {s : State} {ring size : Nat} (h : 6 ≤ size) (h' : size ≤ 16)
    (htwo : ring = 8 ∨ ring = 9 ∨ ((ringAt s 8).active = true ∧ (ringAt s 9).active = true)) : enableStatus s ring size = 0x00 :=
  (if_neg (by omega)).trans (if_neg (by rcases htwo with k | k | ⟨k, k'⟩ <;> simp [*]))

/-- What RING_ENABLE writes into the ring's registers before it takes effect. -/
def Ring.setUp (r : Ring) (value : Word) (st : Nat) : Ring :=
  { r with sizeLog2 := bits value.toNat 8 5, setupStatus := BitVec.ofNat 8 st, halted := r.halted && !bitAt value.toNat 1 }

theorem ringEnable_refused {s : State} {ring : Nat} {value : Word} (hrun : s.running = true) (hring : ring < 12)
    (hoff : (ringAt s ring).enable = false) (hst : enableStatus s ring (bits value.toNat 8 5) ≠ 0) (producer consumer : Word32)
    (descs : List Wide) : exec (.ringEnable ring value producer consumer descs) s =
      .next (setRing s ring ((ringAt s ring).setUp value (enableStatus s ring (bits value.toNat 8 5)))) := by
  simp only [exec, execRingEnable]
  exact (if_neg (by simp [hrun, hoff]; omega)).trans (if_pos hst)

/-- A submission ring taken into use whose control lines agree. -/
theorem ringEnable_submission {s : State} {ring : Nat} {value : Word} (hrun : s.running = true) (hring : ring < 8)
    (hoff : (ringAt s ring).enable = false) (hst : enableStatus s ring (bits value.toNat 8 5) = 0) (index : Word32)
    (descs : List Wide) : exec (.ringEnable ring value index index descs) s = .next
      (setRing s ring { (ringAt s ring).setUp value 0 with
        enable := true, active := true, producer := index, consumer := index, unaccepted := [] }) := by
  simp only [exec, execRingEnable, hst, ne_eq, not_true_eq_false, if_false]
  exact (if_neg (by simp [hrun, hoff]; omega)).trans ((if_pos hring).trans (congrArg _ (if_neg (by simp))))

/-- A module-written ring taken into use. -/
theorem ringEnable_module {s : State} {ring : Nat} {value : Word} (hrun : s.running = true) (hring : ring < 12) (hmod : 8 ≤ ring)
    (hoff : (ringAt s ring).enable = false) (hst : enableStatus s ring (bits value.toNat 8 5) = 0) (producer consumer : Word32)
    (descs : List Wide) : exec (.ringEnable ring value producer consumer descs) s = .next
      (acceptAll (flushEvents (flushDone (setRing s ring { (ringAt s ring).setUp value 0 with
        enable := true, active := true, producer := producer, consumer := consumer, unaccepted := [] })))) := by
  simp only [exec, execRingEnable, hst, ne_eq, not_true_eq_false, if_false]
  exact (if_neg (by simp [hrun, hoff]; omega)).trans (if_neg (by omega))

/-- Settles O39: ENABLE by its status, the disabling of a ring, and HALTED cleared. -/
theorem ringsSetUp : Obligations.RingsSetUp := by
  intro s ring producer consumer descs hrun hring
  refine ⟨fun value hoff => ⟨fun hsize => ?size, fun hlo hhi h8 h9 htwo => ?order, fun hlo hhi hsub htwo heq => ?submission,
    fun hlo hhi hmod hok => ?module⟩, fun hon hfree => ?disable, fun hneeded => ?needed, fun hhalted => ⟨fun hout => ?cleared, fun hin => ?rearm⟩⟩
  all_goals try have hbits : bits value.toNat 8 5 = value.toNat / 2 ^ 8 % 2 ^ 5 := by rw [bits, Nat.shiftRight_eq_div_pow]
  case size =>
    rw [ringEnable_refused hrun hring hoff, enableStatus_size (hbits ▸ hsize), Ring.setUp, hbits]
    · rfl
    · rw [enableStatus_size (hbits ▸ hsize)]; decide
  case order =>
    rw [ringEnable_refused hrun hring hoff, enableStatus_order (hbits ▸ hlo) (hbits ▸ hhi) h8 h9 htwo, Ring.setUp, hbits]
    · rfl
    · rw [enableStatus_order (hbits ▸ hlo) (hbits ▸ hhi) h8 h9 htwo]; decide
  case submission =>
    subst heq
    rw [ringEnable_submission hrun hsub hoff (enableStatus_ok (hbits ▸ hlo) (hbits ▸ hhi) (.inr (.inr htwo))), Ring.setUp, hbits]
    rfl
  case module =>
    rw [ringEnable_module hrun hring hmod hoff (enableStatus_ok (hbits ▸ hlo) (hbits ▸ hhi) hok), Ring.setUp, hbits]
    rfl
  case disable =>
    simp only [exec, execRingDisable]
    exact if_neg (by simp [hrun, hon, hfree]; omega)
  case needed =>
    simp only [exec, execRingDisable]
    exact if_pos (by simp [hneeded])
  case cleared =>
    simp only [exec, execRingRearm]
    exact (if_neg (by simp [hrun, hhalted]; omega)).trans (congrArg _ (if_neg (by simp [hout])))
  case rearm =>
    simp only [exec, execRingRearm]
    exact (if_neg (by simp [hrun, hhalted]; omega)).trans (congrArg _ (if_pos hin))

end Sys2Proof.Machine
end

section
/-! SUPPORT. Register writes: which field a write stores, and what it leaves. -/

namespace Sys2Proof.Machine

open Sys2Proof.Safety

theorem ite_of_iff {α : Type} {p q : Prop} [Decidable p] [Decidable q] (h : p ↔ q) (a b : α) :
    (if p then a else b) = if q then a else b := by
  by_cases hp : p
  · rw [if_pos hp, if_pos (h.mp hp)]
  · rw [if_neg hp, if_neg (mt h.mpr hp)]

theorem mergeWrite_wide (old off v : Nat) : mergeWrite old off true v = v := rfl

theorem dropLow_eq (n v : Nat) : dropLow n v = BitVec.ofNat 64 (v / 2 ^ n * 2 ^ n) := by
  rw [dropLow, Nat.shiftRight_eq_div_pow, Nat.shiftLeft_eq]

theorem bits_eq (v lo n : Nat) : bits v lo n = v / 2 ^ lo % 2 ^ n := by rw [bits, Nat.shiftRight_eq_div_pow]

/-- A 64-bit write of a register of the job block. -/
theorem registerWrite_job {s : State} (hrun : s.running = true) {off : Nat} (hlo : 0x100 ≤ off) (hhi : off ≤ 0x120) (halign : off % 8 = 0)
    (value : Word) : exec (.registerWrite off true value) s = .next (writeJob s off value.toNat) := by
  have hreg : off / 8 * 8 = off := Nat.div_mul_cancel (Nat.dvd_of_mod_eq_zero halign)
  simp only [exec, execRegisterWrite, hreg, mergeWrite_wide]
  exact (if_neg (by simp [hrun, halign])).trans (if_pos ⟨hlo, hhi⟩)

/-- A 64-bit write of a register of a ring. -/
theorem registerWrite_ring {s : State} (hrun : s.running = true) {off : Nat} (hlo : 0x2000 ≤ off) (hhi : off < 0x2180) (halign : off % 8 = 0)
    (value : Word) : exec (.registerWrite off true value) s = .next (writeRing s off value.toNat) := by
  have hreg : off / 8 * 8 = off := Nat.div_mul_cancel (Nat.dvd_of_mod_eq_zero halign)
  simp only [exec, execRegisterWrite, hreg, mergeWrite_wide]
  exact (if_neg (by simp [hrun, halign])).trans ((if_neg (by omega)).trans (if_pos ⟨hlo, hhi⟩))

/-- A write is ignored where the register it falls into ignores it. -/
theorem registerWrite_ignored {s : State} {off : Nat} (hjob : 0x100 ≤ off / 8 * 8 → off / 8 * 8 ≤ 0x120 → s.regs.jobSet = true)
    (hring : 0x2000 ≤ off / 8 * 8 → off / 8 * 8 < 0x2180 → (ringAt s ((off / 8 * 8 - 0x2000) / 0x20)).enable = true) (wide : Bool)
    (value : Word) : exec (.registerWrite off wide value) s = .next s := by
  have hin : (if 0x100 ≤ off / 8 * 8 ∧ off / 8 * 8 ≤ 0x120 then
        Host.Outcome.next (writeJob s (off / 8 * 8) (mergeWrite (registerValue s (off / 8 * 8)) off wide value.toNat))
      else if 0x2000 ≤ off / 8 * 8 ∧ off / 8 * 8 < 0x2180 then
        .next (writeRing s (off / 8 * 8) (mergeWrite (registerValue s (off / 8 * 8)) off wide value.toNat))
      else .next s : Out) = .next s := by
    split
    case isTrue h => exact congrArg _ (if_pos (hjob h.1 h.2))
    case isFalse =>
      split
      case isTrue h => exact congrArg _ (if_pos (hring h.1 h.2))
      case isFalse => rfl
  exact (congrArg (ite _ _) hin).trans (ite_self _)

theorem registerWrite_unaligned {s : State} {off : Nat} {wide : Bool} (h : off % (if wide then 8 else 4) ≠ 0) (value : Word) :
    exec (.registerWrite off wide value) s = .next s := by
  simp only [exec, execRegisterWrite]
  exact if_pos (by simp [h])

/-- The ring and the register of an offset in the ring set-up block. -/
theorem ringOffset (n k : Nat) (hk : k < 0x20) : (0x2000 + k + 0x20 * n - 0x2000) / 0x20 = n ∧ (0x2000 + k + 0x20 * n) % 0x20 = k := by
  omega

theorem writeRing_open {s : State} {n : Nat} (h : (ringAt s n).enable = false) {off : Nat} (hn : (off - 0x2000) / 0x20 = n) (value : Nat) :
    writeRing s off value = match off % 0x20 with
      | 0 => setRing s n { ringAt s n with base := dropLow 6 value }
      | 8 => setRing s n { ringAt s n with lineBase := dropLow 7 value }
      | 0x18 => if bitAt value 0 then s else setRing s n { ringAt s n with sizeLog2 := bits value 8 5 }
      | _ => s := by
  subst hn
  rw [writeRing]
  exact if_neg (by rw [h]; exact Bool.false_ne_true)

/-- Settles O40: the job block, a ring's registers, what is ignored, and the latch of the energy counter. -/
theorem registerWritesStore : Obligations.RegisterWritesStore := by
  intro s value hrun
  refine ⟨fun hset => ⟨?config, ?seed, ?list, ?base, ?length⟩, fun hset off wide hlo hhi => ?locked,
    fun n hn => ⟨fun hoff => ⟨?ringBase, ?ringLines, fun hzero => ?ringControl⟩, fun hon off wide hlo hhi => ?enabled⟩,
    fun off wide hno => ?elsewhere, ?latch⟩
  case config =>
    rw [registerWrite_job hrun (by decide) (by decide) (by decide), writeJob, hset, bits_eq, bits_eq, Nat.pow_zero, Nat.div_one]
    rfl
  case seed =>
    rw [registerWrite_job hrun (by decide) (by decide) (by decide), writeJob, hset, BitVec.ofNat_toNat, BitVec.setWidth_eq]
    rfl
  case list =>
    rw [registerWrite_job hrun (by decide) (by decide) (by decide), writeJob, hset, dropLow_eq]
    rfl
  case base =>
    rw [registerWrite_job hrun (by decide) (by decide) (by decide), writeJob, hset, dropLow_eq]
    rfl
  case length =>
    rw [registerWrite_job hrun (by decide) (by decide) (by decide), writeJob, hset, dropLow_eq]
    rfl
  case locked => exact registerWrite_ignored (fun _ _ => hset) (fun h _ => by omega) wide value
  case ringBase =>
    obtain ⟨hindex, hreg⟩ := ringOffset n 0 (by decide)
    rw [registerWrite_ring hrun (by omega) (by omega) (by omega), writeRing_open hoff hindex, hreg, dropLow_eq, dropLow_eq]
    rfl
  case ringLines =>
    obtain ⟨hindex, hreg⟩ := ringOffset n 8 (by decide)
    rw [registerWrite_ring hrun (by omega) (by omega) (by omega), writeRing_open hoff hindex, hreg, dropLow_eq, dropLow_eq]
    rfl
  case ringControl =>
    obtain ⟨hindex, hreg⟩ := ringOffset n 0x18 (by decide)
    rw [registerWrite_ring hrun (by omega) (by omega) (by omega), writeRing_open hoff hindex, hreg, ← bits_eq]
    exact congrArg _ (if_neg (by simp [bitAt, hzero]))
  case enabled =>
    refine registerWrite_ignored (fun _ _ => by omega) (fun _ _ => ?_) wide value
    rwa [show (off / 8 * 8 - 0x2000) / 0x20 = n by omega]
  case elsewhere =>
    rcases hno with h | h
    · exact registerWrite_unaligned h value
    · exact registerWrite_ignored (fun _ _ => by omega) (fun _ _ => by omega) wide value
  case latch =>
    simp only [exec, execEnergyCountLowRead, hrun]
    rfl

end Sys2Proof.Machine
end

section
/-! SUPPORT. Commands that submit lattices and load programs. -/

namespace Sys2Proof.Machine

open Sys2Proof.Safety

/-- A command whose turn has come runs. -/
theorem beginCommand_runs {s : State} {d : Sub} {opcode : Nat} (h : Turn s d opcode) {mine : Bool} (hmine : mine = true) (na : Nat)
    (run : State → State) : beginCommand s d mine na run = .next (run (markBegun s d)) := by
  obtain ⟨hbegin, -, hentry⟩ := h
  simp [beginCommand, hbegin, hmine, hentry]

/-! ### Lattices -/

/-- What a lattice that passes the checks is, and what the member then has. -/
theorem checkLattice_ok {s : State} {d : Sub} {l : Lattice} (h : checkLattice s d = .ok l) :
    l.handle = d.body 0 4 ∧ latticeAt s (d.body 0 4) = none ∧ (l.isEval = false → stepLattice s = none) := by
  unfold checkLattice at h
  dsimp only at h
  split at h
  case isTrue => cases h
  case isFalse hfields =>
    split at h
    case isTrue => cases h
    case isFalse hfree =>
      have hrole : d.body 5 1 ≤ 1 := Nat.le_of_not_lt fun hmore => hfields (by simp [hmore])
      have hl : ∃ r, l = makeLattice s (d.body 0 4) (d.body 5 1) r := by
        split at h
        · cases h
        · split at h
          · cases h
          · split at h
            · cases h
            · split at h
              · cases h
              · exact ⟨_, (Except.ok.inj h).symm⟩
      obtain ⟨r, rfl⟩ := hl
      obtain ⟨hnone, hstep, -⟩ : latticeAt s (d.body 0 4) = none ∧ (d.body 5 1 = 0 → stepLattice s = none) ∧ True := by
        simp only [Bool.or_eq_true, not_or, Option.not_isSome_iff_eq_none, Bool.and_eq_true, beq_iff_eq, not_and] at hfree
        exact ⟨hfree.1.1, hfree.1.2, trivial⟩
      refine ⟨rfl, hnone, fun hstepRole => hstep ?_⟩
      have : (d.body 5 1 == 1) = false := hstepRole
      simp only [beq_eq_false_iff_ne] at this
      omega

theorem makeResident_lattices (s : State) (l : Lattice) : (makeResident s l).lattices = s.lattices ++ [l] := by
  have htensors : ∀ (ds : List TensorDecl) (u : State), (ds.foldl (fun s d => setTensor s d.id []) u).lattices = u.lattices := fun ds u =>
    lattices_of_forget (forget_foldl [10] _ (fun s d => forget_setTensor _ (by decide) s d.id []) ds u) (by decide)
  unfold makeResident
  dsimp only
  split
  · rw [htensors]
    rfl
  · rw [lattices_of_forget (forget_startReplicas [3, 13, 14, 16, 20] (by decide) (by decide) (by decide) (by decide) (by decide) _)
      (by decide), htensors]
    rfl

/-- A removal that Table 10.13 lets through (R257). -/
def removed (s : State) (handle : Nat) (l : Lattice) : State :=
  let t := s.setLattices (s.lattices.filter (fun x => x.handle != handle))
  if l.isEval then t else t.setDense { t.dense with replicas := [] }

theorem removed_lattices (s : State) (handle : Nat) (l : Lattice) :
    (removed s handle l).lattices = s.lattices.filter (fun x => x.handle != handle) := by
  rw [removed]
  split <;> rfl

theorem latticeAt_removed (s : State) (handle : Nat) (l : Lattice) : latticeAt (removed s handle l) handle = none ∧
    ∀ h, h ≠ handle → latticeAt (removed s handle l) h = latticeAt s h := by
  refine ⟨?_, fun h hne => ?_⟩
  · rw [latticeAt, removed_lattices]
    refine List.find?_eq_none.mpr fun x hx => ?_
    simpa using (List.mem_filter.mp hx).2
  · rw [latticeAt, removed_lattices, latticeAt, List.find?_filter]
    refine congrArg (List.find? · s.lattices) (funext fun x => ?_)
    cases hx : x.handle == h with
    | false => simp
    | true => simp [bne, beq_iff_eq.mp hx, hne]

theorem latticeAt_finish (s : State) (d : Sub) (status : Status) (h : Nat) : latticeAt (finish s d status) h = latticeAt s h := by
  rw [latticeAt, latticeAt, lattices_of_forget (forget_finish [3] (by decide) _ _ _) (by decide)]

/-- Settles O41: a lattice refused and admitted, and a removal refused and done. -/
theorem latticesSubmitted : Obligations.LatticesSubmitted := by
  intro s d hturn
  have hop : d.opcode = 0x0001 := hturn.2.1
  refine ⟨fun hsubmit => ?submits, fun hremove hhandle h5 h6 h8 hzero => ?removes⟩
  case submits =>
    have hexec : exec (.submitLattice d) s = .next (runSubmitLattice d (markBegun s d)) :=
      beginCommand_runs hturn (by simp [hop, hsubmit]) _ _
    refine ⟨fun f hf => ?_, fun l hl => ?_⟩
    · rw [hexec, runSubmitLattice, hf]
    · have hrun : runSubmitLattice d (markBegun s d) = finish (makeResident (markBegun s d) l) d .ok := by rw [runSubmitLattice, hl]
      obtain ⟨hhandle, hnone, hstep⟩ := checkLattice_ok hl
      rw [hrun] at hexec
      refine ⟨_, hexec, finish_answered _ _ _, ?_, hhandle, hnone, hstep, exec_sameBut _ _ _ _ hexec rfl⟩
      rw [lattices_of_forget (forget_finish [3] (by decide) _ _ _) (by decide), makeResident_lattices]
      rfl
  case removes =>
    have hexec : exec (.submitLatticeRemove d) s = .next (runSubmitLatticeRemove d (markBegun s d)) :=
      beginCommand_runs hturn (by simp [hop, hremove]) _ _
    have hfields : ¬ (d.body 0 4 == 0 || d.body 5 1 != 0 || d.body 6 2 != 0 || d.body 8 8 != 0 || !d.zeroFrom 0x10) = true := by
      simp [hhandle, h5, h6, h8, hzero]
    refine ⟨fun hnone => ?_, fun l hl => ⟨fun hbusy => ?_, fun hfree => ?_⟩⟩
    · have hnone' : latticeAt (markBegun s d) (d.body 0 4) = none := hnone
      rw [hexec, runSubmitLatticeRemove]
      simp only [hnone']
      rw [if_neg hfields]
    · have hl' : latticeAt (markBegun s d) (d.body 0 4) = some l := hl
      rw [hexec, runSubmitLatticeRemove]
      simp only [hl']
      rw [if_neg hfields]
      exact congrArg _ (if_pos hbusy)
    · have hl' : latticeAt (markBegun s d) (d.body 0 4) = some l := hl
      have hrun : runSubmitLatticeRemove d (markBegun s d) = finish (removed (markBegun s d) (d.body 0 4) l) d .ok := by
        rw [runSubmitLatticeRemove]
        simp only [hl']
        rw [if_neg hfields]
        exact if_neg (by rw [Bool.not_eq_true]; exact hfree)
      rw [hrun] at hexec
      obtain ⟨hgone, hothers⟩ := latticeAt_removed (markBegun s d) (d.body 0 4) l
      refine ⟨_, hexec, finish_answered _ _ _, ?_, fun h hne => ?_, exec_sameBut _ _ _ _ hexec rfl⟩
      · rw [latticeAt_finish, hgone]
      · rw [latticeAt_finish, hothers h hne]
        rfl

/-! ### Programs -/

theorem nextLoad_first {s : State} {l : Load} (h : nextLoad s = some l) : l ∈ s.programs.waiting ∧
    ∃ before a after, s.rings.accepted = before ++ a :: after ∧ a.sub = l.sub ∧ ∀ b ∈ before, loadWaits s b.sub = false := by
  unfold nextLoad at h
  split at h
  case h_1 => cases h
  case h_2 a ha =>
    obtain ⟨-, before, after, hl, hbefore⟩ := List.find?_eq_some_iff_append.mp ha
    have hsub : l.sub = a.sub := by simpa using List.find?_some h
    exact ⟨List.mem_of_find?_eq_some h, before, a, after, hl, hsub.symm, fun b hb => by simpa using hbefore b hb⟩

/-- Table 9.16: a program that is not there, one that a lattice names, one that a context still fetches, and any other. -/
theorem unload_none {s : State} {handle : Nat} (h : currentImage s handle = none ∨ isReferenced s handle = true) (d : Sub) :
    unload s d handle = finish s d .rejectedConfig := by
  unfold unload
  split
  · rfl
  case h_2 img himg =>
    rcases h with h | h
    · rw [h] at himg
      cases himg
    · exact if_pos h

theorem unload_fetched {s : State} {handle : Nat} {img : Image} (h : currentImage s handle = some img)
    (href : isReferenced s handle = false) (hfetched : slotFetched s img.slot = true) (d : Sub) :
    unload s d handle = finish (s.setPrograms { s.programs with
      images := s.programs.images.map (fun i => if i.slot == img.slot then { i with state := .draining } else i) }) d .acceptedDeferred := by
  simp only [unload, h, href, hfetched]
  rfl

theorem unload_idle {s : State} {handle : Nat} {img : Image} (h : currentImage s handle = some img)
    (href : isReferenced s handle = false) (hidle : slotFetched s img.slot = false) (d : Sub) :
    unload s d handle = finish (s.setPrograms { s.programs with
      images := s.programs.images.filter (fun i => i.slot != img.slot) }) d .ok := by
  simp only [unload, h, href, hidle]
  rfl

theorem finish_programs (s : State) (d : Sub) (status : Status) : (finish s d status).programs = s.programs :=
  programs_of_forget (forget_finish [3] (by decide) _ _ _) (by decide)

/-- The descriptor of a load keeps to its layout (R230). -/
def loadFieldsOk (d : Sub) : Bool :=
  !(d.body 4 4 != 0 || !d.zeroFrom 0x10 || d.body 0 4 == 0 || !blockOk (d.body 8 4) (d.body 0xC 4) || decide (d.body 0xC 4 < 64)) &&
  decide (d.body 0xC 4 ≤ 64 * 2 ^ 20)

theorem runLoadProgram_violates {s : State} {d : Sub} {v : Violation} (hfields : loadFieldsOk d = true)
    (h : loadViolation s (d.body 0 4) (windowBytes s (d.body 8 4) (d.body 0xC 4)) = some v) :
    runLoadProgram d s = finishWith s d (errStatus v.code) v.code v.offset (v.func.getD notApplicable) := by
  obtain ⟨hlayout, hlen⟩ := Bool.and_eq_true_iff.mp hfields
  simp only [runLoadProgram, h]
  exact (if_neg (by simpa using hlayout)).trans (if_neg (Nat.not_lt.mpr (of_decide_eq_true hlen)))

theorem runLoadProgram_clean {s : State} {d : Sub} (hfields : loadFieldsOk d = true)
    (h : loadViolation s (d.body 0 4) (windowBytes s (d.body 8 4) (d.body 0xC 4)) = none) :
    runLoadProgram d s =
      let bytes := windowBytes s (d.body 8 4) (d.body 0xC 4)
      let g := imageGranules bytes
      if Constants.granules < g then finishWith s d .rejectedLimit errImage 0 notApplicable
      else if noRoom s g then finish s d .noSpace
      else s.setPrograms { s.programs with
        waiting := s.programs.waiting ++ [{ sub := d, handle := d.body 0 4, granules := g, ply := readModule bytes }] } := by
  obtain ⟨hlayout, hlen⟩ := Bool.and_eq_true_iff.mp hfields
  simp only [runLoadProgram, h]
  exact (if_neg (by simpa using hlayout)).trans (if_neg (Nat.not_lt.mpr (of_decide_eq_true hlen)))

theorem runUnloadProgram_waits {s : State} {d : Sub} (hhandle : d.body 0 4 ≠ 0) (hzero : d.zeroFrom 4 = true)
    (h : loadsInProgress s (d.body 0 4) ≠ []) :
    runUnloadProgram d s =
      s.setPrograms { s.programs with unloads := s.programs.unloads ++ [(d, loadsInProgress s (d.body 0 4))] } := by
  rw [runUnloadProgram]
  exact (if_neg (by simp [hhandle, hzero])).trans (if_pos (by simp [h]))

theorem runUnloadProgram_now {s : State} {d : Sub} (hhandle : d.body 0 4 ≠ 0) (hzero : d.zeroFrom 4 = true)
    (h : loadsInProgress s (d.body 0 4) = []) : runUnloadProgram d s = unload s d (d.body 0 4) := by
  rw [runUnloadProgram]
  exact (if_neg (by simp [hhandle, hzero])).trans (if_neg (by simp [h]))

/-- The images once a translation has ended: the new one CURRENT, the one before it DRAINING. -/
def imagesTranslated (s : State) (img : Image) : State :=
  freeDrained (s.setPrograms { s.programs with
    images := s.programs.images.map (fun i =>
      if i.slot == img.slot then { i with state := .current, load := none }
      else if i.handle == img.handle && i.state == .current then { i with state := .draining } else i) })

theorem translationEnd_exec {s : State} {img : Image} {d : Sub} (hrun : s.running = true) (hload : img.load = some d)
    (hfind : s.programs.images.find? (fun i => i.handle == img.handle && i.state == .loading) = some img) :
    exec (.translationEnd img.handle) s = .next
      (let u := finish (imagesTranslated s img) d .ok
       let left := u.programs.unloads.map (fun x => (x.1, x.2.filter (fun e => some d != some e)))
       progress ((left.filter (fun x => x.2.isEmpty)).foldl (fun v x => unload v x.1 (x.1.body 0 4))
        (u.setPrograms { u.programs with unloads := left.filter (fun x => !x.2.isEmpty) }))) := by
  simp only [exec, execTranslationEnd, hfind, hrun, hload]
  rfl

/-- Settles O42: a load, its slot, its translation, and an unload. -/
theorem programsLoad : Obligations.ProgramsLoad := by
  refine fun s => ⟨fun d hturn h4 hzero hhandle hblock hlo hhi => ?load, fun l hl => nextLoad_first hl,
    fun slot l hrun hl hslot hfree hgranules => ?slot, fun img d hrun hload hfind => ?translated,
    fun d hturn hhandle hzero => ?unload⟩
  case load =>
    have hfields : loadFieldsOk d = true := by
      simp only [loadFieldsOk, h4, hzero, hblock, Bool.and_eq_true, Bool.not_eq_true']
      exact ⟨by simp [hhandle, hlo], decide_eq_true hhi⟩
    have hexec : exec (.loadProgram d) s = .next (runLoadProgram d (markBegun s d)) :=
      beginCommand_runs hturn (by simp [hturn.2.1]) _ _
    refine ⟨fun v hv => ?_, fun hclean => ⟨fun hbig => ?_, fun hfit hno => ?_, fun hfit hroom => ?_⟩⟩
    · rw [hexec, runLoadProgram_violates hfields hv]
    · rw [hexec, runLoadProgram_clean hfields hclean]
      exact congrArg _ (if_pos hbig)
    · rw [hexec, runLoadProgram_clean hfields hclean]
      exact congrArg _ ((if_neg (Nat.not_lt.mpr hfit)).trans (if_pos hno))
    · rw [hexec, runLoadProgram_clean hfields hclean]
      exact congrArg _ ((if_neg (Nat.not_lt.mpr hfit)).trans (if_neg (by rw [Bool.not_eq_true]; exact hroom)))
  case slot =>
    have hslots : s.programs.images.any (fun i => i.slot == slot) = false :=
      List.any_eq_false.mpr fun i hi => by simpa using (hfree i hi).1
    have hloading : s.programs.images.any (fun i => i.handle == l.handle && i.state == .loading) = false :=
      List.any_eq_false.mpr fun i hi => by simpa using (hfree i hi).2
    simp only [exec, execLoadProgramSlotTaken, hl]
    exact if_neg (by simp only [hrun, hslots, hloading]; simp [hslot, hgranules])
  case translated =>
    have hother : (fun e => some d != some e) = fun e => e != d := funext fun e => Bool.eq_iff_iff.mpr
      ⟨fun h => bne_iff_ne.mpr fun k => bne_iff_ne.mp h (congrArg some k.symm),
        fun h => bne_iff_ne.mpr fun k => bne_iff_ne.mp h (Option.some.inj k).symm⟩
    intro u left
    have hu : finish (imagesTranslated s img) d .ok = u := rfl
    have hprograms : u.programs.unloads = s.programs.unloads := by
      rw [← hu, finish_programs]
      rfl
    refine ⟨finish_answered _ _ _, ?_⟩
    rw [translationEnd_exec hrun hload hfind, hu]
    clear_value u
    dsimp only
    rw [hprograms, hother]
    rfl
  case unload =>
    have hexec : exec (.unloadProgram d) s = .next (runUnloadProgram d (markBegun s d)) :=
      beginCommand_runs hturn (by simp [hturn.2.1]) _ _
    refine ⟨fun hloads => ?_, fun hnone => ⟨fun hrefused => ?_, fun img himg href => ⟨fun hfetched => ?_, fun hidle => ?_⟩⟩⟩
    · rw [hexec, runUnloadProgram_waits (s := markBegun s d) hhandle hzero hloads]
      rfl
    · rw [hexec, runUnloadProgram_now (s := markBegun s d) hhandle hzero hnone, unload_none (s := markBegun s d) hrefused]
    · rw [hexec, runUnloadProgram_now (s := markBegun s d) hhandle hzero hnone,
        unload_fetched (s := markBegun s d) himg href hfetched]
      refine ⟨_, rfl, finish_answered _ _ _, fun i hi hslot => ?_⟩
      rw [finish_programs] at hi
      obtain ⟨j, -, rfl⟩ := List.mem_map.mp hi
      split
      · rfl
      case isFalse h =>
        rw [if_neg h] at hslot
        exact absurd (beq_iff_eq.mpr hslot) h
    · rw [hexec, runUnloadProgram_now (s := markBegun s d) hhandle hzero hnone,
        unload_idle (s := markBegun s d) himg href hidle]
      exact ⟨_, rfl, finish_answered _ _ _, by rw [finish_programs]; rfl⟩

end Sys2Proof.Machine
end

section
/-! SUPPORT. Steps, evaluations and table versions: admission, the reading of blocks, and the phases of a load. -/

namespace Sys2Proof.Machine

open Sys2Proof.Safety

/-! ### Completions stay -/

/-- A completion that is posted leaves the others. -/
theorem answered_postDone {s : State} {d : Sub} {status : Status} {error : Nat} {d0 d1 : Word} (h : Answered s d status error d0 d1)
    (c : Completion) : Answered (postDone s c) d status error d0 d1 := by
  obtain ⟨x, hx, hrest⟩ := h
  refine ⟨x, ?_, hrest⟩
  rw [postDone]
  rcases hx with ⟨r, hr, hrx⟩ | hx
  · split
    · exact .inl ⟨r, List.mem_append_left _ hr, hrx⟩
    · exact .inl ⟨r, hr, hrx⟩
  · split
    · exact .inr hx
    · exact .inr (List.mem_append_left _ hx)

theorem answered_finishes {α : Type} (sub : α → Sub) (status : Status) {d : Sub} {st : Status} {error : Nat} {d0 d1 : Word} (l : List α)
    (s : State) (h : Answered s d st error d0 d1) : Answered (l.foldl (fun s x => finish s (sub x) status) s) d st error d0 d1 := by
  induction l generalizing s with
  | nil => exact h
  | cons x l ih => exact ih _ (answered_postDone h _)

/-- Commands that complete one after the other are all answered. -/
theorem finishes_answered {α : Type} (sub : α → Sub) (status : Status) (l : List α) (s : State) :
    ∀ x ∈ l, Answered (l.foldl (fun s x => finish s (sub x) status) s) (sub x) status 0 0 0 := by
  induction l generalizing s with
  | nil => exact fun _ h => absurd h List.not_mem_nil
  | cons y l ih =>
    intro x hx
    rcases List.mem_cons.mp hx with rfl | hx
    · exact answered_finishes sub status l _ (finish_answered _ _ _)
    · exact ih _ x hx

theorem forget_finishes {α : Type} (sub : α → Sub) (status : Status) (l : List α) (s : State) :
    forget [3] (l.foldl (fun s x => finish s (sub x) status) s) = forget [3] s :=
  forget_foldl [3] _ (fun _ _ => forget_finish _ (by decide) _ _ _) l s

/-! ### Steps -/

theorem stepRefusal_none {s : State} {d : Sub} (h : stepRefusal s d = none) :
    d.body 0 8 = s.steps.a + 1 ∧ d.body 0 8 ≤ s.steps.c + 2 ∧ ∃ l, stepLattice s = some l := by
  unfold stepRefusal at h
  dsimp only at h
  split at h
  case isTrue => cases h
  case isFalse hfields =>
    have hmore : s.steps.a < d.body 0 8 := Nat.lt_of_not_le fun hle => hfields (by simp [hle])
    split at h
    case isTrue => cases h
    case isFalse hlimit =>
      split at h
      case h_1 => cases h
      case h_2 l hl => exact ⟨by omega, by omega, l, hl⟩

theorem runStepInput_admits {s : State} {d : Sub} {l : Lattice} (h : stepRefusal s d = none) (hl : stepLattice s = some l) :
    runStepInput d s = progress (s.setSteps { s.steps with a := d.body 0 8, admitted := s.steps.admitted ++ [newStep s d l] }) := by
  simp only [runStepInput, h, hl]

theorem readStep_ok {s : State} {a b : AdmStep} {l : Lattice} {units : List Nat} (h : readStep s a l units = .ok b) :
    b.read = true ∧ b.sub = a.sub ∧ b.n = a.n := by
  unfold readStep at h
  dsimp only at h
  split at h
  · cases h
  · split at h
    · obtain rfl := Except.ok.inj h
      exact ⟨rfl, rfl, rfl⟩
    · cases h

/-- The steps after a withdrawal, before any is answered. -/
def withoutStep (s : State) (n : Nat) : State :=
  s.setSteps { s.steps with a := n - 1, admitted := s.steps.admitted.filter (fun a => decide (a.n < n)) }

theorem withdrawStep_eq {s : State} {a : AdmStep} (h : stepAt s a.n = some a) (f : Refused) : withdrawStep s a.n f =
    (s.steps.admitted.filter (fun x => decide (a.n < x.n))).foldl (fun s x => finish s x.sub .rejectedLimit)
      (finishWith (withoutStep s a.n) a.sub f.1 0 f.2.1 f.2.2) := by
  simp only [withdrawStep, h]
  rfl

/-- Settles O43: a step input admitted or refused, its blocks read, and a step withdrawn. -/
theorem stepInputsAdmit : Obligations.StepInputsAdmit := by
  refine fun s => ⟨fun d hturn => ?input, fun a units hnext hheld => ?held,
    fun a l units hrun hnext hl hfree => ⟨fun b hb => ⟨?read, readStep_ok hb⟩, fun f hf => ?withdrawn⟩, fun a f hstep => ?withdraw⟩
  case input =>
    have hexec : exec (.stepInput d) s = .next (runStepInput d (markBegun s d)) := beginCommand_runs hturn (by simp [hturn.2.1]) _ _
    refine ⟨fun st hst => ?_, fun hnone => ?_⟩
    · rw [hexec, runStepInput, hst]
    · obtain ⟨hn, hlimit, l, hl⟩ := stepRefusal_none hnone
      refine ⟨hn, hlimit, l, hl, ?_⟩
      rw [hexec, runStepInput_admits hnone hl, hn]
      rfl
  case held =>
    simp only [exec, execStepInputBlocksRead, hnext]
    split
    case h_1 heq _ =>
      obtain rfl := Option.some.inj heq
      exact if_pos (by simp [hheld])
    case h_2 => rfl
  case read =>
    simp only [exec, execStepInputBlocksRead, hnext, hl, hb]
    exact if_neg (by simp [hrun, hfree])
  case withdrawn =>
    simp only [exec, execStepInputBlocksRead, hnext, hl, hf]
    exact if_neg (by simp [hrun, hfree])
  case withdraw =>
    rw [withdrawStep_eq hstep]
    have hforget := (forget_finishes AdmStep.sub .rejectedLimit (s.steps.admitted.filter (fun x => decide (a.n < x.n)))
      (finishWith (withoutStep s a.n) a.sub f.1 0 f.2.1 f.2.2)).trans (forget_finishWith [3] (by decide) (withoutStep s a.n) a.sub f.1 0 f.2.1 f.2.2)
    refine ⟨(steps_of_forget hforget (by decide)).trans rfl, ?_, answered_finishes AdmStep.sub _ _ _ (finishWith_answered _ _ _ _ _ _),
      fun x hx hlater => finishes_answered AdmStep.sub _ _ _ x (List.mem_filter.mpr ⟨hx, decide_eq_true hlater⟩)⟩
    exact SameBut.trans (t := withoutStep s a.n)
      (sameBut_of_forget [5, 27, 28] _ _ _ (forget_setSteps _ (by decide) _ _ (.inl (by decide)) (.inl (by decide))) (by decide))
      (sameBut_of_forget [3] _ _ _ hforget (by decide))

/-! ### Evaluations -/

/-- Settles O44: a request held, its blocks read, and its output written. -/
theorem evaluationsHeld : Obligations.EvaluationsHeld := by
  refine fun s => ⟨fun d hturn => ?request, fun e l units hrun hl hfind => ⟨fun hheld => ?held, fun hfree => ⟨fun e' he => ?read,
    fun f hf => ?refused⟩⟩, fun e l hrun hl hfind hdone hdelivered => ?complete⟩
  case request =>
    have hexec : exec (.evalRequest d) s = .next (runEvalRequest d (markBegun s d)) := beginCommand_runs hturn (by simp [hturn.2.1]) _ _
    refine ⟨fun st hst => ?_, fun hnone => ?_⟩
    · rw [hexec, runEvalRequest, hst]
    · rw [hexec, runEvalRequest, hnone]
      rfl
  case held =>
    simp only [exec, execEvalBlocksRead, hfind, hl]
    exact if_pos (by simp [hheld])
  case read =>
    simp only [exec, execEvalBlocksRead, hfind, hl, he]
    exact if_neg (by simp [hrun, hfree])
  case refused =>
    simp only [exec, execEvalBlocksRead, hfind, hl, hf]
    exact if_neg (by simp [hrun, hfree])
  case complete =>
    simp only [exec, execEvalComplete, hfind, hl]
    exact if_neg (by simp [hrun, hdone, hdelivered])

/-! ### Table versions -/

theorem completeVersion_answers (s : State) (v : Version) : ∀ d ∈ v.ending, Answered (completeVersion s v) d .ok 0 0 0 :=
  finishes_answered (fun d => d) .ok v.ending _

theorem completeVersion_tables (s : State) (v : Version) : (completeVersion s v).tables =
    (setVersion s { v with ending := [], loaded := true, inEffect := v.inEffect || (inEffect s v.table).isNone }).tables :=
  tables_of_forget (forget_finishes (fun d => d) .ok v.ending _) (by decide)

/-- A version that was not in effect takes effect where no other of its table is (R100). -/
theorem inEffect_setVersion (s : State) (v : Version) :
    (v.inEffect || (inEffect (setVersion s v) v.table).isNone) =
      (v.inEffect || s.tables.versions.all (fun u => u.table != v.table || u.number == v.number || !u.inEffect)) := by
  cases hv : v.inEffect with
  | true => rfl
  | false =>
    rw [Bool.false_or, Bool.false_or, Bool.eq_iff_iff, Option.isNone_iff_eq_none, inEffect, List.find?_eq_none, List.all_eq_true]
    refine ⟨fun hnone u hu => ?_, fun hall u hu => ?_⟩
    · by_cases hkey : (u.table == v.table && u.number == v.number) = true
      · simp [(Bool.and_eq_true_iff.mp hkey).2]
      · have := hnone u (List.mem_map.mpr ⟨u, hu, if_neg hkey⟩)
        simp only [Bool.and_eq_true, not_and, Bool.not_eq_true] at this
        by_cases htable : u.table = v.table
        · simp [this (beq_iff_eq.mpr htable)]
        · simp [htable]
    · obtain ⟨w, hw, rfl⟩ := List.mem_map.mp hu
      split
      · simp [hv]
      case isFalse hkey =>
        have := hall w hw
        simp only [Bool.or_eq_true, bne_iff_ne, beq_iff_eq, Bool.not_eq_true'] at this
        simp only [Bool.and_eq_true, beq_iff_eq, not_and] at hkey ⊢
        intro htable
        rcases this with (h | h) | h
        · exact absurd htable h
        · exact absurd h (hkey htable)
        · simp [h]

theorem runLoadBegin_fits {s : State} {d : Sub} (hfields : loadMalformed d = false) :
    let len := d.body 0x24 4
    let hints := (windowBytes s (d.body 0x20 4) len).map BitVec.toNat
    let v := describedVersion d hints
    v.table < 4096 → layoutBad v = false → findVersion s v.table v.number = none → len = 0 ∨ len = 2 ^ v.skeinLog2 →
    hints.any hintBad = false → v.rowCount ≤ 2 ^ 40 → (s.tables.versions.filter (fun u => u.table == v.table)).length < 4 →
    let t := s.setTables { s.tables with versions := s.tables.versions ++ [v] }
    runLoadBegin d s = if pagesFit t (t.tables.pages ++ newPages v (ownedSkeins t v)) then
      finish (installPages t v (ownedSkeins t v)) d .ok else finish s d .noSpace := by
  intro len hints v htable hlayout hnew hlen hhints hrows hcount
  rw [runLoadBegin]
  refine (if_neg (by rw [hfields]; exact Bool.false_ne_true)).trans ((if_neg ?_).trans ((if_neg ?_).trans (if_neg ?_)))
  · rintro (h | h | h)
    · exact absurd h (Nat.not_le.mpr htable)
    · exact Bool.false_ne_true (hlayout.symm.trans h)
    · rw [show findVersion s _ _ = none from hnew] at h
      cases h
  · rintro (⟨h, h'⟩ | h)
    · exact hlen.elim h h'
    · exact Bool.false_ne_true (hhints.symm.trans h)
  · rintro (h | h)
    · exact absurd h (Nat.not_lt.mpr hrows)
    · exact absurd h (Nat.not_le.mpr hcount)

/-- The pages that a DATA writes: unsettled until they are in their tier. -/
def dataWritten (s : State) (v : Version) (rows : List Nat) : State :=
  let hit (p : Page) : Bool := p.ref.table == v.table && p.ref.version == v.number && rows.any p.rows.contains
  let s := (s.tables.pages.filter (fun p => hit p && p.tier == .flash)).foldl (fun s p => wakeChannels s (pageChannels p.ref)) s
  s.setTables { s.tables with pages := s.tables.pages.map (fun p =>
    if hit p then { p with unsettled := true, dirty := p.dirty || p.tier != .flash, changed := true } else p) }

theorem dataWritten_versions (s : State) (v : Version) (rows : List Nat) :
    (dataWritten s v rows).tables.versions = s.tables.versions := by
  have hwakes : ∀ l : List Page, (l.foldl (fun s p => wakeChannels s (pageChannels p.ref)) s).tables = s.tables := fun l =>
    tables_of_forget (forget_foldl [15] (fun (s : State) (p : Page) => wakeChannels s (pageChannels p.ref))
      (fun s p => forget_wakeChannels [15] (by decide) s (pageChannels p.ref)) l s) (by decide)
  dsimp only [dataWritten]
  rw [State.setTables_tables, hwakes]

theorem runLoadData_writes {s : State} {d : Sub} {v : Version} (hfields : loadMalformed d = false)
    (hv : findVersion s (d.body 0 2) (d.body 4 4) = some v) (hopen : v.loaded = false)
    (hlen : d.body 0x24 4 % (8 + v.recordSize) = 0) :
    let entries := dataEntries v (windowBytes s (d.body 0x20 4) (d.body 0x24 4))
    (∀ f, dataFault s v entries = some f → runLoadData d s = finishWith s d f.1 0 f.2.1 f.2.2) ∧
    (dataFault s v entries = none →
      runLoadData d s = finish (dataWritten (setVersion s (entries.foldl loadRecord v)) v (entries.map (·.1))) d .ok) := by
  have hin : runLoadData d s = match dataFault s v (dataEntries v (windowBytes s (d.body 0x20 4) (d.body 0x24 4))) with
      | some f => finishWith s d f.1 0 f.2.1 f.2.2
      | none => finish (dataWritten (setVersion s ((dataEntries v (windowBytes s (d.body 0x20 4) (d.body 0x24 4))).foldl loadRecord v)) v
          ((dataEntries v (windowBytes s (d.body 0x20 4) (d.body 0x24 4))).map (·.1))) d .ok := by
    simp only [runLoadData, hv]
    exact (if_neg (by rw [hfields]; exact Bool.false_ne_true)).trans ((if_neg (by rw [hopen]; exact Bool.false_ne_true)).trans
      (if_neg (Decidable.not_not.mpr hlen)))
  exact ⟨fun f hf => by rw [hin, hf], fun hnone => by rw [hin, hnone]⟩

/-- Settles O45: a version begun, filled, ended, settled and retired. -/
theorem tableVersionsLoad : Obligations.TableVersionsLoad := by
  refine fun s => ⟨fun d hturn hfields => ⟨fun hphase => ?begins, fun hphase v hv => ⟨fun hloaded => ?full, fun hopen hlen => ?data⟩,
      fun hphase v hv => ⟨fun hloaded => ?ended, fun hopen => ⟨fun hwaits => ?waits, fun hsettled => ?ends⟩⟩⟩,
    fun table version v hrun hv hready => ?settles, fun d hturn h2 hzero htable => ?retires⟩
  case begins =>
    have hexec : exec (.loadTableVersionBegin d) s = .next (runLoadBegin d (markBegun s d)) :=
      beginCommand_runs hturn (by simp [hturn.2.1, hphase]) _ _
    intro hints v htable hlayout hnew hlen hhints hrows hcount w fits
    have hrun := runLoadBegin_fits (s := markBegun s d) hfields htable hlayout hnew hlen hhints hrows hcount
    refine ⟨fun hfits => ?_, fun hno => ?_⟩
    · rw [hexec, hrun]
      exact congrArg _ (if_pos hfits)
    · rw [hexec, hrun]
      exact congrArg _ (if_neg (by rw [Bool.not_eq_true]; exact hno))
  case full =>
    have hexec : exec (.loadTableVersionData d) s = .next (runLoadData d (markBegun s d)) :=
      beginCommand_runs hturn (by simp [hturn.2.1, hphase]) _ _
    have hv' : findVersion (markBegun s d) (d.body 0 2) (d.body 4 4) = some v := hv
    simp only [hexec, runLoadData, hv']
    exact congrArg _ ((if_neg (by rw [hfields]; exact Bool.false_ne_true)).trans (if_pos hloaded))
  case data =>
    have hexec : exec (.loadTableVersionData d) s = .next (runLoadData d (markBegun s d)) :=
      beginCommand_runs hturn (by simp [hturn.2.1, hphase]) _ _
    obtain ⟨hfault, hwrites⟩ := runLoadData_writes (s := markBegun s d) hfields hv hopen hlen
    refine ⟨fun f hf => by rw [hexec, hfault f hf], fun hnone => ?_⟩
    rw [hwrites hnone] at hexec
    refine ⟨_, hexec, finish_answered _ _ _, ?_, exec_sameBut _ _ _ _ hexec rfl⟩
    rw [tables_of_forget (forget_finish [3] (by decide) _ _ _) (by decide), dataWritten_versions]
    rfl
  case ended =>
    have hexec : exec (.loadTableVersionEnd d) s = .next (runLoadEnd d (markBegun s d)) :=
      beginCommand_runs hturn (by simp [hturn.2.1, hphase]) _ _
    have hv' : findVersion (markBegun s d) (d.body 0 2) (d.body 4 4) = some v := hv
    simp only [hexec, runLoadEnd, hv']
    exact congrArg _ ((if_neg (by rw [hfields]; exact Bool.false_ne_true)).trans (if_pos hloaded))
  case waits =>
    have hexec : exec (.loadTableVersionEnd d) s = .next (runLoadEnd d (markBegun s d)) :=
      beginCommand_runs hturn (by simp [hturn.2.1, hphase]) _ _
    have hv' : findVersion (markBegun s d) (d.body 0 2) (d.body 4 4) = some v := hv
    simp only [hexec, runLoadEnd, hv']
    refine congrArg _ ((if_neg (by rw [hfields]; exact Bool.false_ne_true)).trans ((if_neg (by rw [hopen]; exact Bool.false_ne_true)).trans
      (if_neg ?_)))
    rw [List.isEmpty_iff]
    exact hwaits
  case ends =>
    have hexec : exec (.loadTableVersionEnd d) s = .next (runLoadEnd d (markBegun s d)) :=
      beginCommand_runs hturn (by simp [hturn.2.1, hphase]) _ _
    obtain ⟨htable, hnumber⟩ := findVersion_keys hv
    let ending : Version := { v with ending := v.ending ++ [d] }
    let m := setVersion (markBegun s d) ending
    have hrun : runLoadEnd d (markBegun s d) = completeVersion m ending := by
      have hv' : findVersion (markBegun s d) (d.body 0 2) (d.body 4 4) = some v := hv
      simp only [runLoadEnd, hv']
      refine (if_neg (by rw [hfields]; exact Bool.false_ne_true)).trans ((if_neg (by rw [hopen]; exact Bool.false_ne_true)).trans (if_pos ?_))
      rw [List.isEmpty_iff]
      exact hsettled
    have hfound : findVersion m ending.table ending.number = some ending :=
      findVersion_setVersion (s := markBegun s d) (v := ending) (show findVersion s v.table v.number = some v by rw [htable, hnumber, hv])
    rw [hrun] at hexec
    refine ⟨_, hexec, completeVersion_answers m ending d (List.mem_append_right _ (List.mem_singleton.mpr rfl)),
      { ending with ending := [], loaded := true, inEffect := ending.inEffect || (inEffect m ending.table).isNone }, ?_, rfl, rfl, rfl,
      inEffect_setVersion (markBegun s d) ending⟩
    rw [findVersion, completeVersion_tables]
    exact findVersion_setVersion (v := { ending with ending := [], loaded := true, inEffect := ending.inEffect || (inEffect m ending.table).isNone })
      hfound
  case settles =>
    let settled := (unsettledPages s v).foldl settlePage s
    have hexec : exec (.recordsReachedTier table version) s = .next (if v.ending.isEmpty then settled else completeVersion settled v) := by
      simp only [exec, execRecordsReachedTier, hv]
      refine if_neg ?_
      have hall : (unsettledPages s v).all (fun p => p.tier != .flash || channelsOn s (pageChannels p.ref)) = true :=
        List.all_eq_true.mpr fun p hp => by
          by_cases hflash : p.tier = .flash
          · simp [hready p hp hflash]
          · simp [hflash]
      simp [hrun, hall]
    refine ⟨_, hexec, fun d hd => ?_, exec_sameBut _ _ _ _ hexec rfl⟩
    rw [if_neg (by simpa using List.ne_nil_of_mem hd)]
    exact completeVersion_answers settled v d hd
  case retires =>
    have hexec : exec (.retireTableVersion d) s = .next (runRetireTableVersion d (markBegun s d)) :=
      beginCommand_runs hturn (by simp [hturn.2.1]) _ _
    have hfields : ¬ (d.body 2 2 != 0 || !d.zeroFrom 8 || decide (4096 ≤ d.body 0 2)) = true := by
      simp [h2, hzero, htable]
    refine ⟨fun hnone => ?_, fun v hv => ⟨fun hneeded => ?_, fun hidle hunnamed => ⟨fun hused => ?_, fun hfree => ?_⟩⟩⟩
    · have hnone' : findVersion (markBegun s d) (d.body 0 2) (d.body 4 4) = none := hnone
      simp only [hexec, runRetireTableVersion, hnone', if_neg hfields]
    all_goals
      have hv' : findVersion (markBegun s d) (d.body 0 2) (d.body 4 4) = some v := hv
      simp only [hexec, runRetireTableVersion, hv', if_neg hfields]
    · exact congrArg _ (if_pos (hneeded.elim (fun h => by simp [h]) (fun h => by simp [show namedInSets (markBegun s d) _ _ = true from h])))
    · exact congrArg _ ((if_neg (by simp [hidle, show namedInSets (markBegun s d) _ _ = false from hunnamed])).trans (if_pos hused))
    · exact congrArg _ ((if_neg (by simp [hidle, show namedInSets (markBegun s d) _ _ = false from hunnamed])).trans
        (if_neg (by rw [Bool.not_eq_true]; exact hfree)))

end Sys2Proof.Machine
end

section
/-! SUPPORT. Configuration sets, and the commands of securing, telemetry and debugging. -/

namespace Sys2Proof.Machine

open Sys2Proof.Safety

/-! ### Configuration sets -/

/-- The descriptor of STAGE_CONFIG keeps to its layout (R353). -/
structure StageFields (d : Sub) : Prop where
  flag : d.body 4 1 ≤ 1
  reserved : d.body 5 3 = 0
  zero : d.zeroFrom 0x10 = true
  id : d.body 0 4 ≠ 0
  block : blockOk (d.body 8 4) (d.body 12 4) = true
  long : 8 ≤ d.body 12 4
  short : d.body 12 4 ≤ 16 * 2 ^ 20

theorem StageFields.layout {d : Sub} (h : StageFields d) :
    (decide (1 < d.body 4 1) || d.body 5 3 != 0 || !d.zeroFrom 0x10 || d.body 0 4 == 0 || !blockOk (d.body 8 4) (d.body 12 4) ||
      decide (d.body 12 4 < 8 ∨ 16 * 2 ^ 20 < d.body 12 4)) = false := by
  obtain ⟨hflag, hreserved, hzero, hid, hblock, hlong, hshort⟩ := h
  have hlen : ¬ (d.body 12 4 < 8 ∨ 16 * 2 ^ 20 < d.body 12 4) := by omega
  simp only [hreserved, hzero, hblock, Bool.or_eq_false_iff, decide_eq_false_iff_not]
  exact ⟨⟨⟨⟨⟨by omega, rfl⟩, rfl⟩, by simpa using hid⟩, rfl⟩, hlen⟩

/-- A set whose list is sound: what its flag and its items decide (R354, R355). -/
theorem runStageConfig_sound {s : State} {d : Sub} {items : List Item} (hfields : StageFields d)
    (hitems : parseItems (d.body 12 4) 0 (windowBytes s (d.body 8 4) (d.body 12 4)) = some items)
    (hkeys : ∀ i ∈ items, knownKey i.2.1 = true ∧ itemReserved i.2.1 i.2.2 = false) (hnew : ∀ x ∈ s.cfg.sets, x.id ≠ d.body 0 4)
    (hdistinct : allDistinct ((items.filter (fun i => i.2.1 != 1)).map (fun i => i.2.1)) = true) :
    runStageConfig d s =
      let now := bitAt (d.body 4 1) 0
      if now && !(s.steps.a == s.steps.c && s.securing.restoring.isNone) then finishNa s d .rejectedConfig
      else if !now && decide (8 ≤ s.cfg.sets.length) then finishNa s d .noSpace
      else match checkItems s s.steps.c [] (itemOrder items) with
        | some f => finishItem s d f
        | none =>
          if now then finish (progress ((itemOrder items).foldl (fun s i => applyItem s s.steps.c i.2.1 i.2.2) s)) d .ok
          else finish (s.setCfg { s.cfg with
            sets := s.cfg.sets ++ [{ id := d.body 0 4, items := items.map (fun i => i.2), boundary := none }] }) d .ok := by
  have hknown : items.any (fun i => !knownKey i.2.1 || itemReserved i.2.1 i.2.2) = false :=
    List.any_eq_false.mpr fun i hi => by simp [(hkeys i hi).1, (hkeys i hi).2]
  have hfree : s.cfg.sets.any (fun x => x.id == d.body 0 4) = false := List.any_eq_false.mpr fun x hx => by simpa using hnew x hx
  simp only [runStageConfig, hitems]
  exact (if_neg (by rw [hfields.layout]; exact Bool.false_ne_true)).trans ((if_neg (by rw [hknown]; exact Bool.false_ne_true)).trans
    (if_neg (by rw [hfree, hdistinct]; exact Bool.false_ne_true)))

theorem runCommitConfig_held {s : State} {d : Sub} {x : CfgSet} (h4 : d.body 4 4 = 0) (hzero : d.zeroFrom 0x10 = true)
    (hid : d.body 0 4 ≠ 0) (hx : s.cfg.sets.find? (fun x => x.id == d.body 0 4 && x.boundary.isNone) = some x) :
    runCommitConfig d s =
      if d.body 8 8 ≤ s.steps.c ∨ d.body 8 8 + 1 ≤ s.steps.a then finishNa s d .rejectedConfig
      else match checkItems (afterSets s (d.body 8 8)) (d.body 8 8) [] (setItems x) with
        | some f => finishItem s d f
        | none => finish (s.setCfg { s.cfg with
            sets := s.cfg.sets.map (fun y => if y.id == d.body 0 4 then { y with boundary := some (d.body 8 8) } else y),
            commitOrder := commitPlace s d (d.body 0 4),
            commitBehind := aPut s.cfg.commitBehind (d.body 0 4) (commitsAhead s d) }) d .ok := by
  simp only [runCommitConfig, hx]
  exact if_neg (by simp [h4, hzero, hid])

/-- Settles O46: a set staged, applied at once, committed and discarded. -/
theorem configurationSets : Obligations.ConfigurationSets := by
  refine fun s => ⟨fun d hturn hflag hreserved hzero hid hblock hlong hshort => ?stage, fun d hturn h4 hzero hid => ?commit,
    fun d hturn hid hzero => ?discard⟩
  case stage =>
    intro m items hitems hkeys hnew hdistinct
    have hexec : exec (.stageConfig d) s = .next (runStageConfig d m) := beginCommand_runs hturn (by simp [hturn.2.1]) _ _
    have hrun := runStageConfig_sound (s := m) ⟨hflag, hreserved, hzero, hid, hblock, hlong, hshort⟩ hitems hkeys hnew hdistinct
    have hlater : d.body 4 1 = 0 → bitAt (d.body 4 1) 0 = false := fun h => by rw [h]; rfl
    have hnow : d.body 4 1 = 1 → bitAt (d.body 4 1) 0 = true := fun h => by rw [h]; rfl
    refine ⟨fun h0 hroom => ?_, fun h0 hfull => ?_, fun h1 hbusy => ?_, fun h1 hidle hwhole hclean => ?_⟩
    · have hsets : (8 : Nat) ≤ m.cfg.sets.length ↔ False := iff_false_intro (Nat.not_le.mpr hroom)
      simp only [hlater h0, hsets, decide_false, Bool.and_false, Bool.false_and, Bool.false_eq_true, if_false] at hrun
      refine ⟨fun hclean => ?_, fun f hf => ?_⟩
      · rw [show checkItems m m.steps.c [] (itemOrder items) = none from hclean] at hrun
        rw [hexec, hrun]
        rfl
      · rw [show checkItems m m.steps.c [] (itemOrder items) = some f from hf] at hrun
        rw [hexec, hrun]
        rfl
    · rw [hexec, hrun]
      dsimp only
      rw [hlater h0]
      exact congrArg _ (if_pos (decide_eq_true hfull))
    · rw [hexec, hrun]
      dsimp only
      rw [hnow h1]
      refine congrArg _ (if_pos ?_)
      rcases hbusy with h | h
      · simp [show ¬ m.steps.a = m.steps.c from h]
      · have hbusy : m.securing.restoring.isNone = false := by
          rw [← Bool.not_eq_true, Option.isNone_iff_eq_none]
          exact h
        simp [hbusy]
    · rw [hexec, hrun]
      dsimp only
      rw [hnow h1, show checkItems m m.steps.c [] (itemOrder items) = none from hclean]
      refine congrArg _ ((if_neg ?_).trans ((if_neg Bool.false_ne_true).trans (if_pos rfl)))
      simp [show m.steps.a = m.steps.c from hidle, show m.securing.restoring = none from hwhole]
  case commit =>
    have hexec : exec (.commitConfig d) s = .next (runCommitConfig d (markBegun s d)) :=
      beginCommand_runs hturn (by simp [hturn.2.1]) _ _
    intro m b held
    refine ⟨fun hrefused => ?_, fun x hx hlo hhi => ?_⟩
    · cases hheld : held with
      | none =>
        have hnone : (markBegun s d).cfg.sets.find? (fun x => x.id == d.body 0 4 && x.boundary.isNone) = none := hheld
        simp only [hexec, runCommitConfig, hnone]
        exact congrArg _ (if_neg (by simp [h4, hzero, hid]))
      | some x =>
        rw [hexec, runCommitConfig_held (s := markBegun s d) h4 hzero hid hheld]
        refine congrArg _ (if_pos (hrefused.resolve_left ?_))
        rw [hheld]
        exact Option.some_ne_none x
    · have hopen : ¬ (d.body 8 8 ≤ (markBegun s d).steps.c ∨ d.body 8 8 + 1 ≤ (markBegun s d).steps.a) := by
        rintro (h | h)
        · exact Nat.not_le.mpr hlo h
        · exact Nat.not_le.mpr (Nat.lt_succ_of_le hhi) h
      rw [hexec, runCommitConfig_held (s := markBegun s d) h4 hzero hid hx, if_neg hopen]
      exact ⟨fun f hf => by rw [hf]; rfl, fun hclean => by rw [hclean]; rfl⟩
  case discard =>
    have hexec : exec (.discardConfig d) s = .next (runDiscardConfig d (markBegun s d)) :=
      beginCommand_runs hturn (by simp [hturn.2.1]) _ _
    have hfields : ¬ (!d.zeroFrom 4 || d.body 0 4 == 0) = true := by simp [hzero, hid]
    rw [hexec, runDiscardConfig]
    exact ⟨fun hheld => congrArg _ ((if_neg hfields).trans (if_pos hheld)),
      fun hno => congrArg _ ((if_neg hfields).trans (if_neg (by rw [Bool.not_eq_true]; exact hno)))⟩

/-! ### The telemetry snapshot -/

theorem leBytes_length (n v : Nat) : (leBytes n v).length = n := by
  induction n generalizing v with
  | zero => rfl
  | succ n ih => rw [leBytes, List.length_cons, ih]

theorem flatMap_length {α β : Type} {f : α → List β} {k : Nat} {l : List α} (h : ∀ x ∈ l, (f x).length = k) :
    (l.flatMap f).length = l.length * k := by
  rw [List.length_flatMap, List.map_congr_left h, List.map_const', List.sum_replicate_nat]

theorem padTo_length {n : Nat} {bs : List Byte} (h : bs.length ≤ n) : (padTo n bs).length = n := by
  rw [padTo, List.length_append, List.length_replicate]
  omega

theorem u64s_length {n : Nat} {l : List Nat} (h : l.length ≤ n) : (u64s n l).length = n * 8 := by
  rw [u64s, flatMap_length (k := 8) (fun v _ => leBytes_length 8 v), List.length_append, List.length_replicate]
  congr 1
  omega

/-- The snapshot has 3,056 bytes (R373). -/
theorem snapshotBytes_length {s : State} (hports : s.links.ports.length = 16) (hmetered : s.telemetry.metered.length = 42)
    (htiers : s.telemetry.tiers.length = 4) (hchords : s.regs.chords.length = 112)
    (hcounters : ∀ p ∈ s.links.ports, p.counters.length = 10) (hrows : ∀ r ∈ s.telemetry.tiers, r.length = 6) :
    (snapshotBytes s).length = 3056 := by
  have hmeters : (padTo (0x200 - 0x40) (s.telemetry.metered.flatMap (leBytes 8))).length = 0x200 - 0x40 :=
    padTo_length (by rw [flatMap_length (k := 8) (fun v _ => leBytes_length 8 v), hmetered]; decide)
  have hlinks : (s.links.ports.flatMap (fun p => u64s 16 p.counters)).length = 16 * (16 * 8) := by
    rw [flatMap_length (k := 16 * 8) (fun p hp => u64s_length (by rw [hcounters p hp]; decide)), hports]
  have htier : (s.telemetry.tiers.flatMap (u64s 8)).length = 4 * (8 * 8) := by
    rw [flatMap_length (k := 8 * 8) (fun r hr => u64s_length (by rw [hrows r hr]; decide)), htiers]
  have hrest : ∀ a b c d e f : Nat, (u64s 8 [a, b, c, d, e, f]).length = 8 * 8 := fun _ _ _ _ _ _ => u64s_length (Nat.le_of_ble_eq_true rfl)
  simp only [snapshotBytes, List.length_append, List.length_replicate, List.length_map, leBytes_length, hmeters, hlinks, htier, hrest,
    hchords]

theorem memRead_memWrite_ne (m : Mem) {a x : Nat} (b : Byte) (h : x ≠ a) : memRead (memWrite m a b) x = memRead m x := by
  have hax : ¬ a = x := fun e => h e.symm
  induction m with
  | nil =>
    rw [memWrite]
    split
    · rfl
    · exact if_neg hax
  | cons y r ih =>
    obtain ⟨c, d⟩ := y
    rw [memWrite]
    split
    · split
      · rfl
      · rw [memRead, if_neg hax]
    · split
      case isTrue hc =>
        subst hc
        split
        · rw [memRead, if_neg hax]
        · rw [memRead, if_neg hax, memRead, if_neg hax]
      case isFalse => rw [memRead, memRead, ih]

/-- A byte outside what is written stays, whatever the memory. -/
theorem memRead_memWrites_outside (m : Mem) {a x : Nat} (bs : List Byte) (h : x < a ∨ a + bs.length ≤ x) :
    memRead (memWrites m a bs) x = memRead m x := by
  induction bs generalizing m a with
  | nil => rfl
  | cons b bs ih =>
    rw [List.length_cons] at h
    rw [memWrites, ih _ (by omega), memRead_memWrite_ne m b (by omega)]

/-! ### Securing, telemetry and debugging -/

theorem finishWith_window (s : State) (d : Sub) (status : Status) (error d0 d1 : Nat) :
    (finishWith s d status error d0 d1).window = s.window :=
  window_of_forget (forget_finishWith [3] (by decide) _ _ _ _ _ _) (by decide)

theorem windowWrite_window (s : State) (off : Nat) (bs : List Byte) : (windowWrite s off bs).window = memWrites s.window off bs := rfl

theorem markBegun_window (s : State) (d : Sub) : (markBegun s d).window = s.window := rfl

/-- Settles O47: the six commands, each with its refusals. -/
theorem securingDeltaDebugCommands : Obligations.SecuringDeltaDebugCommands := by
  refine ⟨fun s d => ⟨fun hturn => ?secure, fun hturn => ?report⟩, fun s d => ⟨fun hturn => ?delta, fun hturn hzero hblock => ?snapshot⟩,
    fun s d => ⟨fun hturn => ?breaks, fun hturn hzero => ?resume⟩⟩
  case secure =>
    have hexec : exec (.secureNow d) s = .next (runSecureNow d (markBegun s d)) := beginCommand_runs hturn (by simp [hturn.2.1]) _ _
    rw [hexec, runSecureNow]
    refine ⟨fun hbad => congrArg _ (if_pos (by rcases hbad with h | h <;> simp [h])), fun hzero hb => ?_⟩
    have hfields : ¬ (!d.zeroFrom 8 || d.body 0 8 == 0) = true := by simp [hzero, hb]
    rw [if_neg hfields]
    refine ⟨fun hpast => congrArg _ (if_pos (hpast.imp_right id)), fun hlo hhi => ?_⟩
    have hopen : ¬ (d.body 0 8 ≤ (markBegun s d).steps.c ∨ d.body 0 8 + 1 ≤ (markBegun s d).steps.a) := by
      rintro (h | h)
      · exact Nat.not_le.mpr hlo h
      · exact Nat.not_le.mpr (Nat.lt_succ_of_le hhi) h
    rw [if_neg hopen]
    have hcontains : (markBegun s d).securing.requested.contains (d.body 0 8) = s.securing.requested.contains (d.body 0 8) := rfl
    rw [hcontains]
    exact ⟨fun hin => by rw [if_pos (by simpa using hin)], fun hout => by rw [if_neg (by simpa using hout)]; rfl⟩
  case report =>
    have hexec : exec (.reportFailure d) s = .next (runReportFailure d (markBegun s d)) := beginCommand_runs hturn (by simp [hturn.2.1]) _ _
    have hmembers : (markBegun s d).members = s.members := rfl
    rw [hexec, runReportFailure]
    dsimp only
    rw [hmembers]
    refine ⟨fun ⟨hn, hzero, hwho⟩ => congrArg _ (if_neg ?_), fun hbad => congrArg _ (if_pos ?_)⟩
    · rcases hwho with h | h <;> simp [hn, hzero, h]
    · refine Classical.byContradiction fun hgood => ?_
      refine hbad ?_
      simpa [Classical.or_iff_not_imp_left, and_assoc] using hgood
  case delta =>
    have hring : ringAt (markBegun s d) 11 = ringAt s 11 := rfl
    refine ⟨fun hop hzero => ?_, fun hop hzero => ?_, fun hop => ?_⟩
    · have hexec : exec (.deltaControlStart d) s = .next (runDeltaControl d (markBegun s d)) :=
        beginCommand_runs hturn (by simp [hturn.2.1, hop]) _ _
      rw [hexec, runDeltaControl, hring, hop, if_neg (by simp [hzero])]
      exact ⟨fun hactive => congrArg _ (if_neg (by simp [hactive])), fun hactive => congrArg _ (if_pos ⟨rfl, hactive⟩)⟩
    · have hexec : exec (.deltaControlStop d) s = .next (runDeltaControl d (markBegun s d)) :=
        beginCommand_runs hturn (by simp [hturn.2.1, hop]) _ _
      rw [hexec, runDeltaControl, hring, hop, if_neg (by simp [hzero]), if_neg (by simp)]
      rfl
    · have hexec : exec (.deltaControlStart d) s = .next (runDeltaControl d (markBegun s d)) :=
        beginCommand_runs hturn (by simp [hturn.2.1]; omega) _ _
      rw [hexec, runDeltaControl]
      exact congrArg _ (if_pos (.inl hop))
  case snapshot =>
    have hexec : exec (.telemetrySnapshot d) s = .next (runTelemetrySnapshot d (markBegun s d)) :=
      beginCommand_runs hturn (by simp [hturn.2.1]) _ _
    have hfields : ¬ (!d.zeroFrom 8 || !blockOk (d.body 0 4) (d.body 4 4)) = true := by simp [hzero, hblock]
    refine ⟨fun hshort => ?_, fun hlong => ?_⟩
    · rw [hexec, runTelemetrySnapshot]
      exact congrArg _ ((if_neg hfields).trans (if_pos hshort))
    · have hrun : runTelemetrySnapshot d (markBegun s d) =
          finishWith (windowWrite (markBegun s d) (d.body 0 4) (snapshotBytes s)) d .ok 0 3056 0 := by
        rw [runTelemetrySnapshot]
        exact (if_neg hfields).trans (if_neg (Nat.not_lt.mpr hlong))
      rw [hrun] at hexec
      have hwindow : (finishWith (windowWrite (markBegun s d) (d.body 0 4) (snapshotBytes s)) d .ok 0 3056 0).window =
          memWrites s.window (d.body 0 4) (snapshotBytes s) := by
        rw [finishWith_window, windowWrite_window, markBegun_window]
      refine ⟨_, hexec, finishWith_answered _ _ _ _ _ _, hwindow, exec_sameBut _ _ _ _ hexec rfl,
        fun hports hmetered htiers hchords hcounters hrows => ?_⟩
      have hlen := snapshotBytes_length hports hmetered htiers hchords hcounters hrows
      exact ⟨hlen, fun a ha => by rw [hwindow, memRead_memWrites_outside _ _ (by rwa [hlen])]⟩
  case breaks =>
    have harm : d.body 1 1 ≠ 0 → exec (.debugBreakArm d) s = .next (runBreakArm d (markBegun s d)) := fun h =>
      beginCommand_runs hturn (by simp [hturn.2.1, h]) _ _
    have hclear : d.body 1 1 = 0 → exec (.debugBreakClear d) s = .next (runBreakClear d (markBegun s d)) := fun h =>
      beginCommand_runs hturn (by simp [hturn.2.1, h]) _ _
    refine ⟨fun hbad => ⟨fun h => ?_, fun h => ?_⟩, fun hgood => ⟨fun h => ?_, fun h => ?_⟩⟩
    · rw [harm h, runBreakArm, if_pos hbad]
    · rw [hclear h, runBreakClear, if_pos hbad]
    · rw [harm (by omega), runBreakArm, if_neg (by rw [hgood]; exact Bool.false_ne_true)]
      rfl
    · rw [hclear h, runBreakClear, if_neg (by rw [hgood]; exact Bool.false_ne_true)]
      rfl
  case resume =>
    have hexec : exec (.debugResume d) s = .next (runDebugResume d (markBegun s d)) := beginCommand_runs hturn (by simp [hturn.2.1]) _ _
    rw [hexec, runDebugResume, if_neg (by simp [hzero])]
    refine ⟨fun hgoes => congrArg _ (if_neg (by rw [Bool.not_eq_true]; exact hgoes)), fun hstopped => ⟨congrArg _ (if_pos hstopped), rfl, ?_⟩⟩
    intro q hq c hc
    obtain ⟨p, -, rfl⟩ := List.mem_map.mp hq
    obtain ⟨k, -, rfl⟩ := List.mem_map.mp hc
    rfl

end Sys2Proof.Machine
end

section
/-! SUPPORT. Restores and exports. -/

namespace Sys2Proof.Machine

open Sys2Proof.Safety

/-! ### Restores -/

/-- What no row of Table 13.5 refuses: a hank at the source, of this member list and this seed. -/
theorem restoreRefusal_none {s : State} {d : Sub} {read : HankRead} (h : restoreRefusal s d read = none) :
    ∃ i, sourceHank s d read = some i ∧ i.members = s.members ∧ i.seed = s.regs.jobSeed := by
  unfold restoreRefusal at h
  dsimp only at h
  split at h
  · cases h
  · split at h
    · cases h
    · split at h
      · cases h
      · split at h
        · cases h
        · split at h
          · cases h
          case h_2 i hi =>
            split at h
            · cases h
            case isFalse hsame =>
              refine ⟨i, hi, ?_⟩
              simpa using hsame

/-- The state that an accepted restore leaves before the commands that it abandons are answered. -/
theorem abandon_leaves (s : State) (h : HankImage) (setId : Nat) :
    (abandon s h setId).steps.admitted = [] ∧ (abandon s h setId).spindles.contexts = [] := by
  unfold abandon
  dsimp only
  have hfinish := forget_finishes (fun d => d) .rejectedConfig (abandonedSubs s h.bindings)
  constructor
  · rw [steps_of_forget (hfinish _) (by decide)]
    rfl
  · rw [spindles_of_forget (hfinish _) (by decide)]
    rfl

theorem restoreFromHank_runs {s : State} {d : Sub} (hbegin : canBegin s d = true) (hop : d.opcode = 0x0041) (read : HankRead)
    (newest : Option Nat) :
    (∀ st, entryStatus (markBegun s d) d = some st →
      exec (.restoreFromHank d read newest) s = .next (finishWith (markBegun s d) d st 0 (newestUsable s d newest) notApplicable)) ∧
    (entryStatus (markBegun s d) d = none → ∀ f, restoreRefusal (markBegun s d) d read = some f →
      exec (.restoreFromHank d read newest) s = .next (finishWith (markBegun s d) d f.1 0 (newestUsable s d newest) f.2)) ∧
    (entryStatus (markBegun s d) d = none → restoreRefusal (markBegun s d) d read = none →
      ∀ h, sourceHank (markBegun s d) d read = some h → exec (.restoreFromHank d read newest) s = .next
        (let t := wakeChannels (abandon (markBegun s d) h (restoreSet d)) (List.range 16)
         t.setSecuring { t.securing with
          restoring := some { sub := d, image := h, source := restoreSource d, setId := restoreSet d, newest := newestUsable s d newest } })) := by
  have hgo : ¬ (!canBegin s d || d.opcode != 0x0041) = true := by simp [hbegin, hop]
  refine ⟨fun st hst => ?_, fun hentry f hf => ?_, fun hentry hnone h hh => ?_⟩
  · simp only [exec, execRestoreFromHank, if_neg hgo, hst]
  · simp only [exec, execRestoreFromHank, if_neg hgo, hentry, hf]
  · simp only [exec, execRestoreFromHank, if_neg hgo, hentry, hnone, hh]

theorem admitted_of_forget {ks : List Nat} {s t : State} (h : forget ks t = forget ks s) (hk : 28 ∉ ks) : t.steps.a = s.steps.a := by
  have hs := congrArg State.steps h
  by_cases h5 : 5 ∈ ks
  · simpa [forget, h5, forgetSteps, hk] using congrArg Steps.a hs
  · exact congrArg Steps.a (steps_of_forget h h5)

/-- The member once a restore's contents are in place, before its command is answered. -/
def restoredState (s : State) (r : Restore) : State :=
  let n := r.image.boundary
  let s := withdrawEarly s
  let put (s : State) (l : List Item) : State := l.foldl (fun s i => applyItem s n i.2.1 i.2.2) s
  let rest := restoreItems s r.setId false
  let s := put s (restoreItems s r.setId true)
  let s := restoreWear (restoreImage s r.image) r.source
  let s := put s rest
  let s := s.setSteps { s.steps with a := n, c := n, halted := false, lost := false }
  let s := s.setCfg { s.cfg with sets := s.cfg.sets.filter (fun x => x.id != r.setId) }
  s.setSecuring { s.securing with
    restoring := none, toProve := some (n, r.image.sealedLoss), energyAt := [] }

theorem restoreEnd_runs {s : State} {r : Restore} (hrun : s.running = true) (hr : s.securing.restoring = some r)
    (hon : channelsOn s (List.range 16) = true) : exec .restoreEnd s = .next
      (progress (finishWith (settleDelta (absentReplicas (restoredState s r)) r.image.boundary) r.sub .ok 0 r.newest notApplicable)) := by
  simp only [exec, execRestoreEnd, hr, hrun, hon]
  rfl

theorem forget_restoreEnd (s : State) (r : Restore) (n : Nat) :
    forget [3, 5, 6, 10, 12, 13, 14, 15, 16, 17, 19, 20]
      (progress (finishWith (settleDelta (absentReplicas s) n) r.sub .ok 0 r.newest notApplicable)) =
    forget [3, 5, 6, 10, 12, 13, 14, 15, 16, 17, 19, 20] s := by
  rw [forget_progress _ (by decide) (by decide) (by decide) (by decide) (by decide) (by decide) (by decide) (by decide) (by decide)
      (by decide) (by decide) (by decide), forget_finishWith _ (by decide), forget_settleDelta _ (by decide) (by decide),
    forget_absentReplicas _ (by decide) (by decide) (by decide) (by decide) (by decide)]

theorem restoredState_steps (s : State) (r : Restore) :
    (restoredState s r).steps.c = r.image.boundary ∧ (restoredState s r).steps.a = r.image.boundary := ⟨rfl, rfl⟩

/-- Settles O48: the answers of a restore, and its end. -/
theorem restoresFromHanks : Obligations.RestoresFromHanks := by
  refine fun s => ⟨fun d read newest hbegin hop => ?command, fun r hrun hr => ⟨fun hoff => ?waits, fun hon => ?ends⟩⟩
  case command =>
    obtain ⟨hentry, hrefused, haccepted⟩ := restoreFromHank_runs hbegin hop read newest
    refine ⟨hentry, fun hnone => ⟨hrefused hnone, fun hpass => ?_⟩⟩
    obtain ⟨h, hh, hmembers, hseed⟩ := restoreRefusal_none hpass
    obtain ⟨hadmitted, hcontexts⟩ := abandon_leaves (markBegun s d) h (restoreSet d)
    exact ⟨h, hh, hmembers, hseed, haccepted hnone hpass h hh, hadmitted, hcontexts⟩
  case waits =>
    simp only [exec, execRestoreEnd, hr]
    exact if_pos (by simp [hoff])
  case ends =>
    have hexec := restoreEnd_runs hrun hr hon
    have hforget := forget_restoreEnd (restoredState s r) r r.image.boundary
    obtain ⟨hc, ha⟩ := restoredState_steps s r
    exact ⟨_, hexec, (highest_of_forget hforget (by decide)).trans hc, (admitted_of_forget hforget (by decide)).trans ha,
      exec_sameBut _ _ _ _ hexec rfl⟩

/-! ### Exports -/

theorem sameSub_self (d : Sub) : sameSub d d = true := by simp [sameSub]

/-- The record of ring 10 that a chunk or an end writes, before what its kind adds. -/
def exportRecord (e : ExportJob) : ExportRecord :=
  { isEnd := false, commandId := e.sub.commandId, boundary := e.boundary, table := e.table, version := e.version,
    skein := 0, entries := 0, chunkOffset := 0, chunkLength := 0, poisoned := 0 }

/-- The last of an exported skein: the end record, and its job gone. -/
def exportOver (s : State) (e : ExportJob) : State :=
  let s := writeExport s { exportRecord e with isEnd := true, skein := 0xFFFFFFFF, entries := e.written, poisoned := e.poisoned }
  s.setOutputs { s.outputs with exports := s.outputs.exports.filter (fun x => !sameSub x.sub e.sub) }

/-- A chunk of an exported skein: its bytes in the staging range, its record, and the job with the rest. -/
def exportStep (s : State) (e : ExportJob) (v : Version) (rows skein : Nat) : State :=
  let now := e.todo.take rows
  let bytes := now.flatMap (exportEntry s e v)
  let place := chunkPlace e bytes.length
  let bad := (now.filter (fun x => x.2.2.2)).length
  let live := liveChunks s e
  let r := ringAt s 10
  let s := windowWrite s (e.stagingOffset + place) bytes
  let s := writeExport s { exportRecord e with
    skein := skein, entries := rows, chunkOffset := e.stagingOffset + place, chunkLength := bytes.length, poisoned := bad }
  let e := { e with todo := e.todo.drop rows }
  setExport s { e with
    staged := stillStaged s e, written := e.written + rows, poisoned := e.poisoned + bad, place := place + bytes.length,
    chunks := live ++ [(r.producer, place, bytes.length)] }

section
variable {s : State} {e : ExportJob} {v : Version} (hrun : s.running = true) (hactive : (ringAt s 10).active = true)
  (hfree : (ringAt s 10).free ≠ 0)
  (hfind : s.outputs.exports.find? (fun x => x.sub.ring == e.sub.ring && x.sub.index == e.sub.index && x.started) = some e)
  (hv : findVersion s e.table e.version = some v)
include hrun hactive hfree hfind hv

theorem exportChunk_last (htodo : e.todo = []) (hwaits : ∀ i, i < e.count → exportWaits s e (e.first + i) = false) :
    exec (.exportChunk e.sub.ring e.sub.index 0) s = .next (progress (finishWith (exportOver s e) e.sub .ok 0 e.written e.poisoned)) := by
  have hany : (List.range (e.first + e.count - e.first)).any (fun i => exportWaits s e (e.first + i)) = false := by
    rw [Nat.add_sub_cancel_left, List.any_eq_false]
    exact fun i hi => by rw [hwaits i (List.mem_range.mp hi)]; exact Bool.false_ne_true
  simp only [exec, execExportChunk, hfind, hv, htodo, hany]
  exact (if_neg (by simp [hrun, hactive, hfree])).trans (if_neg (by simp))

theorem exportChunk_rows {rows : Nat} {first : Nat × Nat × List Byte × Bool} {rest : List (Nat × Nat × List Byte × Bool)}
    (htodo : e.todo = first :: rest) (hlo : 1 ≤ rows) (hhi : rows ≤ e.todo.length) (hskein : ∀ x ∈ e.todo.take rows, x.1 = first.1)
    (hsize : ((e.todo.take rows).flatMap (exportEntry s e v)).length ≤ 2 ^ 20)
    (hwaits : ∀ i, i < first.1 - e.first → exportWaits s e (e.first + i) = false)
    (hlive : ∀ c ∈ liveChunks s e, c.2.1 + c.2.2 ≤ chunkPlace e ((e.todo.take rows).flatMap (exportEntry s e v)).length ∨
      chunkPlace e ((e.todo.take rows).flatMap (exportEntry s e v)).length + ((e.todo.take rows).flatMap (exportEntry s e v)).length
        ≤ c.2.1) :
    exec (.exportChunk e.sub.ring e.sub.index rows) s = .next (exportStep s e v rows first.1) := by
  have hany : (List.range (first.1 - e.first)).any (fun i => exportWaits s e (e.first + i)) = false := by
    rw [List.any_eq_false]
    exact fun i hi => by rw [hwaits i (List.mem_range.mp hi)]; exact Bool.false_ne_true
  have hsame : (e.todo.take rows).any (fun x => x.1 != first.1) = false := by
    rw [List.any_eq_false]
    exact fun x hx => by simp [hskein x hx]
  have hclear : (liveChunks s e).any (fun c =>
      decide (c.2.1 < chunkPlace e ((e.todo.take rows).flatMap (exportEntry s e v)).length +
        ((e.todo.take rows).flatMap (exportEntry s e v)).length ∧
        chunkPlace e ((e.todo.take rows).flatMap (exportEntry s e v)).length < c.2.1 + c.2.2)) = false := by
    rw [List.any_eq_false]
    intro c hc
    have := hlive c hc
    rw [decide_eq_true_eq]
    omega
  simp only [exec, execExportChunk, hfind, hv]
  refine (if_neg (by simp [hrun, hactive, hfree])).trans ?_
  split
  case h_1 hnil => rw [htodo] at hnil; cases hnil
  case h_2 x xs hcons =>
    obtain ⟨rfl, rfl⟩ := List.cons.inj (htodo.symm.trans hcons)
    refine if_neg ?_
    rw [hsame, hany, hclear]
    simp only [Bool.or_false, Bool.or_eq_true, decide_eq_true_eq, not_or, Nat.not_lt]
    exact ⟨⟨by omega, hhi⟩, hsize⟩

end

theorem setExport_window (s : State) (e : ExportJob) : (setExport s e).window = s.window := rfl

theorem setExport_rings (s : State) (e : ExportJob) : (setExport s e).rings = s.rings := rfl

theorem writeExport_window (s : State) (x : ExportRecord) : (writeExport s x).window = s.window := rfl

theorem writeExport_outputs (s : State) (x : ExportRecord) : (writeExport s x).outputs = s.outputs := rfl

theorem writeExport_exports (s : State) (x : ExportRecord) :
    (writeExport s x).rings.exports = s.rings.exports ++ [((ringAt s 10).producer, x)] := rfl

theorem mem_exports_setExport {s : State} {e x : ExportJob} (h : e ∈ s.outputs.exports) (hsub : x.sub = e.sub) :
    x ∈ (setExport s x).outputs.exports := by
  rw [setExport, State.setOutputs_outputs]
  exact List.mem_map.mpr ⟨e, h, if_pos (by rw [hsub]; exact sameSub_self _)⟩

/-- Settles O49: an EXPORT_SKEIN accepted, its end, and a chunk. -/
theorem exportsWrite : Obligations.ExportsWrite := by
  refine fun s => ⟨fun d hturn => ?command, fun e v hrun hactive hfree hfind hv => ⟨fun htodo hwaits => ?last,
    fun rows first rest htodo hlo hhi => ?chunk⟩⟩
  case command =>
    have hexec : exec (.exportSkein d) s = .next (runExportSkein d (markBegun s d)) := beginCommand_runs hturn (by simp [hturn.2.1]) _ _
    refine ⟨fun st hst => ?_, fun hnone => ?_⟩
    · rw [hexec, runExportSkein, hst]
    · rw [hexec, runExportSkein, hnone]
      rfl
  case last =>
    refine ⟨exportOver s e, exportChunk_last hrun hactive hfree hfind hv htodo hwaits, rfl,
      { exportRecord e with isEnd := true, skein := 0xFFFFFFFF, entries := e.written, poisoned := e.poisoned }, rfl, rfl, rfl, rfl, rfl⟩
  case chunk =>
    intro now bytes place hskein hsize hwaits hlive
    refine ⟨_, exportChunk_rows hrun hactive hfree hfind hv htodo hlo hhi hskein hsize hwaits hlive, ?_, ?_, ?_⟩
    all_goals dsimp only [exportStep]
    · rw [setExport_window, writeExport_window, windowWrite_window]
    · rw [setExport_rings, writeExport_exports]
      exact ⟨_, rfl, rfl, rfl, rfl, rfl, rfl, rfl⟩
    · refine ⟨_, mem_exports_setExport (e := e) ?_ rfl, sameSub_self _, rfl, rfl⟩
      rw [writeExport_outputs]
      exact List.mem_of_find?_eq_some hfind

end Sys2Proof.Machine
end

section
/-! SUPPORT. The SPDM responder and the module protocol. -/

namespace Sys2Proof.Machine

open Sys2Proof.Safety

theorem onTransport_answers {s : State} {t : Transport} (h : answers s t = true) (run : State → State) :
    onTransport s t run = .next (run s) := congrArg _ (if_pos h)

/-! ### SPDM -/

theorem canSign_iff (s : State) (t : Transport) : canSign s t = true ↔ (connection s t).algs = true ∧ (connection s t).brainpool = true :=
  Bool.and_eq_true_iff

/-- The messages of a connection, each in its turn and out of it. -/
theorem connection_messages {s : State} {t : Transport} (h : answers s t = true) :
    exec (.getVersion t) s = .next (respond (setConnection s t { Spdm.reset with version := true }) t .version) ∧
    exec (.getCapabilities t) s = .next (if (connection s t).version then
      respond (setConnection s t { connection s t with caps := true }) t .capabilities else respond s t .error) ∧
    (∀ ext, exec (.negotiateAlgorithms t ext) s = .next (if (connection s t).caps then
      respond (setConnection s t { connection s t with algs := true, brainpool := ext }) t (.algorithms ext) else respond s t .error)) ∧
    exec (.getDigests t) s = .next (if (connection s t).algs then
      respond s t (.digests (sha384 (Free.certificateChain (measurement s)))) else respond s t .error) :=
  ⟨congrArg Host.Outcome.next (if_pos h), congrArg Host.Outcome.next (if_pos h), fun _ => congrArg Host.Outcome.next (if_pos h),
    congrArg Host.Outcome.next (if_pos h)⟩

theorem getCertificate_answers {s : State} {t : Transport} (h : answers s t = true) (slot offset length : Nat) :
    exec (.getCertificate t slot offset length) s = .next
      (let chain := Free.certificateChain (measurement s)
       let part := (chain.drop offset).take length
       if (connection s t).algs && slot == 0 && decide (offset ≤ chain.length) then
        respond s t (.certificate part (chain.length - offset - part.length))
       else respond s t .error) :=
  congrArg Host.Outcome.next (if_pos h)

theorem challenge_answers {s : State} {t : Transport} (h : answers s t = true) (slot : Nat) (nonce : List Byte) :
    exec (.challenge t slot nonce) s = .next
      (if canSign s t && slot == 0 && !s.regs.recoveryLoader then
        let d := drawBytes s 32
        let hash := sha384 (Free.certificateChain (measurement s))
        respond d.1 t (.challengeAuth hash (Free.aliasSignature (hash ++ nonce ++ d.2)))
       else respond s t .error) :=
  congrArg Host.Outcome.next (if_pos h)

theorem getMeasurements_answers {s : State} {t : Transport} (h : answers s t = true) (index : Nat) (signed : Bool) (nonce : List Byte) :
    exec (.getMeasurements t index signed nonce) s = .next
      (let blocks := if index = 0xFF then measurementBlocks s else (measurementBlocks s).filter (fun b => b.1 == index)
       if !(connection s t).algs || (signed && !canSign s t) || (index != 0 && blocks.isEmpty) then respond s t .error
       else if signed then
        let d := drawBytes s 32
        respond d.1 t (.measurements blocks (some (Free.aliasSignature (blocks.flatMap (fun b => b.2) ++ nonce ++ d.2))))
       else respond s t (.measurements blocks none)) :=
  congrArg Host.Outcome.next (if_pos h)

/-- The messages of a session. -/
theorem session_messages {s : State} {t : Transport} (h : answers s t = true) :
    (∀ exchange, exec (.keyExchange t exchange) s = .next
      (if canSign s t && (connection s t).session.isNone && !s.regs.recoveryLoader then
        let share := Free.exchangeShare s.freeCount
        respond (setConnection s.bump t { connection s t with session := some false, updates := 0 }) t
          (.keyExchangeRsp share (Free.aliasSignature (exchange ++ share)))
       else respond s t .error)) ∧
    (∀ verify, exec (.finish t verify) s = .next
      (if (connection s t).session = some false then
        if Free.finishVerifies verify then respond (setConnection s t { connection s t with session := some true }) t .finishRsp
        else respond (setConnection s t { connection s t with session := none }) t .error
       else respond s t .error)) ∧
    exec (.heartbeat t) s = .next (respond s t (if (connection s t).session = some true then .heartbeatAck else .error)) ∧
    (∀ op, exec (.keyUpdate t op) s = .next
      (if (connection s t).session = some true ∧ 1 ≤ op ∧ op ≤ 3 then
        respond (setConnection s t { connection s t with updates := if op = 3 then (connection s t).updates
          else (connection s t).updates + 1 }) t (.keyUpdateAck op)
       else respond s t .error)) ∧
    exec (.endSession t) s = .next (if (connection s t).session = some true then
      respond (setConnection s t { connection s t with session := none, updates := 0 }) t .endSessionAck else respond s t .error) :=
  ⟨fun _ => congrArg Host.Outcome.next (if_pos h), fun _ => congrArg Host.Outcome.next (if_pos h), congrArg Host.Outcome.next (if_pos h),
    fun _ => congrArg Host.Outcome.next (if_pos h), congrArg Host.Outcome.next (if_pos h)⟩

/-- The measurement blocks that an index asks for. -/
def askedBlocks (s : State) (index : Nat) : List (Nat × List Byte) :=
  if index = 0xFF then measurementBlocks s else (measurementBlocks s).filter (fun b => b.1 == index)

theorem asked_answered {s : State} {t : Transport} {index : Nat} {signed : Bool} (hc : (connection s t).algs = true)
    (hblocks : index = 0 ∨ askedBlocks s index ≠ []) (hsigns : (signed && !canSign s t) = false) :
    ¬ (!(connection s t).algs || (signed && !canSign s t) || (index != 0 && (askedBlocks s index).isEmpty)) = true := by
  rw [hsigns, hc]
  rcases hblocks with h | h <;> simp [h]

/-- Settles O50: each message in its turn and out of it. -/
theorem spdmResponder : Obligations.SpdmResponder := by
  refine ⟨fun s t h => ?connection, fun s t h => ?session⟩
  case connection =>
    obtain ⟨hversion, hcaps, halgs, hdigests⟩ := connection_messages h
    intro c told chain
    refine ⟨hversion, fun hc => hcaps.trans (congrArg _ (if_pos hc)), fun hc => hcaps.trans (congrArg _ (if_neg (by rw [Bool.not_eq_true]; exact hc))),
      fun ext => ⟨fun hc => (halgs ext).trans (congrArg _ (if_pos hc)),
        fun hc => (halgs ext).trans (congrArg _ (if_neg (by rw [Bool.not_eq_true]; exact hc)))⟩,
      fun hc => hdigests.trans (congrArg _ (if_pos hc)), fun hc => hdigests.trans (congrArg _ (if_neg (by rw [Bool.not_eq_true]; exact hc))),
      fun slot offset length => ⟨fun hc hslot hlen => ?part, fun hno => ?noPart⟩,
      fun slot nonce => ⟨fun hc hsigns hslot hloader => ?signs, fun hno => ?unsigned⟩,
      fun index nonce hc => ⟨fun hblocks => ⟨?plain, fun hsigns => ?signed⟩, fun hno => ?refused⟩⟩
    case part =>
      refine (getCertificate_answers h slot offset length).trans (congrArg _ (if_pos ?_))
      have hc' : (connection s t).algs = true := hc
      simp [hc', hslot, show offset ≤ (Free.certificateChain (measurement s)).length from hlen]
    case noPart =>
      refine (getCertificate_answers h slot offset length).trans (congrArg _ (if_neg ?_))
      rcases hno with hc | hslot
      · simp [show (connection s t).algs = false from hc]
      · simp [hslot]
    case signs =>
      refine ⟨_, (challenge_answers h slot nonce).trans (congrArg _ (if_pos ?_))⟩
      simp [(canSign_iff s t).mpr ⟨hc, hsigns⟩, hslot, hloader]
    case unsigned =>
      refine (challenge_answers h slot nonce).trans (congrArg _ (if_neg ?_))
      rcases hno with hno | hloader
      · simp [canSign, show (connection s t).brainpool = false from hno]
      · simp [hloader]
    case plain =>
      refine (getMeasurements_answers h index false nonce).trans (congrArg _ ((if_neg ?_).trans (if_neg Bool.false_ne_true)))
      exact asked_answered hc hblocks (by simp)
    case signed =>
      refine ⟨_, (getMeasurements_answers h index true nonce).trans (congrArg _ ((if_neg ?_).trans (if_pos rfl)))⟩
      exact asked_answered hc hblocks (by simp [(canSign_iff s t).mpr ⟨hc, hsigns⟩])
    case refused =>
      refine (getMeasurements_answers h index true nonce).trans (congrArg _ (if_pos ?_))
      simp [canSign, show (connection s t).brainpool = false from hno]
  case session =>
    obtain ⟨hexchange, hfinish, hheartbeat, hupdate, hend⟩ := session_messages h
    intro c told
    refine ⟨fun exchange => ⟨fun hc hsigns hnone hloader => ?opens, fun hopen => ?second⟩,
      fun verify => ⟨fun hc hv => ?completes, fun hc hv => ?fails, fun hc => ?stray⟩, fun hc => ⟨?beats, fun op hlo hhi => ?updates, ?ends⟩,
      fun hc => ⟨?noBeat, ?noEnd, fun op => ?noUpdate⟩⟩
    case opens =>
      refine ⟨_, _, (hexchange exchange).trans (congrArg _ (if_pos ?_))⟩
      simp [(canSign_iff s t).mpr ⟨hc, hsigns⟩, show (connection s t).session = none from hnone, hloader]
    case second =>
      refine (hexchange exchange).trans (congrArg _ (if_neg ?_))
      have hopen' : (connection s t).session.isNone = false := by
        rw [← Bool.not_eq_true, Option.isNone_iff_eq_none]
        exact hopen
      simp [hopen']
    case completes => exact (hfinish verify).trans (congrArg _ ((if_pos hc).trans (if_pos hv)))
    case fails => exact (hfinish verify).trans (congrArg _ ((if_pos hc).trans (if_neg (by rw [hv]; exact Bool.false_ne_true))))
    case stray => exact (hfinish verify).trans (congrArg _ (if_neg hc))
    case beats => exact hheartbeat.trans (congrArg (fun r => Host.Outcome.next (respond s t r)) (if_pos hc))
    case updates => exact ⟨_, (hupdate op).trans (congrArg _ (if_pos ⟨hc, hlo, hhi⟩)), rfl⟩
    case ends => exact hend.trans (congrArg _ (if_pos hc))
    case noBeat => exact hheartbeat.trans (congrArg (fun r => Host.Outcome.next (respond s t r)) (if_neg hc))
    case noEnd => exact hend.trans (congrArg _ (if_neg hc))
    case noUpdate => exact (hupdate op).trans (congrArg _ (if_neg fun hyes => hc hyes.1))

/-! ### The module protocol -/

/-- A module command whose payload spells it, taken by this image or loader. -/
theorem moduleCommand_runs {s : State} {t : Transport} (h : answers s t = true) {payload : List Byte} {command low high : Nat}
    (hcommand : leAt payload 0 1 = command) (hok : payloadOk payload low high = true) {inLoader : Bool}
    (htaken : s.regs.recoveryLoader = false ∨ inLoader = true) (run : List Byte → State → State) :
    moduleCommand s t payload command low high inLoader run = .next (run (payload.drop 4) s) := by
  have hne : payload.isEmpty = false := by
    cases payload with
    | nil => simp [payloadOk] at hok
    | cons b payload => rfl
  have hloader : ¬ (s.regs.recoveryLoader && !inLoader) = true := by rcases htaken with h | h <;> simp [h]
  rw [moduleCommand, if_neg (by simp [hcommand, hne]), onTransport_answers h]
  exact congrArg _ ((if_neg hloader).trans (if_neg (by simp [hok])))

/-! #### The job key -/

theorem claimFlash_security (s : State) (jobId : List Byte) :
    (claimFlash s jobId).security = { s.security with flashOwner := some jobId } := by
  unfold claimFlash
  split
  case isTrue h => rw [← h]
  case isFalse => rfl

theorem retryPorts_security (s : State) : (retryPorts s).security = s.security :=
  security_of_forget (forget_retryPorts [14] (by decide) s) (by decide)

theorem installKey_security (s : State) (key : List Byte) : (installKey s key).security =
    { s.security with jobKey := some key, jobId := jobIdentifier key, flashOwner := some (jobIdentifier key) } := by
  rw [installKey, retryPorts_security, claimFlash_security]
  rfl

/-! #### Debug unlock -/

theorem forget_endedSubs (l : List Sub) (s : State) : forget [3] (l.foldl (fun s x => finish s x .rejectedConfig) s) = forget [3] s :=
  forget_foldl [3] _ (fun _ _ => forget_finish _ (by decide) _ _ _) l s

/-- What an unlock leaves of the memories, before the commands that it ends are answered. -/
def erasedState (s : State) : State :=
  let tables := { Tables.reset (flashVersions s) with wear := s.tables.wear, spareLow := s.tables.spareLow }
  let s := ((s.setWindow []).setTensors []).setSpindles (clearedSpindles s)
  let s := (s.setSteps { Steps.reset with a := s.steps.a, c := s.steps.c, lost := true }).setSecuring
    { keptSecuring s with lastSched := s.securing.lastSched }
  let s := (s.setTables tables).setLattices []
  let s := s.setPrograms { images := [], waiting := [], unloads := [] }
  let s := s.setOwners { Owners.reset with era := s.owners.era + 1 }
  (s.setDense { nodes := [], replicas := [], slots := [], granted := [] }).setOutputs
    { s.outputs with exports := [], deltaPending := [] }

theorem eraseMemories_eq (s : State) :
    eraseMemories s = (endedSubs s).foldl (fun s x => finish s x .rejectedConfig) (erasedState s) := rfl

theorem forget_eraseMemories_answers (s : State) : forget [3] (eraseMemories s) = forget [3] (erasedState s) := by
  rw [eraseMemories_eq]
  exact forget_endedSubs (endedSubs s) (erasedState s)

theorem erasedState_leaves (s : State) :
    (erasedState s).window = [] ∧ (erasedState s).tensors = [] ∧ (erasedState s).lattices = [] ∧
    (erasedState s).tables.versions = [] ∧ (erasedState s).programs.images = [] ∧ (erasedState s).spindles = clearedSpindles s ∧
    (erasedState s).regs = s.regs ∧ (erasedState s).supply = s.supply ∧ (erasedState s).security = s.security := by
  simp [erasedState, clearedSpindles, Tables.reset]

theorem eraseMemories_leaves (s : State) :
    (eraseMemories s).window = [] ∧ (eraseMemories s).tensors = [] ∧ (eraseMemories s).lattices = [] ∧
    (eraseMemories s).tables.versions = [] ∧ (eraseMemories s).programs.images = [] ∧ (eraseMemories s).spindles = clearedSpindles s ∧
    (eraseMemories s).regs = s.regs ∧ (eraseMemories s).supply = s.supply ∧ (eraseMemories s).security = s.security := by
  have h := forget_eraseMemories_answers s
  rw [window_of_forget h (by decide), tensors_of_forget h (by decide), lattices_of_forget h (by decide), tables_of_forget h (by decide),
    programs_of_forget h (by decide), spindles_of_forget h (by decide), regs_of_forget h (by decide), supply_of_forget h (by decide),
    security_of_forget h (by decide)]
  exact erasedState_leaves s

/-- A key that is erased, and the ports that it kept: one step. -/
def failWithoutKey (s : State) (n : Nat) : State := if (portAt s n).link == .off then s else failPort s n 4

theorem eraseJobKey_eq (s : State) : eraseJobKey s = (List.range 16).foldl failWithoutKey
    (s.setSecurity { s.security with jobKey := none, jobId := List.replicate 16 0 }) := rfl

theorem forget_failWithoutKey (s : State) (n : Nat) : forget [3, 14, 16, 20] (failWithoutKey s n) = forget [3, 14, 16, 20] s := by
  rw [failWithoutKey]
  split
  · rfl
  · exact forget_failPort _ (by decide) (by decide) (by decide) (by decide) _ _ _

theorem eraseJobKey_leaves (s : State) :
    (eraseJobKey s).security = { s.security with jobKey := none, jobId := List.replicate 16 0 } ∧
    (eraseJobKey s).spindles = s.spindles ∧ (eraseJobKey s).regs = s.regs ∧ (eraseJobKey s).supply = s.supply := by
  have h := forget_foldl [3, 14, 16, 20] failWithoutKey forget_failWithoutKey (List.range 16)
    (s.setSecurity { s.security with jobKey := none, jobId := List.replicate 16 0 })
  rw [← eraseJobKey_eq] at h
  rw [security_of_forget h (by decide), spindles_of_forget h (by decide), regs_of_forget h (by decide), supply_of_forget h (by decide)]
  exact ⟨rfl, rfl, rfl, rfl⟩

theorem aGet_map_snd {κ α β : Type} [DecidableEq κ] (f : α → β) (l : Assoc κ α) (k : κ) :
    aGet (l.map (fun x => (x.1, f x.2))) k = (aGet l k).map f := by
  induction l with
  | nil => rfl
  | cons x l ih =>
    obtain ⟨j, v⟩ := x
    rw [List.map_cons, aGet, aGet]
    split
    · rfl
    · exact ih

/-- The queues of a cleared spindle are empty and keep their counts (R201). -/
theorem queueAt_cleared {s t : State} (h : t.spindles = clearedSpindles s) (q : QueueId) :
    (queueAt t q).cmds = [] ∧ (queueAt t q).count = (queueAt s q).count := by
  have hget : aGet t.spindles.queues q = (aGet s.spindles.queues q).map (fun v => { v with cmds := [], offers := [] }) := by
    rw [h]
    exact aGet_map_snd (fun v : Queue => { v with cmds := [], offers := [] }) s.spindles.queues q
  rw [queueAt, queueAt, hget]
  cases aGet s.spindles.queues q with
  | none => exact ⟨rfl, rfl⟩
  | some v => exact ⟨rfl, rfl⟩

/-- An unlock has erased the job key and makes the ephemeral keys anew. -/
def keylessState (s : State) : State :=
  (eraseJobKey s).setSecurity { (eraseJobKey s).security with keyGeneration := (eraseJobKey s).security.keyGeneration + 1 }

theorem unlockDebug_eq (s : State) (scope : List Byte) : unlockDebug s scope =
    (eraseMemories (keylessState s)).setSecurity { (eraseMemories (keylessState s)).security with
      debugUnlocked := true, debugScope := scope, nonce := none } := by
  unfold unlockDebug keylessState
  rfl

theorem keylessState_leaves (s : State) :
    (keylessState s).security = { s.security with
      jobKey := none, jobId := List.replicate 16 0, keyGeneration := s.security.keyGeneration + 1 } ∧
    clearedSpindles (keylessState s) = clearedSpindles s ∧ (keylessState s).regs = s.regs ∧ (keylessState s).supply = s.supply := by
  obtain ⟨hsecurity, hspindles, hregs, hsupply⟩ := eraseJobKey_leaves s
  refine ⟨?_, ?_, ?_, ?_⟩
  · rw [keylessState, State.setSecurity_security, hsecurity]
  · rw [clearedSpindles, clearedSpindles, keylessState, State.setSecurity_spindles, hspindles]
  · rw [keylessState, State.setSecurity_regs, hregs]
  · rw [keylessState, State.setSecurity_supply, hsupply]

/-- What an unlock leaves (R394). -/
theorem unlockDebug_leaves (s : State) (scope : List Byte) :
    (unlockDebug s scope).security = { s.security with
      jobKey := none, jobId := List.replicate 16 0, keyGeneration := s.security.keyGeneration + 1, debugUnlocked := true,
      debugScope := scope, nonce := none } ∧
    (unlockDebug s scope).window = [] ∧ (unlockDebug s scope).tensors = [] ∧ (unlockDebug s scope).lattices = [] ∧
    (unlockDebug s scope).tables.versions = [] ∧ (unlockDebug s scope).programs.images = [] ∧
    (unlockDebug s scope).spindles = clearedSpindles s ∧ (unlockDebug s scope).regs = s.regs ∧ (unlockDebug s scope).supply = s.supply := by
  obtain ⟨hsecurity, hspindles, hregs, hsupply⟩ := keylessState_leaves s
  obtain ⟨kwindow, ktensors, klattices, kversions, kimages, kspindles, kregs, ksupply, ksecurity⟩ := eraseMemories_leaves (keylessState s)
  rw [unlockDebug_eq, State.setSecurity_security, State.setSecurity_window, State.setSecurity_tensors, State.setSecurity_lattices,
    State.setSecurity_tables, State.setSecurity_programs, State.setSecurity_spindles, State.setSecurity_regs, State.setSecurity_supply,
    kwindow, ktensors, klattices, kversions, kimages, kspindles, kregs, ksupply, ksecurity, hspindles, hsecurity, hregs, hsupply]
  exact ⟨rfl, rfl, rfl, rfl, rfl, rfl, rfl, rfl, rfl⟩

/-! #### Firmware -/

theorem transferFor_none {s : State} (h : s.security.transfer = none) (t : Transport) : transferFor s t = .error resSequence := by
  rw [transferFor, h]

theorem transferFor_other {s : State} {x : Transfer} (h : s.security.transfer = some x) {t : Transport} (ht : x.transport ≠ t) :
    transferFor s t = .error resBusy := by
  rw [transferFor, h]
  exact if_neg ht

theorem transferFor_own {s : State} {x : Transfer} (h : s.security.transfer = some x) {t : Transport} (ht : x.transport = t) :
    transferFor s t = .ok x := by
  rw [transferFor, h]
  exact if_pos ht

/-- What DEBUG_UNLOCK runs on a transport that answers. -/
theorem debugUnlock_runs {s : State} {t : Transport} (h : answers s t = true) (hloader : s.regs.recoveryLoader = false) {payload : List Byte}
    (hcommand : leAt payload 0 1 = 0x21) (hok : payloadOk payload 0 65535 = true) :
    (s.security.nonce = none → exec (.debugUnlock t payload) s =
      .next (answer s t 0x21 (if s.security.transfer.isSome then resBusy else resSequence))) ∧
    (∀ nonce, s.security.nonce = some nonce → s.security.transfer = none → exec (.debugUnlock t payload) s =
      .next (if !Free.tokenVerifies (payload.drop 4) (measurement s) || Free.tokenNonce (payload.drop 4) != nonce then
        answer (s.setSecurity { s.security with nonce := none }) t 0x21 7
      else answer (unlockDebug s (Free.tokenScope (payload.drop 4))) t 0x21 0)) := by
  refine ⟨fun hnonce => ?_, fun nonce hnonce htransfer => ?_⟩
  · simp only [exec, execDebugUnlock, moduleCommand_runs h hcommand hok (.inl hloader), hnonce]
  · simp only [exec, execDebugUnlock, moduleCommand_runs h hcommand hok (.inl hloader), hnonce, htransfer, Option.isSome_none,
      Bool.false_eq_true, if_false]

/-- What a firmware command runs on a transport that answers and may carry images. -/
theorem firmwareCommand_runs {s : State} {t : Transport} (h : answers s t = true) (hloader : s.regs.recoveryLoader = false ∨ t = .doe)
    {payload : List Byte} {command low high : Nat} (hcommand : leAt payload 0 1 = command) (hok : payloadOk payload low high = true)
    (run : List Byte → State → State) : firmwareCommand s t payload command low high run = .next (run (payload.drop 4) s) :=
  moduleCommand_runs h hcommand hok (hloader.imp_right fun ht => by simp [ht]) run

/-- Settles O51: the job key, the state, the debug commands, and a firmware transfer. -/
theorem moduleProtocol : Obligations.ModuleProtocol := by
  refine ⟨fun s t h hloader => ?keys, fun s t payload h hloader => ?firmware⟩
  case keys =>
    intro told
    refine ⟨fun payload inSession hcommand hok => ⟨fun r hr => ?refused, fun hnone => ?installed⟩, fun payload hcommand hok => ?query,
      fun payload hcommand hok => ?challenge, fun payload hcommand hok => ?unlock⟩
    case refused =>
      simp only [exec, execInstallJobKey, moduleCommand_runs h hcommand hok (.inl hloader), hr]
      rfl
    case installed =>
      let key := (payload.drop 4).take 48
      have hexec : exec (.installJobKey t inSession payload) s = .next
          (respond (installKey s key) t (.module 0x01 0 (installKey s key).security.jobId)) := by
        simp only [exec, execInstallJobKey, moduleCommand_runs h hcommand hok (.inl hloader), hnone, key]
      have hsecurity := installKey_security s key
      refine ⟨_, hexec, ?_, ?_, ?_, exec_sameBut _ _ _ _ hexec rfl⟩
      all_goals rw [respond, State.setSecurity_security, hsecurity]
    case query =>
      simp only [exec, execQueryState, moduleCommand_runs h hcommand hok (.inl hloader)]
      rfl
    case challenge =>
      refine ⟨(drawBytes s 32).2, by simp [drawBytes], ?_⟩
      simp only [exec, execDebugChallenge, moduleCommand_runs h hcommand hok (.inl hloader)]
      rfl
    case unlock =>
      obtain ⟨hidle, hnonced⟩ := debugUnlock_runs h hloader hcommand hok
      refine ⟨fun hnonce htransfer => ?_, fun nonce hnonce htransfer => ⟨fun hbad => ?_, fun hverifies hmatch => ?_⟩⟩
      · rw [hidle hnonce, htransfer]
        rfl
      · refine (hnonced nonce hnonce htransfer).trans (congrArg _ (if_pos ?_))
        rcases hbad with hbad | hbad <;> simp [hbad]
      · obtain ⟨hsecurity, hwindow, htensors, hlattices, hversions, himages, hspindles, hregs, hsupply⟩ :=
          unlockDebug_leaves s (Free.tokenScope (payload.drop 4))
        refine ⟨_, (hnonced nonce hnonce htransfer).trans (congrArg _ (if_neg (by simp [hverifies, hmatch]))), ?_⟩
        rw [answer, respond, State.setSecurity_security, State.setSecurity_window, State.setSecurity_tensors, State.setSecurity_lattices,
          State.setSecurity_tables, State.setSecurity_programs, State.setSecurity_spindles, State.setSecurity_regs,
          State.setSecurity_supply, hsecurity, hspindles]
        exact ⟨rfl, rfl, rfl, rfl, hwindow, htensors, hlattices, hversions, himages, rfl, rfl, rfl,
          queueAt_cleared ((State.setSecurity_spindles _ _).trans hspindles), hregs, hsupply⟩
  case firmware =>
    intro told transfer fields
    refine ⟨fun hcommand hok => ⟨fun hopen => ?busy, fun hnone => ⟨fun hlow hhigh => ?begins, fun hlength => ?badLength⟩⟩,
      fun code i hi hcommand => ?refused, fun x hx ht => ⟨fun hcommand hok => ?data, fun hcommand hok => ?ends, fun hcommand hok => ?aborts⟩⟩
    case busy =>
      simp only [exec, execFirmwareBegin, firmwareCommand_runs h hloader hcommand hok]
      exact congrArg _ (if_pos (Option.isSome_iff_ne_none.mpr hopen))
    case begins =>
      simp only [exec, execFirmwareBegin, firmwareCommand_runs h hloader hcommand hok]
      exact congrArg _ ((if_neg (by simp [hnone])).trans (if_neg (not_or.mpr ⟨Nat.not_lt.mpr hlow, Nat.not_lt.mpr hhigh⟩)))
    case badLength =>
      simp only [exec, execFirmwareBegin, firmwareCommand_runs h hloader hcommand hok]
      exact congrArg _ ((if_neg (by simp [hnone])).trans (if_pos hlength))
    case refused =>
      have herror (r : Nat) (hr : transferFor s t = .error r) : exec i s = .next (answer s t code r) := by
        rcases hi with ⟨rfl, rfl, hok⟩ | ⟨rfl, rfl, hok⟩ | ⟨rfl, rfl, hok⟩
        · simp only [exec, execFirmwareData, firmwareCommand_runs h hloader hcommand hok, hr]
        · simp only [exec, execFirmwareEnd, firmwareCommand_runs h hloader hcommand hok, hr]
        · simp only [exec, execFirmwareAbort, firmwareCommand_runs h hloader hcommand hok, hr]
      exact ⟨fun hnone => herror _ (transferFor_none hnone t), fun x hx ht => herror _ (transferFor_other hx ht)⟩
    case data =>
      have hdata : exec (.firmwareData t payload) s = .next
          (if leAt fields 0 4 ≠ x.bytes.length then answer s t 0x11 resSequence
          else if x.length < x.bytes.length + (fields.length - 4) then answer s t 0x11 resMalformed
          else answer (setTransfer s (some { x with bytes := x.bytes ++ fields.drop 4 })) t 0x11 0) := by
        simp only [exec, execFirmwareData, firmwareCommand_runs h hloader hcommand hok, transferFor_own hx ht, fields]
      exact ⟨fun hgap => hdata.trans (congrArg _ (if_pos hgap)),
        fun hnext hfits => hdata.trans (congrArg _ ((if_neg (Decidable.not_not.mpr hnext)).trans (if_neg (Nat.not_lt.mpr hfits))))⟩
    case ends =>
      intro image
      have hend : exec (.firmwareEnd t payload) s = .next
          (if image.hash ≠ x.hash ∨ Free.imageVerifies x.bytes = false then answer s t 0x12 7
          else if image.secVersion < s.security.minSecVersion then answer s t 0x12 8
          else respond (s.setSecurity { s.security with boot := image, transfer := none }) t
            (.module 0x12 0 (leBytes 2 image.secVersion))) := by
        simp only [exec, execFirmwareEnd, firmwareCommand_runs h hloader hcommand hok, transferFor_own hx ht, image]
      refine ⟨fun hbad => hend.trans (congrArg _ (if_pos hbad)), fun hhash hverifies => ?_⟩
      have hgood : ¬ (image.hash ≠ x.hash ∨ Free.imageVerifies x.bytes = false) := by simp [hhash, hverifies]
      exact ⟨fun hlow => hend.trans (congrArg _ ((if_neg hgood).trans (if_pos hlow))),
        fun hsec => hend.trans (congrArg _ ((if_neg hgood).trans (if_neg (Nat.not_lt.mpr hsec))))⟩
    case aborts =>
      simp only [exec, execFirmwareAbort, firmwareCommand_runs h hloader hcommand hok, transferFor_own hx ht]
      rfl

end Sys2Proof.Machine
end

section
/-! SUPPORT. Ply control flow, sync counters and QUERY: the control-flow instructions and the ends of loops (O59), and signals,
waits and queries (O58). -/

namespace Sys2Proof.Machine

open Sys2Proof.Safety

/-! ### Contexts and instruction fields -/

theorem ctxAt_setCtx (s : State) (c : CtxId) (x : Context) : ctxAt (setCtx s c x) c = some x := by
  rw [ctxAt, setCtx, State.setSpindles_spindles, aGet_aPut]

theorem ctxAt_setCtx_ne {c e : CtxId} (h : e ≠ c) (s : State) (x : Context) : ctxAt (setCtx s c x) e = ctxAt s e := by
  rw [ctxAt, setCtx, State.setSpindles_spindles, aGet_aPut_ne h]
  rfl

@[simp] theorem ctxAt_markIssued (s : State) (c e : CtxId) : ctxAt (markIssued s c) e = ctxAt s e := rfl

@[simp] theorem counterAt_markIssued (s : State) (c e : CtxId) (n : Nat) : counterAt (markIssued s c) e n = counterAt s e n := rfl

@[simp] theorem counterAt_setCtx (s : State) (c e : CtxId) (x : Context) (n : Nat) : counterAt (setCtx s c x) e n = counterAt s e n := rfl

/-- IMM, DESC and TARGET are the upper half of the word. -/
theorem plyImm_eq (w : Word) : plyImm w = w.toNat / 2 ^ 32 := by
  rw [plyImm, bits_eq, Nat.mod_eq_of_lt]
  have := w.isLt
  omega

theorem plyTarget_eq (w : Word) : plyTarget w = (BitVec.ofNat 32 (w.toNat / 2 ^ 32)).toInt := by
  have hw := w.isLt
  rw [plyTarget, plyImm_eq, signedOf, BitVec.toInt_eq_toNat_cond, BitVec.toNat_ofNat]
  generalize hv : w.toNat / 2 ^ 32 = v
  rw [Nat.mod_eq_of_lt (by omega)]
  split <;> split <;> omega

theorem branchSlot_eq (x : Context) (w : Word) :
    branchSlot x w = ((x.pc : Int) + (BitVec.ofNat 32 (w.toNat / 2 ^ 32)).toInt).toNat := by
  rw [branchSlot, plyTarget_eq]

/-- An instruction that only rewrites its context, once it issues. -/
theorem registerStep_issues {s : State} {c : CtxId} {w : Word} {op : Nat} {x : Context} {img : Image} (h : Issues s c w op x img)
    (run : Context → Context) : registerStep s c w op run = .next (ran s c (nextPc (run x))) := by
  rw [registerStep, plyStep_issues h]

/-! ### Control flow -/

/-- The levels that a branch, a skip and the end of a body meet first. -/
theorem loopLevels_cons (depth pc : Nat) (l : LoopLevel) (r : List LoopLevel) :
    (leaveLoops depth pc (l :: r) = if l.depth = depth ∧ (pc < l.first ∨ l.last ≤ pc) then leaveLoops depth pc r else l :: r) ∧
    (skipLoops depth pc (l :: r) = if l.depth = depth ∧ (pc < l.first ∨ l.last < pc) then skipLoops depth pc r else l :: r) ∧
    (l.depth = depth → l.last = pc → dueLevel depth pc [] (l :: r) = some ([], l, r)) := by
  refine ⟨?_, ?_, fun hdepth hlast => ?_⟩
  · rw [leaveLoops]
    refine ite_of_iff ?_ _ _
    simp
  · rw [skipLoops]
    refine ite_of_iff ?_ _ _
    simp
  · rw [dueLevel, if_neg (by simp [hdepth]), if_pos hlast]
    rfl

/-- The end of a body, where its context runs. -/
theorem loopEnd_runs {s : State} {c : CtxId} {x : Context} {inner r : List LoopLevel} {l : LoopLevel} (hrun : s.running = true)
    (hstopped : s.spindles.stopped = false) (hx : ctxAt s c = some x) (hstate : x.state = .running)
    (hdue : dueLevel x.calls.length x.pc [] x.loops = some (inner, l, r)) :
    exec (.loopEnd c) s = .next (setCtx s c (if 1 < l.remaining then
      { x with pc := l.first, loops := { l with index := l.index + 1, remaining := l.remaining - 1 } :: r }
      else { x with loops := inner ++ r })) := by
  simp only [exec, execLoopEnd, hx, hdue]
  exact if_pos (by simp [hrun, hstopped, hstate])

/-- Settles O59: branches, loops, calls and returns. -/
theorem controlFlow : Obligations.ControlFlow := by
  intro s c w x img
  rw [← branchSlot_eq]
  refine ⟨fun h => ?br, fun h => ⟨fun hzero => ?brcStays, fun hnonzero => ?brcJumps⟩, loopLevels_cons, fun h => ?loop,
    fun inner l r hrun hstopped hx hstate hdue => ?loopEnd, fun h => ?call, fun h f pc r hcalls => ?ret⟩
  case br =>
    simp only [exec, execBr, plyStep_issues h]
    rfl
  case brcStays =>
    simp only [exec, execBrc, plyStep_issues h, if_pos hzero]
    rfl
  case brcJumps =>
    simp only [exec, execBrc, plyStep_issues h, if_neg hnonzero]
    rfl
  case loop =>
    intro count
    have hcount : bits (sreg x (plyDst w)).toNat 0 32 = count := by rw [bits_eq, Nat.pow_zero, Nat.div_one]
    refine ⟨fun hzero => ?_, fun hnonzero => ?_⟩
    · simp only [exec, execLoop, plyStep_issues h, hcount, if_pos hzero, plyImm_eq]
    · simp only [exec, execLoop, plyStep_issues h, hcount, if_neg hnonzero, plyImm_eq]
  case loopEnd =>
    have hend := loopEnd_runs hrun hstopped hx hstate hdue
    exact ⟨fun hmore => hend.trans (congrArg (fun y => Host.Outcome.next (setCtx s c y)) (if_pos hmore)),
      fun hlast => hend.trans (congrArg (fun y => Host.Outcome.next (setCtx s c y)) (if_neg (Nat.not_lt.mpr hlast)))⟩
  case call => simp only [exec, execCall, plyStep_issues h, plyImm_eq]
  case ret => simp only [exec, execRet, plyStep_issues h, hcalls]

/-! ### Sync counters -/

theorem insertAsc_ne_nil (n : Nat) (l : List Nat) : insertAsc n l ≠ [] := by
  cases l with
  | nil => exact List.cons_ne_nil _ _
  | cons m l =>
    rw [insertAsc]
    split
    · exact List.cons_ne_nil _ _
    · split <;> exact List.cons_ne_nil _ _

theorem sortDistinct_ne_nil (n : Nat) (l : List Nat) : sortDistinct (n :: l) ≠ [] := by
  have hfold (l : List Nat) : ∀ acc : List Nat, acc ≠ [] → l.foldl (fun acc x => insertAsc x acc) acc ≠ [] := by
    induction l with
    | nil => exact fun acc h => h
    | cons m l ih => exact fun acc _ => ih _ (insertAsc_ne_nil m acc)
  exact hfold l _ (insertAsc_ne_nil n [])

theorem groupSpindles_ne_nil (s : State) (c : CtxId) (x : Context) (n : Nat) : groupSpindles s c x n ≠ [] := by
  rw [groupSpindles]
  split
  · exact List.cons_ne_nil _ _
  · dsimp only
    split
    · exact List.cons_ne_nil _ _
    · exact sortDistinct_ne_nil _ _

theorem nth_mem {α : Type} {l : List α} {k : Nat} (h : k < l.length) (d : α) : nth l k d ∈ l := by
  rw [nth, List.getElem?_eq_getElem h]
  exact List.getElem_mem h

/-- The spindle that a SIGNAL reaches holds the counter for the context's group (R198). -/
theorem signalTarget_spindle (s : State) (c : CtxId) (x : Context) (n : Nat) :
    (signalTarget s c x n).spindle ∈ groupSpindles s c x n :=
  nth_mem (Nat.mod_lt _ (List.length_pos_iff.mpr (groupSpindles_ne_nil s c x n))) _

theorem counterAt_signalCounter (s : State) (g : CtxId) (n k : Nat) :
    counterAt (signalCounter s g n k) g n = counterAt s g n + BitVec.ofNat 32 k := by
  rw [counterAt, signalCounter, State.setSpindles_spindles, aGet_aPut]
  rfl

theorem counterAt_signalCounter_ne {g e : CtxId} {n m : Nat} (h : (e.die, e.spindle, m) ≠ (g.die, g.spindle, n)) (s : State) (k : Nat) :
    counterAt (signalCounter s g n k) e m = counterAt s e m := by
  rw [counterAt, signalCounter, State.setSpindles_spindles, aGet_aPut_ne h]
  rfl

theorem ctxAt_signalCounter (s : State) (g e : CtxId) (n k : Nat) : ctxAt (signalCounter s g n k) e = ctxAt s e := rfl

/-- A wait that a context holds, looked at. -/
theorem waitSatisfied_runs {s : State} {c : CtxId} {x : Context} (hrun : s.running = true) (hstopped : s.spindles.stopped = false)
    (hx : ctxAt s c = some x) (hstate : x.state = .waiting) :
    (x.waitE = true → exec (.waitSatisfied c) s =
      if exponentKnown s x.inst then .next (setCtx s c { x with state := .running, waitE := false }) else .next s) ∧
    (x.waitE = false → ∀ k u, x.waitOn = some (k, u) → exec (.waitSatisfied c) s =
      if waitMet (counterAt s c k) u then .next (setCtx s c { x with state := .running, waitOn := none }) else .next s) := by
  have hwaits : ¬ (x.state != .waiting || !s.running || s.spindles.stopped) = true := by simp [hrun, hstopped, hstate]
  refine ⟨fun hE => ?_, fun hE k u hon => ?_⟩
  · simp only [exec, execWaitSatisfied, hx]
    exact (if_neg hwaits).trans (if_pos hE)
  · simp only [exec, execWaitSatisfied, hx, hon]
    exact (if_neg hwaits).trans (if_neg (by simp [hE]))

/-- Settles O58: signals, waits, reads of counters, and queries. -/
theorem countersSignalAndWait : Obligations.CountersSignalAndWait := by
  intro s c w x img n value t met go
  have hmet (v u : Word32) : waitMet v u = true ↔ met v u := by simp [waitMet, met]
  refine ⟨fun h => ?signal, fun h => ⟨fun hgo => ?waitGoes, fun hheld => ?waits⟩, fun h => ?read, fun h => ⟨fun hknown => ?answers,
    fun hn hunknown => ?unknown⟩, fun hrun hstopped hx hstate => ?resumes⟩
  case signal =>
    intro g
    have hexec : exec (.signal c w) s = .next (ran (signalCounter s g n (plyImm w)) c (nextPc x)) := by
      simp only [exec, execSignal, plyStep_issues h, g, n]
    refine ⟨_, hexec, ?_, exec_sameBut _ _ _ _ hexec rfl, rfl, signalTarget_spindle s c x n, fun hone => ?_, ?_, fun e k he => ?_,
      fun e he => ?_⟩
    · rw [ctxAt_markIssued, ctxAt_setCtx]
      rfl
    · have hmem := signalTarget_spindle s c x n
      rw [hone] at hmem
      exact List.mem_singleton.mp hmem
    · rw [counterAt_markIssued, counterAt_setCtx, counterAt_signalCounter, plyImm_eq]
    · rw [counterAt_markIssued, counterAt_setCtx, counterAt_signalCounter_ne he]
    · rw [ctxAt_markIssued, ctxAt_setCtx_ne he, ctxAt_signalCounter]
  case waitGoes =>
    simp only [exec, execWait, plyStep_issues h]
    exact congrArg (fun u => Host.Outcome.next (markIssued u c)) (if_pos ((hmet _ _).mpr hgo))
  case waits =>
    simp only [exec, execWait, plyStep_issues h]
    exact congrArg (fun u => Host.Outcome.next (markIssued u c)) (if_neg fun hyes => hheld ((hmet _ _).mp hyes))
  case read =>
    simp only [exec, execReadctr, registerStep_issues h, BitVec.ofNat_toNat]
    rfl
  case answers =>
    refine ⟨BitVec.ofNat 64 (queryValue s x n (plyImm w)), ?_, fun hn => ?_, fun hn => ?_, fun hn => ?_, fun hn => ?_, fun hn e he => ?_⟩
    · have hno : ¬ (n = 1 ∧ exponentKnown s x.inst = false) := fun hno =>
        hknown.elim (fun hn => hn hno.1) fun hknown => Bool.false_ne_true (hno.2.symm.trans hknown)
      simp only [exec, execQuery, plyStep_issues h]
      exact congrArg (fun u => Host.Outcome.next (markIssued u c)) (if_neg hno)
    · rw [hn]; rfl
    · rw [hn]; rfl
    · rw [hn]; rfl
    · rw [hn]; rfl
    · rw [hn, queryValue, he]; rfl
  case unknown =>
    simp only [exec, execQuery, plyStep_issues h]
    exact congrArg (fun u => Host.Outcome.next (markIssued u c)) (if_pos ⟨hn, hunknown⟩)
  case resumes =>
    obtain ⟨hexponent, hcounter⟩ := waitSatisfied_runs hrun hstopped hx hstate
    refine ⟨fun hE => ⟨fun hknown => (hexponent hE).trans (if_pos hknown),
      fun hunknown => (hexponent hE).trans (if_neg (by simp [hunknown]))⟩, fun hE k u hon => ⟨fun hgo => ?_, fun hheld => ?_⟩⟩
    · exact (hcounter hE k u hon).trans (if_pos ((hmet _ _).mpr hgo))
    · exact (hcounter hE k u hon).trans (if_neg fun hyes => hheld ((hmet _ _).mp hyes))

end Sys2Proof.Machine
end

section
/-! SUPPORT. Lanes, predicates and integer lanes (O52): a register and a predicate as the bits of their lanes, and lane
arithmetic as that of bit vectors. -/

namespace Sys2Proof.Machine

open Sys2Proof.Safety

/-! ### Lanes packed into a number -/

/-- The number whose lanes of `n` bits, lowest first, are those of a list. -/
def packed (n : Nat) : List Nat → Nat
  | [] => 0
  | x :: l => 2 ^ n * packed n l + x % 2 ^ n

theorem nth_nil {α : Type} (k : Nat) (d : α) : nth [] k d = d := by rw [nth, List.getElem?_nil, Option.getD_none]

theorem nth_cons_zero {α : Type} (x : α) (l : List α) (d : α) : nth (x :: l) 0 d = x := rfl

theorem nth_cons_succ {α : Type} (x : α) (l : List α) (k : Nat) (d : α) : nth (x :: l) (k + 1) d = nth l k d := rfl

theorem nth_map {α β : Type} (f : α → β) (l : List α) (k : Nat) (d : α) : nth (l.map f) k (f d) = f (nth l k d) := by
  rw [nth, nth, List.getElem?_map, Option.getD_map]

theorem nth_map_range {β : Type} (f : Nat → β) {n k : Nat} (h : k < n) (d : β) : nth ((List.range n).map f) k d = f k := by
  rw [nth, List.getElem?_map, List.getElem?_range h]
  rfl

theorem testBit_packed {n : Nat} (hn : 0 < n) (l : List Nat) (i : Nat) :
    (packed n l).testBit i = (nth l (i / n) 0).testBit (i % n) := by
  induction l generalizing i with
  | nil => rw [packed, nth_nil, Nat.zero_testBit, Nat.zero_testBit]
  | cons x l ih =>
    rw [packed, Nat.testBit_two_pow_mul_add _ (Nat.mod_lt _ (Nat.two_pow_pos n))]
    split
    next h => rw [Nat.div_eq_of_lt h, Nat.mod_eq_of_lt h, nth_cons_zero, Nat.testBit_mod_two_pow, decide_eq_true h, Bool.true_and]
    next h =>
      obtain ⟨k, rfl⟩ := Nat.exists_eq_add_of_le (Nat.not_lt.mp h)
      rw [Nat.add_sub_cancel_left, ih, Nat.add_mod_left, Nat.add_div_left _ hn, nth_cons_succ]

/-- Adding the lanes of a list one by one, as registers and predicates are built. -/
theorem foldl_lanes {α : Type} (f : α → Nat) (n : Nat) (l : List α) (k acc : Nat) :
    (l.zipIdx k).foldl (fun acc x => acc + (f x.1 % 2 ^ n) <<< (x.2 * n)) acc = acc + packed n (l.map f) <<< (k * n) := by
  induction l generalizing k acc with
  | nil => rw [List.zipIdx_nil, List.foldl_nil, List.map_nil, packed, Nat.zero_shiftLeft, Nat.add_zero]
  | cons x l ih =>
    rw [List.zipIdx_cons, List.foldl_cons, ih, List.map_cons, packed, Nat.shiftLeft_eq, Nat.shiftLeft_eq, Nat.shiftLeft_eq,
      Nat.succ_mul, Nat.pow_add]
    dsimp only
    rw [Nat.add_mul]
    ac_rfl

theorem laneWidth_pos (view : Nat) : 0 < laneWidth view := Nat.mul_pos (by decide) (Nat.two_pow_pos view)

/-- The lanes of the vector views cut the register, and its predicate, without a rest. -/
theorem view_sizes {view : Nat} (h : view ≤ 2) :
    laneCount view * laneWidth view = 512 ∧ laneCount view * 2 ^ view = 64 := by
  obtain rfl | rfl | rfl : view = 0 ∨ view = 1 ∨ view = 2 := by omega
  all_goals decide

/-! ### Registers -/

theorem ofLanes_eq (view : Nat) (l : List Nat) : ofLanes view l = BitVec.ofNat 512 (packed (laneWidth view) l) := by
  have h := foldl_lanes id (laneWidth view) l 0 0
  rw [Nat.zero_mul, Nat.shiftLeft_zero, Nat.zero_add, List.map_id] at h
  exact congrArg (BitVec.ofNat 512) h

theorem getLsbD_ofLanes (view : Nat) (l : List Nat) {i : Nat} (hi : i < 512) :
    (ofLanes view l).getLsbD i = (nth l (i / laneWidth view) 0).testBit (i % laneWidth view) := by
  rw [ofLanes_eq, BitVec.getLsbD_ofNat, decide_eq_true hi, Bool.true_and, testBit_packed (laneWidth_pos view)]

theorem testBit_lane (view : Nat) (v : Wide) (j i : Nat) :
    (lane view v j).testBit i = (decide (i < laneWidth view) && v.getLsbD (j * laneWidth view + i)) := by
  rw [lane, bits, Nat.testBit_mod_two_pow, Nat.testBit_shiftRight]
  rfl

theorem lane_lt (view : Nat) (v : Wide) (j : Nat) : lane view v j < 2 ^ laneWidth view := Nat.mod_lt _ (Nat.two_pow_pos _)

theorem lane_ofLanes (view : Nat) (l : List Nat) {j : Nat} (hj : j < laneCount view) :
    lane view (ofLanes view l) j = nth l j 0 % 2 ^ laneWidth view := by
  refine Nat.eq_of_testBit_eq fun i => ?_
  rw [testBit_lane, Nat.testBit_mod_two_pow]
  rcases Nat.lt_or_ge i (laneWidth view) with hi | hi
  · have hbit : j * laneWidth view + i < 512 := by
      have hle : (j + 1) * laneWidth view ≤ 512 := 
        Nat.le_trans (Nat.mul_le_mul_right _ hj) (Nat.div_mul_le_self 512 (laneWidth view))
      rw [Nat.succ_mul] at hle
      omega
    rw [getLsbD_ofLanes view l hbit, Nat.mul_comm, Nat.mul_add_div (laneWidth_pos view), Nat.mul_add_mod, Nat.div_eq_of_lt hi,
      Nat.mod_eq_of_lt hi, Nat.add_zero]
  · rw [decide_eq_false (Nat.not_lt.mpr hi), Bool.false_and, Bool.false_and]

theorem ofLanes_lanesOf {view : Nat} (h : view ≤ 2) (v : Wide) : ofLanes view (lanesOf view v) = v := by
  refine BitVec.eq_of_getLsbD_eq fun i hi => ?_
  have hlane : i / laneWidth view < laneCount view := by
    rw [Nat.div_lt_iff_lt_mul (laneWidth_pos view), (view_sizes h).1]
    exact hi
  rw [getLsbD_ofLanes view _ hi, lanesOf, nth_map_range _ hlane, testBit_lane,
    decide_eq_true (Nat.mod_lt _ (laneWidth_pos view)), Bool.true_and, Nat.mul_comm, Nat.div_add_mod]

/-! ### Predicates -/

/-- The bits of the lane of a flag. -/
def flagBits (view : Nat) (b : Bool) : Nat := if b then 2 ^ 2 ^ view - 1 else 0

theorem ofPred_eq (view : Nat) (l : List Bool) : ofPred view l = BitVec.ofNat 64 (packed (2 ^ view) (l.map (flagBits view))) := by
  have hstep : (fun (acc : Nat) (x : Bool × Nat) => if x.1 then acc + ((2 ^ 2 ^ view - 1) <<< (x.2 * 2 ^ view)) else acc) =
      fun acc x => acc + (flagBits view x.1 % 2 ^ 2 ^ view) <<< (x.2 * 2 ^ view) := by
    funext acc x
    cases hx : x.1 with
    | false => simp [flagBits]
    | true =>
      rw [if_pos rfl, flagBits, if_pos rfl, Nat.mod_eq_of_lt (Nat.sub_lt (Nat.two_pow_pos _) Nat.one_pos)]
  rw [ofPred, hstep, foldl_lanes, Nat.zero_mul, Nat.shiftLeft_zero, Nat.zero_add]

theorem getLsbD_ofPred (view : Nat) (l : List Bool) {k : Nat} (hk : k < 64) :
    (ofPred view l).getLsbD k = nth l (k / 2 ^ view) false := by
  have hflag : nth (l.map (flagBits view)) (k / 2 ^ view) 0 = flagBits view (nth l (k / 2 ^ view) false) :=
    nth_map (flagBits view) l _ false
  rw [ofPred_eq, BitVec.getLsbD_ofNat, decide_eq_true hk, Bool.true_and, testBit_packed (Nat.two_pow_pos view), hflag, flagBits]
  cases nth l (k / 2 ^ view) false with
  | false => exact Nat.zero_testBit _
  | true => exact (Nat.testBit_two_pow_sub_one _ _).trans (decide_eq_true (Nat.mod_lt _ (Nat.two_pow_pos view)))

theorem predLane_ofPred {view : Nat} (h : view ≤ 2) (l : List Bool) {j : Nat} (hj : j < laneCount view) :
    predLane view (ofPred view l) j = nth l j false := by
  have hk : j * 2 ^ view < 64 := by
    rw [← (view_sizes h).2]
    exact Nat.mul_lt_mul_of_pos_right hj (Nat.two_pow_pos view)
  have hbit := getLsbD_ofPred view l hk
  rw [Nat.mul_div_cancel _ (Nat.two_pow_pos view)] at hbit
  exact hbit

/-! ### Integer lanes -/

theorem signedOf_toNat {n : Nat} (hn : 0 < n) (a : BitVec n) : signedOf n a.toNat = a.toInt := by
  obtain ⟨m, rfl⟩ : ∃ m, n = m + 1 := ⟨n - 1, by omega⟩
  rw [signedOf, BitVec.toInt_eq_toNat_cond, Nat.add_sub_cancel, Nat.pow_succ]
  push_cast
  split <;> split <;> omega

/-- The lane operations of Table 9.10 on bit vectors. -/
def aluBits {n : Nat} (funct : Nat) (a b : BitVec n) : BitVec n :=
  match funct with
  | 0 => a + b
  | 1 => a - b
  | 2 => a * b
  | 3 => a &&& b
  | 4 => a ||| b
  | 5 => a ^^^ b
  | 6 => a <<< b.toNat
  | 7 => a >>> b.toNat
  | 8 => a.sshiftRight b.toNat
  | 9 => if a.slt b then a else b
  | 10 => if a.slt b then b else a
  | 11 => if a.ult b then a else b
  | _ => if a.ult b then b else a

/-- A shift right of a negative lane fills with ones. -/
theorem arithmetic_shift {n s a : Nat} (ha : a < 2 ^ n) (hs : s < n) :
    a >>> s + (2 ^ n - 2 ^ (n - s)) = 2 ^ n - 1 - (2 ^ n - 1 - a) >>> s := by
  have hsplit : 2 ^ n = 2 ^ s * 2 ^ (n - s) := by rw [← Nat.pow_add, Nat.add_sub_cancel' (Nat.le_of_lt hs)]
  have hquot : (2 ^ n - 1 - a) / 2 ^ s = 2 ^ (n - s) - (a / 2 ^ s + 1) := by
    rw [Nat.sub_sub, Nat.add_comm 1 a, hsplit]
    exact Nat.mul_sub_div a (2 ^ s) (2 ^ (n - s)) (hsplit ▸ ha)
  have hlt : a / 2 ^ s < 2 ^ (n - s) := Nat.div_lt_of_lt_mul (hsplit ▸ ha)
  have hle : 2 ^ (n - s) ≤ 2 ^ n := Nat.pow_le_pow_right (by decide) (Nat.sub_le n s)
  rw [Nat.shiftRight_eq_div_pow, Nat.shiftRight_eq_div_pow, hquot]
  have hfill (m k q : Nat) (hq : q < k) (hk : k ≤ m) : q + (m - k) = m - 1 - (k - (q + 1)) := by omega
  exact hfill _ _ _ hlt hle

theorem aluLane_sar {n : Nat} (a b : BitVec n) : aluLane n 8 a.toNat b.toNat = (a.sshiftRight b.toNat).toNat := by
  have hmsb : bitAt a.toNat (n - 1) = a.msb := (BitVec.msb_eq_getLsbD_last a).symm
  rw [aluLane, hmsb, BitVec.toNat_sshiftRight]
  have hzero (v : Nat) (hv : v < 2 ^ n) (hs : n ≤ b.toNat) : v >>> b.toNat = 0 := by
    rw [Nat.shiftRight_eq_div_pow, Nat.div_eq_of_lt (Nat.lt_of_lt_of_le hv (Nat.pow_le_pow_right (by decide) hs))]
  cases a.msb with
  | true =>
    rw [if_pos rfl, if_pos rfl]
    split
    next hs => rw [hzero _ (by have := a.isLt; omega) hs, Nat.sub_zero]
    next hs => exact arithmetic_shift a.isLt (Nat.not_le.mp hs)
  | false =>
    rw [if_neg Bool.false_ne_true, if_neg Bool.false_ne_true]
    split
    next hs => exact (hzero _ a.isLt hs).symm
    next => rfl

theorem slt_iff {n : Nat} (hn : 0 < n) (a b : BitVec n) : a.slt b = decide (signedOf n a.toNat < signedOf n b.toNat) := by
  rw [signedOf_toNat hn, signedOf_toNat hn]
  rfl

/-- Lane arithmetic is that of bit vectors of the lane's width (R189). -/
theorem aluLane_eq {n : Nat} (hn : 0 < n) (a b : BitVec n) :
    ∀ funct, aluLane n funct a.toNat b.toNat = (aluBits funct a b).toNat
  | 0 => (BitVec.toNat_add a b).symm
  | 1 => by
    rw [aluBits, BitVec.toNat_sub, aluLane, Nat.mod_eq_of_lt b.isLt, Nat.add_sub_assoc (Nat.le_of_lt b.isLt), Nat.add_comm]
  | 2 => (BitVec.toNat_mul a b).symm
  | 3 => (BitVec.toNat_and a b).symm
  | 4 => (BitVec.toNat_or a b).symm
  | 5 => (BitVec.toNat_xor a b).symm
  | 6 => by
    rw [aluBits, BitVec.toNat_shiftLeft, aluLane]
    split
    next hs => rw [Nat.shiftLeft_eq, Nat.mod_eq_zero_of_dvd (Nat.dvd_trans (Nat.pow_dvd_pow 2 hs) (Nat.dvd_mul_left _ _))]
    next => rfl
  | 7 => by
    rw [aluBits, BitVec.toNat_ushiftRight, aluLane]
    split
    next hs =>
      rw [Nat.shiftRight_eq_div_pow, Nat.div_eq_of_lt (Nat.lt_of_lt_of_le a.isLt (Nat.pow_le_pow_right (by decide) hs))]
    next => rfl
  | 8 => aluLane_sar a b
  | 9 => by
    rw [aluBits, slt_iff hn, apply_ite BitVec.toNat, aluLane]
    simp only [decide_eq_true_eq]
  | 10 => by
    rw [aluBits, slt_iff hn, apply_ite BitVec.toNat, aluLane]
    simp only [decide_eq_true_eq]
  | 11 => by
    rw [aluBits, apply_ite BitVec.toNat, aluLane, BitVec.ult]
    simp only [decide_eq_true_eq]
    split <;> omega
  | k + 12 => by
    have hmax : aluLane n (k + 12) a.toNat b.toNat = max a.toNat b.toNat := rfl
    have hbits : aluBits (k + 12) a b = if a.ult b then b else a := rfl
    rw [hmax, hbits, apply_ite BitVec.toNat, BitVec.ult]
    simp only [decide_eq_true_eq]
    split <;> omega

theorem ofNat_aluLane {n : Nat} (hn : 0 < n) (a b : BitVec n) (funct : Nat) :
    BitVec.ofNat n (aluLane n funct a.toNat b.toNat) = aluBits funct a b := by
  rw [aluLane_eq hn, BitVec.ofNat_toNat, BitVec.setWidth_eq]

/-- A shift by the width or more. -/
theorem shift_past {n s : Nat} (a : BitVec n) (hs : n ≤ s) :
    a <<< s = 0 ∧ a >>> s = 0 ∧ a.sshiftRight s = if a.msb then BitVec.allOnes n else 0 := by
  refine ⟨BitVec.shiftLeft_eq_zero hs, BitVec.ushiftRight_eq_zero hs, BitVec.eq_of_getLsbD_eq fun i hi => ?_⟩
  rw [BitVec.getLsbD_sshiftRight, decide_eq_false (Nat.not_le.mpr hi), if_neg (by omega), Bool.not_false, Bool.true_and]
  cases a.msb with
  | true => rw [if_pos rfl, BitVec.getLsbD_allOnes, decide_eq_true hi]
  | false => exact BitVec.getLsbD_zero.symm

/-- Integer comparisons are those of bit vectors (R217). -/
theorem cmpInt_eq {n : Nat} (hn : 0 < n) (a b : BitVec n) :
    cmpInt n 0 a.toNat b.toNat = (a == b) ∧ cmpInt n 1 a.toNat b.toNat = (a != b) ∧ cmpInt n 2 a.toNat b.toNat = a.slt b ∧
    cmpInt n 3 a.toNat b.toNat = a.sle b ∧ cmpInt n 4 a.toNat b.toNat = a.ult b ∧ cmpInt n 5 a.toNat b.toNat = a.ule b := by
  have heq : (a.toNat == b.toNat) = (a == b) := by
    rw [Bool.eq_iff_iff, beq_iff_eq, beq_iff_eq, BitVec.toNat_inj]
  refine ⟨heq, congrArg (!·) heq, (slt_iff hn a b).symm, ?_, rfl, rfl⟩
  rw [cmpInt, signedOf_toNat hn, signedOf_toNat hn]
  rfl

/-- Settles O52: lanes and predicate bits read back, and integer lanes are bit vectors. -/
theorem lanesAndIntegers : Obligations.LanesAndIntegers := by
  refine ⟨fun view h => ⟨fun l _ j hj => lane_ofLanes view l hj, ofLanes_lanesOf h, fun l _ => ⟨fun j hj => predLane_ofPred h l hj,
    fun k hk => getLsbD_ofPred view l hk⟩⟩, fun n a b hn => ?_⟩
  intro r c
  have hr (funct : Nat) : r funct = aluBits funct a b := ofNat_aluLane hn a b funct
  refine ⟨fun funct => ?_, hr 0, hr 1, hr 2, hr 3, hr 4, hr 5, hr 6, hr 7, hr 8, fun hs => ?_, hr 9, hr 10, hr 11, hr 12, cmpInt_eq hn a b⟩
  · rw [aluLane_eq hn]
    exact BitVec.isLt _
  · rw [hr, hr, hr]
    exact shift_past a hs

end Sys2Proof.Machine
end

section
/-! SUPPORT. Ply instructions on registers: moves and lane arithmetic (O53), and widening, narrowing and reductions (O54). -/

namespace Sys2Proof.Machine

open Sys2Proof.Safety

/-! ### Registers -/

/-- A view that is not the scalar one. -/
theorem plyView_le {w : Word} (h : plyView w ≠ 3) : plyView w ≤ 2 := by
  have hlt : plyView w < 4 := Nat.mod_lt _ (by decide)
  omega

theorem set_nth_set {α : Type} (l : List α) (n : Nat) (v d : α) : l.set n (nth (l.set n v) n d) = l.set n v := by
  rcases Nat.lt_or_ge n l.length with hn | hn
  · rw [nth, List.getElem?_set_self hn, Option.getD_some]
  · rw [List.set_eq_of_length_le hn, List.set_eq_of_length_le hn]

/-- A vector move writes its lanes and then the tag. -/
theorem setVreg_lanesWritten (x : Context) (w : Word) (dst view : Nat) (new : Nat → Nat) (t tag : Word32) :
    setVreg (lanesWritten x w dst view new t) dst (vreg (lanesWritten x w dst view new t) dst) tag = lanesWritten x w dst view new tag := by
  simp only [setVreg, lanesWritten, vreg, List.set_set, set_nth_set]

theorem movEffect_vector {w : Word} (h : plyView w ≠ 3) (x : Context) : movEffect w x =
    lanesWritten x w (plyDst w) (plyView w) (lane (plyView w) (vreg x (plySrc1 w))) (movTag x w (plyView w) (vtag x (plySrc1 w))) := by
  rw [movEffect]
  dsimp only
  rw [if_neg h, lanesOf, writeLanes_eq, setVreg_lanesWritten]

/-- The tag that SEL leaves. -/
def selTag (w : Word) (x : Context) : Word32 :=
  if plyView w = 0 then Free.mixedTag (vtag x (plySrc1 w)) (vtag x (plySrc2 w)) (preg x (plyPred w)) else 0

theorem bcastEffect_eq (w : Word) (x : Context) : bcastEffect w x =
    lanesWritten x w (plyDst w) (plyView w) (fun _ => (sreg x (plySrc1 w)).toNat % 2 ^ laneWidth (plyView w))
      (if plyView w = 0 then vtag x (plyDst w) else 0) := by
  have hlanes (n k : Nat) : List.replicate n k = (List.range n).map (fun _ => k) := by
    rw [List.map_const', List.length_range]
  rw [bcastEffect, hlanes, writeLanes_eq, bits_eq, Nat.pow_zero, Nat.div_one]

theorem aluEffect_vector {w : Word} (h : plyView w ≠ 3) (funct : Nat) (src2 : Nat → Nat) (x : Context) : aluEffect w funct src2 x =
    lanesWritten x w (plyDst w) (plyView w)
      (fun j => aluLane (laneWidth (plyView w)) funct (lane (plyView w) (vreg x (plySrc1 w)) j) (src2 j))
      (if plyView w = 0 then vtag x (plyDst w) else 0) := by
  have hlanes (f : Nat → Nat) (g : Nat → Nat → Nat) (n : Nat) :
      ((List.range n).map f).mapIdx (fun j a => g j a) = (List.range n).map (fun j => g j (f j)) :=
    List.ext_getElem (by simp) fun j h1 h2 => by simp
  rw [aluEffect, if_neg h, lanesOf, hlanes, writeLanes_eq]

theorem aluEffect_scalar {w : Word} (h : plyView w = 3) (funct : Nat) (src2 : Nat → Nat) (x : Context) : aluEffect w funct src2 x =
    setSreg x (plyDst w) (BitVec.ofNat 64 (aluLane 64 funct (sreg x (plySrc1 w)).toNat (src2 0))) := if_pos h

theorem plySext_eq (w : Word) : plySext w = BitVec.ofInt 64 (BitVec.ofNat 32 (w.toNat / 2 ^ 32)).toInt :=
  congrArg (BitVec.ofInt 64) (plyTarget_eq w)

/-! ### Comparisons -/

/-- The predicate that a vector comparison leaves. -/
def cmpPred (w : Word) (x : Context) : Word :=
  mergePred (preg x (plyDst w)) (ofPred (plyView w) ((List.range (laneCount (plyView w))).map (selected x w (plyView w))))
    (ofPred (plyView w) ((List.range (laneCount (plyView w))).map (fun j =>
      if plyFunctR w ≤ 5 then cmpInt (laneWidth (plyView w)) (plyFunctR w) (lane (plyView w) (vreg x (plySrc1 w)) j)
          (lane (plyView w) (vreg x (plySrc2 w)) j)
      else cmpFloat (plyFunctR w) (laneValue (plyView w) (plyFmt w) (vreg x (plySrc1 w)) (vtag x (plySrc1 w)) j)
          (laneValue (plyView w) (plyFmt w) (vreg x (plySrc2 w)) (vtag x (plySrc2 w)) j))))

theorem cmpEffect_vector {w : Word} (h : plyView w ≠ 3) (x : Context) :
    cmpEffect w x = { x with preds := x.preds.set (plyDst w) (cmpPred w x) } := if_neg h

theorem getLsbD_ofPred_lanes {view : Nat} (h : view ≤ 2) (f : Nat → Bool) {k : Nat} (hk : k < 64) :
    (ofPred view ((List.range (laneCount view)).map f)).getLsbD k = f (k / 2 ^ view) := by
  have hlane : k / 2 ^ view < laneCount view := by
    rw [Nat.div_lt_iff_lt_mul (Nat.two_pow_pos view), (view_sizes h).2]
    exact hk
  rw [getLsbD_ofPred view _ hk, nth_map_range f hlane]

theorem getLsbD_mergePred (old mask new : Word) {k : Nat} (hk : k < 64) :
    (mergePred old mask new).getLsbD k = if mask.getLsbD k then new.getLsbD k else old.getLsbD k := by
  rw [mergePred, BitVec.getLsbD_or, BitVec.getLsbD_and, BitVec.getLsbD_and, BitVec.getLsbD_not, decide_eq_true hk]
  cases mask.getLsbD k <;> simp

theorem getLsbD_cmpPred {w : Word} (h : plyView w ≠ 3) (x : Context) {k : Nat} (hk : k < 64) :
    (cmpPred w x).getLsbD k =
      if plyPredicated w && !predLane (plyView w) (preg x (plyPred w)) (k / 2 ^ plyView w) then (preg x (plyDst w)).getLsbD k
      else if plyFunctR w ≤ 5 then cmpInt (laneWidth (plyView w)) (plyFunctR w) (lane (plyView w) (vreg x (plySrc1 w)) (k / 2 ^ plyView w))
        (lane (plyView w) (vreg x (plySrc2 w)) (k / 2 ^ plyView w))
      else cmpFloat (plyFunctR w) (laneValue (plyView w) (plyFmt w) (vreg x (plySrc1 w)) (vtag x (plySrc1 w)) (k / 2 ^ plyView w))
        (laneValue (plyView w) (plyFmt w) (vreg x (plySrc2 w)) (vtag x (plySrc2 w)) (k / 2 ^ plyView w)) := by
  rw [cmpPred, getLsbD_mergePred _ _ _ hk, getLsbD_ofPred_lanes (plyView_le h) _ hk, getLsbD_ofPred_lanes (plyView_le h) _ hk, selected]
  cases plyPredicated w <;> cases predLane (plyView w) (preg x (plyPred w)) (k / 2 ^ plyView w) <;> rfl

/-! ### A context that cannot issue -/

theorem plyInstrs_idle {s : State} {c : CtxId} (w : Word) (h : s.running = false ∨ s.spindles.stopped = true ∨ ctxAt s c = none ∨
      ∃ x, ctxAt s c = some x ∧ x.state ≠ .running) :
    ∀ i ∈ [Instr.mov c w, .movi c w, .movhi c w, .sel c w, .bcast c w, .alu c w, .alui c w, .cmp c w, .fop c w, .widen c w,
        .narrow c w, .reduce c w, .tload c w, .tstore c w, .tile c w, .layer c w, .tmove c w, .product c w, .signal c w,
        .wait c w, .readctr c w, .br c w, .brc c w, .loop c w, .call c w, .ret c w, .retire c w, .query c w],
      exec i s = .next s := by
  simp only [List.forall_mem_cons, exec, execMov, execMovi, execMovhi, execSel, execBcast, execAlu, execAlui, execCmp, execFop, execWiden,
    execNarrow, execReduce, execTload, execTstore, execTile, execLayer, execTmove, execProduct, execSignal, execWait, execReadctr, execBr,
    execBrc, execLoop, execCall, execRet, execRetire, execQuery, registerStep, plyStep_idle _ h, true_and, List.not_mem_nil,
    false_imp_iff, implies_true]

/-- Settles O53: moves, lane arithmetic and comparisons, and nothing where no instruction issues. -/
theorem registersWritten : Obligations.RegistersWritten := by
  refine ⟨fun s c w x img => ?moves, fun s c w x img => ?arithmetic⟩
  case moves =>
    intro scalar vector
    refine ⟨fun h hv => ?_, fun h hv => ⟨movTag x w (plyView w) (vtag x (plySrc1 w)), ?_, fun hne => ?_, fun hzero hp => ?_⟩,
      fun h => ?_, fun h => ?_, fun h hv => ⟨selTag w x, fun hne => if_neg hne, ?_⟩, fun h hv => ?_, fun i hi hidle => ?_⟩
    · have hmov : movEffect w x = setSreg x (plyDst w) (sreg x (plySrc1 w)) := if_pos hv
      simp only [exec, execMov, registerStep_issues h, hmov]
      rfl
    · simp only [exec, execMov, registerStep_issues h, movEffect_vector hv]
      rfl
    · exact if_pos (by simpa using hne)
    · rw [movTag, hzero, hp]
      rfl
    · simp only [exec, execMovi, registerStep_issues h, plySext_eq]
      rfl
    · simp only [exec, execMovhi, registerStep_issues h, plyImm_eq]
      rfl
    · simp only [exec, execSel, registerStep_issues h]
      rfl
    · simp only [exec, execBcast, registerStep_issues h, bcastEffect_eq]
      rfl
    · exact plyInstrs_idle w (hidle.imp_right (·.imp_right (·.imp_right fun hx => ⟨x, hx⟩))) i hi
  case arithmetic =>
    intro v a b scalar vector imm
    refine ⟨fun h => ⟨fun (hv : plyView w = 3) => ?_, fun (hv : plyView w ≠ 3) => ?_⟩,
      fun h => ⟨fun (hv : plyView w = 3) => ?_, fun (hv : plyView w ≠ 3) => ?_⟩,
      fun h => ⟨fun (hv : plyView w = 3) => ?_, fun (hv : plyView w ≠ 3) => ?_⟩,
      fun h hv => ?_, fun y z => ⟨rfl, rfl, rfl⟩⟩
    · simp only [exec, execAlu, registerStep_issues h, aluRegEffect, aluEffect_scalar hv, if_pos hv]
      rfl
    · simp only [exec, execAlu, registerStep_issues h, aluRegEffect, aluEffect_vector hv, if_neg hv]
      rfl
    · simp only [exec, execAlui, registerStep_issues h, aluImmEffect, aluEffect_scalar hv, if_pos hv, plySext_eq]
      rfl
    · simp only [exec, execAlui, registerStep_issues h, aluImmEffect, aluEffect_vector hv, if_neg hv, plySext_eq, bits_eq, Nat.pow_zero,
        Nat.div_one]
      rfl
    · have hcmp : cmpEffect w x = setSreg x (plyDst w)
          (if cmpInt 64 (plyFunctR w) (sreg x (plySrc1 w)).toNat (sreg x (plySrc2 w)).toNat then 1 else 0) := if_pos hv
      simp only [exec, execCmp, registerStep_issues h, hcmp]
      rfl
    · refine ⟨cmpPred w x, ?_, fun k hk => getLsbD_cmpPred hv x hk⟩
      simp only [exec, execCmp, registerStep_issues h, cmpEffect_vector hv]
      rfl
    · intro value
      simp only [exec, execFop, registerStep_issues h, fopEffect, writeLanes_eq]
      rfl

/-! ### Widening -/

/-- Registers written one after another, their tags cleared. -/
def writeRun (d : Nat) (value : Nat → Wide) (n : Nat) (x : Context) : Context :=
  (List.range n).foldl (fun y k => setVreg y (d + k) (value k) 0) x

theorem writeRun_succ (d : Nat) (value : Nat → Wide) (n : Nat) (x : Context) :
    writeRun d value (n + 1) x = setVreg (writeRun d value n x) (d + n) (value n) 0 := by
  rw [writeRun, List.range_succ, List.foldl_append]
  rfl

theorem nth_set_self {α : Type} {l : List α} {k : Nat} (h : k < l.length) (v d : α) : nth (l.set k v) k d = v := by
  rw [nth, List.getElem?_set_self h, Option.getD_some]

theorem nth_set_ne {α : Type} {k m : Nat} (h : k ≠ m) (l : List α) (v d : α) : nth (l.set k v) m d = nth l m d := by
  rw [nth, nth, List.getElem?_set_ne h]

theorem writeRun_frame (d : Nat) (value : Nat → Wide) (n : Nat) (x : Context) :
    writeRun d value n x = { x with vregs := (writeRun d value n x).vregs, tags := (writeRun d value n x).tags } ∧
    (writeRun d value n x).vregs.length = x.vregs.length ∧ (writeRun d value n x).tags.length = x.tags.length := by
  induction n with
  | zero => exact ⟨rfl, rfl, rfl⟩
  | succ n ih =>
    obtain ⟨hframe, hvregs, htags⟩ := ih
    rw [writeRun_succ]
    refine ⟨?_, (List.length_set).trans hvregs, (List.length_set).trans htags⟩
    rw [setVreg]
    rw [hframe]

theorem writeRun_outside (d : Nat) (value : Nat → Wide) (n : Nat) (x : Context) {r : Nat} (h : r < d ∨ d + n ≤ r) :
    vreg (writeRun d value n x) r = vreg x r ∧ vtag (writeRun d value n x) r = vtag x r := by
  induction n with
  | zero => exact ⟨rfl, rfl⟩
  | succ n ih =>
    obtain ⟨hv, ht⟩ := ih (by omega)
    have hne : d + n ≠ r := by omega
    rw [writeRun_succ]
    exact ⟨(nth_set_ne hne _ _ _).trans hv, (nth_set_ne hne _ _ _).trans ht⟩

theorem writeRun_inside (d : Nat) (value : Nat → Wide) (n : Nat) (x : Context) (hv : d + n ≤ x.vregs.length) (ht : d + n ≤ x.tags.length)
    {k : Nat} (hk : k < n) : vreg (writeRun d value n x) (d + k) = value k ∧ vtag (writeRun d value n x) (d + k) = 0 := by
  induction n with
  | zero => exact absurd hk (Nat.not_lt_zero k)
  | succ n ih =>
    obtain ⟨_, hvregs, htags⟩ := writeRun_frame d value n x
    rw [writeRun_succ]
    rcases Nat.lt_succ_iff_lt_or_eq.mp hk with hlt | rfl
    · have hne : d + n ≠ d + k := by omega
      obtain ⟨hval, htag⟩ := ih (by omega) (by omega) hlt
      exact ⟨(nth_set_ne hne _ _ _).trans hval, (nth_set_ne hne _ _ _).trans htag⟩
    · exact ⟨nth_set_self (by omega) _ _, nth_set_self (by omega) _ _⟩

/-- Register `k` of a widening. -/
def widened (w : Word) (x : Context) (k : Nat) : Wide :=
  ofLanes (plyFunctR w) ((List.range (laneCount (plyFunctR w))).map (fun j =>
    if selected x w (plyView w) (k * laneCount (plyFunctR w) + j) then
      encodeRne (fmtOf (laneFormat (plyFunctR w) (plyTfmt w)))
        (laneValue (plyView w) (plyFmt w) (vreg x (plySrc1 w)) (vtag x (plySrc1 w)) (k * laneCount (plyFunctR w) + j))
    else lane (plyFunctR w) (vreg x (plyDst w + k)) j))

theorem widenEffect_eq (w : Word) (x : Context) :
    widenEffect w x = writeRun (plyDst w) (widened w x) (2 ^ (plyFunctR w - plyView w)) x := rfl

theorem lane_widened {w : Word} (hp : plyPredicated w = false) (x : Context) (k : Nat) {j : Nat} (hj : j < laneCount (plyFunctR w)) :
    lane (plyFunctR w) (widened w x k) j = encodeRne (fmtOf (laneFormat (plyFunctR w) (plyTfmt w)))
      (laneValue (plyView w) (plyFmt w) (vreg x (plySrc1 w)) (vtag x (plySrc1 w)) (k * laneCount (plyFunctR w) + j)) %
        2 ^ laneWidth (plyFunctR w) := by
  rw [widened, lane_ofLanes _ _ hj, nth_map_range _ hj, selected, hp, Bool.not_false, Bool.true_or, if_pos rfl]

/-! ### The inputs of the reduction tree -/

theorem range_32 {α : Type} (f g : Nat → α) :
    (List.range 32).map (fun j => if j < 16 then f j else g (j - 16)) = (List.range 16).map f ++ (List.range 16).map g := rfl

/-- The tree's inputs by the mode of the source, no lane left out (R191). -/
theorem treeInputs_modes {w : Word} (hp : plyPredicated w = false) (x : Context) :
    (plyFunctR w % 4 = 0 → treeInputs w x = (List.range 32).map (laneValue (plyView w) (plyFmt w) (vreg x (plySrc1 w)) 0)) ∧
    (plyFunctR w % 4 = 1 → treeInputs w x = (List.range 16).map (laneValue (plyView w) (plyFmt w) (vreg x (plySrc1 w)) 0) ++
      (List.range 16).map (laneValue (plyView w) (plyFmt w) (vreg x (plySrc2 w)) 0)) ∧
    (plyFunctR w % 4 = 2 → treeInputs w x = (List.range 16).map (laneValue (plyView w) (plyFmt w) (vreg x (plySrc1 w)) 0) ++
      List.replicate 16 zeroV) := by
  have hmode : bits (plyFunctR w) 0 2 = plyFunctR w % 4 := (bits_eq _ _ _).trans (congrArg (· % 4) (Nat.div_one _))
  refine ⟨fun h => ?_, fun h => ?_, fun h => ?_⟩
  · simp only [treeInputs, hmode, h, hp, Bool.not_false, Bool.true_or, if_true]
  · simp only [treeInputs, hmode, h, hp, Bool.not_false, Bool.true_or, if_true]
    exact range_32 _ _
  · simp only [treeInputs, hmode, h, hp, Bool.not_false, Bool.true_or, if_true]
    exact (range_32 _ fun _ => zeroV).trans (by rw [List.map_const', List.length_range])

/-- Settles O54: widening, narrowing and reductions. -/
theorem widenNarrowReduce : Obligations.WidenNarrowReduce := by
  intro s c w x img hvregs htags
  refine ⟨fun h => ?widen, fun h => ?narrow, fun h => ?reduce⟩
  case widen =>
    intro v t hvt ht hfits
    obtain ⟨hframe, hlenV, hlenT⟩ := writeRun_frame (plyDst w) (widened w x) (2 ^ (t - v)) x
    have hpc : (writeRun (plyDst w) (widened w x) (2 ^ (t - v)) x).pc = x.pc := by rw [hframe]
    refine ⟨writeRun (plyDst w) (widened w x) (2 ^ (t - v)) x, ?_, hframe, hlenV.trans hvregs, hlenT.trans htags,
      fun r hr => writeRun_outside _ _ _ x hr, fun hp k j hk hj => ?_⟩
    · simp only [exec, execWiden, registerStep_issues h, widenEffect_eq]
      rw [nextPc, hpc]
    · obtain ⟨hreg, htag⟩ := writeRun_inside (plyDst w) (widened w x) (2 ^ (t - v)) x (by omega) (by omega) hk
      rw [hreg]
      exact ⟨htag, lane_widened hp x k hj⟩
  case narrow =>
    simp only [exec, execNarrow, registerStep_issues h, narrowEffect]
    exact congrArg (fun y => Host.Outcome.next (ran s c (nextPc y))) (writeLanes_eq x w (plyDst w) 1 _)
  case reduce =>
    intro op
    have hop : reduceOp (bits (plyFunctR w) 2 2) = op := congrArg reduceOp (bits_eq _ _ _)
    refine ⟨?_, fun hp hv hmode => ?_, fun hp hv hmode => ?_, fun hp hv hmode => ?_⟩
    · simp only [exec, execReduce, registerStep_issues h, reduceEffect, hop]
      rfl
    · rw [(treeInputs_modes hp x).1 hmode, hv]
    · rw [(treeInputs_modes hp x).2.1 hmode, hv]
    · rw [(treeInputs_modes hp x).2.2 hmode, hv]

end Sys2Proof.Machine
end

section
/-! SUPPORT. Tensor memory bit by bit: what an element reads after a store of that element and of another one, and after the
stores of a run of elements (R7, R50). -/

namespace Sys2Proof.Machine

open Sys2Proof.Safety

/-! ### Little-endian numbers -/

theorem testBit_bits (v lo n k : Nat) : (bits v lo n).testBit k = (decide (k < n) && v.testBit (lo + k)) := by
  rw [bits, Nat.testBit_mod_two_pow, Nat.testBit_shiftRight]

theorem leNat_eq (bs : List Byte) : leNat bs = packed 8 (bs.map BitVec.toNat) := by
  induction bs with
  | nil => rfl
  | cons b bs ih =>
    rw [leNat, ih, List.map_cons, packed, Nat.mod_eq_of_lt b.isLt]
    exact Nat.add_comm _ _

theorem testBit_leNat (bs : List Byte) (k : Nat) : (leNat bs).testBit k = (nth bs (k / 8) 0).getLsbD (k % 8) := by
  have hbyte : nth (bs.map BitVec.toNat) (k / 8) 0 = (nth bs (k / 8) 0).toNat := nth_map BitVec.toNat bs _ 0
  rw [leNat_eq, testBit_packed (by decide), hbyte]
  rfl

theorem nth_leBytes (n v : Nat) {k : Nat} (h : k < n) : nth (leBytes n v) k 0 = BitVec.ofNat 8 (v >>> (8 * k)) := by
  induction n generalizing v k with
  | zero => exact absurd h (Nat.not_lt_zero k)
  | succ n ih =>
    cases k with
    | zero => rfl
    | succ k => rw [leBytes, nth_cons_succ, ih _ (by omega), ← Nat.shiftRight_add, Nat.mul_succ, Nat.add_comm]

theorem nth_memReads (m : Mem) (a n : Nat) {k : Nat} (h : k < n) : nth (memReads m a n) k 0 = memRead m (a + k) := by
  induction n generalizing a k with
  | zero => exact absurd h (Nat.not_lt_zero k)
  | succ n ih =>
    cases k with
    | zero => rfl
    | succ k => rw [memReads, nth_cons_succ, ih _ (by omega), Nat.add_right_comm, Nat.add_assoc]

/-! ### Memory by bits -/

/-- Bit `q` of little-endian memory. -/
def memBit (m : Mem) (q : Nat) : Bool := (memRead m (q / 8)).getLsbD (q % 8)

theorem memRead_of_memBit {m m' : Mem} {a : Nat} (h : ∀ k, k < 8 → memBit m (8 * a + k) = memBit m' (8 * a + k)) :
    memRead m a = memRead m' a := by
  refine BitVec.eq_of_getLsbD_eq fun k hk => ?_
  have hbit := h k hk
  rw [memBit, memBit, Nat.mul_add_div (by decide), Nat.mul_add_mod, Nat.div_eq_of_lt hk, Nat.mod_eq_of_lt hk] at hbit
  exact hbit

theorem testBit_memNat (m : Mem) (a n : Nat) {k : Nat} (h : k < 8 * n) : (memNat m a n).testBit k = memBit m (8 * a + k) := by
  rw [memNat, testBit_leNat, nth_memReads m a n (by omega), memBit, Nat.mul_add_div (by decide), Nat.mul_add_mod]

theorem testBit_readBits (m : Mem) (p w k : Nat) : (readBits m p w).testBit k = (decide (k < w) && memBit m (p + k)) := by
  rw [readBits, testBit_bits]
  rcases Nat.lt_or_ge k w with hk | hk
  · rw [testBit_memNat m _ _ (by omega), ← Nat.add_assoc, Nat.div_add_mod]
  · rw [decide_eq_false (Nat.not_lt.mpr hk), Bool.false_and, Bool.false_and]

/-- Replacing `w` bits of a number from bit `o` up. -/
theorem testBit_splice (old o w v k : Nat) : (old - bits old o w * 2 ^ o + v % 2 ^ w * 2 ^ o).testBit k =
    if o ≤ k ∧ k < o + w then v.testBit (k - o) else old.testBit k := by
  have hparts : old = 2 ^ o * (2 ^ w * (old / 2 ^ o / 2 ^ w) + bits old o w) + old % 2 ^ o := by
    rw [bits_eq, Nat.div_add_mod, Nat.div_add_mod]
  have hnew : old - bits old o w * 2 ^ o + v % 2 ^ w * 2 ^ o = 2 ^ o * (2 ^ w * (old / 2 ^ o / 2 ^ w) + v % 2 ^ w) + old % 2 ^ o := by
    have hold : old = bits old o w * 2 ^ o + (2 ^ o * (2 ^ w * (old / 2 ^ o / 2 ^ w)) + old % 2 ^ o) := by
      calc old = 2 ^ o * (2 ^ w * (old / 2 ^ o / 2 ^ w) + bits old o w) + old % 2 ^ o := hparts
        _ = _ := by rw [Nat.mul_add]; ac_rfl
    calc old - bits old o w * 2 ^ o + v % 2 ^ w * 2 ^ o
        = (2 ^ o * (2 ^ w * (old / 2 ^ o / 2 ^ w)) + old % 2 ^ o) + v % 2 ^ w * 2 ^ o := by
          congr 1
          exact Nat.sub_eq_of_eq_add' hold
      _ = _ := by rw [Nat.mul_add (2 ^ o)]; ac_rfl
  have hlow : old % 2 ^ o < 2 ^ o := Nat.mod_lt _ (Nat.two_pow_pos o)
  have hmid : bits old o w < 2 ^ w := Nat.mod_lt _ (Nat.two_pow_pos w)
  have hval : v % 2 ^ w < 2 ^ w := Nat.mod_lt _ (Nat.two_pow_pos w)
  have hbit := congrArg (Nat.testBit · k) hparts
  rw [Nat.testBit_two_pow_mul_add _ hlow, Nat.testBit_two_pow_mul_add _ hmid] at hbit
  rw [hnew, Nat.testBit_two_pow_mul_add _ hlow, Nat.testBit_two_pow_mul_add _ hval, hbit]
  rcases Nat.lt_or_ge k o with hk | hk
  · rw [if_pos hk, if_pos hk, if_neg (by omega)]
  · rw [if_neg (Nat.not_lt.mpr hk), if_neg (Nat.not_lt.mpr hk)]
    rcases Nat.lt_or_ge (k - o) w with hw | hw
    · rw [if_pos hw, if_pos ⟨hk, by omega⟩, Nat.testBit_mod_two_pow, decide_eq_true hw, Bool.true_and]
    · rw [if_neg (Nat.not_lt.mpr hw), if_neg (Nat.not_lt.mpr hw), if_neg (by omega)]

theorem memBit_writeBits {m : Mem} (hwf : memWf m = true) (p w v q : Nat) :
    memBit (writeBits m p w v) q = if p ≤ q ∧ q < p + w then v.testBit (q - p) else memBit m q := by
  have hlength : (leBytes (w / 8 + 2) (memNat m (p / 8) (w / 8 + 2) - bits (memNat m (p / 8) (w / 8 + 2)) (p % 8) w * 2 ^ (p % 8) +
      v % 2 ^ w * 2 ^ (p % 8))).length = w / 8 + 2 := leBytes_length _ _
  rw [memBit, writeBits, memRead_memWrites _ _ _ _ hwf, hlength]
  split
  next h =>
    have hbyte (bs : List Byte) (k : Nat) : bs.getD k 0 = nth bs k 0 := rfl
    have hk : q / 8 - p / 8 < w / 8 + 2 := by omega
    have hq : 8 * (q / 8 - p / 8) + q % 8 = q - 8 * (p / 8) := by omega
    rw [hbyte, nth_leBytes _ _ hk, BitVec.getLsbD_ofNat, decide_eq_true (Nat.mod_lt _ (by decide)), Bool.true_and,
      Nat.testBit_shiftRight, hq, testBit_splice, testBit_memNat _ _ _ (by omega)]
    have hback : 8 * (p / 8) + (q - 8 * (p / 8)) = q := by omega
    have hoff : q - 8 * (p / 8) - p % 8 = q - p := by omega
    rw [hback, hoff]
    exact ite_of_iff (by omega) _ _
  next h => rw [if_neg (by omega), memBit]

/-! ### Elements -/

theorem testBit_readElem (m : Mem) (f i k : Nat) :
    (readElem m f i).testBit k = (decide (k < elemWidth f) && memBit m (i * elemWidth f + k)) := testBit_readBits _ _ _ _

theorem memBit_writeElem {m : Mem} (hwf : memWf m = true) (f i v q : Nat) : memBit (writeElem m f i v) q =
    if i * elemWidth f ≤ q ∧ q < i * elemWidth f + elemWidth f then v.testBit (q - i * elemWidth f) else memBit m q :=
  memBit_writeBits hwf _ _ _ _

theorem readElem_writeElem {m : Mem} (hwf : memWf m = true) (f i v : Nat) :
    readElem (writeElem m f i v) f i = v % 2 ^ elemWidth f := by
  refine Nat.eq_of_testBit_eq fun k => ?_
  rw [testBit_readElem, memBit_writeElem hwf, Nat.testBit_mod_two_pow]
  rcases Nat.lt_or_ge k (elemWidth f) with hk | hk
  · rw [if_pos (by omega), Nat.add_sub_cancel_left]
  · rw [decide_eq_false (Nat.not_lt.mpr hk), Bool.false_and, Bool.false_and]

/-- The bits of two elements lie apart. -/
theorem elem_apart {i e k w : Nat} (h : e ≠ i) (hk : k < w) : ¬ (i * w ≤ e * w + k ∧ e * w + k < i * w + w) := by
  rcases Nat.lt_or_gt_of_ne h with hlt | hgt
  · have hle : (e + 1) * w ≤ i * w := Nat.mul_le_mul_right w hlt
    rw [Nat.succ_mul] at hle
    omega
  · have hle : (i + 1) * w ≤ e * w := Nat.mul_le_mul_right w hgt
    rw [Nat.succ_mul] at hle
    omega

theorem readElem_writeElem_ne {m : Mem} (hwf : memWf m = true) (f v : Nat) {i e : Nat} (h : e ≠ i) :
    readElem (writeElem m f i v) f e = readElem m f e := by
  refine Nat.eq_of_testBit_eq fun k => ?_
  rw [testBit_readElem, testBit_readElem, memBit_writeElem hwf]
  rcases Nat.lt_or_ge k (elemWidth f) with hk | hk
  · rw [if_neg (elem_apart h hk)]
  · rw [decide_eq_false (Nat.not_lt.mpr hk), Bool.false_and, Bool.false_and]

theorem readElem_lt (m : Mem) (f i : Nat) : readElem m f i < 2 ^ elemWidth f := Nat.mod_lt _ (Nat.two_pow_pos _)

/-- A byte with no bit of an element keeps its value. -/
theorem memRead_writeElem {m : Mem} (hwf : memWf m = true) (f i v : Nat) {a : Nat}
    (h : 8 * (a + 1) ≤ i * elemWidth f ∨ i * elemWidth f + elemWidth f ≤ 8 * a) : memRead (writeElem m f i v) a = memRead m a := by
  refine memRead_of_memBit fun k hk => ?_
  rw [memBit_writeElem hwf, if_neg (by omega)]

/-! ### A run of elements -/

/-- The elements of a run written where a condition holds. -/
def writeWhere (f base : Nat) (writes : Nat → Bool) (value : Nat → Nat) (l : List Nat) (m : Mem) : Mem :=
  l.foldl (fun m j => if writes j then writeElem m f (base + j) (value j) else m) m

/-- An element after a run: what the run wrote there, else as before. -/
theorem readElem_writeWhere (f base : Nat) (writes : Nat → Bool) (value : Nat → Nat) (l : List Nat) {m : Mem} (hwf : memWf m = true)
    (e : Nat) : readElem (writeWhere f base writes value l m) f e =
      if base ≤ e ∧ e - base ∈ l ∧ writes (e - base) = true then value (e - base) % 2 ^ elemWidth f else readElem m f e := by
  induction l generalizing m with
  | nil => rw [if_neg (fun h => List.not_mem_nil h.2.1), writeWhere, List.foldl_nil]
  | cons j l ih =>
    have hcons : writeWhere f base writes value (j :: l) m =
        writeWhere f base writes value l (if writes j then writeElem m f (base + j) (value j) else m) := rfl
    rw [hcons]
    cases hj : writes j with
    | false =>
      rw [if_neg Bool.false_ne_true, ih hwf]
      refine ite_of_iff ⟨fun ⟨hle, hmem, hw⟩ => ⟨hle, List.mem_cons_of_mem _ hmem, hw⟩, fun ⟨hle, hmem, hw⟩ => ⟨hle, ?_, hw⟩⟩ _ _
      rcases List.mem_cons.mp hmem with heq | hmem
      · rw [heq, hj] at hw
        exact absurd hw Bool.false_ne_true
      · exact hmem
    | true =>
      rw [if_pos rfl, ih (memWf_writeElem _ _ _ _ hwf)]
      by_cases hlater : base ≤ e ∧ e - base ∈ l ∧ writes (e - base) = true
      · rw [if_pos hlater, if_pos ⟨hlater.1, List.mem_cons_of_mem _ hlater.2.1, hlater.2.2⟩]
      · rw [if_neg hlater]
        by_cases he : e = base + j
        · rw [he, Nat.add_sub_cancel_left, readElem_writeElem hwf, if_pos ⟨Nat.le_add_right _ _, List.mem_cons_self, hj⟩]
        · rw [readElem_writeElem_ne hwf _ _ he, if_neg]
          rintro ⟨hle, hmem, hw⟩
          rcases List.mem_cons.mp hmem with heq | hmem
          · omega
          · exact hlater ⟨hle, hmem, hw⟩

/-- A byte outside every element of a run keeps its value. -/
theorem memRead_writeWhere (f base : Nat) (writes : Nat → Bool) (value : Nat → Nat) (l : List Nat) {m : Mem} (hwf : memWf m = true)
    {a : Nat} (h : ∀ j ∈ l, 8 * (a + 1) ≤ (base + j) * elemWidth f ∨ (base + j) * elemWidth f + elemWidth f ≤ 8 * a) :
    memRead (writeWhere f base writes value l m) a = memRead m a := by
  induction l generalizing m with
  | nil => rfl
  | cons j l ih =>
    have hcons : writeWhere f base writes value (j :: l) m =
        writeWhere f base writes value l (if writes j then writeElem m f (base + j) (value j) else m) := rfl
    rw [hcons]
    obtain ⟨hj, hl⟩ := List.forall_mem_cons.mp h
    cases writes j with
    | false => exact ih hwf hl
    | true => exact (ih (memWf_writeElem _ _ _ _ hwf) hl).trans (memRead_writeElem hwf f _ _ hj)

theorem plainFormat {f : Nat} (h : f = 4 ∨ f = 5 ∨ f = 6) : isBlocked f = false := by
  rcases h with rfl | rfl | rfl <;> rfl

/-! ### Tensors -/

theorem tensorMem_setTensor (s : State) (id : Nat) (m : Mem) : tensorMem (setTensor s id m) id = m := by
  rw [tensorMem, setTensor, State.setTensors_tensors, aGet_aPut, Option.getD_some]

theorem tensorMem_setTensor_ne {id e : Nat} (h : e ≠ id) (s : State) (m : Mem) : tensorMem (setTensor s id m) e = tensorMem s e := by
  rw [tensorMem, setTensor, State.setTensors_tensors, aGet_aPut_ne h]
  rfl

end Sys2Proof.Machine
end

section
/-! SUPPORT. Engine queues (O57): what an offer and an acceptance do, what a move copies, and how the command at the front
completes. -/

namespace Sys2Proof.Machine

open Sys2Proof.Safety

/-! ### Offers -/

theorem queueAt_setCtx (s : State) (c : CtxId) (x : Context) (q : QueueId) : queueAt (setCtx s c x) q = queueAt s q := rfl

theorem queueAt_setQueue_ne {p q : QueueId} (h : p ≠ q) (s : State) (v : Queue) : queueAt (setQueue s q v) p = queueAt s p := by
  rw [queueAt, setQueue, State.setSpindles_spindles, aGet_aPut_ne h]
  rfl

/-- With no break slot armed none fires. -/
theorem firing_idle {s : State} (h : s.spindles.breaks.all Option.isNone = true) (q : QueueId) (count tag : Nat) :
    firing s q count tag = [] := by
  rw [firing, List.filterMap_eq_nil_iff]
  rintro ⟨b, n⟩ hb
  have hnone := List.all_eq_true.mp h b (List.fst_mem_of_mem_zipIdx hb)
  rw [Option.isNone_iff_eq_none.mp hnone]

/-- An acceptance with no break slot armed. -/
theorem acceptCommand_idle {s : State} (h : s.spindles.breaks.all Option.isNone = true) (q : QueueId) {cmd : QCmd} (hcmd : cmd.held = false) :
    ∃ breaks, acceptCommand s q cmd = (setQueue s q { queueAt s q with cmds := (queueAt s q).cmds ++ [cmd], count := (queueAt s q).count + 1 }).setSpindles
      { (setQueue s q { queueAt s q with cmds := (queueAt s q).cmds ++ [cmd], count := (queueAt s q).count + 1 }).spindles with
        breaks := breaks } := by
  have hfree : ({ cmd with held := false } : QCmd) = cmd := by rw [← hcmd]
  refine ⟨s.spindles.breaks.zipIdx.map (fun b => if ([] : List Nat).contains b.2 then none else b.1), ?_⟩
  rw [acceptCommand]
  simp only [firing_idle h, List.isEmpty_nil, Bool.not_true, hfree, List.foldl_nil, Bool.or_false]
  rfl

/-- What an offer does: it waits behind a full queue or an earlier offer, or it is accepted. -/
theorem offerCommand_cases (s : State) (c : CtxId) (x : Context) (kind : QueueKind) (cmd : QCmd) :
    let q : QueueId := { die := c.die, spindle := c.spindle, kind := kind }
    (queueDepth kind ≤ (queueAt s q).cmds.length ∨ (queueAt s q).offers ≠ [] → offerCommand s c x kind cmd =
      setQueue (setCtx s c { x with state := .stalled, heldCmd := some cmd }) q { queueAt s q with offers := (queueAt s q).offers ++ [c] }) ∧
    ((queueAt s q).cmds.length < queueDepth kind → (queueAt s q).offers = [] →
      offerCommand s c x kind cmd = acceptCommand (setCtx s c x) q cmd) := by
  refine ⟨fun hfull => if_pos hfull, fun hroom hfirst => if_neg ?_⟩
  rintro (hfull | hoffers)
  · exact absurd hroom (Nat.not_lt.mpr hfull)
  · exact hoffers hfirst

/-- What a queue looks like after an acceptance, no break slot armed. -/
theorem acceptCommand_leaves {s : State} (h : s.spindles.breaks.all Option.isNone = true) (c : CtxId) (x : Context) (q : QueueId)
    {cmd : QCmd} (hcmd : cmd.held = false) :
    let taken := acceptCommand (setCtx s c x) q cmd
    (queueAt taken q).cmds = (queueAt s q).cmds ++ [cmd] ∧ (queueAt taken q).count = (queueAt s q).count + 1 ∧
    SameBut [.spindles] s taken ∧ ∀ p, p ≠ q → queueAt taken p = queueAt s p := by
  have hbreaks : (setCtx s c x).spindles.breaks.all Option.isNone = true := h
  obtain ⟨breaks, htaken⟩ := acceptCommand_idle hbreaks q hcmd
  intro taken
  have hqueue (p : QueueId) : queueAt taken p = queueAt (setQueue (setCtx s c x) q
      { queueAt s q with cmds := (queueAt s q).cmds ++ [cmd], count := (queueAt s q).count + 1 }) p := by
    rw [show taken = _ from htaken]
    rfl
  refine ⟨?_, ?_, ?_, fun p hp => ?_⟩
  · rw [hqueue, queueAt_setQueue]
  · rw [hqueue, queueAt_setQueue]
  · refine sameBut_of_forget [11] [.spindles] s taken ?_ (by decide)
    rw [show taken = _ from htaken]
    exact ((forget_setSpindles [11] (by decide) _ _ (.inr rfl)).trans (forget_setQueue [11] (by decide) _ _ _)).trans
      (forget_setCtx [11] (by decide) _ _ _)
  · rw [hqueue, queueAt_setQueue_ne hp, queueAt_setCtx]

/-- An engine instruction offers its command. -/
theorem engine_offers {s : State} {c : CtxId} {w : Word} {x : Context} {img : Image} {i : Instr} {kind : QueueKind} {body : CmdBody}
    (hexec : exec i s = .next (markIssued (offerCommand s c (nextPc x) kind (queuedCommand s c w x img body)) c)) :
    let q : QueueId := { die := c.die, spindle := c.spindle, kind := kind }
    let cmd := queuedCommand s c w x img body
    let taken := acceptCommand (setCtx s c { x with pc := x.pc + 1 }) q cmd
    (queueDepth kind ≤ (queueAt s q).cmds.length ∨ (queueAt s q).offers ≠ [] → exec i s = .next (markIssued (setQueue (setCtx s c { x with
      pc := x.pc + 1, state := .stalled, heldCmd := some cmd }) q { queueAt s q with offers := (queueAt s q).offers ++ [c] }) c)) ∧
    ((queueAt s q).cmds.length < queueDepth kind → (queueAt s q).offers = [] → exec i s = .next (markIssued taken c) ∧
      (s.spindles.breaks.all Option.isNone = true →
        (queueAt taken q).cmds = (queueAt s q).cmds ++ [cmd] ∧ (queueAt taken q).count = (queueAt s q).count + 1 ∧
        SameBut [.spindles] s taken ∧ ∀ p, p ≠ q → queueAt taken p = queueAt s p)) := by
  intro q cmd taken
  obtain ⟨hwaits, haccepts⟩ := offerCommand_cases s c (nextPc x) kind cmd
  refine ⟨fun hfull => ?_, fun hroom hfirst => ⟨?_, fun hbreaks => acceptCommand_leaves hbreaks c _ q rfl⟩⟩
  · exact hexec.trans (congrArg (fun u => Host.Outcome.next (markIssued u c)) (hwaits hfull))
  · exact hexec.trans (congrArg (fun u => Host.Outcome.next (markIssued u c)) (haccepts hroom hfirst))

/-- A queue looked at for the first offer that waits. -/
theorem queueAccept_runs {s : State} {q : QueueId} {d : CtxId} {y : Context} {cmd : QCmd} {later : List CtxId}
    (hoffers : (queueAt s q).offers = d :: later) (hy : ctxAt s d = some y) (hstate : y.state = .stalled) (hheld : y.heldCmd = some cmd)
    (hkind : cmdQueue cmd = q.kind) (hdie : d.die = q.die) (hspindle : d.spindle = q.spindle) :
    exec (.queueAccept q) s = if !s.running || queueDepth q.kind ≤ (queueAt s q).cmds.length then .next s
      else .next (acceptCommand (setQueue (setCtx s d { y with state := .running, heldCmd := none }) q
        { queueAt s q with offers := later }) q cmd) := by
  have hstalled : stalledFor s q (queueAt s q).offers = some (d, y, cmd, later) := by
    simp only [hoffers, stalledFor, hy, hheld]
    exact if_pos ⟨hstate, hkind, hdie, hspindle⟩
  simp only [exec, execQueueAccept, hstalled]

/-! ### Moves -/

/-- What a move of a tensor without scale bytes leaves in its destination. -/
def movedMem (s : State) (k : QCmd) (md : MoveD) : Mem :=
  writeWhere (tensorAt k.ply md.dst).format k.arg2 (fun j => inRange k.ranges 2 md.dst (k.arg2 + j))
    (fun j => if inRange k.ranges 1 md.src (k.arg1 + j) then
      readElem (cmdTensor s k (tensorAt k.ply md.src)) (tensorAt k.ply md.src).format (k.arg1 + j) else 0)
    (List.range md.elements) (tensorMem s (tensorAt k.ply md.dst).id)

theorem runMove_plain (s : State) (k : QCmd) {slot : Nat}
    (h : isBlocked (tensorAt k.ply (nth k.ply.moves slot default).src).format = false) :
    ∃ n, runMove s k slot = countOutOfFootprint
      (setTensor s (tensorAt k.ply (nth k.ply.moves slot default).dst).id (movedMem s k (nth k.ply.moves slot default))) n := by
  refine ⟨if (List.range (nth k.ply.moves slot default).elements).any (fun j =>
    !inRange k.ranges 1 (nth k.ply.moves slot default).src (k.arg1 + j) || !inRange k.ranges 2 (nth k.ply.moves slot default).dst (k.arg2 + j))
    then 1 else 0, ?_⟩
  simp only [runMove, h, Bool.false_and, Bool.false_eq_true, if_false]
  rfl

/-- A move copies its elements through the footprints and changes nothing else (R224). -/
theorem runMove_copies {s : State} (hmem : memoriesOk s = true) (k : QCmd) (slot : Nat)
    (hformat : (tensorAt k.ply (nth k.ply.moves slot default).src).format = 4 ∨
      (tensorAt k.ply (nth k.ply.moves slot default).src).format = 5 ∨ (tensorAt k.ply (nth k.ply.moves slot default).src).format = 6)
    (hsame : (tensorAt k.ply (nth k.ply.moves slot default).dst).format = (tensorAt k.ply (nth k.ply.moves slot default).src).format) :
    let md := nth k.ply.moves slot default
    let a := tensorAt k.ply md.src
    let b := tensorAt k.ply md.dst
    let m := tensorMem (runMove s k slot) b.id
    (∀ j, j < md.elements → inRange k.ranges 2 md.dst (k.arg2 + j) = true → readElem m b.format (k.arg2 + j) =
      if inRange k.ranges 1 md.src (k.arg1 + j) then readElem (cmdTensor s k a) a.format (k.arg1 + j) else 0) ∧
    (∀ e, (e < k.arg2 ∨ k.arg2 + md.elements ≤ e ∨ inRange k.ranges 2 md.dst e = false) →
      readElem m b.format e = readElem (tensorMem s b.id) b.format e) ∧
    (∀ id, id ≠ b.id → tensorMem (runMove s k slot) id = tensorMem s id) := by
  obtain ⟨n, hmove⟩ := runMove_plain s k (plainFormat hformat)
  intro md a b m
  have hread (e : Nat) := readElem_writeWhere b.format k.arg2 (fun j => inRange k.ranges 2 md.dst (k.arg2 + j))
    (fun j => if inRange k.ranges 1 md.src (k.arg1 + j) then readElem (cmdTensor s k a) a.format (k.arg1 + j) else 0)
    (List.range md.elements) (memWf_tensorMem s b.id hmem) e
  have hm : m = movedMem s k md := by
    rw [show m = _ from congrArg (tensorMem · b.id) hmove]
    exact tensorMem_setTensor s b.id _
  rw [hm]
  refine ⟨fun j hj hin => ?_, fun e he => ?_, fun id hid => ?_⟩
  · refine (hread _).trans ?_
    rw [Nat.add_sub_cancel_left, if_pos ⟨Nat.le_add_right _ _, List.mem_range.mpr hj, hin⟩, Nat.mod_eq_of_lt]
    rw [show elemWidth b.format = elemWidth a.format from congrArg elemWidth hsame]
    split
    · exact readElem_lt _ _ _
    · exact Nat.two_pow_pos _
  · refine (hread e).trans (if_neg ?_)
    rintro ⟨hle, hmem, hin⟩
    rw [Nat.add_sub_cancel' hle] at hin
    rcases he with hlt | hge | hout
    · omega
    · rw [List.mem_range] at hmem
      omega
    · rw [hin] at hout
      exact absurd hout.symm Bool.false_ne_true
  · rw [hmove]
    exact tensorMem_setTensor_ne hid s _

/-! ### Completion -/

/-- The command at the front leaves the queue, signals, and lets held retirements go. -/
def leaveQueue (q : QueueId) (k : QCmd) (rest : List QCmd) (u : State) : State :=
  releaseHeld (progress (signalBy (setQueue u q { queueAt u q with cmds := rest }) k.owner k.counter)) q

/-- The command at the front, looked at. -/
theorem queueCommandComplete_runs {s : State} {q : QueueId} {k : QCmd} {rest : List QCmd} (hcmds : (queueAt s q).cmds = k :: rest)
    (hrun : s.running = true) :
    (k.held = true ∨ testDue s q k = true → exec (.queueCommandComplete q) s = .next s) ∧
    (k.held = false → testDue s q k = false →
      (∀ slot, k.body = .move slot → exec (.queueCommandComplete q) s = .next (leaveQueue q k rest (runMove s k slot))) ∧
      (∀ slot, k.body = .product slot → exec (.queueCommandComplete q) s =
        if (nth k.ply.products slot default).arrangement = 2 then
          (if (productBands k (nth k.ply.products slot default)).all (bandDrained k (nth k.ply.products slot default).outpos) then
            .next (leaveQueue q k rest s) else .next s)
        else .next (leaveQueue q k rest (runProduct s q k slot)))) := by
  refine ⟨fun hwaits => ?_, fun hfree htested => ?_⟩
  · simp only [exec, execQueueCommandComplete, hcmds]
    refine if_pos ?_
    rcases hwaits with h | h <;> simp [h]
  · have hgo : (!s.running || k.held || testDue s q k) = false := by rw [hrun, hfree, htested]; rfl
    refine ⟨fun slot hbody => ?_, fun slot hbody => ?_⟩
    · simp only [exec, execQueueCommandComplete, hcmds, hgo, hbody, leaveQueue, Bool.false_eq_true, if_false]
    · simp only [exec, execQueueCommandComplete, hcmds, hgo, hbody, leaveQueue, Bool.false_eq_true, if_false]

/-- Settles O57: offers, acceptance, moves and completions. -/
theorem queuesAcceptAndComplete : Obligations.QueuesAcceptAndComplete := by
  refine ⟨fun s c w x img => ?offers, fun s q k rest hcmds hrun => ?completes⟩
  case offers =>
    intro command offers
    refine ⟨fun h => ?tmove, fun h => ?product, fun q d y cmd later hrun hoffers hy hstate hheld hkind hdie hspindle => ?accept⟩
    case tmove =>
      have hexec : exec (.tmove c w) s = .next (markIssued (offerCommand s c (nextPc x) .move
          (queuedCommand s c w x img (.move (plySlot w)))) c) := by
        simp only [exec, execTmove, plyStep_issues h]
      exact engine_offers hexec
    case product =>
      have hexec : exec (.product c w) s = .next (markIssued (offerCommand s c (nextPc x) .array
          (queuedCommand s c w x img (.product (plySlot w)))) c) := by
        simp only [exec, execProduct, plyStep_issues h]
      exact engine_offers hexec
    case accept =>
      have haccept := queueAccept_runs hoffers hy hstate hheld hkind hdie hspindle
      exact ⟨fun hfull => haccept.trans (if_pos (by simp [hfull])), fun hroom => haccept.trans (if_neg (by simp [hrun, hroom]))⟩
  case completes =>
    intro leave
    have hleave (u : State) : .next (leaveQueue q k rest u) = leave u := rfl
    obtain ⟨hwaits, hruns⟩ := queueCommandComplete_runs hcmds hrun
    refine ⟨hwaits, fun hfree htested => ?_, fun hmem slot => ?_⟩
    · obtain ⟨hmove, hproduct⟩ := hruns hfree htested
      refine ⟨fun slot hbody => (hmove slot hbody).trans (hleave _), fun slot hbody => ?_⟩
      intro p
      refine ⟨fun hother => ((hproduct slot hbody).trans (if_neg hother)).trans (hleave _), fun hgradient hdrained => ?_, fun hgradient hopen => ?_⟩
      · exact ((hproduct slot hbody).trans ((if_pos hgradient).trans (if_pos (List.all_eq_true.mpr hdrained)))).trans (hleave _)
      · refine (hproduct slot hbody).trans ((if_pos hgradient).trans (if_neg fun hall => ?_))
        obtain ⟨b, hb, hno⟩ := hopen
        exact Bool.false_ne_true (hno.symm.trans (List.all_eq_true.mp hall b hb))
    · intro md a b m hformat hsame _
      exact runMove_copies hmem k slot hformat hsame

end Sys2Proof.Machine
end

section
/-! SUPPORT. Vertices and update kernels (O60): where a ready vertex starts and on what context, a batch of units, and a
retirement. -/

namespace Sys2Proof.Machine

open Sys2Proof.Safety

/-! ### Places -/

theorem lowestFree_place {s : State} {die sp : Nat} {c : CtxId} (h : lowestFree s die sp = some c) : c.die = die ∧ c.spindle = sp := by
  obtain ⟨k, _, rfl⟩ := Option.map_eq_some_iff.mp h
  exact ⟨rfl, rfl⟩

/-- The context that the rule gives is one that the vertex fits on (R263). -/
theorem placeVertex_fits {s : State} {die fn : Nat} {m : PlyModule} {group : List Nat} {inst : InstRef} {c : CtxId}
    (h : placeVertex s die m fn group inst = some c) :
    c.die = die ∧ c.spindle < 64 ∧ spindleFits s c.die c.spindle m fn group inst = true ∧ lowestFree s c.die c.spindle = some c := by
  obtain ⟨sp, hsp, hfree⟩ := Option.bind_eq_some_iff.mp h
  obtain ⟨hdie, hspindle⟩ := lowestFree_place hfree
  obtain ⟨hrange, hfits⟩ := List.mem_filter.mp (List.mem_of_find?_eq_some hsp)
  rw [hdie, hspindle]
  exact ⟨rfl, List.mem_range.mp hrange, hfits, hfree⟩

theorem placeFits_of_placeVertex {s : State} {die fn : Nat} {m : PlyModule} {group : List Nat} {inst : InstRef} {c : CtxId}
    (h : placeVertex s die m fn group inst = some c) : placeFits s m fn group inst c = true := by
  obtain ⟨_, hspindle, hfits, hfree⟩ := placeVertex_fits h
  rw [placeFits, hfits, hfree, decide_eq_true hspindle, beq_self_eq_true]
  rfl

/-- A spindle that a function fits on has room for its scratch. -/
theorem spindleFits_scratch {s : State} {die sp fn : Nat} {m : PlyModule} {group : List Nat} {inst : InstRef}
    (h : spindleFits s die sp m fn group inst = true) : ∃ a, scratchPlace s die sp (funcAt m fn).scratch = some a := by
  simp only [spindleFits, spindleServes, Bool.and_eq_true] at h
  obtain ⟨_, ⟨hscratch, _⟩, _⟩ := h
  exact Option.isSome_iff_exists.mp hscratch

theorem placesOk_single {s : State} {i : Inst} {l : Lattice} {v : Nat} {c : CtxId} {img : Image}
    (himg : currentImage s (vertexOf l v).program = some img)
    (hplace : placeVertex s c.die img.ply (vertexOf l v).function [v] i.ref = some c) : placesOk s c.die i l [v] [c] = true := by
  have hplaces : placesFor s c.die i l [v] [v] = some [c] := by
    simp only [placesFor, himg, hplace, Option.map_some]
  rw [placesOk, hplaces]
  exact beq_self_eq_true _

/-! ### Starting a vertex -/

/-- The context of a vertex that starts. -/
def dispatchedContext (s : State) (i : Inst) (l : Lattice) (v : Nat) (c : CtxId) (img : Image) : Context :=
  freshContext i.ref v img.slot (vertexOf l v).function (funcAt img.ply (vertexOf l v).function).codeFirst 0
    ((vertexOf l v).args.take (funcAt img.ply (vertexOf l v).function).argWords) [] (charged (vertexOf l v).estimate)
    ((scratchPlace s c.die c.spindle (funcAt img.ply (vertexOf l v).function).scratch).getD 0)

/-- The state once a vertex has started, before its step or evaluation notes it. -/
def dispatchedState (s : State) (i : Inst) (l : Lattice) (v : Nat) (c : CtxId) (img : Image) : State :=
  addBalance (startCtx (clearStale s l i v) c (dispatchedContext s i l v c img)) c.die (-(charged (vertexOf l v).estimate : Int))

theorem dispatchAll_single {s : State} {i : Inst} {l : Lattice} {v : Nat} {c : CtxId} {img : Image}
    (himg : currentImage s (vertexOf l v).program = some img)
    (hplace : placeVertex s c.die img.ply (vertexOf l v).function [v] i.ref = some c) :
    dispatchAll s i l [v] [v] [c] = some (dispatchedState s i l v c img) := by
  simp only [dispatchAll, himg, placeFits_of_placeVertex hplace, if_true]
  rfl

theorem clearStale_leaves (s : State) (l : Lattice) (i : Inst) (v : Nat) :
    (clearStale s l i v).spindles = s.spindles ∧ (clearStale s l i v).power = s.power :=
  have h := forget_clearStale [10] (by decide) s l i v
  ⟨spindles_of_forget h (by decide), power_of_forget h (by decide)⟩

theorem setInst_leaves (s : State) (x : Inst) : (setInst s x).spindles = s.spindles ∧ (setInst s x).power = s.power :=
  have h := forget_setInst [5] (by decide) s x
  ⟨spindles_of_forget h (by decide), power_of_forget h (by decide)⟩

theorem dispatchedState_leaves (s : State) (i : Inst) (l : Lattice) (v : Nat) (c : CtxId) (img : Image) :
    (dispatchedState s i l v c img).spindles = { s.spindles with
      contexts := aPut s.spindles.contexts c (dispatchedContext s i l v c img), idle := aDel s.spindles.idle c } ∧
    (dispatchedState s i l v c img).power.balance = modifyAt s.power.balance c.die (· - (charged (vertexOf l v).estimate : Int)) := by
  obtain ⟨hspindles, hpower⟩ := clearStale_leaves s l i v
  refine ⟨?_, ?_⟩
  · rw [dispatchedState, addBalance, State.setPower_spindles, startCtx, State.setSpindles_spindles, setCtx, State.setSpindles_spindles,
      hspindles]
  · rw [dispatchedState, addBalance, State.setPower_power, startCtx, State.setSpindles_power, setCtx, State.setSpindles_power, hpower]
    rfl

/-- What the graph unit of a die notes of a dispatch: the unit it holds, and what has passed that unit (R263). -/
def dispatchedPower (s t : State) (die : Nat) (i : InstRef) (v : Nat) : Power :=
  let home := readyOn s die
  let head := ((if home.isEmpty then (stealable s).take 1 else home).head?).bind (queueUnit s)
  let first := head == some (i, v)
  { t.power with
    heldFor := t.power.heldFor.set die (if first then none else head),
    passed := t.power.passed.set die (if first then 0 else passedBy s die head + 1),
    heldRounds := if first || nth s.power.heldFor die none != head then t.power.heldRounds.set die 0 else t.power.heldRounds }

/-- A unit of one vertex that the gate lets through starts. -/
theorem vertexDispatch_starts {s : State} {i : Inst} {l : Lattice} {v : Nat} {c : CtxId} {img : Image} (hrun : s.running = true)
    (hstopped : s.spindles.stopped = false) (hinst : instAt s i.ref = some i) (hlattice : instLattice s i.ref = some l)
    (hgroup : groupOf l v = [v]) (hready : vertexReady s i v = true) (hon : unitState s (dieUnit c.die) = .on)
    (hgate : energyGate s c.die (if (readyOn s c.die).isEmpty then (stealable s).take 1 else readyOn s c.die) i.ref [v] = true)
    (himg : currentImage s (vertexOf l v).program = some img)
    (hplace : placeVertex s c.die img.ply (vertexOf l v).function [v] i.ref = some c) :
    exec (.vertexDispatch i.ref [v] [c]) s =
      .next ((setInst (dispatchedState s i l v c img) { i with running := i.running ++ [v] }).setPower
        (dispatchedPower s (setInst (dispatchedState s i l v c img) { i with running := i.running ++ [v] }) c.die i.ref v)) := by
  have hgo : (!s.running || s.spindles.stopped || groupOf l v != [v] || !([v].all (vertexReady s i)) ||
      unitState s (dieUnit c.die) != .on ||
      !energyGate s c.die (if (readyOn s c.die).isEmpty then (stealable s).take 1 else readyOn s c.die) i.ref [v] ||
      !placesOk s c.die i l [v] [c]) = false := by
    rw [hrun, hstopped, hgroup, hgate, placesOk_single himg hplace, hon]
    simp [hready]
  simp only [exec, execVertexDispatch, hinst, hlattice, List.headD_cons, dispatchAll_single himg hplace]
  exact if_neg (Bool.eq_false_iff.mp hgo)

/-! ### Update kernels -/

/-- A batch of units of an update kernel that nothing holds back starts on the free context named. -/
theorem updateKernel_starts {s : State} {target : Nat} {units : List Nat} {c : CtxId} {k : Kernel} {img : Image} (hrun : s.running = true)
    (hkernel : kernelFor s target = some k) (himg : currentImage s k.program = some img) (hgate : updateGate s (s.steps.c + 1) = true)
    (hunits : units ≠ []) (hdistinct : allDistinct units = true) (htaken : ∀ u ∈ units, unitTaken s target u = false)
    (hrows : isTableTarget target = true → units.length ≤ 256 ∧
      ∀ u ∈ units, rowUnitReady s (s.steps.c + 1) (targetTable target) u = true)
    (hblocks : isTableTarget target = false → units.length ≤ 16 ∧
      ∃ d, parameterDecl s target = some d ∧ ∀ u ∈ units, blockUnitReady s (s.steps.c + 1) d u = true)
    (hon : unitState s (dieUnit c.die) = .on) (hfree : ctxFree s c = true) (hctx : c.ctx < 4) (hspindle : c.spindle < 64) (hdie : c.die < 40)
    (hfits : spindleFits s c.die c.spindle img.ply k.function [] (.step (s.steps.c + 1)) = true) :
    exec (.updateKernelInvocation target units c) s = .next (startCtx s c
      (freshContext (.step (s.steps.c + 1)) 0 img.slot k.function (funcAt img.ply k.function).codeFirst target [] units 0
        ((scratchPlace s c.die c.spindle (funcAt img.ply k.function).scratch).getD 0))) := by
  have htakenAny : units.any (unitTaken s target) = false := by
    rw [List.any_eq_false]
    exact fun u hu => by rw [htaken u hu]; exact Bool.false_ne_true
  have hempty : units.isEmpty = false := by rwa [← Bool.not_eq_true, List.isEmpty_iff]
  have hrest (ok : Bool) (hok : ok = true) : ¬ (!s.running || !updateGate s (s.steps.c + 1) || units.isEmpty || !allDistinct units || !ok ||
      units.any (unitTaken s target) || unitState s (dieUnit c.die) != .on || !ctxFree s c || 4 ≤ c.ctx || 64 ≤ c.spindle || 40 ≤ c.die ||
      !spindleFits s c.die c.spindle img.ply k.function [] (.step (s.steps.c + 1))) = true := by
    rw [hok, hrun, hgate, hempty, hdistinct, htakenAny, hon, hfree, hfits, decide_eq_false (Nat.not_le.mpr hctx), decide_eq_false (Nat.not_le.mpr hspindle),
      decide_eq_false (Nat.not_le.mpr hdie)]
    decide
  simp only [exec, execUpdateKernelInvocation, hkernel, himg]
  cases htable : isTableTarget target with
  | true =>
    obtain ⟨hlength, hready⟩ := hrows htable
    exact if_neg (hrest _ (by simp [hlength, List.all_eq_true.mpr hready]))
  | false =>
    obtain ⟨hlength, d, hdecl, hready⟩ := hblocks htable
    exact if_neg (hrest _ (by simp [hlength, hdecl, List.all_eq_true.mpr hready]))

/-! ### Retirement -/

theorem outstanding_iff (s : State) (c : CtxId) :
    outstanding s c = true ↔ ∃ q ∈ s.spindles.queues, ∃ k ∈ q.2.cmds, k.owner = c ∧ k.counter ≠ none := by
  simp [outstanding, Option.isSome_iff_ne_none]

/-- Settles O60: dispatch, invocations and retirements. -/
theorem verticesStartAndRetire : Obligations.VerticesStartAndRetire := by
  refine fun s => ⟨?dispatch, ?invocation, fun c w x img h => ⟨fun hheld => ?_, fun hgo htarget i hi => ?_, outstanding_iff s c⟩⟩
  case dispatch =>
    intro i l v c img hrun hstopped hinst hlattice hgroup hready hon home queue x hgate himg f hplace
    have hexec := vertexDispatch_starts hrun hstopped hinst hlattice hgroup hready hon hgate himg hplace
    obtain ⟨hspindles, hbalance⟩ := dispatchedState_leaves s i l v c img
    obtain ⟨hinstSpindles, hinstPower⟩ := setInst_leaves (dispatchedState s i l v c img) { i with running := i.running ++ [v] }
    obtain ⟨_, _, hfits, _⟩ := placeVertex_fits hplace
    obtain ⟨place, hscratch⟩ := spindleFits_scratch hfits
    have hfinal := hinstSpindles.trans hspindles
    refine ⟨_, dispatchedContext s i l v c img, hexec, exec_sameBut _ _ _ _ hexec rfl, ?_, rfl, rfl, rfl, rfl, rfl, rfl, rfl, rfl, rfl, rfl,
      ?_, ?_, fun e he => ?_, ?_, ?_⟩
    · rw [ctxAt, State.setPower_spindles, hfinal, aGet_aPut]
    · show _ = some ((scratchPlace s c.die c.spindle f.scratch).getD 0)
      rw [show scratchPlace s c.die c.spindle f.scratch = some place from hscratch, Option.getD_some]
    · rw [State.setPower_power, dispatchedPower, hinstPower]
      exact hbalance
    · rw [ctxAt, State.setPower_spindles, hfinal, aGet_aPut_ne he]
      rfl
    · rw [State.setPower_spindles, hfinal]
    · rw [State.setPower_spindles, hfinal]
  case invocation =>
    intro target units c k img hrun hkernel himg hgate hunits hdistinct htaken hrows hblocks hon hfree hctx hspindle hdie f hfits
    obtain ⟨place, hscratch⟩ := spindleFits_scratch hfits
    have hexec := updateKernel_starts hrun hkernel himg hgate hunits hdistinct htaken hrows hblocks hon hfree hctx hspindle hdie hfits
    rw [hscratch, Option.getD_some] at hexec
    exact ⟨place, hscratch, hexec⟩
  · simp only [exec, execRetire, plyStep_issues h, hheld, if_true]
  · have hkernel : (x.target != 0) = false := by simp [htarget]
    intro freed
    have hfreed : instAt freed x.inst = some i := hi
    have hstate : addBalance (s.setSpindles { s.spindles with
        contexts := aDel s.spindles.contexts c, idle := aPut s.spindles.idle c x }) c.die ((x.reserved : Int) - (x.metered : Int)) = freed := rfl
    simp only [exec, execRetire, plyStep_issues h, hgo, finishRetire, hkernel, hstate, hfreed, Bool.false_eq_true, if_false]

end Sys2Proof.Machine
end

section
/-! SUPPORT. Loads and stores through the footprints (O55): what TLOAD puts into its register, and what TSTORE writes, leaves and
counts. -/

namespace Sys2Proof.Machine

open Sys2Proof.Safety

/-! ### Loads -/

/-- Lane `j` of a load, mask bits aside: the element where its footprint gives it. -/
def loadedLane (s : State) (w : Word) (x : Context) (img : Image) (j : Nat) : Nat :=
  if (!isBlocked (tensorAt img.ply (plySlot w)).format || plyIndex x w % 16 == 0) &&
      inRange (ctxRanges s x img) 1 (plySlot w) (plyIndex x w + j) then
    loadCode (tensorAt img.ply (plySlot w)).format
      (readElem (ctxTensor s x (tensorAt img.ply (plySlot w))) (tensorAt img.ply (plySlot w)).format (plyIndex x w + j)) else 0

/-- The scale byte that a load gives group `g` of 16 lanes. -/
def loadedScale (s : State) (w : Word) (x : Context) (img : Image) (g : Nat) : Nat :=
  if (!isBlocked (tensorAt img.ply (plySlot w)).format || plyIndex x w % 16 == 0) && isBlocked (tensorAt img.ply (plySlot w)).format &&
      blockInRange (ctxRanges s x img) 1 (plySlot w) (tensorAt img.ply (plySlot w)).block (plyIndex x w + 16 * g) then
    readScale (ctxTensor s x (tensorAt img.ply (plySlot w))) (tensorAt img.ply (plySlot w)) (plyIndex x w + 16 * g) else 0

/-- A tag from the scale bytes of its four groups. -/
def tagOf (f : Nat → Nat) : Nat := (List.range 4).foldl (fun t g => t + f g <<< (8 * g)) 0

theorem tagByte_tagOf {f : Nat → Nat} (hf : ∀ g, f g < 256) {g : Nat} (hg : g < 4) : tagByte (BitVec.ofNat 32 (tagOf f)) (16 * g) = f g := by
  have hsum : tagOf f = f 0 + 256 * f 1 + 65536 * f 2 + 16777216 * f 3 := by
    show 0 + f 0 <<< 0 + f 1 <<< 8 + f 2 <<< 16 + f 3 <<< 24 = _
    rw [Nat.shiftLeft_eq, Nat.shiftLeft_eq, Nat.shiftLeft_eq, Nat.shiftLeft_eq]
    omega
  have h0 := hf 0
  have h1 := hf 1
  have h2 := hf 2
  have h3 := hf 3
  rw [tagByte, Nat.mul_div_cancel_left g (by decide), bits_eq, BitVec.toNat_ofNat, hsum]
  obtain rfl | rfl | rfl | rfl : g = 0 ∨ g = 1 ∨ g = 2 ∨ g = 3 := by omega
  all_goals omega

theorem readScale_lt (m : Mem) {d : TensorDecl} (h : isBlocked d.format = true) (i : Nat) : readScale m d i < 256 := by
  rw [readScale, if_pos h]
  exact BitVec.isLt _

theorem loadedScale_lt (s : State) (w : Word) (x : Context) (img : Image) (g : Nat) : loadedScale s w x img g < 256 := by
  rw [loadedScale]
  split
  next h =>
    simp only [Bool.and_eq_true] at h
    obtain ⟨⟨_, hblocked⟩, _⟩ := h
    exact readScale_lt _ hblocked _
  next => decide

/-- A selected lane of a load lies outside the footprints, or the load is not aligned. -/
def loadMisses (s : State) (w : Word) (x : Context) (img : Image) : Bool :=
  !(!isBlocked (tensorAt img.ply (plySlot w)).format || plyIndex x w % 16 == 0) ||
    (List.range (moveCount (tensorAt img.ply (plySlot w)).format)).any (fun j =>
      selected x w (plyView w) (laneOfElem (plyView w) (tensorAt img.ply (plySlot w)).format j) &&
        !inRange (ctxRanges s x img) 1 (plySlot w) (plyIndex x w + j))

/-- The lanes of a load. -/
def loadedLanes (s : State) (w : Word) (x : Context) (img : Image) : List Nat :=
  if (tensorAt img.ply (plySlot w)).format = 9 then
    lanesOf (plyView w) (BitVec.ofNat 512 ((List.range (moveCount (tensorAt img.ply (plySlot w)).format)).foldl
      (fun acc j => acc + loadedLane s w x img j <<< j) 0))
  else (List.range (moveCount (tensorAt img.ply (plySlot w)).format)).map (loadedLane s w x img)

/-- The context after a load, its place aside. -/
def loadedContext (s : State) (w : Word) (x : Context) (img : Image) : Context :=
  let y := writeLanes x w (plyDst w) (plyView w) (loadedLanes s w x img)
  setVreg y (plyDst w) (vreg y (plyDst w)) (if plyView w = 0 then BitVec.ofNat 32 (tagOf (loadedScale s w x img)) else 0)

theorem tload_runs {s : State} {c : CtxId} {w : Word} {x : Context} {img : Image} (h : Issues s c w 0x30 x img) :
    exec (.tload c w) s = .next (markIssued (countOutOfFootprint (setCtx s c (nextPc (loadedContext s w x img)))
      (if loadMisses s w x img then 1 else 0)) c) := by
  simp only [exec, execTload, plyStep_issues h]
  rfl

theorem loadedContext_frame (s : State) (w : Word) (x : Context) (img : Image) :
    loadedContext s w x img = { x with vregs := (loadedContext s w x img).vregs, tags := (loadedContext s w x img).tags } ∧
    ∀ r, r ≠ plyDst w → vreg (loadedContext s w x img) r = vreg x r ∧ vtag (loadedContext s w x img) r = vtag x r :=
  ⟨rfl, fun _ hr => ⟨(nth_set_ne hr.symm _ _ _).trans (nth_set_ne hr.symm _ _ _),
    (nth_set_ne hr.symm _ _ _).trans (nth_set_ne hr.symm _ _ _)⟩⟩

/-- A load that fills the lanes of its view. -/
theorem loadedContext_eq {s : State} {w : Word} {x : Context} {img : Image} (hbits : (tensorAt img.ply (plySlot w)).format ≠ 9)
    (hcount : moveCount (tensorAt img.ply (plySlot w)).format = laneCount (plyView w)) :
    loadedContext s w x img = lanesWritten x w (plyDst w) (plyView w) (loadedLane s w x img)
      (if plyView w = 0 then BitVec.ofNat 32 (tagOf (loadedScale s w x img)) else 0) := by
  rw [loadedContext, loadedLanes, if_neg hbits, hcount, writeLanes_eq]
  exact setVreg_lanesWritten _ _ _ _ _ _ _

theorem loadMisses_eq {s : State} {w : Word} {x : Context} {img : Image} (hbits : (tensorAt img.ply (plySlot w)).format ≠ 9)
    (hcount : moveCount (tensorAt img.ply (plySlot w)).format = laneCount (plyView w))
    (haligned : (!isBlocked (tensorAt img.ply (plySlot w)).format || plyIndex x w % 16 == 0) = true) :
    loadMisses s w x img = (List.range (laneCount (plyView w))).any (fun j => selected x w (plyView w) j &&
      !inRange (ctxRanges s x img) 1 (plySlot w) (plyIndex x w + j)) := by
  rw [loadMisses, haligned, hcount, Bool.not_true, Bool.false_or]
  simp only [laneOfElem, if_neg hbits]

/-- The views and formats of an element for a lane. -/
theorem plainLanes {v f : Nat} (h : v = 1 ∧ (f = 4 ∨ f = 5) ∨ v = 2 ∧ f = 6) :
    isBlocked f = false ∧ f ≠ 9 ∧ v ≠ 0 ∧ moveCount f = laneCount v ∧ elemWidth f = laneWidth v ∧ (∀ n, loadCode f n = n) ∧
      ∀ n, storeCode f n = n := by
  rcases h with ⟨rfl, rfl | rfl⟩ | ⟨rfl, rfl⟩
  all_goals exact ⟨rfl, by decide, by decide, rfl, rfl, fun _ => rfl, fun _ => rfl⟩

theorem moveCount_blocked {f : Nat} (h : isBlocked f = true) : f ≠ 9 ∧ moveCount f = laneCount 0 := by
  refine ⟨?_, if_pos h⟩
  rintro rfl
  exact absurd h (by decide)

/-! ### Stores to a unit -/

/-- What a selection outside the footprints counts. -/
theorem misses_filter (n : Nat) (picked inside : Nat → Bool) :
    (if ((List.range n).filter picked).any (fun j => !inside j) then 1 else 0) ≤ 1 ∧
    ((if ((List.range n).filter picked).any (fun j => !inside j) then 1 else 0) = 1 ↔ ∃ j, j < n ∧ picked j = true ∧ inside j = false) := by
  have hany : ((List.range n).filter picked).any (fun j => !inside j) = true ↔ ∃ j, j < n ∧ picked j = true ∧ inside j = false := by
    simp
  split
  next h => exact ⟨Nat.le_refl 1, fun _ => hany.mp h, fun _ => rfl⟩
  next h => exact ⟨Nat.zero_le 1, fun h' => absurd h' (by decide), fun hex => absurd (hany.mpr hex) h⟩

/-- The values that a store to a unit leaves waiting, with their place and purpose. -/
def stagedCells (x : Context) (w : Word) (rs : List (Nat × Nat × Nat × Nat)) (slot : Nat) (d : TensorDecl) (i : Nat) :
    List (Nat × Nat × Nat × Nat × List Word32) :=
  let view := plyView w
  let n := laneCount view
  let val (j : Nat) : Word32 :=
    BitVec.ofNat 32 (encodeRne singleF (elemValue (storeLaneFormat view d.format) (lane view (vreg x (plyDst w + j / n)) (j % n))))
  let cell (i : Nat) (l : List Word32) : Nat × Nat × Nat × Nat × List Word32 :=
    let u := Free.unitCell x.target x.units.length i
    (u.1, u.2.1, u.2.2, plyByte3 w, l)
  if isBlocked d.format then
    (if i % d.block = 0 ∧ blockInRange rs 2 slot d.block i = true then [cell i ((List.range d.block).map val)] else [])
  else (((List.range n).filter (selected x w view)).filter (fun j => inRange rs 2 slot (i + j))).map (fun j => cell (i + j) [val j])

/-- A store to a unit falls outside its footprints. -/
def stageMisses (x : Context) (w : Word) (rs : List (Nat × Nat × Nat × Nat)) (slot : Nat) (d : TensorDecl) (i : Nat) : Bool :=
  if isBlocked d.format then !(i % d.block == 0 && blockInRange rs 2 slot d.block i)
  else ((List.range (laneCount (plyView w))).filter (selected x w (plyView w))).any (fun j => !inRange rs 2 slot (i + j))

theorem stageMisses_plain (x : Context) (w : Word) (rs : List (Nat × Nat × Nat × Nat)) (slot : Nat) {d : TensorDecl} (i : Nat)
    (h : isBlocked d.format = false) : stageMisses x w rs slot d i =
      ((List.range (laneCount (plyView w))).filter (selected x w (plyView w))).any (fun j => !inRange rs 2 slot (i + j)) :=
  if_neg (Bool.eq_false_iff.mp h)

theorem stageUnit_eq (x : Context) (w : Word) (rs : List (Nat × Nat × Nat × Nat)) (slot : Nat) (d : TensorDecl) (i : Nat) :
    stageUnit x w rs slot d i = ({ x with staged := x.staged ++ stagedCells x w rs slot d i }, stageMisses x w rs slot d i) := by
  simp only [stageUnit, stagedCells, stageMisses]
  cases isBlocked d.format with
  | true =>
    simp only [if_true]
    split
    next h => simp [h]
    next h =>
      have hno : (i % d.block == 0 && blockInRange rs 2 slot d.block i) = false := by simpa using h
      rw [hno, List.append_nil]
      rfl
  | false => rfl

/-- The cells of a store to a unit: their purpose, and how many (R139). -/
theorem stagedCells_shape (x : Context) (w : Word) (rs : List (Nat × Nat × Nat × Nat)) (slot : Nat) (d : TensorDecl) (i : Nat) :
    (∀ e ∈ stagedCells x w rs slot d i, e.2.2.2.1 = plyByte3 w) ∧
    (isBlocked d.format = false → (stagedCells x w rs slot d i).length =
        ((List.range (laneCount (plyView w))).filter (fun j => selected x w (plyView w) j && inRange rs 2 slot (i + j))).length ∧
      ∀ e ∈ stagedCells x w rs slot d i, e.2.2.2.2.length = 1) ∧
    (isBlocked d.format = true → i % d.block = 0 ∧ blockInRange rs 2 slot d.block i = true →
      stageMisses x w rs slot d i = false ∧ ∃ e, stagedCells x w rs slot d i = [e] ∧ e.2.2.2.2.length = d.block) ∧
    (isBlocked d.format = true → ¬ (i % d.block = 0 ∧ blockInRange rs 2 slot d.block i = true) →
      stageMisses x w rs slot d i = true ∧ stagedCells x w rs slot d i = []) := by
  refine ⟨fun e he => ?_, fun hplain => ⟨?_, fun e he => ?_⟩, fun hblocked h => ⟨?_, ?_⟩, fun hblocked h => ⟨?_, ?_⟩⟩
  · simp only [stagedCells] at he
    split at he
    · split at he
      · rw [List.mem_singleton.mp he]
      · exact absurd he List.not_mem_nil
    · obtain ⟨j, _, rfl⟩ := List.mem_map.mp he
      rfl
  · simp only [stagedCells, hplain, Bool.false_eq_true, if_false, List.length_map, List.filter_filter, Bool.and_comm]
  · simp only [stagedCells, hplain, Bool.false_eq_true, if_false] at he
    obtain ⟨j, _, rfl⟩ := List.mem_map.mp he
    rfl
  · rw [stageMisses, if_pos hblocked, h.1, h.2]
    rfl
  · refine ⟨_, (if_pos hblocked).trans (if_pos h), ?_⟩
    simp
  · rw [stageMisses, if_pos hblocked, Bool.not_eq_true', ← Bool.not_eq_true, Bool.and_eq_true, beq_iff_eq]
    exact h
  · exact (if_pos hblocked).trans (if_neg h)

/-! ### Stores to a tensor -/

/-- The lanes that a store selects, mask bits aside. -/
def storedLanes (w : Word) (x : Context) (n : Nat) : List Nat := (List.range n).filter (selected x w (plyView w))

/-- An unconverted store of plain elements. -/
theorem storeRaw_plain {x : Context} {w : Word} {d : TensorDecl}
    (h : plyView w = 1 ∧ (d.format = 4 ∨ d.format = 5) ∨ plyView w = 2 ∧ d.format = 6) (rs : List (Nat × Nat × Nat × Nat)) (slot : Nat)
    (m : Mem) (i : Nat) : storeRaw x w rs slot d m i =
      (writeWhere d.format i (fun j => inRange rs 2 slot (i + j)) (lane (plyView w) (vreg x (plyDst w)))
        (storedLanes w x (laneCount (plyView w))) m,
       (storedLanes w x (laneCount (plyView w))).any (fun j => !inRange rs 2 slot (i + j))) := by
  obtain ⟨hblocked, hbits, _, hcount, _, _, hcode⟩ := plainLanes h
  simp only [storeRaw, hblocked, hcount, laneOfElem, if_neg hbits, hcode, Bool.false_and, Bool.false_eq_true, if_false]
  rfl

/-- One element converted into a tensor without blocks. -/
theorem convertInto_single {d : TensorDecl} (h : isBlocked d.format = false) (m : Mem) (k : NoiseKey) (i : Nat) (v : FVal) :
    (convertInto m d k i [v]).1 = writeElem m d.format i (convert16 d.format k v i).1 := by
  simp only [convertInto, h, Bool.false_eq_true, if_false]
  rfl

/-- Lane `j` of the registers that a converting store reads. -/
def convertedLane (x : Context) (w : Word) (d : TensorDecl) (j : Nat) : FVal :=
  elemValue (storeLaneFormat (plyView w) d.format)
    (lane (plyView w) (vreg x (plyDst w + j / laneCount (plyView w))) (j % laneCount (plyView w)))

theorem storeConverted_plain {d : TensorDecl} (h : isBlocked d.format = false) (s : State) (x : Context) (w : Word)
    (rs : List (Nat × Nat × Nat × Nat)) (slot : Nat) (m : Mem) (i : Nat) :
    (storeConverted s x w rs slot d m i).1 = writeWhere d.format i (fun j => inRange rs 2 slot (i + j))
      (fun j => (convert16 d.format (programKey s x.inst d.id (plyByte3 w)) (convertedLane x w d j) (i + j)).1)
      (storedLanes w x (laneCount (plyView w))) m := by
  simp only [storeConverted, h, Bool.false_eq_true, if_false, convertInto_single h]
  rfl

/-- What a store leaves in its tensor's memory, and whether it falls outside the footprints. -/
def storedMem (s : State) (x : Context) (w : Word) (img : Image) : Mem × Bool :=
  let d := tensorAt img.ply (plySlot w)
  if plyByte3 w = 0 then storeRaw x w (ctxRanges s x img) (plySlot w) d (tensorMem s d.id) (plyIndex x w)
  else storeConverted s x w (ctxRanges s x img) (plySlot w) d (tensorMem s d.id) (plyIndex x w)

theorem tstore_runs {s : State} {c : CtxId} {w : Word} {x : Context} {img : Image} (h : Issues s c w 0x31 x img) :
    ((tensorAt img.ply (plySlot w)).role = 9 → x.target ≠ 0 → exec (.tstore c w) s =
      .next (markIssued (countOutOfFootprint (setCtx s c (nextPc { x with
        staged := x.staged ++ stagedCells x w (ctxRanges s x img) (plySlot w) (tensorAt img.ply (plySlot w)) (plyIndex x w) }))
        (if stageMisses x w (ctxRanges s x img) (plySlot w) (tensorAt img.ply (plySlot w)) (plyIndex x w) then 1 else 0)) c)) ∧
    ((tensorAt img.ply (plySlot w)).role ≠ 9 ∨ x.target = 0 → exec (.tstore c w) s =
      .next (markIssued (countOutOfFootprint (setCtx (setTensor s (tensorAt img.ply (plySlot w)).id (storedMem s x w img).1) c (nextPc x))
        (if (storedMem s x w img).2 then 1 else 0)) c)) := by
  refine ⟨fun hrole htarget => ?_, fun hother => ?_⟩
  · simp only [exec, execTstore, plyStep_issues h, execTstoreEffect, hrole, stageUnit_eq]
    rw [if_pos ⟨trivial, htarget⟩]
  · have hno : ¬ ((tensorAt img.ply (plySlot w)).role = 9 ∧ x.target ≠ 0) := fun hunit =>
      hother.elim (fun hrole => hrole hunit.1) hunit.2
    simp only [exec, execTstore, plyStep_issues h, execTstoreEffect, if_neg hno]
    rfl

/-- An unconverted store of plain elements: what it writes and what it leaves (R187, R218). -/
theorem storedMem_raw {s : State} (hmem : memoriesOk s = true) {x : Context} {w : Word} {img : Image} (hpurpose : plyByte3 w = 0)
    (hformat : plyView w = 1 ∧ ((tensorAt img.ply (plySlot w)).format = 4 ∨ (tensorAt img.ply (plySlot w)).format = 5) ∨
      plyView w = 2 ∧ (tensorAt img.ply (plySlot w)).format = 6) :
    let slot := plySlot w
    let d := tensorAt img.ply slot
    let i := plyIndex x w
    let v := plyView w
    let inside (j : Nat) : Bool := inRange (ctxRanges s x img) 2 slot (i + j)
    let m := (storedMem s x w img).1
    (storedMem s x w img).2 = (storedLanes w x (laneCount v)).any (fun j => !inside j) ∧
    (∀ j, j < laneCount v → selected x w v j = true → inside j = true → readElem m d.format (i + j) = lane v (vreg x (plyDst w)) j) ∧
    (∀ e, (e < i ∨ i + laneCount v ≤ e ∨ selected x w v (e - i) = false ∨ inside (e - i) = false) →
      readElem m d.format e = readElem (tensorMem s d.id) d.format e) ∧
    (∀ a, (a < 2 ^ v * i ∨ 2 ^ v * (i + laneCount v) ≤ a) → memRead m a = memRead (tensorMem s d.id) a) := by
  intro slot d i v inside m
  obtain ⟨_, _, _, _, hwidth, _, _⟩ := plainLanes hformat
  have hstored := storeRaw_plain (x := x) hformat (ctxRanges s x img) slot (tensorMem s d.id) i
  have hall : storedMem s x w img = _ := (if_pos hpurpose).trans hstored
  have hm : m = writeWhere d.format i inside (lane v (vreg x (plyDst w))) (storedLanes w x (laneCount v)) (tensorMem s d.id) :=
    congrArg Prod.fst hall
  have hwf := memWf_tensorMem s d.id hmem
  refine ⟨congrArg Prod.snd hall, fun j hj hpicked hin => ?_, fun e he => ?_, fun a ha => ?_⟩
  · rw [hm, readElem_writeWhere _ _ _ _ _ hwf, Nat.add_sub_cancel_left, if_pos ⟨Nat.le_add_right _ _,
      List.mem_filter.mpr ⟨List.mem_range.mpr hj, hpicked⟩, hin⟩, hwidth]
    exact Nat.mod_eq_of_lt (lane_lt _ _ _)
  · rw [hm, readElem_writeWhere _ _ _ _ _ hwf, if_neg]
    rintro ⟨hle, hmem, hin⟩
    obtain ⟨hrange, hpicked⟩ := List.mem_filter.mp hmem
    rw [List.mem_range] at hrange
    rcases he with hlt | hge | hno | hno
    · omega
    · omega
    · exact Bool.false_ne_true (hno.symm.trans hpicked)
    · exact Bool.false_ne_true (hno.symm.trans hin)
  · rw [hm]
    refine memRead_writeWhere _ _ _ _ _ hwf fun j hj => ?_
    have hj' := List.mem_range.mp (List.mem_filter.mp hj).1
    rw [show elemWidth d.format = 8 * 2 ^ v from hwidth]
    have hv : v = 1 ∨ v = 2 := hformat.imp And.left And.left
    clear_value v
    rcases hv with rfl | rfl <;> omega

/-- A store of a blocked tensor that is not aligned, or whose block no footprint gives, writes nothing (R218). -/
theorem storedMem_unaligned {s : State} {x : Context} {w : Word} {img : Image}
    (hblocked : isBlocked (tensorAt img.ply (plySlot w)).format = true) (hraw : plyByte3 w = 0 → plyIndex x w % 16 ≠ 0)
    (hconv : plyByte3 w ≠ 0 → ¬ (plyIndex x w % (tensorAt img.ply (plySlot w)).block = 0 ∧
      blockInRange (ctxRanges s x img) 2 (plySlot w) (tensorAt img.ply (plySlot w)).block (plyIndex x w) = true)) :
    storedMem s x w img = (tensorMem s (tensorAt img.ply (plySlot w)).id, true) := by
  rw [storedMem]
  by_cases hpurpose : plyByte3 w = 0
  · refine (if_pos hpurpose).trans (if_pos ?_)
    simp [hblocked, hraw hpurpose]
  · exact (if_neg hpurpose).trans ((if_pos hblocked).trans (if_neg (hconv hpurpose)))

/-- A converting store of 16-bit elements writes no byte outside its lanes' elements. -/
theorem storedMem_converted {s : State} (hmem : memoriesOk s = true) {x : Context} {w : Word} {img : Image} (hpurpose : plyByte3 w ≠ 0)
    (hformat : (tensorAt img.ply (plySlot w)).format = 4 ∨ (tensorAt img.ply (plySlot w)).format = 5) {a : Nat}
    (ha : a < 2 * plyIndex x w ∨ 2 * (plyIndex x w + laneCount (plyView w)) ≤ a) :
    memRead (storedMem s x w img).1 a = memRead (tensorMem s (tensorAt img.ply (plySlot w)).id) a := by
  have hplain := plainFormat (hformat.imp_right .inl)
  have hwidth : elemWidth (tensorAt img.ply (plySlot w)).format = 16 := by rcases hformat with h | h <;> rw [h] <;> rfl
  have hm : (storedMem s x w img).1 = _ := (congrArg Prod.fst (if_neg hpurpose)).trans (storeConverted_plain hplain s x w _ _ _ _)
  rw [hm]
  refine memRead_writeWhere _ _ _ _ _ (memWf_tensorMem s _ hmem) fun j hj => ?_
  have hj' := List.mem_range.mp (List.mem_filter.mp hj).1
  rw [hwidth]
  omega

/-- Settles O55: loads and stores through the footprints. -/
theorem tensorLoadsAndStores : Obligations.TensorLoadsAndStores := by
  refine ⟨fun s c w x img h => ?load, fun s c w x img h hmem => ?store⟩
  case load =>
    intro slot d m i v inside picked after
    have hexec := tload_runs h
    refine ⟨fun hother => if_neg fun hunit => hother.elim (fun hrole => hrole hunit.1) hunit.2,
      ⟨loadedContext s w x img, if loadMisses s w x img then 1 else 0, hexec, ?bound, loadedContext_frame s w x img⟩,
      fun hformat => ?plain, fun hv hblocked haligned => ?blocked, fun hv hblocked hunaligned => ?unaligned⟩
    case bound => split <;> decide
    case plain =>
      obtain ⟨hplain, hbits, hview, hcount, _, hcode, _⟩ := plainLanes hformat
      have haligned : (!isBlocked d.format || i % 16 == 0) = true := by rw [hplain]; rfl
      have hlane (j : Nat) : loadedLane s w x img j = if inside j then readElem m d.format (i + j) else 0 := by
        rw [loadedLane, show (!isBlocked (tensorAt img.ply (plySlot w)).format || plyIndex x w % 16 == 0) = true from haligned,
          Bool.true_and, hcode]
        rfl
      rw [hexec, loadedContext_eq hbits hcount, loadMisses_eq hbits hcount haligned, if_neg hview, funext hlane]
      rfl
    case blocked =>
      obtain ⟨hbits, hcount⟩ := moveCount_blocked hblocked
      have hview : plyView w = 0 := hv
      have haligned' : (!isBlocked d.format || i % 16 == 0) = true := by rw [haligned, hblocked]; rfl
      have hlane (j : Nat) : loadedLane s w x img j = if inside j then loadCode d.format (readElem m d.format (i + j)) else 0 := by
        rw [loadedLane, show (!isBlocked (tensorAt img.ply (plySlot w)).format || plyIndex x w % 16 == 0) = true from haligned',
          Bool.true_and]
        rfl
      have hscale (g : Nat) : loadedScale s w x img g =
          if blockInRange (ctxRanges s x img) 1 slot d.block (i + 16 * g) then readScale m d (i + 16 * g) else 0 := by
        rw [loadedScale, show (!isBlocked (tensorAt img.ply (plySlot w)).format || plyIndex x w % 16 == 0) = true from haligned',
          show isBlocked (tensorAt img.ply (plySlot w)).format = true from hblocked, Bool.true_and, Bool.true_and]
        rfl
      have hlanes : laneCount (plyView w) = 64 := by rw [hview]; rfl
      have hfills : moveCount (tensorAt img.ply (plySlot w)).format = laneCount (plyView w) := by rw [hview]; exact hcount
      have hmisses : loadMisses s w x img = (List.range 64).any (fun j => picked j && !inside j) := by
        rw [loadMisses_eq hbits hfills haligned', hlanes]
        rfl
      have hcontext := loadedContext_eq (s := s) (x := x) hbits hfills
      rw [if_pos hview, hview, funext hlane] at hcontext
      refine ⟨BitVec.ofNat 32 (tagOf (loadedScale s w x img)), ?_, fun g hg => ?_⟩
      · rw [hexec, hcontext, hmisses]
        rfl
      · rw [tagByte_tagOf (loadedScale_lt s w x img) hg, ← hscale, Nat.mod_eq_of_lt (loadedScale_lt s w x img g)]
    case unaligned =>
      obtain ⟨hbits, hcount⟩ := moveCount_blocked hblocked
      have hview : plyView w = 0 := hv
      have hskew : (!isBlocked (tensorAt img.ply (plySlot w)).format || plyIndex x w % 16 == 0) = false := by
        rw [show isBlocked (tensorAt img.ply (plySlot w)).format = true from hblocked, show (plyIndex x w % 16 == 0) = false from
          beq_eq_false_iff_ne.mpr hunaligned]
        rfl
      have hlane (j : Nat) : loadedLane s w x img j = 0 := by rw [loadedLane, hskew]; rfl
      have hscale (g : Nat) : loadedScale s w x img g = 0 := by rw [loadedScale, hskew]; rfl
      have hmisses : loadMisses s w x img = true := by rw [loadMisses, hskew]; rfl
      rw [hexec, loadedContext_eq hbits (by rw [hview]; exact hcount), if_pos hview, hview, funext hlane, funext hscale, hmisses]
      rfl
  case store =>
    intro slot d i v inside picked moved misses block counted
    obtain ⟨hunit, htensor⟩ := tstore_runs h
    refine ⟨fun hrole htarget => ?unit, fun hother => ?tensor⟩
    case unit =>
      obtain ⟨hpurpose, hplain, hblock, hno⟩ := stagedCells_shape x w (ctxRanges s x img) slot d i
      refine ⟨_, _, hunit hrole htarget, hpurpose, fun hformat => ⟨?_, hplain hformat⟩, fun hformat hb => ?_, fun hformat hb => ?_⟩
      · exact (congrArg (fun b : Bool => misses (if b then 1 else 0)) (stageMisses_plain x w _ slot i hformat)).mpr
          (misses_filter (laneCount v) picked inside)
      · obtain ⟨hin, hcells⟩ := hblock hformat hb
        exact ⟨if_neg (Bool.eq_false_iff.mp hin), hcells⟩
      · obtain ⟨hout, hcells⟩ := hno hformat hb
        exact ⟨if_pos hout, hcells⟩
    case tensor =>
      refine ⟨(storedMem s x w img).1, if (storedMem s x w img).2 then 1 else 0, ?_, htensor hother, fun hpurpose hformat => ?_,
        fun hblocked hraw hconv => ?_, fun hpurpose hformat a ha => storedMem_converted hmem hpurpose hformat ha,
        fun id hid => tensorMem_setTensor_ne hid moved _⟩
      · split <;> decide
      · obtain ⟨hmisses, hwritten, hkept, hbytes⟩ := storedMem_raw hmem hpurpose hformat
        rw [hmisses]
        exact ⟨misses_filter (laneCount v) picked inside, hwritten, hkept, hbytes⟩
      · rw [storedMem_unaligned hblocked hraw hconv]
        exact ⟨rfl, rfl⟩

end Sys2Proof.Machine
end

section
/-! SUPPORT. Tile and layer operations in a context (O56): the registers and elements they may write, the scratch of a
recomputation, and the signal at their end. -/

namespace Sys2Proof.Machine

open Sys2Proof.Safety

/-! ### The end of an operation -/

/-- The end of a tile or layer operation: the context goes on, its counter rises, accesses outside the footprints count. -/
def operationEnd (u : State) (c : CtxId) (w : Word) (y : Context) (miss : Bool) : State :=
  countOutOfFootprint (signalBy (setCtx u c (nextPc y)) c (if plyByte3 w = 0xFF then none else some (plyByte3 w))) (if miss then 1 else 0)

theorem signalBy_counter (u : State) (c : CtxId) (n : Nat) :
    signalBy u c (if n = 0xFF then none else some n) = if n = 0xFF then u else signalCounter u c n 1 := by
  split <;> rfl

theorem operationEnd_eq (u : State) (c : CtxId) (w : Word) (y : Context) (miss : Bool) : operationEnd u c w y miss =
    countOutOfFootprint (if plyByte3 w = 0xFF then setCtx u c (nextPc y) else signalCounter (setCtx u c (nextPc y)) c (plyByte3 w) 1)
      (if miss then 1 else 0) := by
  rw [operationEnd, signalBy_counter]

/-! ### Registers from one on -/

/-- A context that differs only in vector registers from `q` on, and in tags. -/
def OnlyRegsFrom (q : Nat) (x y : Context) : Prop :=
  y = { x with vregs := y.vregs, tags := y.tags } ∧ ∀ r, r < q → vreg y r = vreg x r

theorem OnlyRegsFrom.refl (q : Nat) (x : Context) : OnlyRegsFrom q x x := ⟨rfl, fun _ _ => rfl⟩

theorem OnlyRegsFrom.setLane32 {q : Nat} {x y : Context} (h : OnlyRegsFrom q x y) {reg : Nat} (hreg : q ≤ reg) (j v : Nat) :
    OnlyRegsFrom q x (setLane32 y reg j v) := by
  obtain ⟨hframe, hkept⟩ := h
  refine ⟨?_, fun r hr => (nth_set_ne (by omega) _ _ _).trans (hkept r hr)⟩
  rw [Machine.setLane32, setVreg]
  rw [hframe]

theorem tileRowReduce_regs (d : TileD) (val : Nat → Nat → FVal) (x : Context) : OnlyRegsFrom d.q x (tileRowReduce d val x) :=
  List.foldlRecOn (motive := OnlyRegsFrom d.q x) _ _ (OnlyRegsFrom.refl d.q x)
    fun _ h _ _ => h.setLane32 (Nat.le_add_right _ _) _ _

theorem tileColReduce_regs (d : TileD) (val : Nat → Nat → FVal) (x : Context) : OnlyRegsFrom d.q x (tileColReduce d val x) :=
  List.foldlRecOn (motive := OnlyRegsFrom d.q x) _ _ (OnlyRegsFrom.refl d.q x)
    fun _ h _ _ => h.setLane32 (Nat.le_add_right _ _) _ _

/-! ### Tiles -/

/-- The cells of a tile. -/
def cellsOf (rows l : Nat) : List Nat := (List.range rows).flatMap (fun r => (List.range l).map (fun k => r * l + k))

theorem cell_lt {rows l i : Nat} (h : i ∈ cellsOf rows l) : i < rows * l := by
  obtain ⟨r, hr, hi⟩ := List.mem_flatMap.mp h
  obtain ⟨k, hk, rfl⟩ := List.mem_map.mp hi
  rw [List.mem_range] at hr hk
  calc r * l + k < r * l + l := Nat.add_lt_add_left hk _
    _ = (r + 1) * l := (Nat.succ_mul r l).symm
    _ ≤ rows * l := Nat.mul_le_mul_right l hr

/-- An element-wise tile writes the cells of its destination that the footprints give. -/
theorem tileEffect_writes {s : State} {c : CtxId} {w : Word} {x : Context} {img : Image}
    (hop : (nth img.ply.tiles (plySlot w) default).op < 8) :
    let d := nth img.ply.tiles (plySlot w) default
    let a2 := (sreg x (plySrc1 w)).toNat
    let out := tensorAt img.ply d.dst
    ∃ (value : Nat → Nat) (miss : Bool), tileEffect s c w x img = operationEnd
      (setTensor s out.id (writeWhere out.format a2 (fun i => inRange (ctxRanges s x img) 2 d.dst (a2 + i)) value
        (cellsOf d.rows (laneCount d.view)) (tensorMem s out.id))) c w x miss := by
  intro d a2 out
  refine ⟨fun i => encodeRne (fmtOf out.format) (roundTo (fmtOf (laneFormat d.view d.fmt)) (tileOp d.op
      (tileValue s x (ctxRanges s x img) img.ply d.src (sreg x (plyDst w)).toNat (laneCount d.view) (i / laneCount d.view) (i % laneCount d.view))
      (if d.broadcast = 2 then tileValue s x (ctxRanges s x img) img.ply d.addend a2 (laneCount d.view) (i / laneCount d.view) (i % laneCount d.view)
        else tileBroadcast x d (i / laneCount d.view) (i % laneCount d.view))
      (if d.op = 3 then tileValue s x (ctxRanges s x img) img.ply d.addend a2 (laneCount d.view) (i / laneCount d.view) (i % laneCount d.view)
        else zeroV))), ?miss, ?eq⟩
  case miss => exact ((cellsOf d.rows (laneCount d.view)).any (fun i => !inRange (ctxRanges s x img) 1 d.src ((sreg x (plyDst w)).toNat + i)) ||
    (d.addend != 0xFFFF && (cellsOf d.rows (laneCount d.view)).any (fun i => !inRange (ctxRanges s x img) 1 d.addend (a2 + i)))) ||
    (cellsOf d.rows (laneCount d.view)).any (fun i => !inRange (ctxRanges s x img) 2 d.dst (a2 + i))
  case eq => exact if_pos hop

/-- A reduction writes registers from `q` on. -/
theorem tileEffect_reduces {s : State} {c : CtxId} {w : Word} {x : Context} {img : Image}
    (hop : 8 ≤ (nth img.ply.tiles (plySlot w) default).op) :
    ∃ (y : Context) (miss : Bool), tileEffect s c w x img = operationEnd s c w y miss ∧
      OnlyRegsFrom (nth img.ply.tiles (plySlot w) default).q x y := by
  by_cases hrow : (nth img.ply.tiles (plySlot w) default).op < 12
  · exact ⟨_, _, (if_neg (Nat.not_lt.mpr hop)).trans (if_pos hrow), tileRowReduce_regs _ _ x⟩
  · exact ⟨_, _, (if_neg (Nat.not_lt.mpr hop)).trans (if_neg hrow), tileColReduce_regs _ _ x⟩

/-! ### Values stored into a tensor -/

/-- A memory that differs from another only at elements of a range that a condition gives. -/
def KeepsOutside (f lo hi : Nat) (inside : Nat → Bool) (m m' : Mem) : Prop :=
  memWf m' = true ∧ ∀ e, (e < lo ∨ hi ≤ e ∨ inside e = false) → readElem m' f e = readElem m f e

theorem KeepsOutside.write {f lo hi : Nat} {inside : Nat → Bool} {m m' : Mem} (h : KeepsOutside f lo hi inside m m') {i : Nat}
    (hlo : lo ≤ i) (hhi : i < hi) (hin : inside i = true) (v : Nat) : KeepsOutside f lo hi inside m (writeElem m' f i v) := by
  obtain ⟨hwf, hkept⟩ := h
  refine ⟨memWf_writeElem _ _ _ _ hwf, fun e he => (readElem_writeElem_ne hwf f v ?_).trans (hkept e he)⟩
  rintro rfl
  rcases he with he | he | he
  · omega
  · omega
  · exact Bool.false_ne_true (he.symm.trans hin)

/-- A store of consecutive values into a tensor of plain elements keeps what lies outside the values or the footprints. -/
theorem storeValues_keeps {s : State} {rs : List (Nat × Nat × Nat × Nat)} {slot : Nat} {d : TensorDecl} {k : NoiseKey} {first lo hi : Nat}
    {vals : List FVal} {m : Mem} (hformat : d.format = 4 ∨ d.format = 5 ∨ d.format = 6) (hlo : lo ≤ first) (hhi : first + vals.length ≤ hi)
    (h : KeepsOutside d.format lo hi (inRange rs 2 slot) m (tensorMem s d.id)) :
    KeepsOutside d.format lo hi (inRange rs 2 slot) m (tensorMem (storeValues s rs slot d k first vals (fun _ => true)) d.id) := by
  have hplain := plainFormat hformat
  rw [storeValues, tensorMem_setTensor]
  simp only [hplain, Bool.false_eq_true, if_false, Bool.and_true]
  refine List.foldlRecOn (motive := KeepsOutside d.format lo hi (inRange rs 2 slot) m) _ _ h fun m' h' c hc => ?_
  have hj := List.snd_lt_of_mem_zipIdx hc
  split
  next hin =>
    have hwrite (v : Nat) := h'.write (i := first + c.2) (by omega) (by omega) hin v
    split
    next hsingle =>
      rw [hsingle] at hwrite ⊢
      exact hwrite _
    next =>
      rw [convertInto_single hplain]
      exact hwrite _
  next => exact h'

theorem storeValues_other {s : State} {rs : List (Nat × Nat × Nat × Nat)} {slot : Nat} {d : TensorDecl} {k : NoiseKey} {first : Nat}
    {vals : List FVal} {mask : Nat → Bool} {id : Nat} (h : id ≠ d.id) :
    tensorMem (storeValues s rs slot d k first vals mask) id = tensorMem s id := tensorMem_setTensor_ne h s _

/-! ### Layers -/

/-- The rows of a layer, in order, as the effect writes them. -/
def layerOutputs (s : State) (w : Word) (x : Context) (img : Image) : List (List FVal × Nat) :=
  ((layerRows s x (ctxRanges s x img) img.ply (nth img.ply.layers (plySlot w) default) (sreg x (plyDst w)).toNat).map
    (fun r => r.out.map of32)).zipIdx

theorem layerOutputs_shape {s : State} {w : Word} {x : Context} {img : Image} {r : List FVal × Nat} (h : r ∈ layerOutputs s w x img) :
    r.1.length = (nth img.ply.layers (plySlot w) default).rowLength ∧ r.2 < (nth img.ply.layers (plySlot w) default).rows := by
  have hindex := List.snd_lt_of_mem_zipIdx h
  obtain ⟨row, hrow, hr⟩ := List.mem_map.mp (List.fst_mem_of_mem_zipIdx h)
  refine ⟨?_, ?_⟩
  · rw [← hr, List.length_map]
    obtain ⟨n, _, rfl⟩ := List.mem_map.mp hrow
    rw [layerRow, List.length_map, List.length_range]
  · rw [List.length_map, layerRows, List.length_map, List.length_range, Nat.add_zero] at hindex
    exact hindex

/-- One row of a layer: into its output tensor, or into scratch where it is recomputed. -/
def layerStep (s : State) (c : CtxId) (w : Word) (x : Context) (img : Image) (t : State) (r : List FVal × Nat) : State :=
  let d := nth img.ply.layers (plySlot w) default
  let out := tensorAt img.ply d.outSlot
  let i := ((sreg x (plyDst w)).toNat + r.2) * d.rowLength
  if d.mode = 0 then storeValues t (ctxRanges s x img) d.outSlot out (programKey s x.inst out.id d.purpose) i r.1 (fun _ => true)
  else scratchWrite t c x ((sreg x (plySrc1 w)).toNat + 4 * r.2 * d.rowLength)
    ((recomputedRow s x out i r.1).flatMap (fun v => leBytes 4 (encodeRne singleF v)))

/-- The state after the rows of a layer. -/
def layerState (s : State) (c : CtxId) (w : Word) (x : Context) (img : Image) : State :=
  (layerOutputs s w x img).foldl (layerStep s c w x img) s

theorem layerEffect_eq (s : State) (c : CtxId) (w : Word) (x : Context) (img : Image) : layerEffect s c w x img =
    operationEnd (layerState s c w x img) c w x
      (layerMisses (ctxRanges s x img) img.ply (nth img.ply.layers (plySlot w) default) (sreg x (plyDst w)).toNat) := rfl

/-- Cells of a row lie between the first and the last row. -/
theorem row_bounds {first rows n r : Nat} (h : r < rows) : first * n ≤ (first + r) * n ∧ (first + r) * n + n ≤ (first + rows) * n := by
  refine ⟨Nat.mul_le_mul_right n (Nat.le_add_right _ _), ?_⟩
  rw [← Nat.succ_mul]
  exact Nat.mul_le_mul_right n (by omega)

/-- The forward part writes its output tensor only, and there only what its rows and the footprints give. -/
theorem layerState_forward {s : State} (hmem : memoriesOk s = true) {c : CtxId} {w : Word} {x : Context} {img : Image}
    (hmode : (nth img.ply.layers (plySlot w) default).mode = 0) :
    let d := nth img.ply.layers (plySlot w) default
    let out := tensorAt img.ply d.outSlot
    let first := (sreg x (plyDst w)).toNat
    let u := layerState s c w x img
    SameBut [.tensors] s u ∧ (∀ id, id ≠ out.id → tensorMem u id = tensorMem s id) ∧
    (out.format = 4 ∨ out.format = 5 ∨ out.format = 6 → KeepsOutside out.format (first * d.rowLength) ((first + d.rows) * d.rowLength)
      (inRange (ctxRanges s x img) 2 d.outSlot) (tensorMem s out.id) (tensorMem u out.id)) := by
  intro d out first u
  refine List.foldlRecOn (motive := fun u => SameBut [.tensors] s u ∧ (∀ id, id ≠ out.id → tensorMem u id = tensorMem s id) ∧
      (out.format = 4 ∨ out.format = 5 ∨ out.format = 6 → KeepsOutside out.format (first * d.rowLength) ((first + d.rows) * d.rowLength)
        (inRange (ctxRanges s x img) 2 d.outSlot) (tensorMem s out.id) (tensorMem u out.id)))
    (layerOutputs s w x img) (layerStep s c w x img)
    ⟨SameBut.refl _ s, fun _ _ => rfl, fun _ => ⟨memWf_tensorMem s _ hmem, fun _ _ => rfl⟩⟩ ?_
  rintro t ⟨hsame, hother, hkeeps⟩ r hr
  obtain ⟨hlength, hrow⟩ := layerOutputs_shape hr
  obtain ⟨hlow, hhigh⟩ := row_bounds (first := first) (n := d.rowLength) hrow
  have hstep : layerStep s c w x img t r = storeValues t (ctxRanges s x img) d.outSlot out (programKey s x.inst out.id d.purpose)
      ((first + r.2) * d.rowLength) r.1 (fun _ => true) := if_pos hmode
  rw [hstep]
  refine ⟨SameBut.trans hsame (sameBut_of_forget [10] [.tensors] _ _ (forget_storeValues [10] (by decide) _ _ _ _ _ _ _ _) (by decide)),
    fun id hid => (storeValues_other hid).trans (hother id hid), fun hformat => ?_⟩
  exact storeValues_keeps hformat hlow (by rw [hlength]; exact hhigh) (hkeeps hformat)

theorem sramOf_setSram (s : State) (die sp : Nat) (m : Mem) : sramOf (setSram s die sp m) die sp = m := by
  rw [sramOf, setSram, State.setSpindles_spindles, aGet_aPut, Option.getD_some]

theorem sramOf_setSram_ne {die sp : Nat} {p : Nat × Nat} (h : p ≠ (die, sp)) (s : State) (m : Mem) :
    sramOf (setSram s die sp m) p.1 p.2 = sramOf s p.1 p.2 := by
  rw [sramOf, setSram, State.setSpindles_spindles, aGet_aPut_ne h]
  rfl

theorem recomputedRow_length (s : State) (x : Context) (out : TensorDecl) (first : Nat) (l : List FVal) :
    (recomputedRow s x out first l).length = l.length := by
  rw [recomputedRow]
  split
  · rfl
  · rw [List.length_map, List.length_range]

/-- What a recomputation leaves: local SRAM of its spindle, and there only scratch from its place on. -/
def OnlyScratch (s : State) (c : CtxId) (x : Context) (lo hi : Nat) (u : State) : Prop :=
  u = { s with spindles := { s.spindles with sram := u.spindles.sram } } ∧
  (∀ p, p ≠ (c.die, c.spindle) → sramOf u p.1 p.2 = sramOf s p.1 p.2) ∧
  ∀ a, (a < lo ∨ hi ≤ a ∨ x.scratchAt + (entryFunc s x).scratch ≤ a) →
    memRead (sramOf u c.die c.spindle) a = memRead (sramOf s c.die c.spindle) a

/-- A write into scratch stays in its bounds (R184). -/
theorem OnlyScratch.write {s t : State} {c : CtxId} {x : Context} {lo hi off : Nat} {bs : List Byte} (h : OnlyScratch s c x lo hi t)
    (hlo : lo ≤ x.scratchAt + off) (hhi : x.scratchAt + off + bs.length ≤ hi) : OnlyScratch s c x lo hi (scratchWrite t c x off bs) := by
  obtain ⟨hframe, hother, hkept⟩ := h
  have hentry : entryFunc t x = entryFunc s x := by
    rw [hframe]
    rfl
  refine ⟨?_, fun p hp => (sramOf_setSram_ne hp t _).trans (hother p hp), fun a ha => ?_⟩
  · rw [scratchWrite, setSram]
    rw [hframe]
    rfl
  · rw [scratchWrite, sramOf_setSram, memRead_memWrites_outside, hkept a ha]
    rw [hentry, List.length_take]
    omega

/-- A recomputation writes its vertex's scratch and nothing besides. -/
theorem layerState_recomputed (s : State) (c : CtxId) {w : Word} (x : Context) {img : Image}
    (hmode : (nth img.ply.layers (plySlot w) default).mode ≠ 0) :
    let d := nth img.ply.layers (plySlot w) default
    let place := x.scratchAt + (sreg x (plySrc1 w)).toNat
    OnlyScratch s c x place (place + 4 * d.rows * d.rowLength) (layerState s c w x img) := by
  intro d place
  refine List.foldlRecOn (motive := OnlyScratch s c x place (place + 4 * d.rows * d.rowLength))
    (layerOutputs s w x img) (layerStep s c w x img) ⟨rfl, fun _ _ => rfl, fun _ _ => rfl⟩ fun t ht r hr => ?_
  obtain ⟨hlength, hrow⟩ := layerOutputs_shape hr
  have hstep : layerStep s c w x img t r = scratchWrite t c x ((sreg x (plySrc1 w)).toNat + 4 * r.2 * d.rowLength)
      ((recomputedRow s x (tensorAt img.ply d.outSlot) (((sreg x (plyDst w)).toNat + r.2) * d.rowLength) r.1).flatMap
        (fun v => leBytes 4 (encodeRne singleF v))) := if_neg hmode
  rw [hstep]
  have hbytes (l : List FVal) : (l.flatMap (fun v => leBytes 4 (encodeRne singleF v))).length = l.length * 4 :=
    flatMap_length fun v _ => leBytes_length 4 _
  have hrows : 4 * r.2 * d.rowLength + 4 * d.rowLength ≤ 4 * d.rows * d.rowLength := by
    calc 4 * r.2 * d.rowLength + 4 * d.rowLength = 4 * (r.2 + 1) * d.rowLength := by rw [Nat.mul_succ, Nat.add_mul]
      _ ≤ 4 * d.rows * d.rowLength := Nat.mul_le_mul_right _ (Nat.mul_le_mul_left 4 hrow)
  refine ht.write (by omega) ?_
  rw [hbytes, recomputedRow_length, show r.1.length = d.rowLength from hlength]
  omega

/-- Settles O56: tiles, reductions, layers and recomputations. -/
theorem tilesAndLayersRun : Obligations.TilesAndLayersRun := by
  intro s c w x img hmem signalled ended
  have hended (u : State) (y : Context) (miss : Bool) (hpc : y.pc = x.pc) :
      markIssued (operationEnd u c w y miss) c = ended u y (if miss then 1 else 0) := by
    rw [operationEnd_eq, nextPc, hpc]
    rfl
  refine ⟨fun h => ?tile, fun h => ?layer⟩
  case tile =>
    intro d l a2 out
    have hexec : exec (.tile c w) s = .next (markIssued (tileEffect s c w x img) c) := by
      simp only [exec, execTile, plyStep_issues h]
    refine ⟨fun hop => ?_, fun hop => ?_⟩
    · obtain ⟨value, miss, heffect⟩ := tileEffect_writes (s := s) (c := c) (x := x) hop
      refine ⟨writeWhere out.format a2 (fun i => inRange (ctxRanges s x img) 2 d.dst (a2 + i)) value (cellsOf d.rows l) (tensorMem s out.id),
        if miss then 1 else 0, by split <;> decide, hexec.trans (congrArg _ ?_), fun _ e he => ?_⟩
      · rw [heffect]
        exact hended _ x miss rfl
      · rw [readElem_writeWhere _ _ _ _ _ (memWf_tensorMem s out.id hmem), if_neg]
        rintro ⟨hle, hcell, hin⟩
        have hlt := cell_lt hcell
        rw [Nat.add_sub_cancel' hle] at hin
        rcases he with hlow | hhigh | hout
        · omega
        · omega
        · exact Bool.false_ne_true (hout.symm.trans hin)
    · obtain ⟨y, miss, heffect, hframe, hkept⟩ := tileEffect_reduces (s := s) (c := c) (x := x) hop
      refine ⟨y, if miss then 1 else 0, by split <;> decide, hexec.trans (congrArg _ ?_), hframe, hkept⟩
      rw [heffect]
      exact hended s y miss (by rw [hframe])
  case layer =>
    intro d out first place
    have hexec : exec (.layer c w) s = .next (markIssued (layerEffect s c w x img) c) := by
      simp only [exec, execLayer, plyStep_issues h]
    refine ⟨layerState s c w x img, if layerMisses (ctxRanges s x img) img.ply d first then 1 else 0, by split <;> decide,
      hexec.trans (congrArg _ ?_), fun hmode => ?_, fun hmode => layerState_recomputed s c x hmode⟩
    · rw [layerEffect_eq]
      exact hended _ x _ rfl
    · obtain ⟨hsame, hother, hkeeps⟩ := layerState_forward hmem (c := c) (x := x) hmode
      exact ⟨hsame, hother, fun hformat => (hkeeps hformat).2⟩

end Sys2Proof.Machine
end
